-- ==== Sys2Proof/Word.lean ====
section
/-! DEFINITION. The word types of the block and their plainest arithmetic (R11, R12). -/

namespace Sys2Proof

/-- A byte of a frame, of a host structure or of a store. -/
abbrev Byte := BitVec 8

/-- A register is 32 bits wide unless its table states 64 (R12). -/
abbrev Word := BitVec 32

/-- A 64-bit register. -/
abbrev DWord := BitVec 64

/-- A flit of the fabric, a store word: 128 bits (R157, R158). -/
abbrev Flit := BitVec 128

end Sys2Proof
end

