-- ==== Sys2Proof/Syntax.lean ====
section
/-! DEFINITION. The commands of the block: the operands they carry and the one inductive of all of them. -/

namespace Sys2Proof

/-- The two requesters of BAR0 (R386): the physical function over PCIe, and Sage. -/
inductive Requester where
  | pf | sage
deriving DecidableEq, Repr

/-- What a read of host memory returns (R424): the bytes of its completion data, or nothing for an error or poisoned completion. -/
abbrev HostData := Option (List Byte)

/-- Where a Bay or adaptation command block comes from (R240, R260, R282): the command registers, or a fetched descriptor. -/
inductive CmdSrc where
  | reg
  | desc (id : Nat)
deriving DecidableEq, Repr

/-- Who a newly trained link says it is (R297). -/
structure PeerIdent where
  sysId : BitVec 16
  addr : BitVec 15
  mode : BitVec 2
  dims : BitVec 15
  link : BitVec 4
  lanes : BitVec 4
deriving DecidableEq, Repr

/-- What wakes an idle device (R333, R335). -/
inductive WakeCause where
  | doorbell | access | frame | sage | bypassOpen
deriving DecidableEq, Repr

/-- A unit that completes its wake (R338): a field, or the device. -/
inductive WakeUnit where
  | field (f : Fin 4)
  | device
deriving DecidableEq, Repr

/-- What a section-store line holds (R179, R369): a region of a plot, a row, a state cache line of a slot, or something else. -/
inductive SsUse where
  | region (plot : Nat)
  | row (r : Nat)
  | cache (slot : Nat)
  | other
deriving DecidableEq, Repr

/-- What an HBM page holds (R369). -/
inductive HbmUse where
  | image (handle : Nat)
  | slot (n : Nat)
  | bucket (b : Nat)
  | counter (i : Nat)
  | sample (job index : Nat)
  | spill (plot : Nat)
  | other
deriving DecidableEq, Repr

/-- A protected table whose object becomes invalid until it is rewritten (R369). -/
inductive TableUse where
  | program (bank : Nat) (pc : Fin 4096)
  | keyMap (m : Fin 8)
  | replyProfile (p : Fin 4096)
  | normProfile (p : Fin 4096)
  | template (t : Fin 63)
  | steer (i : Fin 4096)
deriving DecidableEq, Repr

/-- A store in which an uncorrectable error is found (R369). -/
inductive UeStore where
  | tile (t : Fin 4096)
  | sectionStore (bank : Fin 48) (line : Fin 1024) (use : SsUse)
  | config (handle : Nat)
  | hbm (page : Nat) (use : HbmUse)
  | ternary (index : Fin 16384)
  | streamCache (bucket : Nat)
  | table (use : TableUse)
  | network (frame : Nat)
  | sageMemory
deriving DecidableEq, Repr

/-- A store in which an error is corrected (R369, R381). -/
inductive CeStore where
  | tile (t : Fin 4096)
  | sectionStore
  | hbm
  | table
deriving DecidableEq, Repr

/-- What starts a failure capsule (R375). -/
inductive CapTrigger where
  | host | retire | spares | ue | busHang | avsFault
deriving DecidableEq, Repr

/-- The slow management buses (R374). -/
inductive SlowBus where
  | smbus | pmbus
deriving DecidableEq, Repr

/-- Level sources of reset (R340, R344): power-on, brown-out, RSTIN_N, PERST_N, and the thermal trip. -/
inductive LevelSource where
  | powerOn | brownOut | rstin | perst | thermal
deriving DecidableEq, Repr

/-- Errors of the PCIe link and its transactions that Umauk reports through AER (R373). -/
inductive TlpError where
  | receiver | badTlp | badDllp | replayRollover | replayTimeout | corrected | poisoned | unexpected
  | unsupported | malformed | overflow | flowControl | dataLink | internal
deriving DecidableEq, Repr


/-- The commands of the block, one per row of spec/opcode_table.json, in the table's order. Each docstring names the row and the rule it comes from. -/
inductive Instr where
  /-- SOF_DELIMITER (R38). -/
  | sofDelimiter (port : Fin 16) (bytes : List Byte)
  /-- COPY_TRUNCATED (R421). -/
  | copyTruncated (port : Fin 16)
  /-- OVERSIZE_TRUNCATION (R35). -/
  | oversizeTruncation (port : Fin 16)
  /-- FRAME_TAIL (R27). -/
  | frameTail (port : Fin 16) (fcsGood : Bool)
  /-- MIRROR_WAIT_EXPIRY (R104). -/
  | mirrorWaitExpiry (frame : Nat)
  /-- ACTION_RECORD_RETURN (R40). -/
  | actionRecordReturn (frame : Nat)
  /-- DECISION_DEADLINE (R39). -/
  | decisionDeadline (frame : Nat)
  /-- EGRESS_FRAME_BOUNDARY (R121). -/
  | egressFrameBoundary (port : Fin 16)
  /-- ARB_GUARD_EXPIRY (R121). -/
  | arbGuardExpiry (port : Fin 16)
  /-- PAUSE_RX (R36). -/
  | pauseRx (port : Fin 16) (quanta : BitVec 16)
  /-- PFC_RX (R37). -/
  | pfcRx (port : Fin 16) (mask : BitVec 8) (quanta : List (BitVec 16))
  /-- PAUSE_HOLD_EXPIRY (R37). -/
  | pauseHoldExpiry (port : Fin 16)
  /-- PFC_XOFF_REFRESH (R37). -/
  | pfcXoffRefresh (port : Fin 16)
  /-- PCS_LOCK_RISE (R423). -/
  | pcsLockRise (port : Fin 16)
  /-- PCS_LOCK_FALL (R423). -/
  | pcsLockFall (port : Fin 16)
  /-- LINK_UP (R423). -/
  | linkUp (port : Fin 16)
  /-- MAC_MODE_WRITE (R34). -/
  | macModeWrite (value : Word)
  /-- BYP_OPEN_REQUEST (R44). -/
  | bypOpenRequest (pair : Fin 8)
  /-- BYP_CLOSE (R46). -/
  | bypClose (pair : Fin 8) (withOpen : Bool)
  /-- BYP_KICK (R45). -/
  | bypKick (pair : Fin 8) (who : Requester)
  /-- HB_EXPIRY (R45). -/
  | hbExpiry (pair : Fin 8)
  /-- OPEN_TIMEOUT (R46). -/
  | openTimeout (pair : Fin 8)
  /-- THYME_STEP (R53). -/
  | thymeStep (value : Word)
  /-- PHASE_ADJ_WRITE (R53). -/
  | phaseAdjWrite (value : Word)
  /-- PHASE_SLEW_DONE (R53). -/
  | phaseSlewDone
  /-- PPS_IN_EDGE (R51). -/
  | ppsInEdge
  /-- PPS_PHASE_TERM_END (R51). -/
  | ppsPhaseTermEnd
  /-- PPS_HOLDOVER_TIMEOUT (R50). -/
  | ppsHoldoverTimeout
  /-- PPS_OUT_RISE (R52). -/
  | ppsOutRise
  /-- PPS_OUT_FALL (R52). -/
  | ppsOutFall
  /-- PTP_EVENT_RX (R54). -/
  | ptpEventRx (frame : Nat)
  /-- TREFCLK_LOSS (R397). -/
  | trefclkLoss
  /-- TREFCLK_RETURN (R397). -/
  | trefclkReturn
  /-- CHIVE_DISPATCH (R56). -/
  | chiveDispatch
  /-- PARSE_NOP (R65). -/
  | parseNop (chive : Fin 256)
  /-- PARSE_EXT (R65). -/
  | parseExt (chive : Fin 256)
  /-- PARSE_ANDI (R65). -/
  | parseAndi (chive : Fin 256)
  /-- PARSE_SHRI (R65). -/
  | parseShri (chive : Fin 256)
  /-- PARSE_ADDI (R65). -/
  | parseAddi (chive : Fin 256)
  /-- PARSE_MOVI (R65). -/
  | parseMovi (chive : Fin 256)
  /-- PARSE_ADD (R65). -/
  | parseAdd (chive : Fin 256)
  /-- PARSE_SHLI (R65). -/
  | parseShli (chive : Fin 256)
  /-- PARSE_BEQI (R65). -/
  | parseBeqi (chive : Fin 256)
  /-- PARSE_BNEI (R65). -/
  | parseBnei (chive : Fin 256)
  /-- PARSE_BLTI (R65). -/
  | parseBlti (chive : Fin 256)
  /-- PARSE_JMP (R65). -/
  | parseJmp (chive : Fin 256)
  /-- PARSE_ADV (R66). -/
  | parseAdv (chive : Fin 256)
  /-- PARSE_ADVI (R66). -/
  | parseAdvi (chive : Fin 256)
  /-- PARSE_MARK (R67). -/
  | parseMark (chive : Fin 256)
  /-- PARSE_SETF (R65). -/
  | parseSetf (chive : Fin 256)
  /-- PARSE_COPY (R65). -/
  | parseCopy (chive : Fin 256)
  /-- PARSE_CNT (R66). -/
  | parseCnt (chive : Fin 256)
  /-- PARSE_UBP (R72). -/
  | parseUbp (chive : Fin 256)
  /-- PARSE_DONE (R71). -/
  | parseDone (chive : Fin 256)
  /-- PARSE_SLOW (R70). -/
  | parseSlow (chive : Fin 256)
  /-- PARSE_FAIL (R70). -/
  | parseFail (chive : Fin 256)
  /-- PARSE_ILLEGAL (R66). -/
  | parseIllegal (chive : Fin 256)
  /-- STEPS (R66). -/
  | steps (chive : Fin 256)
  /-- SEGMENT_HEADER_WALK (R76). -/
  | segmentHeaderWalk (chive : Fin 256)
  /-- TAIL_AT_CHIVE (R78). -/
  | tailAtChive (chive : Fin 256)
  /-- PRV_RELEASE (R58). -/
  | prvRelease (port : Fin 16)
  /-- PROG_COMMIT (R61). -/
  | progCommit
  /-- PROG_DRAIN_DONE (R61). -/
  | progDrainDone
  /-- STREAM_LOOKUP (R95). -/
  | streamLookup
  /-- STREAM_CACHE_FILL (R91). -/
  | streamCacheFill (which : Nat)
  /-- RULE_COMMIT (R88). -/
  | ruleCommit
  /-- COMMIT_EXECUTE (R88). -/
  | commitExecute
  /-- VERSION_RETIRE (R89). -/
  | versionRetire
  /-- TCAM_ADD (R90). -/
  | tcamAdd (index : Fin 16384)
  /-- TCAM_DELETE (R90). -/
  | tcamDelete (index : Fin 16384)
  /-- TCAM_READ (R90). -/
  | tcamRead (index : Fin 16384)
  /-- TCAM_CMD_COMPLETE (R90). -/
  | tcamCmdComplete
  /-- EM_INSERT (R91). -/
  | emInsert
  /-- EM_MODIFY (R91). -/
  | emModify
  /-- EM_DELETE (R91). -/
  | emDelete
  /-- EM_CMD_COMPLETE (R91). -/
  | emCmdComplete
  /-- METER_WRITE (R98). -/
  | meterWrite
  /-- METER_READ (R98). -/
  | meterRead
  /-- COUNTER_SWEEP (R100). -/
  | counterSweep
  /-- SWEEP_COMPLETE (R100). -/
  | sweepComplete
  /-- COUNTER_CLEAR (R102). -/
  | counterClear
  /-- RESULT_AT_ERP (R116). -/
  | resultAtErp
  /-- COALESCE_WINDOW_END (R116). -/
  | coalesceWindowEnd (profile : Fin 4096)
  /-- VERDICT_AT_ERP (R118). -/
  | verdictAtErp (frame : Nat)
  /-- STOMP (R119). -/
  | stomp (frame : Nat)
  /-- REMOTE_WAIT_EXPIRY (R126). -/
  | remoteWaitExpiry (bundle : Nat)
  /-- ERP_PROFILE_WRITE (R129). -/
  | erpProfileWrite
  /-- ERP_PROFILE_READ (R129). -/
  | erpProfileRead
  /-- SEGMENT_ADMISSION (R142). -/
  | segmentAdmission
  /-- SEGMENT_ALLOCATE (R142). -/
  | segmentAllocate
  /-- STATE_LINE_LOAD (R136). -/
  | stateLineLoad (slot : Fin 1048576)
  /-- FEATURE_FRAME (R133). -/
  | featureFrame (seg : Nat)
  /-- PACK_WAIT_END (R149). -/
  | packWaitEnd (row : Nat)
  /-- ROW_POP (R235). -/
  | rowPop (handle : Nat)
  /-- TILE_NOP (R172). -/
  | tileNop (tile : Fin 4096)
  /-- MACW (R195). -/
  | macw (tile : Fin 4096)
  /-- MAC (R196). -/
  | tileMac (tile : Fin 4096)
  /-- DRAIN (R199). -/
  | drain (tile : Fin 4096)
  /-- VOP (R158). -/
  | vop (tile : Fin 4096)
  /-- LUT (R159). -/
  | lut (tile : Fin 4096)
  /-- MOV (R172). -/
  | tileMov (tile : Fin 4096)
  /-- LDS (R179). -/
  | lds (tile : Fin 4096)
  /-- STS (R179). -/
  | sts (tile : Fin 4096)
  /-- SECTION_STORE_RESPONSE (R180). -/
  | sectionStoreResponse (which : Nat)
  /-- CTL (R172). -/
  | ctl (tile : Fin 4096)
  /-- TILE_JMP (R172). -/
  | tileJmp (tile : Fin 4096)
  /-- CSET (R172). -/
  | cset (tile : Fin 4096)
  /-- SECEND (R178). -/
  | secend (tile : Fin 4096)
  /-- ROUTER_HOP (R161). -/
  | routerHop (which : Nat)
  /-- CREDIT_RETURN (R162). -/
  | creditReturn (which : Nat)
  /-- FLOW_UNIT_TOKEN (R166). -/
  | flowUnitToken (tile : Fin 4096) (unit : Fin 4)
  /-- SECTION_END_REPORT (R184). -/
  | sectionEndReport (field : Fin 4)
  /-- CONTEXT_LOADED (R181). -/
  | contextLoaded (plot : Nat)
  /-- BLOCK_FLIP (R183). -/
  | blockFlip (plot : Nat)
  /-- CONFIG_COMMIT (R186). -/
  | configCommit (field : Fin 4)
  /-- COMMIT_ORDERED (R185). -/
  | commitOrdered (field : Fin 4)
  /-- QD_SAMPLE (R189). -/
  | qdSample
  /-- STATE_LOAD (R187). -/
  | stateLoad (plot : Nat)
  /-- STATE_WRITEBACK (R187). -/
  | stateWriteback (plot : Nat)
  /-- WIDEN_DECISION (R206). -/
  | widenDecision (plot : Nat)
  /-- EPOCH_COMMIT (R212). -/
  | epochCommit
  /-- EPOCH_ADVANCE (R212). -/
  | epochAdvance
  /-- EPOCH_RETIRE (R210). -/
  | epochRetire
  /-- STAT_READ (R214). -/
  | statRead
  /-- STAT_CLEAR (R214). -/
  | statClear
  /-- REGISTER (R219). -/
  | bayRegister (src : CmdSrc) (image : HostData) (digest : HostData)
  /-- UNREGISTER (R221). -/
  | bayUnregister (src : CmdSrc)
  /-- PREFETCH (R231). -/
  | bayPrefetch (src : CmdSrc)
  /-- EVICT (R233). -/
  | bayEvict (src : CmdSrc)
  /-- PIN (R227). -/
  | bayPin (src : CmdSrc)
  /-- UNPIN (R227). -/
  | bayUnpin (src : CmdSrc)
  /-- RENEW (R227). -/
  | bayRenew (src : CmdSrc)
  /-- REPLACE (R236). -/
  | bayReplace (src : CmdSrc) (image : HostData) (digest : HostData)
  /-- CAL_STAGE (R237). -/
  | bayCalStage (src : CmdSrc) (block : HostData)
  /-- SLOT_GRANT (R228). -/
  | baySlotGrant (src : CmdSrc)
  /-- SLOT_RESET (R226). -/
  | baySlotReset (src : CmdSrc)
  /-- PAGE_IN_START (R230). -/
  | pageInStart (handle : Nat)
  /-- IMAGE_COPY_DONE (R230). -/
  | imageCopyDone (handle : Nat) (image : HostData)
  /-- DIGEST_VERDICT (R220). -/
  | digestVerdict (handle : Nat)
  /-- PAGE_IN_LOADS_DONE (R230). -/
  | pageInLoadsDone (handle : Nat)
  /-- PLOT_STALL (R226). -/
  | plotStall (plot : Nat)
  /-- REVOCATION_FENCE (R226). -/
  | revocationFence
  /-- PIN_EXPIRY (R227). -/
  | pinExpiry (handle : Nat)
  /-- SERVE_RESERVE_WRITE (R244). -/
  | serveReserveWrite (value : Word)
  /-- OPEN (R261). -/
  | adpOpen (src : CmdSrc) (set : HostData) (map : HostData) (noise : HostData)
  /-- RUN (R243). -/
  | adpRun (src : CmdSrc)
  /-- STOP (R242). -/
  | adpStop (src : CmdSrc)
  /-- CLOSE (R242). -/
  | adpClose (src : CmdSrc)
  /-- ADP_RENEW (R244). -/
  | adpRenew (src : CmdSrc)
  /-- GRANT_EXPIRY (R244). -/
  | grantExpiry (field : Fin 4)
  /-- SAMPLE_DECODE (R246). -/
  | sampleDecode (job : Fin 4) (index : Nat) (audio : HostData) (label : HostData)
  /-- EPOCH_ORDER_READY (R252). -/
  | epochOrderReady (job : Fin 4)
  /-- GRADIENT_REDUCE (R254). -/
  | gradientReduce (job : Fin 4) (row : Nat)
  /-- OPTIMISER_UPDATE (R256). -/
  | optimiserUpdate (job : Fin 4)
  /-- CHECKPOINT_WRITE (R257). -/
  | checkpointWrite (job : Fin 4)
  /-- DOORBELL (R268). -/
  | doorbell (func : Fin 128) (offset : Nat) (size : Nat) (value : DWord)
  /-- DESCRIPTOR_FETCH (R269). -/
  | descriptorFetch (qp : Fin 16384)
  /-- DESCRIPTOR_ARRIVAL (R283). -/
  | descriptorArrival (qp : Fin 16384) (blocks : HostData)
  /-- DESC_NOP (R280). -/
  | descNop (desc : Nat)
  /-- INFER (R281). -/
  | infer (desc : Nat)
  /-- TX_FRAME (R280). -/
  | txFrame (desc : Nat)
  /-- RX_BUF (R280). -/
  | rxBuf (desc : Nat)
  /-- COUNTER_DUMP (R280). -/
  | counterDump (desc : Nat)
  /-- COMMIT_RULES (R88). -/
  | commitRules (desc : Nat)
  /-- CAPSULE (R377). -/
  | capsule (desc : Nat)
  /-- ADAPT_BATCH (R282). -/
  | adaptBatch (desc : Nat)
  /-- DMA_READ_COMPLETION (R424). -/
  | dmaReadCompletion (desc : Nat) (payload : HostData)
  /-- COMPLETION_TIMEOUT (R373). -/
  | completionTimeout (desc : Nat)
  /-- MOD_TIMER_EXPIRY (R278). -/
  | modTimerExpiry (qp : Fin 16384)
  /-- CREATE (R266). -/
  | qpCreate (qp : Fin 16384)
  /-- DESTROY (R266). -/
  | qpDestroy (qp : Fin 16384)
  /-- REVOKE (R271). -/
  | qpRevoke (qp : Fin 16384)
  /-- SET_BASE (R269). -/
  | qpSetBase (qp : Fin 16384)
  /-- SET_MOD (R286). -/
  | qpSetMod (qp : Fin 16384)
  /-- QP_READ (R290). -/
  | qpRead (qp : Fin 16384)
  /-- QP_FENCE_DRAINED (R271). -/
  | qpFenceDrained (qp : Fin 16384)
  /-- DOMAIN_EPOCH_WRITE (R275). -/
  | domainEpochWrite (value : Word)
  /-- EPOCH_IN_FORCE (R274). -/
  | epochInForce (domain : Fin 256)
  /-- DOMAIN_DRAINED (R275). -/
  | domainDrained (domain : Fin 256)
  /-- VF_FLR (R264). -/
  | vfFlr (vf : Fin 128)
  /-- BUS_MASTER_CHANGE (R264). -/
  | busMasterChange (func : Fin 128) (enable : Bool)
  /-- WAKE_BUDGET_WRITE (R335). -/
  | wakeBudgetWrite (field : Fin 4) (value : Word)
  /-- GET_INFO (R288). -/
  | getInfo
  /-- GET_SENSORS (R337). -/
  | getSensors
  /-- LEDGER_READ (R362). -/
  | ledgerRead
  /-- HB_KICK (R288). -/
  | hbKick
  /-- HB_KICK_TICK (R288). -/
  | hbKickTick
  /-- CAPSULE_CLEAR (R377). -/
  | capsuleClear
  /-- OPTION_WRITE (R350). -/
  | optionWrite (image : HostData)
  /-- FW_STAGE (R351). -/
  | fwStage (image : HostData)
  /-- MAILBOX_COMPLETE (R288). -/
  | mailboxComplete
  /-- LINK_FRAME_RX (R294). -/
  | linkFrameRx (link : Fin 16) (corrected : Nat) (fecOk : Bool) (bytes : List Byte)
  /-- PASS_NOTICE (R309). -/
  | passNotice (which : Nat)
  /-- SPAN_NOTICE (R310). -/
  | spanNotice (which : Nat)
  /-- VERDICT (R125). -/
  | verdict (which : Nat)
  /-- PROG_ABORT (R313). -/
  | progAbort (which : Nat)
  /-- CHIP_ABSENT (R314). -/
  | chipAbsent (which : Nat)
  /-- REMOTE_RESET (R316). -/
  | remoteReset (which : Nat)
  /-- REPLAY_TIMEOUT (R294). -/
  | replayTimeout (link : Fin 16)
  /-- LINK_TRAINED (R297). -/
  | linkTrained (link : Fin 16) (lanes : BitVec 4) (peer : PeerIdent)
  /-- LANE_BAD (R298). -/
  | laneBad (link : Fin 16) (lane : Fin 4)
  /-- LINK_RETRAINED (R298). -/
  | linkRetrained (link : Fin 16) (peerLanes : BitVec 4)
  /-- LINK_SIGNAL_LOSS (R296). -/
  | linkSignalLoss (link : Fin 16)
  /-- LINK_RETRY (R296). -/
  | linkRetry (link : Fin 16)
  /-- LINK_RETRAIN_REQUEST (R298). -/
  | linkRetrainRequest (link : Fin 16)
  /-- LINK_SET_SWITCH (R305). -/
  | linkSetSwitch (dim : Fin 3) (plus : Bool)
  /-- ABSENT_TIMEOUT (R314). -/
  | absentTimeout (dim : Fin 3) (plus : Bool)
  /-- RECOVER_END (R312). -/
  | recoverEnd (prog : Fin 16)
  /-- PROG_WRITE (R318). -/
  | progWrite
  /-- PROG_ENABLE (R309). -/
  | progEnable
  /-- PROG_DISABLE (R312). -/
  | progDisable
  /-- RESUME (R315). -/
  | progResume
  /-- REMAP (R318). -/
  | progRemap
  /-- LBYP_OPEN (R301). -/
  | lbypOpen (mask : BitVec 8)
  /-- LBYP_CLOSE (R301). -/
  | lbypClose (mask : BitVec 8)
  /-- RRST_GO (R316). -/
  | rrstGo (target : BitVec 15)
  /-- PACE_FALL_LATCH (R321): ring 4 × f + q is that of quadrant q of field f. -/
  | paceFallLatch (ring : Fin 16) (paceMgs : BitVec 16)
  /-- GOVERNOR_DECISION (R327). -/
  | governorDecision
  /-- AVS_WRITE_COMPLETE (R330). -/
  | avsWriteComplete (ok : Bool)
  /-- POWER_SAMPLE (R324). -/
  | powerSample (current : Nat) (hbmCw : Nat) (dieMv : Nat)
  /-- PMBUS_POLL (R324). -/
  | pmbusPoll (answered : BitVec 9) (readings : List (Nat × Nat))
  /-- PAC_TARGET_WRITE (R329). -/
  | pacTargetWrite (value : Word)
  /-- POWER_STATE_ENTRY (R332). -/
  | powerStateEntry (field : Fin 4)
  /-- DEVICE_IDLE_ENTRY (R333). -/
  | deviceIdleEntry
  /-- FIELD_WAKE (R335). -/
  | fieldWake (field : Fin 4)
  /-- DEVICE_WAKE (R333). -/
  | deviceWake (cause : WakeCause)
  /-- WAKE_COMPLETE (R338). -/
  | wakeComplete (unit : WakeUnit)
  /-- SENSOR_SWEEP (R336). -/
  | sensorSweep (readings : List (Option Int))
  /-- THERMAL_TRIP (R336). -/
  | thermalTrip
  /-- POWER_ON (R340). -/
  | powerOn
  /-- BROWN_OUT (R403). -/
  | brownOut
  /-- RSTIN (R343). -/
  | rstin (lowNs : Nat)
  /-- PERST (R340). -/
  | perst
  /-- PCIE_HOT_RESET (R340). -/
  | pcieHotReset
  /-- SAGE_WATCHDOG (R354). -/
  | sageWatchdog
  /-- WATCHDOG_KICK (R354). -/
  | watchdogKick (runMs : Option (BitVec 14))
  /-- SOFTWARE_FULL_RESET (R340). -/
  | softwareFullReset (value : Word)
  /-- STRETCH_END (R344). -/
  | stretchEnd (testEn : Bool)
  /-- FUSE_PHASE_DONE (R347). -/
  | fusePhaseDone (crcOk : Bool)
  /-- REPAIR_PHASE_DONE (R361). -/
  | repairPhaseDone
  /-- OPTION_PHASE_DONE (R352). -/
  | optionPhaseDone (answered : BitVec 9)
  /-- BIST_PHASE_DONE (R347). -/
  | bistPhaseDone (failing : List (Fin 4 × Fin 34 × Fin 33))
  /-- HBM_PHASE_DONE (R341). -/
  | hbmPhaseDone (trained : Bool)
  /-- CORE_READY (R346). -/
  | coreReady
  /-- ISOLATE (R356). -/
  | isolate (value : Word)
  /-- BUS_TIMEOUT (R357). -/
  | busTimeout
  /-- TILE_WDOG (R366). -/
  | tileWdog (tile : Fin 4096)
  /-- UE_DETECTED (R369). -/
  | ueDetected (store : UeStore)
  /-- CE_DETECTED (R369). -/
  | ceDetected (store : CeStore)
  /-- RETIRE_CMD (R381). -/
  | retireCmd (tile : Fin 4096)
  /-- REMAP_SUBMIT (R367). -/
  | remapSubmit (field : Fin 4)
  /-- REMAP_APPLY (R367). -/
  | remapApply (field : Fin 4)
  /-- LEDGER_WRITE_DONE (R362). -/
  | ledgerWriteDone (ok : Bool)
  /-- PATROL_SCRUB (R370). -/
  | patrolScrub
  /-- FAULT_POP (R372). -/
  | faultPop
  /-- CAPSULE_TRIGGER (R375). -/
  | capsuleTrigger (trigger : CapTrigger)
  /-- CAPSULE_CAPTURED (R376). -/
  | capsuleCaptured
  /-- CAPSULE_STORED (R375). -/
  | capsuleStored
  /-- BUS_STUCK (R410). -/
  | busStuck (bus : SlowBus) (sda : Bool) (scl : Bool)
  /-- CHAL_GET (R379). -/
  | chalGet (nonce : List Byte)
  /-- CHAL_RESP (R379). -/
  | chalResp (response : List Byte)
  /-- CHAL_STAT (R379). -/
  | chalStat
  /-- DEV_ID (R409). -/
  | devId
  /-- TJ (R409). -/
  | smbTj
  /-- STATE (R409). -/
  | smbState
  /-- CAUSE (R409). -/
  | smbCause
  /-- EXTEST (R414). -/
  | extest
  /-- SAMPLE_PRELOAD (R414). -/
  | samplePreload
  /-- IDCODE (R414). -/
  | idcode
  /-- CLAMP (R414). -/
  | clamp
  /-- HIGHZ (R414). -/
  | highz
  /-- BYPASS (R414). -/
  | jtagBypass (code : BitVec 5)
  /-- BAD_ACCESS (R384). -/
  | badAccess (addr : Nat)
  /-- REGISTER_WRITE (R418). -/
  | registerWrite (who : Requester) (addr : Nat) (wide : Bool) (value : DWord)
  /-- SFE_PROFILE_WRITE (R153). -/
  | sfeProfileWrite
  /-- SFE_PROFILE_READ (R422). -/
  | sfeProfileRead
  /-- BAY_CAT_READ (R241). -/
  | bayCatRead
  /-- REGISTER_READ (R386). -/
  | registerRead (who : Requester) (addr : Nat) (wide : Bool)
  /-- LEVEL_SOURCE_DEASSERTION (R344). -/
  | levelSourceDeassertion (source : LevelSource)
  /-- DL_ACTIVE (R340). -/
  | dlActive
  /-- D3HOT_TRANSITION (R262). -/
  | d3hotTransition (func : Fin 128) (toD3 : Bool)
  /-- TAP_RESET (R414). -/
  | tapReset
  /-- TLP_ERROR (R373); `recordOf` is the queue pair whose record write the error failed (R283), if it failed one. -/
  | tlpError (kind : TlpError) (func : Fin 128) (recordOf : Option (Fin 16384))
deriving DecidableEq, Repr

end Sys2Proof
end

