-- ==== Sys2Proof/Machine/Operands.lean ====
section
/-! DEFINITION. Byte lists, bit fields and byte orders: what the manual's formats are read and written with (R6, R11). -/

namespace Sys2Proof.Machine

/-- Bits `hi` down to `lo` of a number (R6). -/
def bits (n hi lo : Nat) : Nat := (n >>> lo) % 2 ^ (hi + 1 - lo)

/-- One bit of a number. -/
def bit (n i : Nat) : Bool := n.testBit i

/-- A Boolean as a bit. -/
def b2n (b : Bool) : Nat := if b then 1 else 0

/-- The byte at an offset; zero beyond the end. -/
def byteAt (l : List Byte) (i : Nat) : Nat := ((l[i]?).getD 0).toNat

/-- `n` bytes from an offset, padded with zeros beyond the end. -/
def slice (l : List Byte) (off n : Nat) : List Byte :=
  ((l.drop off).take n) ++ List.replicate (n - ((l.drop off).take n).length) 0

/-- A number from bytes in network byte order (R11). -/
def beNat (l : List Byte) : Nat := l.foldl (fun a b => a * 256 + b.toNat) 0

/-- A number from little-endian bytes (R11). -/
def leNat (l : List Byte) : Nat := l.foldr (fun b a => b.toNat + 256 * a) 0

/-- A number as `n` bytes in network byte order. -/
def toBe : Nat → Nat → List Byte
  | 0, _ => []
  | n + 1, v => BitVec.ofNat 8 (v >>> (8 * n)) :: toBe n v

/-- A number as `n` little-endian bytes. -/
def toLe : Nat → Nat → List Byte
  | 0, _ => []
  | n + 1, v => BitVec.ofNat 8 v :: toLe n (v >>> 8)

/-- A big-endian field of a byte list. -/
def be (l : List Byte) (off n : Nat) : Nat := beNat (slice l off n)

/-- A little-endian field of a byte list. -/
def le (l : List Byte) (off n : Nat) : Nat := leNat (slice l off n)

/-- Overwrite the bytes from an offset; the list keeps its length. -/
def patch (l : List Byte) (off : Nat) (b : List Byte) : List Byte :=
  (l.take off ++ b ++ l.drop (off + b.length)).take l.length

/-- Zero bytes. -/
def zeros (n : Nat) : List Byte := List.replicate n 0

/-- A list brought to exactly `n` bytes. -/
def fit (l : List Byte) (n : Nat) : List Byte := slice l 0 n

/-- A 32-bit word read as a two's complement number. -/
def sint (w : Word) : Int := w.toInt

/-- A two's complement number as a 32-bit word. -/
def ofInt32 (i : Int) : Word := BitVec.ofInt 32 i

/-- Clamp into a range. -/
def clamp (lo hi x : Int) : Int := if x < lo then lo else if hi < x then hi else x

/-- The words of a byte list, four bytes each, most significant first. -/
def beWords : Nat → List Byte → List Word
  | 0, _ => []
  | n + 1, l => BitVec.ofNat 32 (beNat (fit l 4)) :: beWords n (l.drop 4)

/-- The words of a byte list, four bytes each, least significant first. -/
def leWords : Nat → List Byte → List Word
  | 0, _ => []
  | n + 1, l => BitVec.ofNat 32 (leNat (fit l 4)) :: leWords n (l.drop 4)

/-- Bytes of words, least significant byte first. -/
def wordsLe (ws : List Word) : List Byte := ws.flatMap (fun w => toLe 4 w.toNat)

/-- A word of a list; zero beyond the end. -/
def wordAt (ws : List Word) (i : Nat) : Word := (ws[i]?).getD 0

/-- The numbers from 0 to n - 1. -/
def upTo (n : Nat) : List Nat := List.range n

/-- The set bits of a number below a bound, in rising order. -/
def setBits (n bound : Nat) : List Nat := (List.range bound).filter (fun i => n.testBit i)

/-- The ones' complement sum of 16-bit words, as IPv4 and UDP use it. -/
def onesSum (l : List Byte) : Nat → Nat
  | 0 => 0
  | n + 1 => (byteAt l (2 * n) * 256 + byteAt l (2 * n + 1)) + onesSum l n

/-- Fold carries of a ones' complement sum. -/
def foldCarry (n : Nat) : Nat :=
  let a := n % 65536 + n / 65536
  let b := a % 65536 + a / 65536
  b % 65536 + b / 65536

/-- The Internet checksum of a byte list. -/
def inetSum (l : List Byte) : Nat := 65535 - foldCarry (onesSum l ((l.length + 1) / 2))

/-- One bit step of CRC-32C, reflected. -/
def crcBit (c : Nat) : Nat := if c % 2 = 1 then (c / 2) ^^^ 0x82F63B78 else c / 2

/-- One byte of CRC-32C. -/
def crcByte (c : Nat) (b : Byte) : Nat :=
  crcBit (crcBit (crcBit (crcBit (crcBit (crcBit (crcBit (crcBit (c ^^^ b.toNat))))))))

/-- CRC-32C (Castagnoli, check value 0xE306_9283) of a byte list (R84). -/
def crc32c (l : List Byte) : Nat := (l.foldl crcByte 0xFFFFFFFF) ^^^ 0xFFFFFFFF

/-- Division of integers that truncates toward zero (R51). -/
def tdiv (a b : Int) : Int := Int.tdiv a b

/-- The first element of a list that satisfies a test, with its place removed. -/
def takeFirst {α : Type} (p : α → Bool) : List α → Option (α × List α)
  | [] => none
  | a :: r => if p a then some (a, r) else (takeFirst p r).map (fun q => (q.1, a :: q.2))

/-- Change the element at a place. -/
def modifyAt {α : Type} (l : List α) (i : Nat) (f : α → α) : List α :=
  match l, i with
  | [], _ => []
  | a :: r, 0 => f a :: r
  | a :: r, i + 1 => a :: modifyAt r i f

end Sys2Proof.Machine
end

