-- ==== Sys2Proof/Machine/Crypto.lean ====
section
/-! DEFINITION. The two published standards the manual names (00 Scope; R220, R351, R379): SHA-384 as FIPS 180-4 gives it, and the verification of an ECDSA signature on the curve P-384 as FIPS 186-4 gives it. PRESUMED: the manual names them and does not restate them. -/

namespace Sys2Proof.Machine

/-! #### SHA-384 -/

/-- The first 80 primes: no number from 2 to 20 below one of them divides it. -/
def shaPrimes : List Nat :=
  (List.range 410).filter (fun p => decide (2 ≤ p) && (List.range 21).all (fun d => decide (d < 2 ∨ p ≤ d ∨ p % d ≠ 0)))

/-- The largest number of `i` bits, added to `r`, whose `k`-th power is at most `x`. -/
def rootFrom (k x : Nat) : Nat → Nat → Nat
  | 0, r => r
  | i + 1, r => rootFrom k x i (if (r + 2 ^ i) ^ k ≤ x then r + 2 ^ i else r)

/-- The first 64 bits of the fraction of the `k`-th root of a prime below 512. -/
def rootFraction (k p : Nat) : DWord := BitVec.ofNat 64 (rootFrom k (p * 2 ^ (64 * k)) 69 0)

/-- The round constants: from the cube roots of the first 80 primes. -/
def shaK : List DWord := shaPrimes.map (rootFraction 3)

/-- The initial chaining value of eight words: from the square roots of the ninth to the sixteenth prime. -/
def shaInit : List DWord := ((shaPrimes.drop 8).take 8).map (rootFraction 2)

/-- The exclusive or of a word rotated right by each of three amounts. -/
def rotXor (x : DWord) (i j k : Nat) : DWord := x.rotateRight i ^^^ x.rotateRight j ^^^ x.rotateRight k

/-- One round on the eight working variables, with its constant and its schedule word added together. -/
def shaRound (kw : DWord) : List DWord → List DWord
  | [a, b, c, d, e, f, g, h] =>
    let choose := g ^^^ (e &&& (f ^^^ g))
    let majority := (a &&& (b ||| c)) ||| (b &&& c)
    let t := h + rotXor e 14 18 41 + choose + kw
    [t + rotXor a 28 34 39 + majority, a, b, c, d + t, e, f, g]
  | l => l

/-- The rounds of a block: one for each constant, over a window of the last 16 schedule words. -/
def shaRounds : List DWord → List DWord → List DWord → List DWord
  | [], _, s => s
  | k :: ks, w, s =>
    let x (i : Nat) : DWord := (w[i]?).getD 0
    let s0 := (x 1).rotateRight 1 ^^^ (x 1).rotateRight 8 ^^^ (x 1 >>> 7)
    let s1 := (x 14).rotateRight 19 ^^^ (x 14).rotateRight 61 ^^^ (x 14 >>> 6)
    shaRounds ks (w.drop 1 ++ [x 0 + s0 + x 9 + s1]) (shaRound (k + x 0) s)

/-- The chaining value after `n` blocks of 128 bytes. -/
def shaBlocks : Nat → List Byte → List DWord → List DWord
  | 0, _, s => s
  | n + 1, l, s =>
    let words := (List.range 16).map (fun i => BitVec.ofNat 64 (be l (8 * i) 8))
    shaBlocks n (l.drop 128) (List.zipWith (· + ·) s (shaRounds shaK words s))

/-- The message with a one bit, zeros and its length in bits, up to a whole number of blocks. -/
def shaPad (l : List Byte) : List Byte :=
  l ++ [0x80] ++ zeros ((239 - l.length % 128) % 128) ++ toBe 16 (8 * l.length)

/-- SHA-384 of a byte list: the first six words of the last chaining value. -/
def sha384 (l : List Byte) : List Byte :=
  ((shaBlocks ((shaPad l).length / 128) (shaPad l) shaInit).take 6).flatMap (fun w => toBe 8 w.toNat)

/-! #### ECDSA on P-384 -/

/-- The prime of the field. -/
def p384P : Nat := 2 ^ 384 - 2 ^ 128 - 2 ^ 96 + 2 ^ 32 - 1
/-- The order of the base point. -/
def p384N : Nat := 0xffffffffffffffffffffffffffffffffffffffffffffffffc7634d81f4372ddf581a0db248b0a77aecec196accc52973
/-- The base point. -/
def p384G : Nat × Nat :=
  (0xaa87ca22be8b05378eb1c71ef320ad746e1d3b628ba79b9859f741e082542a385502f25dbf55296c3a545e3872760ab7,
   0x3617de4a96262c6f5d9e98bf9292dc29f8f41dbd289a147ce9da3113b5f0b8c00a60b1ce1d7e819d7a431d7c90ea0e5f)

/-- A power modulo m, by the exponent's bits from the lowest; `k` bits are looked at. -/
def modPow (m : Nat) : Nat → Nat → Nat → Nat
  | 0, _, _ => 1 % m
  | k + 1, b, e => (if e % 2 = 1 then b else 1) * modPow m k (b * b % m) (e / 2) % m

/-- The inverse modulo a prime. -/
def modInv (m x : Nat) : Nat := modPow m 384 (x % m) (m - 2)

/-- A difference modulo m, of numbers below m. -/
def modSub (m x y : Nat) : Nat := (x + m - y % m) % m

/-- Sum of two points; none is the point at infinity. -/
def ecAdd (p q : Option (Nat × Nat)) : Option (Nat × Nat) :=
  match p, q with
  | none, _ => q
  | _, none => p
  | some (x1, y1), some (x2, y2) =>
    if x1 = x2 ∧ (y1 + y2) % p384P = 0 then none
    else
      let l := if x1 = x2 then modSub p384P (3 * x1 * x1 % p384P) 3 * modInv p384P (2 * y1) % p384P
        else modSub p384P y2 y1 * modInv p384P (modSub p384P x2 x1) % p384P
      let x3 := modSub p384P (modSub p384P (l * l % p384P) x1) x2
      some (x3, modSub p384P (l * modSub p384P x1 x3 % p384P) y1)

/-- A multiple of a point; `n` bits of the factor are looked at. -/
def ecMul : Nat → Nat → Option (Nat × Nat) → Option (Nat × Nat)
  | 0, _, _ => none
  | n + 1, k, p => ecAdd (if k % 2 = 1 then p else none) (ecMul n (k / 2) (ecAdd p p))

/-- Whether a signature (r, then s, 48 bytes each) over a digest of 48 bytes verifies under a public key. -/
def ecdsaVerify (digest sig : List Byte) (key : Nat × Nat) : Bool :=
  let r := be sig 0 48
  let s := be sig 48 48
  if r = 0 ∨ p384N ≤ r ∨ s = 0 ∨ p384N ≤ s then false
  else
    let w := modInv p384N s
    let u1 := beNat digest * w % p384N
    let u2 := r * w % p384N
    match ecAdd (ecMul 384 u1 (some p384G)) (ecMul 384 u2 (some key)) with
    | none => false
    | some (x, _) => decide (x % p384N = r)

end Sys2Proof.Machine
end

