-- ==== Sys2Proof/Config.lean ====
section
/-! DEFINITION. What an implementation fixes and the manual leaves open: uninterpreted constants. Nothing is known of their values, so a statement that holds of the model holds for every choice of them. -/

namespace Sys2Proof.Config

/-- A fresh value the manual leaves open, numbered by the counter of State. -/
opaque freeValue : Nat → DWord

/-- A twiddle factor of the FFT (R133 stage 6), as a complex number: by the FFT's points and the angle's step. The manual does not give its precision. -/
opaque twiddle : Nat → Nat → Int × Int

/-- The scaling of an FFT of some points (R133 stage 6), as a right shift. -/
opaque fftShift : Nat → Nat

/-- The logarithm of a mel sum in signed Q6.10 (R133 stage 9 with log_en 1): the 1,024-entry table is not in the manual. -/
opaque melLog : Nat → Int

/-- The value, in steps of 2^-15, of a Q1.15 window entry or a Q0.15 pre-emphasis factor whose top bit is set (R133 stages 3 and 5): the manual does not say whether it is a sign. -/
opaque q15Top : Nat → Int

/-- A power value past the last bin, or a mel weight past the end of the table (R133 stage 8): the manual states none. -/
opaque pastTable : Nat → Nat

/-- A coefficient of the polyphase FIR (R133 stage 2): by the input rate and the working rate in Hz, the phase and the tap. -/
opaque firCoef : Nat → Nat → Nat → Nat → Int

/-- The scaling of the polyphase FIR's coefficients, as a right shift: by the two rates. -/
opaque firShift : Nat → Nat → Nat

/-- An input sample older than the 32 that a region's history holds (R135), which the longer filters reach: by the history and how far before it. -/
opaque olderSample : List Int → Nat → Int

/-- The reciprocal square root table of R140: the scale for a variance. -/
opaque rsqrtScale : Int → Int

/-- A Zemuod public key held in boot ROM (R351): the coordinates of a point on P-384, by key_index. -/
opaque bootKey : Nat → Nat × Nat

/-- The public key under which responses to the maker's challenge verify (R379). -/
opaque challengeKey : Nat × Nat

/-- 1 / scale² in Q6.10 for a scale of 0 (R140): the manual states no value. -/
opaque invSquareOfZero : Int

/-- A payload byte that never arrived, of a segment whose frame was cut short (R421): by the frame and the offset. -/
opaque lostByte : Nat → Nat → Byte

/-- A byte of a row in the row region that no frame, mark or rule gives (R137): its header and the frames of no span. -/
opaque rowOther : Nat → Nat → Byte

/-- The number that the draining field of RUL_VER_STAT or of NUM_EPOCH_DRAIN shows while nothing drains, once something has: by the register and its commit count. -/
opaque idleDrain : Nat → Nat → Nat

/-- The bias of one output read from the store (R164), as the multiplier format, the words of the bias vector and the output: the manual does not give its layout. -/
opaque biasValue : Nat → List Flit → Nat → Int

/-- The output channel through which an east column forwards activations (R164): the manual does not name it. -/
opaque eastChannel : Nat

/-- The state channel that carries a flit of a span's recurrent state (R187): by the number of state channels and the flit's place in the state. The manual does not say how flits are shared among channels. -/
opaque stateLane : Nat → Nat → Nat

/-- The samples after the speed operation (R253): the reference model's fixed resampler, by the draw. -/
opaque speed : Nat → List Int → List Int

/-- Whether the gain table's entry for g is 10^(g / 40) in Q2.14 rounded up, not down (R253): the table's rounding is the reference model's. -/
opaque gainUp : Int → Bool

/-- Whether the noise table's entry for an SNR is 10^(-SNR / 20) in Q1.15 rounded up, not down (R253). -/
opaque snrUp : Nat → Bool

/-- A sample of a noise clip whose length is 0 (R253): the manual states none. -/
opaque emptyClip : Nat → Int

/-- Whether a bin is masked by a frequency mask wider than the frame (R253): the manual states no start for it. By the width, the bins, the draw and the bin. -/
opaque wideMask : Nat → Nat → Nat → Nat → Bool

/-- The bin fused into the part: true for UK-4096-B (R2, R390). -/
opaque fuseBinB : Bool

/-- The device serial in the fuse map (R390). -/
opaque fuseSerial : DWord

/-- The fuse-map version (R390). -/
opaque fuseVersion : Word

/-- The fuse map's value of SAG_FW_VER, which the register shows until firmware is selected (R290). -/
opaque fuseFwVer : Word

/-- The boot timeout of the Sage watchdog in the fuse map, if programmed (R354). -/
opaque fuseBootMs : Option (BitVec 14)

/-- The fuse revocation mask of the firmware keys (R351). -/
opaque fuseRevoked : BitVec 4

/-- The lowest security version the fuse map admits (R351). -/
opaque fuseSvnMin : Nat

/-- The factory defect list of a field, as physical rows and columns (R361). -/
opaque fuseDefects : Nat → List (Nat × Nat)

/-- The fuse state of a GPIO or LED pin (R355). -/
opaque fusePin : Nat → BitVec 2

/-- How a capsule section whose layout the manual does not give lays its content out (R376): by the section type, the content and the capture. -/
opaque capsuleSection : Nat → List Nat → Nat → List Byte

end Sys2Proof.Config
end

