-- ==== Sys2Proof/Machine/RegMap.lean ====
section
/-! DEFINITION. The register map of BAR0 (R12 to R15, R382, R390, R391): every register of the manual with its address, its array strides, its width and its fields with their access types and reset values, each from its own chapter's tables; and a named place for every field. -/

namespace Sys2Proof.Machine

/-- Access types (R13). -/
inductive Acc where
  | rw | ro | w1c | rc | wo
deriving DecidableEq, Repr

/-- Where a field's reset value comes from (R15): the table, the option image, the fuse map, or both. `dyn` marks a field that shows the block's state on a read. -/
inductive Origin where
  | table | option | fuse | dyn | fuseDyn
deriving DecidableEq, Repr

/-- One field of a register table. -/
structure FieldDef where
  name : String
  hi : Nat
  lo : Nat
  acc : Acc
  reset : Nat
  origin : Origin
deriving DecidableEq, Repr

/-- One register: its first address, the strides and counts of its array, its width and its fields. -/
structure RegDef where
  name : String
  base : Nat
  dims : List (Nat × Nat)
  width : Nat
  fields : List FieldDef
deriving DecidableEq, Repr

/-- The place of one field: the address of its register and its bits. -/
structure Fld where
  addr : Nat
  hi : Nat
  lo : Nat
deriving DecidableEq, Repr

/-- A block of BAR0: its name, its span and whether it is a core block (R382, R353). -/
structure BlockDef where
  name : String
  base : Nat
  stop : Nat
  core : Bool
  regs : List RegDef
deriving DecidableEq, Repr

/-- Shorthand for one field of a table. -/
def fd (name : String) (hi lo : Nat) (acc : Acc) (reset : Nat) (origin : Origin := .table) : FieldDef :=
  ⟨name, hi, lo, acc, reset, origin⟩

/-- Counters lie eight bytes apart, 64 bits each, read-only and zero at reset. -/
def counters (base : Nat) (dims : List (Nat × Nat)) : List String → List RegDef
  | [] => []
  | n :: r => ⟨n, base, dims, 64, [fd "count" 63 0 .ro 0]⟩ :: counters (base + 8) dims r

/-- GLB registers, part 1 (16_register_address_map.md, R390). -/
def regsGLB1 : List RegDef := [
    ⟨"GLB_ID", 0, [], 32,
      [fd "device" 15 0 .ro 0x4096, fd "family" 31 16 .ro 0xc51]⟩,
    ⟨"GLB_REV", 4, [], 32,
      [fd "step" 7 0 .ro 0x30, fd "letter" 15 8 .ro 0x42]⟩,
    ⟨"GLB_PART", 8, [], 32,
      [fd "bin" 0 0 .ro 0 .fuse, fd "cap_w" 15 8 .ro 0 .fuse]⟩,
    ⟨"GLB_CAP", 0xc, [], 32,
      [fd "ports" 4 0 .ro 0x10, fd "links" 9 5 .ro 0x10, fd "fields" 12 10 .ro 4, fd "vfs" 23 16 .ro 0x7f]⟩,
    ⟨"GLB_SERIAL", 0x10, [], 64,
      [fd "serial" 63 0 .ro 0 .fuse]⟩,
    ⟨"GLB_FUSE_VER", 0x18, [], 32,
      [fd "version" 31 0 .ro 0 .fuse]⟩,
    ⟨"GLB_SCRATCH", 0x20, [(4, 4)], 32,
      [fd "word" 31 0 .rw 0]⟩,
    ⟨"GLB_ACC_STAT", 0x30, [], 32,
      [fd "bad_access" 0 0 .w1c 0]⟩,
    ⟨"GLB_ACC_ADDR", 0x34, [], 32,
      [fd "addr" 24 0 .ro 0]⟩,
    ⟨"GLB_ACC_ERR", 0x40, [], 64,
      [fd "count" 63 0 .ro 0]⟩]

/-- The registers of the GLB block. -/
def regsGLB : List RegDef := regsGLB1

/-- RST registers, part 1 (14_reset_and_bring_up.md, R340-R358). -/
def regsRST1 : List RegDef := [
    ⟨"RST_CTRL", 0x100000, [], 32,
      [fd "full" 0 0 .wo 0, fd "key" 15 8 .wo 0]⟩,
    ⟨"RST_STAT", 0x100004, [], 32,
      [fd "phase" 3 0 .ro 0 .dyn, fd "core_ready" 4 4 .ro 0 .dyn, fd "early_access" 5 5 .w1c 0, fd "bus_hang" 6 6 .ro 0, fd "bad_key" 7 7 .w1c 0, fd "halt_reason" 11 8 .ro 0]⟩,
    ⟨"RST_CAUSE", 0x100008, [], 32,
      [fd "cause" 8 0 .w1c 0 .dyn]⟩,
    ⟨"RST_ISO", 0x10000c, [], 32,
      [fd "iso" 6 0 .rw 0]⟩,
    ⟨"RST_IDLE", 0x100010, [], 32,
      [fd "idle" 6 0 .ro 0x7f .dyn]⟩,
    ⟨"RST_FW_STAT", 0x100014, [], 32,
      [fd "slot" 0 0 .ro 0, fd "fallback" 1 1 .ro 0, fd "rom_only" 2 2 .ro 0, fd "a_valid" 3 3 .ro 0, fd "b_valid" 4 4 .ro 0]⟩,
    ⟨"RST_OPT_STAT", 0x100018, [], 32,
      [fd "source" 1 0 .ro 0, fd "ignored" 15 8 .ro 0, fd "refused" 23 16 .ro 0]⟩,
    ⟨"RST_WDOG", 0x10001c, [], 32,
      [fd "boot_ms" 13 0 .ro 0x3e8 .fuse, fd "run_ms" 29 16 .ro 0]⟩,
    ⟨"RST_PHASE_NS", 0x100020, [(4, 5)], 32,
      [fd "ns" 31 0 .ro 0]⟩,
    ⟨"RST_AON_SCR", 0x100040, [(4, 4)], 32,
      [fd "word" 31 0 .ro 0 .dyn]⟩,
    ⟨"RST_BUS_TIMEOUT", 0x100100, [], 64,
      [fd "count" 63 0 .ro 0]⟩]

/-- The registers of the RST block. -/
def regsRST : List RegDef := regsRST1

/-- PAC registers, part 1 (13_clockless_pace_and_power.md, R319-R339). -/
def regsPAC1 : List RegDef := [
    ⟨"PAC_CTRL", 0x200000, [], 32,
      [fd "enable" 0 0 .rw 1 .option, fd "gate_en" 1 1 .rw 1, fd "sleep_en" 2 2 .rw 1]⟩,
    ⟨"PAC_TARGET", 0x200004, [], 32,
      [fd "target_mgs" 15 0 .rw 0x5fa .option, fd "hyst_mgs" 23 16 .rw 0x14]⟩,
    ⟨"PAC_VLIM", 0x200008, [], 32,
      [fd "vmin_mv" 9 0 .rw 0x26c .option, fd "vmax_mv" 25 16 .rw 0x384 .option]⟩,
    ⟨"PAC_STEP", 0x20000c, [], 32,
      [fd "step_mv" 4 0 .rw 0xa]⟩,
    ⟨"PAC_CAP", 0x200010, [], 32,
      [fd "cap_w" 7 0 .rw 0 .fuse]⟩,
    ⟨"PAC_STAT", 0x200014, [], 32,
      [fd "vdd_mv" 9 0 .ro 0x30c .dyn, fd "running" 10 10 .ro 0 .dyn, fd "pending" 11 11 .ro 0 .dyn, fd "busy" 12 12 .w1c 0, fd "cap_limited" 13 13 .ro 0 .dyn, fd "gated" 14 14 .ro 0 .dyn, fd "throttle" 15 15 .ro 0 .dyn, fd "avs_fault" 16 16 .w1c 0]⟩,
    ⟨"PAC_POWER", 0x200018, [], 32,
      [fd "avg_cw" 15 0 .ro 0 .dyn, fd "last_cw" 31 16 .ro 0 .dyn]⟩,
    ⟨"PAC_TJ_MAX", 0x20001c, [], 32,
      [fd "tj" 7 0 .ro 0, fd "sensor" 11 8 .ro 0]⟩,
    ⟨"PAC_PACE", 0x200020, [(4, 4)], 32,
      [fd "pace_mgs" 15 0 .ro 0, fd "min_mgs" 31 16 .rc 0]⟩,
    ⟨"PAC_FLD_STATE", 0x200030, [(4, 4)], 32,
      [fd "state" 1 0 .ro 0 .dyn, fd "hold_active" 2 2 .rw 0]⟩,
    ⟨"PAC_DEV_STATE", 0x200040, [], 32,
      [fd "idle" 0 0 .ro 0 .dyn]⟩,
    ⟨"PAC_DWELL_QUIET", 0x200044, [], 32,
      [fd "ns" 31 0 .rw 0x3e8]⟩]

/-- PAC registers, part 2 (13_clockless_pace_and_power.md, R319-R339). -/
def regsPAC2 : List RegDef := [
    ⟨"PAC_DWELL_RET", 0x200048, [], 32,
      [fd "ns" 31 0 .rw 0x186a0]⟩,
    ⟨"PAC_DWELL_OFF", 0x20004c, [], 32,
      [fd "ns" 31 0 .rw 0x989680]⟩,
    ⟨"PAC_GATE", 0x200050, [], 32,
      [fd "gate_ns" 16 0 .ro 0 .dyn]⟩,
    ⟨"PAC_TJ", 0x200060, [(4, 16)], 32,
      [fd "tj" 7 0 .ro 0, fd "fault" 8 8 .ro 0]⟩]

/-- PAC registers, part 3 (13_clockless_pace_and_power.md, R319-R339). -/
def regsPAC3 : List RegDef := counters 0x201000 [] [
    "PAC_DECISIONS", "PAC_VSTEP_UP", "PAC_VSTEP_DOWN", "PAC_PACE_SHORT_NS", "PAC_CAP_LIMIT_NS",
    "PAC_GATE_NS", "PAC_THROTTLE_NS", "PAC_AVS_ERR", "PAC_PMBUS_ERR", "PAC_SENSOR_FAULT",
    "PAC_WAKES", "PAC_WAKE_LATE"]

/-- The registers of the PAC block. -/
def regsPAC : List RegDef := regsPAC1 ++ regsPAC2 ++ regsPAC3

/-- THY registers, part 1 (02_ports_bypass_and_time.md, R48-R55). -/
def regsTHY1 : List RegDef := [
    ⟨"THY_CTRL", 0x300000, [], 32,
      [fd "src" 1 0 .rw 0, fd "pps_out_en" 2 2 .rw 0, fd "step" 3 3 .wo 0, fd "sw_state" 5 4 .rw 0]⟩,
    ⟨"THY_STAT", 0x300004, [], 32,
      [fd "state" 1 0 .ro 0 .dyn, fd "adj_busy" 2 2 .w1c 0, fd "holdover_entered" 3 3 .w1c 0]⟩,
    ⟨"THY_TIME", 0x300008, [], 64,
      [fd "time" 63 0 .ro 0 .dyn]⟩,
    ⟨"THY_SET", 0x300010, [], 64,
      [fd "set" 63 0 .rw 0]⟩,
    ⟨"THY_ADJ_FREQ", 0x300018, [], 32,
      [fd "freq" 31 0 .rw 0]⟩,
    ⟨"THY_ADJ_PHASE", 0x30001c, [], 32,
      [fd "phase" 31 0 .rw 0 .dyn]⟩,
    ⟨"THY_PPS_IN_TS", 0x300020, [], 64,
      [fd "ts" 63 0 .ro 0]⟩,
    ⟨"THY_PPS_ERR", 0x300028, [], 32,
      [fd "err" 31 0 .ro 0]⟩,
    ⟨"THY_PPS_OUT_W", 0x30002c, [], 32,
      [fd "width" 31 0 .rw 0x989680]⟩,
    ⟨"THY_STEP_CNT", 0x300030, [], 32,
      [fd "count" 31 0 .ro 0]⟩,
    ⟨"THY_PPS_GLITCH", 0x300034, [], 32,
      [fd "count" 31 0 .ro 0]⟩,
    ⟨"THY_PTP_CTRL", 0x301000, [(8, 16)], 32,
      [fd "mode" 1 0 .rw 0, fd "one_step" 2 2 .rw 0, fd "l2" 3 3 .rw 1, fd "udp" 4 4 .rw 1]⟩]

/-- THY registers, part 2 (02_ports_bypass_and_time.md, R48-R55). -/
def regsTHY2 : List RegDef := [
    ⟨"THY_PTP_LINK_DELAY", 0x301004, [(8, 16)], 32,
      [fd "delay" 31 0 .rw 0]⟩]

/-- The registers of the THY block. -/
def regsTHY : List RegDef := regsTHY1 ++ regsTHY2

/-- MAC registers, part 1 (02_ports_bypass_and_time.md, R32-R47). -/
def regsMAC1 : List RegDef := [
    ⟨"MAC_MODE", 0x400000, [], 32,
      [fd "mode" 1 0 .rw 0 .option]⟩,
    ⟨"MAC_LANE_POL_RX", 0x400004, [], 32,
      [fd "invert" 31 0 .rw 0 .option]⟩,
    ⟨"MAC_LANE_POL_TX", 0x400008, [], 32,
      [fd "invert" 31 0 .rw 0 .option]⟩,
    ⟨"MAC_PORT_CTRL", 0x401000, [(0x100, 16)], 32,
      [fd "enable" 0 0 .rw 0, fd "an_en" 1 1 .rw 1, fd "pause_rx_en" 2 2 .rw 1, fd "pfc_rx_en" 3 3 .rw 0, fd "pfc_tx_en" 4 4 .rw 0, fd "pfc_pri_mask" 15 8 .rw 0xff]⟩,
    ⟨"MAC_PORT_STAT", 0x401004, [(0x100, 16)], 32,
      [fd "pcs_lock" 0 0 .ro 0 .dyn, fd "link_up" 1 1 .ro 0 .dyn, fd "held" 2 2 .ro 0 .dyn]⟩,
    ⟨"MAC_PFC_THR", 0x401008, [(0x100, 16)], 32,
      [fd "xoff_kib" 15 0 .rw 0xc00, fd "xon_kib" 31 16 .rw 0x800]⟩]

/-- MAC registers, part 2 (02_ports_bypass_and_time.md, R32-R47). -/
def regsMAC2 : List RegDef := counters 0x401020 [(0x100, 16)] [
    "MAC_RX_FRAMES", "MAC_RX_FCS_ERR", "MAC_RX_OVERSIZE", "MAC_RX_RUNT", "MAC_UNPARSED",
    "MAC_EDGE_FULL", "MAC_FALLBACK", "MAC_TX_FRAMES", "MAC_TX_BAD_FCS", "MAC_PAUSE_RX",
    "MAC_PFC_TX"]

/-- MAC registers, part 3 (02_ports_bypass_and_time.md, R32-R47). -/
def regsMAC3 : List RegDef := [
    ⟨"MAC_PAIR_CTRL", 0x408000, [(0x40, 8)], 32,
      [fd "fallback" 0 0 .rw 0, fd "auto_close_link" 1 1 .rw 1, fd "hb_src" 2 2 .rw 0, fd "deadline_ns" 31 16 .rw 0x7d0]⟩,
    ⟨"MAC_BYP_CTRL", 0x408004, [(0x40, 8)], 32,
      [fd "open" 0 0 .wo 0, fd "close" 1 1 .wo 0]⟩,
    ⟨"MAC_BYP_HB_TIMEOUT", 0x408008, [(0x40, 8)], 32,
      [fd "timeout_ns" 31 0 .rw 0x5f5e100]⟩,
    ⟨"MAC_BYP_OPEN_WAIT", 0x40800c, [(0x40, 8)], 32,
      [fd "wait_ns" 31 0 .rw 0x1dcd6500]⟩,
    ⟨"MAC_BYP_KICK", 0x408010, [(0x40, 8)], 32,
      [fd "kick" 0 0 .wo 0]⟩,
    ⟨"MAC_BYP_STAT", 0x408014, [(0x40, 8)], 32,
      [fd "state" 1 0 .ro 0 .dyn, fd "pin" 2 2 .ro 0 .dyn, fd "hb_fresh" 3 3 .ro 0 .dyn, fd "last_close_cause" 7 4 .ro 1, fd "open_refused" 8 8 .w1c 0, fd "refuse_reason" 15 12 .ro 0]⟩]

/-- The registers of the MAC block. -/
def regsMAC : List RegDef := regsMAC1 ++ regsMAC2 ++ regsMAC3

/-- PRS registers, part 1 (03_parse_cores.md, R56-R81). -/
def regsPRS1 : List RegDef := [
    ⟨"PRS_CTRL", 0x600000, [], 32,
      [fd "enable" 0 0 .rw 0, fd "ubp_en" 1 1 .rw 1]⟩,
    ⟨"PRS_UBP_PORT", 0x600004, [], 32,
      [fd "port" 15 0 .rw 0x2f1c .option]⟩,
    ⟨"PRS_DEPTH", 0x600008, [], 32,
      [fd "depth" 9 0 .rw 0x200]⟩,
    ⟨"PRS_PROG_CTRL", 0x60000c, [], 32,
      [fd "commit" 0 0 .wo 0]⟩,
    ⟨"PRS_PROG_STAT", 0x600010, [], 32,
      [fd "active_bank" 0 0 .ro 0 .dyn, fd "draining" 1 1 .ro 0 .dyn, fd "busy" 2 2 .w1c 0, fd "loaded" 3 3 .ro 0 .dyn]⟩,
    ⟨"PRS_CHIVE_BUSY", 0x600014, [], 32,
      [fd "busy" 8 0 .ro 0 .dyn]⟩,
    ⟨"PRS_EXC_CTRL", 0x600040, [(0x10, 3)], 32,
      [fd "fwd" 0 0 .rw 0, fd "copy_en" 1 1 .rw 1, fd "copy_len" 15 8 .rw 8]⟩,
    ⟨"PRS_EXC_QP", 0x600044, [(0x10, 3)], 32,
      [fd "qp" 13 0 .rw 0]⟩,
    ⟨"PRS_EXC_RATE", 0x600048, [(0x10, 3)], 32,
      [fd "rate" 23 0 .rw 0x2710]⟩,
    ⟨"PRS_EXC_BURST", 0x60004c, [(0x10, 3)], 32,
      [fd "burst" 15 0 .rw 0x40]⟩]

/-- PRS registers, part 2 (03_parse_cores.md, R56-R81). -/
def regsPRS2 : List RegDef := counters 0x601000 [] [
    "PRS_FRAMES", "PRS_UBP_BUNDLES", "PRS_UBP_SEGS", "PRS_BAD_HEADER", "PRS_SEG_OVERRUN",
    "PRS_LEN_MISMATCH", "PRS_UBP_TRAIL", "PRS_EXC_SLOW", "PRS_EXC_FAIL", "PRS_EXC_NOMATCH",
    "PRS_EXC_RATE_DROP", "PRS_EXC_RING_DROP"]

/-- PRS registers, part 3 (03_parse_cores.md, R56-R81). -/
def regsPRS3 : List RegDef := counters 0x602000 [(8, 16)] [
    "PRS_ROB_FULL"]

/-- PRS registers, part 4 (03_parse_cores.md, R56-R81). -/
def regsPRS4 : List RegDef := [
    ⟨"PRS_PROG_WIN", 0x608000, [(8, 4096)], 64,
      [fd "instr" 63 0 .rw 0 .dyn]⟩]

/-- The registers of the PRS block. -/
def regsPRS : List RegDef := regsPRS1 ++ regsPRS2 ++ regsPRS3 ++ regsPRS4

/-- RUL registers, part 1 (04_rules_and_actions.md, R82-R107). -/
def regsRUL1 : List RegDef := [
    ⟨"RUL_CTRL", 0x800000, [], 32,
      [fd "enable" 0 0 .rw 0, fd "no_disp" 1 1 .rw 0]⟩,
    ⟨"RUL_VER_CTRL", 0x800004, [], 32,
      [fd "commit" 0 0 .wo 0]⟩,
    ⟨"RUL_VER_STAT", 0x800008, [], 32,
      [fd "current" 3 0 .ro 0 .dyn, fd "staged" 7 4 .ro 1 .dyn, fd "draining" 11 8 .ro 0 .dyn, fd "draining_valid" 12 12 .ro 0 .dyn, fd "pending" 13 13 .ro 0 .dyn, fd "busy" 14 14 .w1c 0, fd "commit_seq" 31 16 .ro 0 .dyn]⟩,
    ⟨"RUL_MIRROR_WAIT", 0x80000c, [], 32,
      [fd "wait_ns" 31 0 .rw 0x186a0]⟩,
    ⟨"RUL_KEY_PROF", 0x800010, [(4, 16)], 32,
      [fd "map" 2 0 .rw 0]⟩,
    ⟨"RUL_KEY_MAP", 0x800100, [(0x60, 8), (4, 20)], 32,
      [fd "sel3" 7 0 .rw 0xff, fd "sel2" 15 8 .rw 0xff, fd "sel1" 23 16 .rw 0xff, fd "sel0" 31 24 .rw 0xff]⟩,
    ⟨"RUL_TCAM_CMD", 0x801000, [], 32,
      [fd "index" 13 0 .wo 0, fd "op" 17 16 .wo 0]⟩,
    ⟨"RUL_TCAM_STAT", 0x801004, [], 32,
      [fd "done" 0 0 .ro 1, fd "status" 3 1 .ro 0]⟩,
    ⟨"RUL_TCAM_KEY", 0x801100, [(4, 20)], 32,
      [fd "word" 31 0 .rw 0]⟩,
    ⟨"RUL_TCAM_MASK", 0x801150, [(4, 20)], 32,
      [fd "word" 31 0 .rw 0]⟩,
    ⟨"RUL_TCAM_SLOT", 0x8011a0, [(4, 8)], 32,
      [fd "word" 31 0 .rw 0]⟩,
    ⟨"RUL_TCAM_CTL", 0x8011c0, [], 32,
      [fd "profile" 2 0 .rw 0, fd "add_ver" 15 12 .ro 0, fd "del_ver" 19 16 .ro 0, fd "add_live" 20 20 .ro 0, fd "del" 21 21 .ro 0, fd "used" 22 22 .ro 0]⟩]

/-- RUL registers, part 2 (04_rules_and_actions.md, R82-R107). -/
def regsRUL2 : List RegDef := [
    ⟨"RUL_EM_CMD", 0x802000, [], 32,
      [fd "op" 1 0 .wo 0]⟩,
    ⟨"RUL_EM_STAT", 0x802004, [], 32,
      [fd "done" 0 0 .ro 1, fd "status" 3 1 .ro 0]⟩,
    ⟨"RUL_EM_COUNT", 0x802008, [], 32,
      [fd "entries" 21 0 .ro 0 .dyn]⟩,
    ⟨"RUL_EM_DATA", 0x802020, [(4, 8)], 32,
      [fd "word" 31 0 .rw 0]⟩,
    ⟨"RUL_MTR_SEL", 0x803000, [], 32,
      [fd "meter" 15 0 .rw 0]⟩,
    ⟨"RUL_MTR_CMD", 0x803004, [], 32,
      [fd "write" 0 0 .wo 0, fd "read" 1 1 .wo 0]⟩,
    ⟨"RUL_MTR_STAT", 0x803008, [], 32,
      [fd "refused" 0 0 .w1c 0]⟩,
    ⟨"RUL_MTR_CIR", 0x803010, [], 64,
      [fd "rate" 39 0 .rw 0]⟩,
    ⟨"RUL_MTR_PIR", 0x803018, [], 64,
      [fd "rate" 39 0 .rw 0]⟩,
    ⟨"RUL_MTR_CBS", 0x803020, [], 32,
      [fd "size" 31 0 .rw 0]⟩,
    ⟨"RUL_MTR_PBS", 0x803024, [], 32,
      [fd "size" 31 0 .rw 0]⟩,
    ⟨"RUL_MTR_MODE", 0x803028, [], 32,
      [fd "aware" 0 0 .rw 0, fd "enable" 1 1 .rw 0]⟩]

/-- RUL registers, part 3 (04_rules_and_actions.md, R82-R107). -/
def regsRUL3 : List RegDef := [
    ⟨"RUL_DSCP_COLOR", 0x803040, [(4, 4)], 32,
      [fd "colour" 31 0 .rw 0]⟩,
    ⟨"RUL_CNT_PERIOD", 0x804000, [], 32,
      [fd "period_ns" 31 0 .rw 0xf4240]⟩,
    ⟨"RUL_CNT_SEL", 0x804004, [], 32,
      [fd "index" 19 0 .rw 0]⟩,
    ⟨"RUL_CNT_CMD", 0x804008, [], 32,
      [fd "clear" 0 0 .wo 0]⟩,
    ⟨"RUL_CNT_GEN", 0x80400c, [], 32,
      [fd "gen" 31 0 .ro 0]⟩,
    ⟨"RUL_CNT_VALUE", 0x804010, [], 64,
      [fd "value" 63 0 .ro 0 .dyn]⟩,
    ⟨"RUL_CNT_GEN_TS", 0x804018, [], 64,
      [fd "t_g" 63 0 .ro 0]⟩,
    ⟨"RUL_STEER", 0x805000, [(4, 4096)], 32,
      [fd "port" 3 0 .rw 0, fd "template" 9 4 .rw 0, fd "valid" 10 10 .rw 0]⟩,
    ⟨"RUL_ENCAP_DATA", 0x809080, [(4, 2016)], 32,
      [fd "word" 31 0 .rw 0]⟩,
    ⟨"RUL_ENCAP_DESC", 0x80b004, [(4, 63)], 32,
      [fd "len" 7 0 .rw 0, fd "ip_off" 15 8 .rw 0, fd "l4_off" 23 16 .rw 0xff, fd "ipv6" 24 24 .rw 0]⟩]

/-- RUL registers, part 4 (04_rules_and_actions.md, R82-R107). -/
def regsRUL4 : List RegDef := counters 0x80c000 [] [
    "RUL_LOOKUPS", "RUL_NOMATCH", "RUL_EM_HITS", "RUL_EM_CACHE_MISS", "RUL_EM_MISS",
    "RUL_INFER_SUPPRESS", "RUL_FWD_DROP", "RUL_MIRROR_DROP", "RUL_MIRROR_TRUNC", "RUL_HOST_DROP",
    "RUL_ENCAP_LEN_ERR", "RUL_CNT_SWEEP_LATE", "RUL_MTR_YELLOW", "RUL_MTR_RED"]

/-- The registers of the RUL block. -/
def regsRUL : List RegDef := regsRUL1 ++ regsRUL2 ++ regsRUL3 ++ regsRUL4

/-- ERP registers, part 1 (05_early_reply.md, R108-R129). -/
def regsERP1 : List RegDef := [
    ⟨"ERP_CTRL", 0xc00000, [], 32,
      [fd "enable" 0 0 .rw 0, fd "default_en" 1 1 .rw 0, fd "default_profile" 27 16 .rw 0]⟩,
    ⟨"ERP_REMOTE_WAIT", 0xc00004, [], 32,
      [fd "wait_ns" 31 0 .rw 0x2710]⟩,
    ⟨"ERP_ARB_GUARD", 0xc00008, [], 32,
      [fd "guard_ns" 31 0 .rw 0x7d0]⟩,
    ⟨"ERP_PROF_SEL", 0xc00010, [], 32,
      [fd "profile" 11 0 .rw 0]⟩,
    ⟨"ERP_PROF_CMD", 0xc00014, [], 32,
      [fd "write" 0 0 .wo 0, fd "read" 1 1 .wo 0]⟩,
    ⟨"ERP_PROF_STAT", 0xc00018, [], 32,
      [fd "done" 0 0 .ro 1, fd "status" 2 1 .ro 0]⟩,
    ⟨"ERP_PROF_DATA0", 0xc00020, [], 32,
      [fd "valid" 0 0 .rw 0, fd "port_sel" 2 1 .rw 0, fd "port" 6 3 .rw 0, fd "seal_mode" 8 7 .rw 0, fd "honor_req" 9 9 .rw 1, fd "status_en" 10 10 .rw 1, fd "report_drop" 11 11 .rw 0, fd "max_records" 23 16 .rw 1]⟩,
    ⟨"ERP_PROF_DATA1", 0xc00024, [], 32,
      [fd "window_ns" 31 0 .rw 0]⟩,
    ⟨"ERP_PROF_DATA2", 0xc00028, [], 32,
      [fd "horizon_ns" 31 0 .rw 0x4e20]⟩,
    ⟨"ERP_PROF_DATA3", 0xc0002c, [], 32,
      [fd "tmpl_len" 7 0 .rw 0x2a, fd "ip_off" 15 8 .rw 0xe, fd "l4_off" 23 16 .rw 0x22, fd "ipv6" 24 24 .rw 0]⟩,
    ⟨"ERP_PROF_DATA4", 0xc00030, [], 32,
      [fd "reply_seq" 31 0 .ro 0]⟩]

/-- ERP registers, part 2 (05_early_reply.md, R108-R129). -/
def regsERP2 : List RegDef := counters 0xc01000 [] [
    "ERP_REPLY_FRAMES", "ERP_RECORDS_PROV", "ERP_RECORDS_FINAL", "ERP_SEAL_FRAMES", "ERP_STATUS_FRAMES",
    "ERP_RECALL_FRAMES", "ERP_STOMPED", "ERP_WITHDRAWN", "ERP_DROP_PORT", "ERP_DROP_PROFILE",
    "ERP_RECALL_LATE", "ERP_VERDICT_LATE"]

/-- ERP registers, part 3 (05_early_reply.md, R108-R129). -/
def regsERP3 : List RegDef := [
    ⟨"ERP_TMPL", 0xc10000, [(4, 131072)], 32,
      [fd "word" 31 0 .rw 0]⟩]

/-- The registers of the ERP block. -/
def regsERP : List RegDef := regsERP1 ++ regsERP2 ++ regsERP3

/-- SFE registers, part 1 (06_sample_front_end.md, R130-R153). -/
def regsSFE1 : List RegDef := [
    ⟨"SFE_CTRL", 0xd00000, [], 32,
      [fd "enable" 0 0 .rw 0]⟩,
    ⟨"SFE_ROW_REGION", 0xd00004, [], 32,
      [fd "mib" 5 0 .rw 8]⟩,
    ⟨"SFE_STATE_CACHE", 0xd00008, [], 32,
      [fd "mib" 5 0 .rw 0x10]⟩,
    ⟨"SFE_HOST_QP", 0xd0000c, [], 32,
      [fd "qp" 13 0 .rw 0]⟩,
    ⟨"SFE_HOST_RATE", 0xd00010, [], 32,
      [fd "rate" 23 0 .rw 0x2710]⟩,
    ⟨"SFE_HOST_BURST", 0xd00014, [], 32,
      [fd "burst" 15 0 .rw 0x40]⟩,
    ⟨"SFE_STALE_EN", 0xd00018, [(4, 2)], 32,
      [fd "en" 31 0 .rw 0xffffffff]⟩,
    ⟨"SFE_PACK_WAIT", 0xd00020, [(4, 8)], 32,
      [fd "wait_ns" 31 0 .rw 0]⟩,
    ⟨"SFE_PROF_SEL", 0xd00040, [], 32,
      [fd "profile" 11 0 .rw 0]⟩,
    ⟨"SFE_PROF_CMD", 0xd00044, [], 32,
      [fd "write" 0 0 .wo 0, fd "read" 1 1 .wo 0]⟩,
    ⟨"SFE_PROF_STAT", 0xd00048, [], 32,
      [fd "done" 0 0 .ro 1, fd "status" 2 1 .ro 0]⟩,
    ⟨"SFE_PROF_DATA0", 0xd00050, [], 32,
      [fd "valid" 0 0 .rw 0, fd "wrate" 1 1 .rw 1, fd "rate_mask" 5 2 .rw 0xf, fd "codec_mask" 11 6 .rw 0xf, fd "host_en" 12 12 .rw 0, fd "pool" 13 13 .rw 0, fd "out_fmt" 14 14 .rw 0, fd "levels" 16 15 .rw 1, fd "stride" 18 17 .rw 2, fd "norm_mode" 20 19 .rw 0, fd "k" 24 21 .rw 7]⟩]

/-- SFE registers, part 2 (06_sample_front_end.md, R130-R153). -/
def regsSFE2 : List RegDef := [
    ⟨"SFE_PROF_DATA1", 0xd00054, [], 32,
      [fd "frame_len" 10 0 .rw 0x190, fd "hop" 21 11 .rw 0xa0, fd "fft" 23 22 .rw 1, fd "log_en" 24 24 .rw 1, fd "win_tbl" 27 25 .rw 0]⟩,
    ⟨"SFE_PROF_DATA2", 0xd00058, [], 32,
      [fd "bins" 7 0 .rw 0x40, fd "mel_bank" 11 8 .rw 0, fd "norm_tbl" 17 12 .rw 0, fd "out_shift" 22 18 .rw 4]⟩,
    ⟨"SFE_PROF_DATA3", 0xd0005c, [], 32,
      [fd "preemph" 15 0 .rw 0, fd "gap_max" 30 16 .rw 8]⟩,
    ⟨"SFE_PROF_DATA4", 0xd00060, [], 32,
      [fd "max_seg_bytes" 15 0 .rw 0x1f40]⟩,
    ⟨"SFE_PROF_DATA5", 0xd00064, [], 32,
      [fd "fe_bytes" 11 0 .ro 0, fd "gen" 27 16 .ro 0]⟩,
    ⟨"SFE_STALE_LIM", 0xd00100, [(4, 64)], 32,
      [fd "limit_ns" 31 0 .rw 0xbebc200]⟩]

/-- SFE registers, part 3 (06_sample_front_end.md, R130-R153). -/
def regsSFE3 : List RegDef := counters 0xd01000 [] [
    "SFE_SEGS", "SFE_SPANS", "SFE_ROWS", "SFE_BAD_PROFILE", "SFE_BAD_CODEC",
    "SFE_BAD_RATE", "SFE_BAD_LEN", "SFE_TOO_LONG", "SFE_STALE_PARSE", "SFE_STALE_DISPATCH",
    "SFE_DUP", "SFE_LATE_SEQ", "SFE_RESTART", "SFE_SEQ_GAP", "SFE_EMPTY",
    "SFE_HOST_COPY", "SFE_HOST_DROP", "SFE_STATE_MISS", "SFE_STALL_NS", "SFE_CLOCK_SKEW"]

/-- SFE registers, part 4 (06_sample_front_end.md, R130-R153). -/
def regsSFE4 : List RegDef := [
    ⟨"SFE_WIN", 0xd10000, [(4, 4096)], 32,
      [fd "pair" 31 0 .rw 0]⟩,
    ⟨"SFE_MEL", 0xd18000, [(4, 2048)], 32,
      [fd "start" 8 0 .rw 0, fd "count" 14 9 .rw 0, fd "offset" 29 16 .rw 0]⟩,
    ⟨"SFE_MELW", 0xd20000, [(4, 8192)], 32,
      [fd "pair" 31 0 .rw 0]⟩,
    ⟨"SFE_NORM", 0xd30000, [(4, 8192)], 32,
      [fd "mean" 15 0 .rw 0, fd "scale" 31 16 .rw 0]⟩]

/-- The registers of the SFE block. -/
def regsSFE : List RegDef := regsSFE1 ++ regsSFE2 ++ regsSFE3 ++ regsSFE4

/-- FAB registers, part 1 (07_tile_fabric.md, R154-R190). -/
def regsFAB1 : List RegDef := [
    ⟨"FAB_CTRL", 0x1000000, [], 32,
      [fd "enable" 0 0 .rw 0, fd "trail_en" 1 1 .rw 1]⟩,
    ⟨"FAB_FIELD_STAT", 0x1000010, [(4, 4)], 32,
      [fd "role" 0 0 .ro 0 .dyn, fd "plots" 8 1 .ro 0 .dyn, fd "free_tiles" 19 9 .ro 0x400 .dyn]⟩,
    ⟨"FAB_COMMIT_STAT", 0x1000020, [(4, 4)], 32,
      [fd "commit_seq" 15 0 .ro 0 .dyn, fd "applied" 17 16 .ro 0 .dyn, fd "running" 18 18 .ro 0 .dyn, fd "pending" 19 19 .ro 0 .dyn, fd "busy" 20 20 .w1c 0]⟩,
    ⟨"FAB_ROWMAP", 0x1000030, [(4, 4)], 32,
      [fd "skip" 31 0 .ro 0 .fuseDyn]⟩,
    ⟨"FAB_LOAD_STAT", 0x1000040, [], 32,
      [fd "code" 3 0 .ro 0, fd "section" 7 4 .ro 0, fd "handle" 31 16 .ro 0]⟩,
    ⟨"FAB_FAULT_STAT", 0x1000044, [], 32,
      [fd "field" 1 0 .ro 0, fd "x" 7 2 .ro 0, fd "y" 13 8 .ro 0, fd "kind" 14 14 .ro 0]⟩,
    ⟨"FAB_STALL_SEL", 0x1000080, [], 32,
      [fd "kind" 1 0 .rw 0, fd "field" 3 2 .rw 0, fd "plot" 10 4 .rw 0, fd "x" 21 16 .rw 0, fd "y" 27 22 .rw 0]⟩]

/-- FAB registers, part 2 (07_tile_fabric.md, R154-R190). -/
def regsFAB2 : List RegDef := counters 0x1000088 [] [
    "FAB_SEL_INPUT_NS", "FAB_SEL_CREDIT_NS", "FAB_SEL_STORE_NS", "FAB_SEL_CFG_NS", "FAB_SEL_TOKENS"]

/-- FAB registers, part 3 (07_tile_fabric.md, R154-R190). -/
def regsFAB3 : List RegDef := counters 0x1000100 [(0x40, 4)] [
    "FAB_FLD_INPUT_NS", "FAB_FLD_CREDIT_NS", "FAB_FLD_STORE_NS", "FAB_FLD_CFG_NS", "FAB_FLD_TOKENS"]

/-- FAB registers, part 4 (07_tile_fabric.md, R154-R190). -/
def regsFAB4 : List RegDef := [
    ⟨"FAB_QD_PERIOD", 0x1000200, [], 32,
      [fd "period_ns" 31 0 .rw 0]⟩,
    ⟨"FAB_QD_SEL", 0x1000240, [(4, 16)], 32,
      [fd "x" 5 0 .rw 0, fd "y" 11 6 .rw 0, fd "queue" 15 12 .rw 0, fd "valid" 16 16 .rw 0]⟩,
    ⟨"FAB_QD_LAST", 0x1000300, [(0x20, 16)], 32,
      [fd "last" 31 0 .ro 0]⟩,
    ⟨"FAB_QD_MAX", 0x1000304, [(0x20, 16)], 32,
      [fd "max" 31 0 .ro 0]⟩,
    ⟨"FAB_QD_SUM", 0x1000308, [(0x20, 16)], 64,
      [fd "sum" 63 0 .ro 0]⟩,
    ⟨"FAB_QD_CNT", 0x1000310, [(0x20, 16)], 64,
      [fd "count" 63 0 .ro 0]⟩,
    ⟨"FAB_COLSKIP", 0x1001000, [(0x100, 4), (4, 34)], 32,
      [fd "col" 5 0 .ro 0 .fuseDyn, fd "rows32_33" 31 30 .ro 0 .fuseDyn]⟩]

/-- FAB registers, part 5 (07_tile_fabric.md, R154-R190). -/
def regsFAB5 : List RegDef := counters 0x1002000 [] [
    "FAB_SECTIONS", "FAB_PASSES", "FAB_COMMITS", "FAB_COMMIT_BUSY", "FAB_LOAD_REFUSED",
    "FAB_SPILL_BYTES", "FAB_TAG_RANGE", "FAB_CFG_CRC", "FAB_SLOT_FENCED", "FAB_SHORT_STALLS"]

/-- The registers of the FAB block. -/
def regsFAB : List RegDef := regsFAB1 ++ regsFAB2 ++ regsFAB3 ++ regsFAB4 ++ regsFAB5

/-- NUM registers, part 1 (08_numeric_formats_and_quantisation.md, R191-R216). -/
def regsNUM1 : List RegDef := [
    ⟨"NUM_CTRL", 0x1400000, [], 32,
      [fd "widen_mode" 1 0 .rw 1, fd "sr_en" 2 2 .rw 1, fd "stat_en" 3 3 .rw 1, fd "mse_shift" 8 4 .rw 4]⟩,
    ⟨"NUM_EPOCH_CTRL", 0x1400004, [], 32,
      [fd "commit" 0 0 .wo 0]⟩,
    ⟨"NUM_EPOCH_STAT", 0x1400008, [], 32,
      [fd "current" 15 0 .ro 0 .dyn, fd "installing" 16 16 .ro 0 .dyn, fd "draining_valid" 17 17 .ro 0 .dyn, fd "pending" 18 18 .ro 0 .dyn, fd "busy" 19 19 .w1c 0]⟩,
    ⟨"NUM_EPOCH_DRAIN", 0x140000c, [], 32,
      [fd "draining" 15 0 .ro 0 .dyn]⟩,
    ⟨"NUM_STAT_QP", 0x1400010, [], 32,
      [fd "qp" 13 0 .rw 0]⟩,
    ⟨"NUM_STAT_SEL", 0x1400020, [], 32,
      [fd "handle" 15 0 .rw 0, fd "section" 19 16 .rw 0, fd "slot" 20 20 .rw 0]⟩,
    ⟨"NUM_STAT_CMD", 0x1400024, [], 32,
      [fd "read" 0 0 .wo 0, fd "clear" 1 1 .wo 0]⟩,
    ⟨"NUM_STAT_STAT", 0x1400028, [], 32,
      [fd "epoch" 15 0 .ro 0, fd "valid" 16 16 .ro 0, fd "sse_sat" 17 17 .ro 0]⟩]

/-- NUM registers, part 2 (08_numeric_formats_and_quantisation.md, R191-R216). -/
def regsNUM2 : List RegDef := counters 0x1400030 [] [
    "NUM_STAT_OUTPUTS", "NUM_STAT_SAMPLES", "NUM_STAT_SSE", "NUM_STAT_SAT", "NUM_STAT_PASSES",
    "NUM_STAT_WIDENED"]

/-- NUM registers, part 3 (08_numeric_formats_and_quantisation.md, R191-R216). -/
def regsNUM3 : List RegDef := [
    ⟨"NUM_STAT_MAXERR", 0x1400060, [], 32,
      [fd "max_e8" 31 0 .ro 0]⟩]

/-- NUM registers, part 4 (08_numeric_formats_and_quantisation.md, R191-R216). -/
def regsNUM4 : List RegDef := counters 0x1401000 [] [
    "NUM_SAT_ACC", "NUM_SAT_OUT", "NUM_SAT_EXP", "NUM_SAT_ESC", "NUM_ESC_ORPHAN",
    "NUM_BAD_SHIFT", "NUM_EPOCH_COMMITS", "NUM_WIDEN_RUNS", "NUM_WIDEN_SAT", "NUM_WIDEN_NONE",
    "NUM_RETAIN_VIOL", "NUM_EPOCH_BUSY", "NUM_STAT_DROP"]

/-- The registers of the NUM block. -/
def regsNUM : List RegDef := regsNUM1 ++ regsNUM2 ++ regsNUM3 ++ regsNUM4

/-- BAY registers, part 1 (09_model_residency.md, R217-R241). -/
def regsBAY1 : List RegDef := [
    ⟨"BAY_CTRL", 0x1500000, [], 32,
      [fd "enable" 0 0 .rw 0]⟩,
    ⟨"BAY_STAT", 0x1500004, [], 32,
      [fd "resident" 8 0 .ro 0 .dyn, fd "paging" 11 9 .ro 0 .dyn, fd "serving" 15 12 .ro 0xf .dyn]⟩,
    ⟨"BAY_SERVE_RESERVE", 0x1500008, [], 32,
      [fd "fields" 2 0 .rw 4]⟩,
    ⟨"BAY_SLOT_SIZE", 0x150000c, [], 32,
      [fd "size" 1 0 .rw 3]⟩,
    ⟨"BAY_HBM_IMG", 0x1500010, [], 32,
      [fd "gib" 6 0 .rw 8]⟩,
    ⟨"BAY_PLOT_STALL", 0x1500014, [], 32,
      [fd "ns" 31 0 .rw 0x989680]⟩,
    ⟨"BAY_PIN_TERM", 0x1500018, [], 32,
      [fd "ns" 31 0 .rw 0]⟩,
    ⟨"BAY_PAGE_MAX", 0x150001c, [], 32,
      [fd "n" 2 0 .rw 4]⟩,
    ⟨"BAY_CLASS", 0x1500040, [(4, 8)], 32,
      [fd "strict" 0 0 .rw 0, fd "quantum" 27 16 .rw 0x100]⟩,
    ⟨"BAY_CMD", 0x1500100, [], 32,
      [fd "go" 0 0 .wo 0]⟩,
    ⟨"BAY_CMD_STAT", 0x1500104, [], 32,
      [fd "done" 0 0 .ro 1, fd "status" 4 1 .ro 0]⟩,
    ⟨"BAY_CMD_DATA", 0x1500140, [(4, 16)], 32,
      [fd "word" 31 0 .rw 0]⟩]

/-- BAY registers, part 2 (09_model_residency.md, R217-R241). -/
def regsBAY2 : List RegDef := [
    ⟨"BAY_CAT_SEL", 0x1500200, [], 32,
      [fd "handle" 15 0 .rw 0]⟩,
    ⟨"BAY_CAT_CMD", 0x1500204, [], 32,
      [fd "read" 0 0 .wo 0]⟩,
    ⟨"BAY_CAT_DATA", 0x1500240, [(4, 8)], 32,
      [fd "word" 31 0 .ro 0]⟩]

/-- BAY registers, part 3 (09_model_residency.md, R217-R241). -/
def regsBAY3 : List RegDef := counters 0x1501000 [] [
    "BAY_MISS", "BAY_PAGE_INS", "BAY_PAGE_JOIN", "BAY_EVICT", "BAY_EVICT_FRAG",
    "BAY_PLACE_WAIT_NS", "BAY_DIGEST_FAIL"]

/-- BAY registers, part 4 (09_model_residency.md, R217-R241). -/
def regsBAY4 : List RegDef := [
    ⟨"BAY_LOAD_FAIL", 0x1501038, [], 32,
      [fd "count" 31 0 .ro 0]⟩,
    ⟨"BAY_PAGE_FAIL", 0x150103c, [], 32,
      [fd "count" 31 0 .ro 0]⟩]

/-- BAY registers, part 5 (09_model_residency.md, R217-R241). -/
def regsBAY5 : List RegDef := counters 0x1501040 [] [
    "BAY_REVOKE", "BAY_STALL_REVOKE", "BAY_STATE_RESET", "BAY_SLOT_DENIED", "BAY_SLOT_OVERSIZE",
    "BAY_PIN_EXPIRED", "BAY_ROWS"]

/-- The registers of the BAY block. -/
def regsBAY : List RegDef := regsBAY1 ++ regsBAY2 ++ regsBAY3 ++ regsBAY4 ++ regsBAY5

/-- ADP registers, part 1 (10_adaptation_mode.md, R242-R261). -/
def regsADP1 : List RegDef := [
    ⟨"ADP_CTRL", 0x1600000, [], 32,
      [fd "enable" 0 0 .rw 0]⟩,
    ⟨"ADP_CACHE_GIB", 0x1600004, [], 32,
      [fd "gib" 5 0 .rw 4]⟩,
    ⟨"ADP_GRANT_TERM", 0x1600008, [], 32,
      [fd "ns" 31 0 .rw 0]⟩,
    ⟨"ADP_CMD", 0x1600010, [], 32,
      [fd "go" 0 0 .wo 0]⟩,
    ⟨"ADP_CMD_STAT", 0x1600014, [], 32,
      [fd "done" 0 0 .ro 1, fd "status" 4 1 .ro 0]⟩,
    ⟨"ADP_CMD_DATA", 0x1600040, [(4, 16)], 32,
      [fd "word" 31 0 .rw 0]⟩,
    ⟨"ADP_JOB_STAT", 0x1600100, [(0x20, 4)], 32,
      [fd "state" 1 0 .ro 0 .dyn, fd "fields" 7 4 .ro 0 .dyn, fd "last_cause" 11 8 .ro 0 .dyn, fd "t_epoch" 31 16 .ro 0 .dyn]⟩,
    ⟨"ADP_JOB_STEP", 0x1600104, [(0x20, 4)], 32,
      [fd "step" 25 0 .ro 0 .dyn]⟩,
    ⟨"ADP_JOB_CKPT_SEQ", 0x1600108, [(0x20, 4)], 32,
      [fd "seq" 31 0 .ro 0 .dyn]⟩,
    ⟨"ADP_JOB_GRANT_LEFT", 0x160010c, [(0x20, 4)], 32,
      [fd "ns" 31 0 .ro 0 .dyn]⟩]

/-- ADP registers, part 2 (10_adaptation_mode.md, R242-R261). -/
def regsADP2 : List RegDef := counters 0x1601000 [] [
    "ADP_BATCHES", "ADP_BATCH_RERUN", "ADP_SAMPLES", "ADP_SKIP", "ADP_TRUNC",
    "ADP_CACHE_MISS", "ADP_SAT_RED", "ADP_SAT_OPT", "ADP_REVOKE", "ADP_CKPT"]

/-- The registers of the ADP block. -/
def regsADP : List RegDef := regsADP1 ++ regsADP2

/-- HIF registers, part 1 (11_host_rings_and_protection.md, R262-R290). -/
def regsHIF1 : List RegDef := [
    ⟨"HIF_CTRL", 0x1700000, [], 32,
      [fd "enable" 0 0 .rw 0]⟩,
    ⟨"HIF_EVENT_QP", 0x1700004, [], 32,
      [fd "qp" 13 0 .rw 0]⟩,
    ⟨"HIF_LTR", 0x1700008, [], 32,
      [fd "snoop" 15 0 .rw 0, fd "no_snoop" 31 16 .rw 0]⟩,
    ⟨"HIF_WAKE_BUDGET", 0x1700010, [(4, 4)], 32,
      [fd "budget_ns" 31 0 .rw 0]⟩,
    ⟨"HIF_WAKE_DEV", 0x1700020, [], 32,
      [fd "budget_ns" 31 0 .rw 0]⟩,
    ⟨"HIF_QP_CMD", 0x1700100, [], 32,
      [fd "qp" 13 0 .wo 0, fd "op" 18 16 .wo 0]⟩,
    ⟨"HIF_QP_STAT", 0x1700104, [], 32,
      [fd "done" 0 0 .ro 1, fd "status" 3 1 .ro 0]⟩,
    ⟨"HIF_QP_DATA0", 0x1700140, [], 32,
      [fd "func" 6 0 .rw 0, fd "local" 15 7 .rw 0, fd "domain" 23 16 .rw 0, fd "state" 25 24 .ro 0]⟩,
    ⟨"HIF_QP_DATA1", 0x1700144, [(4, 4)], 32,
      [fd "word" 31 0 .rw 0]⟩,
    ⟨"HIF_QP_DATA5", 0x1700154, [(4, 2)], 32,
      [fd "size" 16 0 .rw 0]⟩,
    ⟨"HIF_QP_DATA7", 0x170015c, [], 32,
      [fd "vector" 10 0 .rw 0, fd "mod_count" 23 16 .rw 0]⟩,
    ⟨"HIF_QP_DATA8", 0x1700160, [], 32,
      [fd "mod_ns" 31 0 .rw 0]⟩]

/-- HIF registers, part 2 (11_host_rings_and_protection.md, R262-R290). -/
def regsHIF2 : List RegDef := [
    ⟨"HIF_QP_DATA9", 0x1700164, [], 32,
      [fd "copy_rate" 23 0 .rw 0x2710]⟩,
    ⟨"HIF_QP_DATA10", 0x1700168, [], 32,
      [fd "copy_burst" 15 0 .rw 0x40]⟩,
    ⟨"HIF_QP_DATA11", 0x170016c, [], 32,
      [fd "sq_head" 15 0 .ro 0, fd "epoch" 31 16 .ro 0]⟩,
    ⟨"HIF_DOM_SEL", 0x1700200, [], 32,
      [fd "domain" 7 0 .rw 0]⟩,
    ⟨"HIF_DOM_EPOCH", 0x1700204, [], 32,
      [fd "epoch" 15 0 .rw 0 .dyn, fd "drain_abort" 16 16 .wo 0]⟩,
    ⟨"HIF_DOM_FLAGS", 0x1700208, [], 32,
      [fd "rights" 3 0 .rw 0 .dyn]⟩,
    ⟨"HIF_DOM_STAT", 0x170020c, [], 32,
      [fd "drained" 0 0 .ro 1 .dyn, fd "pending" 1 1 .ro 0 .dyn, fd "busy" 2 2 .w1c 0 .dyn]⟩,
    ⟨"HIF_DOM_WIN_BASE", 0x1701000, [(0x10, 64)], 64,
      [fd "read" 0 0 .rw 0 .dyn, fd "write" 1 1 .rw 0 .dyn, fd "valid" 2 2 .rw 0 .dyn, fd "base" 63 12 .rw 0 .dyn]⟩,
    ⟨"HIF_DOM_WIN_LEN", 0x1701008, [(0x10, 64)], 64,
      [fd "length" 63 12 .rw 0 .dyn]⟩,
    ⟨"HIF_DOM_MSET", 0x1702000, [(4, 2048)], 32,
      [fd "mset" 31 0 .rw 0 .dyn]⟩]

/-- HIF registers, part 3 (11_host_rings_and_protection.md, R262-R290). -/
def regsHIF3 : List RegDef := counters 0x1704000 [] [
    "HIF_DESC", "HIF_DB_BAD", "HIF_DB_IGNORED", "HIF_LEN_REFUSED", "HIF_WINDOW_REFUSED",
    "HIF_DENIED", "HIF_REVOKED", "HIF_FENCED", "HIF_ABORT_DISCARD", "HIF_COPY_DROP"]

/-- The registers of the HIF block. -/
def regsHIF : List RegDef := regsHIF1 ++ regsHIF2 ++ regsHIF3

/-- OSL registers, part 1 (12_oslink_and_scale_out.md, R291-R318). -/
def regsOSL1 : List RegDef := [
    ⟨"OSL_CTRL", 0x1800000, [], 32,
      [fd "enable" 0 0 .rw 0, fd "mode" 2 1 .rw 0 .option, fd "rrst_en" 3 3 .ro 0 .option]⟩,
    ⟨"OSL_TOPO", 0x1800004, [], 32,
      [fd "nx1" 4 0 .rw 0 .option, fd "ny1" 9 5 .rw 0 .option, fd "nz1" 14 10 .rw 0 .option]⟩,
    ⟨"OSL_CHIP_ADDR", 0x1800008, [], 32,
      [fd "addr" 14 0 .rw 0 .option]⟩,
    ⟨"OSL_SYS_ID", 0x180000c, [], 32,
      [fd "id" 15 0 .rw 0 .option]⟩,
    ⟨"OSL_ABSENT_NS", 0x1800010, [], 32,
      [fd "ns" 31 0 .rw 0xf4240]⟩,
    ⟨"OSL_RETRY_NS", 0x1800014, [], 32,
      [fd "ns" 31 0 .rw 0x5f5e100]⟩,
    ⟨"OSL_LANE_THR", 0x1800018, [], 32,
      [fd "symbols" 31 0 .rw 0x1000]⟩,
    ⟨"OSL_LBYP_CTRL", 0x1800020, [], 32,
      [fd "open" 7 0 .wo 0, fd "close" 15 8 .wo 0]⟩,
    ⟨"OSL_LBYP_STAT", 0x1800024, [], 32,
      [fd "pin" 7 0 .ro 0 .dyn, fd "open_refused" 15 8 .w1c 0]⟩,
    ⟨"OSL_RRST", 0x1800030, [], 32,
      [fd "target" 14 0 .rw 0, fd "go" 16 16 .wo 0]⟩,
    ⟨"OSL_RRST_CODE", 0x1800034, [], 32,
      [fd "code" 31 0 .rw 0]⟩,
    ⟨"OSL_RRST_KEY", 0x1800038, [], 32,
      [fd "key" 31 0 .ro 0 .option]⟩]

/-- OSL registers, part 2 (12_oslink_and_scale_out.md, R291-R318). -/
def regsOSL2 : List RegDef := [
    ⟨"OSL_PROG_SEL", 0x1800040, [], 32,
      [fd "prog" 3 0 .rw 0]⟩,
    ⟨"OSL_PROG_CMD", 0x1800044, [], 32,
      [fd "op" 2 0 .wo 0]⟩,
    ⟨"OSL_PROG_STAT", 0x1800048, [], 32,
      [fd "done" 0 0 .ro 1, fd "status" 3 1 .ro 0]⟩,
    ⟨"OSL_PROG_STATE", 0x180004c, [], 32,
      [fd "state" 31 0 .ro 0 .dyn]⟩,
    ⟨"OSL_PROG_DATA0", 0x1800060, [], 32,
      [fd "handle" 15 0 .rw 0, fd "field" 17 16 .rw 0, fd "x0" 23 18 .rw 0, fd "y0" 29 24 .rw 0, fd "valid" 30 30 .rw 0]⟩,
    ⟨"OSL_PROG_DATA1", 0x1800064, [], 32,
      [fd "origin" 14 0 .rw 0, fd "bx1" 19 15 .rw 0, fd "by1" 24 20 .rw 0, fd "bz1" 29 25 .rw 0]⟩,
    ⟨"OSL_PROG_DATA2", 0x1800068, [(4, 2)], 32,
      [fd "pc0" 14 0 .rw 0, fd "valid0" 15 15 .rw 0, fd "pc1" 30 16 .rw 0, fd "valid1" 31 31 .rw 0]⟩,
    ⟨"OSL_PROG_DATA4", 0x1800070, [(4, 4)], 32,
      [fd "pc" 14 0 .rw 0, fd "chip" 29 15 .rw 0, fd "valid" 31 31 .rw 0]⟩,
    ⟨"OSL_LINK_CTRL", 0x1801000, [(0x100, 16)], 32,
      [fd "enable" 0 0 .rw 0, fd "medium" 1 1 .rw 0, fd "retrain" 2 2 .wo 0]⟩,
    ⟨"OSL_LINK_STAT", 0x1801004, [(0x100, 16)], 32,
      [fd "state" 2 0 .ro 0 .dyn, fd "width" 4 3 .ro 0 .dyn, fd "fail_reason" 7 5 .ro 0 .dyn, fd "peer" 22 8 .ro 0 .dyn, fd "peer_valid" 23 23 .ro 0 .dyn, fd "lanes_good" 27 24 .ro 0 .dyn]⟩,
    ⟨"OSL_LANE_POL", 0x1801008, [(0x100, 16)], 32,
      [fd "rx" 3 0 .rw 0 .option, fd "tx" 7 4 .rw 0 .option]⟩]

/-- OSL registers, part 3 (12_oslink_and_scale_out.md, R291-R318). -/
def regsOSL3 : List RegDef := counters 0x1801020 [(0x100, 16)] [
    "OSL_FRAMES_TX", "OSL_FRAMES_RX", "OSL_FEC_CORR", "OSL_FEC_UNCORR", "OSL_CRC_ERR",
    "OSL_REPLAY", "OSL_RETRAIN", "OSL_DOWN"]

/-- OSL registers, part 4 (12_oslink_and_scale_out.md, R291-R318). -/
def regsOSL4 : List RegDef := counters 0x1802000 [] [
    "OSL_DETOUR", "OSL_UNDELIVERABLE", "OSL_STALE_GEN", "OSL_PROG_ABORT", "OSL_NOT_HOME",
    "OSL_EPOCH_MISS", "OSL_HALT_DROP", "OSL_RRST_REFUSED"]

/-- The registers of the OSL block. -/
def regsOSL : List RegDef := regsOSL1 ++ regsOSL2 ++ regsOSL3 ++ regsOSL4

/-- REP registers, part 1 (15_repair_faults_and_returns.md, R361-R381). -/
def regsREP1 : List RegDef := [
    ⟨"REP_CTRL", 0x1a00000, [], 32,
      [fd "wdog_en" 0 0 .rw 1, fd "ce_retire" 1 1 .rw 1, fd "capsule_auto" 6 2 .rw 0x1f .option, fd "keep_first" 7 7 .rw 1]⟩,
    ⟨"REP_WDOG_NS", 0x1a00004, [], 32,
      [fd "ns" 31 0 .rw 0xc350]⟩,
    ⟨"REP_CE_THR", 0x1a00008, [], 32,
      [fd "count" 15 0 .rw 0x10]⟩,
    ⟨"REP_VEC", 0x1a0000c, [], 32,
      [fd "vector" 10 0 .rw 0, fd "enable" 16 16 .rw 0]⟩,
    ⟨"REP_CMD", 0x1a00010, [], 32,
      [fd "retire" 0 0 .wo 0, fd "x" 7 2 .wo 0, fd "y" 13 8 .wo 0]⟩,
    ⟨"REP_CMD_STAT", 0x1a00014, [], 32,
      [fd "done" 0 0 .ro 1, fd "status" 2 1 .ro 0]⟩,
    ⟨"REP_FAULT_CMD", 0x1a00018, [], 32,
      [fd "pop" 0 0 .wo 0]⟩,
    ⟨"REP_FAULT_STAT", 0x1a0001c, [], 32,
      [fd "count" 8 0 .ro 0 .dyn, fd "overflow" 9 9 .w1c 0]⟩,
    ⟨"REP_FAULT_DATA", 0x1a00020, [(4, 4)], 32,
      [fd "word" 31 0 .ro 0]⟩,
    ⟨"REP_CAPSULE_STAT", 0x1a00030, [], 32,
      [fd "stored_valid" 0 0 .ro 0 .dyn, fd "capturing" 1 1 .ro 0 .dyn, fd "storing" 2 2 .ro 0 .dyn, fd "stored_trigger" 6 3 .ro 0 .dyn, fd "stored_seq" 31 16 .ro 0 .dyn]⟩,
    ⟨"REP_FIELD_STAT", 0x1a00040, [(4, 4)], 32,
      [fd "state" 1 0 .ro 0 .dyn, fd "defects" 9 2 .ro 0 .fuseDyn, fd "retired" 20 10 .ro 0 .dyn, fd "remap_running" 21 21 .ro 0 .dyn, fd "remap_pending" 22 22 .ro 0 .dyn]⟩,
    ⟨"REP_RETIRED", 0x1a00100, [(0x80, 4), (4, 32)], 32,
      [fd "retired" 31 0 .ro 0 .dyn]⟩]

/-- REP registers, part 2 (15_repair_faults_and_returns.md, R361-R381). -/
def regsREP2 : List RegDef := counters 0x1a01000 [] [
    "REP_WDOG_FIRED", "REP_RETIRE", "REP_REMAP", "REP_REMAP_REMOVE", "REP_REMAP_BUSY",
    "REP_TILE_CE", "REP_TILE_UE", "REP_SS_CE", "REP_SS_UE", "REP_HBM_CE",
    "REP_HBM_UE", "REP_TABLE_CE", "REP_TABLE_UE", "REP_LINES_RETIRED", "REP_STATE_LOST",
    "REP_SMB_STUCK", "REP_PMB_STUCK", "REP_LEDGER_FULL", "REP_CHAL_FAIL", "REP_CAPSULE"]

/-- The registers of the REP block. -/
def regsREP : List RegDef := regsREP1 ++ regsREP2

/-- SAG registers, part 1 (11_host_rings_and_protection.md, R288,R290). -/
def regsSAG1 : List RegDef := [
    ⟨"SAG_MBOX_CMD", 0x1b00000, [], 32,
      [fd "cmd" 7 0 .wo 0]⟩,
    ⟨"SAG_MBOX_STAT", 0x1b00004, [], 32,
      [fd "busy" 0 0 .ro 0, fd "refused" 1 1 .w1c 0, fd "status" 5 2 .ro 0]⟩,
    ⟨"SAG_MBOX_VEC", 0x1b00008, [], 32,
      [fd "vector" 10 0 .rw 0, fd "enable" 16 16 .rw 0]⟩,
    ⟨"SAG_FW_VER", 0x1b0000c, [], 32,
      [fd "version" 31 0 .ro 0 .fuse]⟩,
    ⟨"SAG_MBOX_ARG", 0x1b00040, [(4, 8)], 32,
      [fd "arg" 31 0 .rw 0]⟩,
    ⟨"SAG_MBOX_RSP", 0x1b00080, [(4, 16)], 32,
      [fd "rsp" 31 0 .ro 0]⟩]

/-- The registers of the SAG block. -/
def regsSAG : List RegDef := regsSAG1

/-- The block map (R382). Core blocks are the ones *Reset and bring-up* gates by core_ready. -/
def blockMap : List BlockDef :=
  [⟨"GLB", 0x0, 0x100000, false, regsGLB⟩,
   ⟨"RST", 0x100000, 0x200000, false, regsRST⟩,
   ⟨"PAC", 0x200000, 0x300000, true, regsPAC⟩,
   ⟨"THY", 0x300000, 0x400000, false, regsTHY⟩,
   ⟨"MAC", 0x400000, 0x600000, false, regsMAC⟩,
   ⟨"PRS", 0x600000, 0x800000, true, regsPRS⟩,
   ⟨"RUL", 0x800000, 0xc00000, true, regsRUL⟩,
   ⟨"ERP", 0xc00000, 0xd00000, true, regsERP⟩,
   ⟨"SFE", 0xd00000, 0x1000000, true, regsSFE⟩,
   ⟨"FAB", 0x1000000, 0x1400000, true, regsFAB⟩,
   ⟨"NUM", 0x1400000, 0x1500000, true, regsNUM⟩,
   ⟨"BAY", 0x1500000, 0x1600000, true, regsBAY⟩,
   ⟨"ADP", 0x1600000, 0x1700000, true, regsADP⟩,
   ⟨"HIF", 0x1700000, 0x1800000, true, regsHIF⟩,
   ⟨"OSL", 0x1800000, 0x1a00000, true, regsOSL⟩,
   ⟨"REP", 0x1a00000, 0x1b00000, true, regsREP⟩,
   ⟨"SAG", 0x1b00000, 0x1c00000, false, regsSAG⟩]

namespace Reg

/-- GLB_ID. -/
def GLB_ID : Nat := 0
/-- GLB_ID.device. -/
def GLB_ID_device : Fld := ⟨GLB_ID, 15, 0⟩
/-- GLB_ID.family. -/
def GLB_ID_family : Fld := ⟨GLB_ID, 31, 16⟩
/-- GLB_REV. -/
def GLB_REV : Nat := 4
/-- GLB_REV.step. -/
def GLB_REV_step : Fld := ⟨GLB_REV, 7, 0⟩
/-- GLB_REV.letter. -/
def GLB_REV_letter : Fld := ⟨GLB_REV, 15, 8⟩
/-- GLB_PART. -/
def GLB_PART : Nat := 8
/-- GLB_PART.bin. -/
def GLB_PART_bin : Fld := ⟨GLB_PART, 0, 0⟩
/-- GLB_PART.cap_w. -/
def GLB_PART_cap_w : Fld := ⟨GLB_PART, 15, 8⟩
/-- GLB_CAP. -/
def GLB_CAP : Nat := 0xc
/-- GLB_CAP.ports. -/
def GLB_CAP_ports : Fld := ⟨GLB_CAP, 4, 0⟩
/-- GLB_CAP.links. -/
def GLB_CAP_links : Fld := ⟨GLB_CAP, 9, 5⟩
/-- GLB_CAP.fields. -/
def GLB_CAP_fields : Fld := ⟨GLB_CAP, 12, 10⟩
/-- GLB_CAP.vfs. -/
def GLB_CAP_vfs : Fld := ⟨GLB_CAP, 23, 16⟩
/-- GLB_SERIAL. -/
def GLB_SERIAL : Nat := 0x10
/-- GLB_SERIAL.serial. -/
def GLB_SERIAL_serial : Fld := ⟨GLB_SERIAL, 63, 0⟩
/-- GLB_FUSE_VER. -/
def GLB_FUSE_VER : Nat := 0x18
/-- GLB_FUSE_VER.version. -/
def GLB_FUSE_VER_version : Fld := ⟨GLB_FUSE_VER, 31, 0⟩
/-- GLB_SCRATCH. -/
def GLB_SCRATCH (i : Nat) : Nat := 0x20 + 4 * i
/-- GLB_SCRATCH.word. -/
def GLB_SCRATCH_word (i : Nat) : Fld := ⟨GLB_SCRATCH i, 31, 0⟩
/-- GLB_ACC_STAT. -/
def GLB_ACC_STAT : Nat := 0x30
/-- GLB_ACC_STAT.bad_access. -/
def GLB_ACC_STAT_bad_access : Fld := ⟨GLB_ACC_STAT, 0, 0⟩
/-- GLB_ACC_ADDR. -/
def GLB_ACC_ADDR : Nat := 0x34
/-- GLB_ACC_ADDR.addr. -/
def GLB_ACC_ADDR_addr : Fld := ⟨GLB_ACC_ADDR, 24, 0⟩
/-- GLB_ACC_ERR. -/
def GLB_ACC_ERR : Nat := 0x40
/-- GLB_ACC_ERR.count. -/
def GLB_ACC_ERR_count : Fld := ⟨GLB_ACC_ERR, 63, 0⟩
/-- RST_CTRL. -/
def RST_CTRL : Nat := 0x100000
/-- RST_CTRL.full. -/
def RST_CTRL_full : Fld := ⟨RST_CTRL, 0, 0⟩
/-- RST_CTRL.key. -/
def RST_CTRL_key : Fld := ⟨RST_CTRL, 15, 8⟩
/-- RST_STAT. -/
def RST_STAT : Nat := 0x100004
/-- RST_STAT.phase. -/
def RST_STAT_phase : Fld := ⟨RST_STAT, 3, 0⟩
/-- RST_STAT.core_ready. -/
def RST_STAT_core_ready : Fld := ⟨RST_STAT, 4, 4⟩
/-- RST_STAT.early_access. -/
def RST_STAT_early_access : Fld := ⟨RST_STAT, 5, 5⟩
/-- RST_STAT.bus_hang. -/
def RST_STAT_bus_hang : Fld := ⟨RST_STAT, 6, 6⟩
/-- RST_STAT.bad_key. -/
def RST_STAT_bad_key : Fld := ⟨RST_STAT, 7, 7⟩
/-- RST_STAT.halt_reason. -/
def RST_STAT_halt_reason : Fld := ⟨RST_STAT, 11, 8⟩
/-- RST_CAUSE. -/
def RST_CAUSE : Nat := 0x100008
/-- RST_CAUSE.cause. -/
def RST_CAUSE_cause : Fld := ⟨RST_CAUSE, 8, 0⟩
/-- RST_ISO. -/
def RST_ISO : Nat := 0x10000c
/-- RST_ISO.iso. -/
def RST_ISO_iso : Fld := ⟨RST_ISO, 6, 0⟩
/-- RST_IDLE. -/
def RST_IDLE : Nat := 0x100010
/-- RST_IDLE.idle. -/
def RST_IDLE_idle : Fld := ⟨RST_IDLE, 6, 0⟩
/-- RST_FW_STAT. -/
def RST_FW_STAT : Nat := 0x100014
/-- RST_FW_STAT.slot. -/
def RST_FW_STAT_slot : Fld := ⟨RST_FW_STAT, 0, 0⟩
/-- RST_FW_STAT.fallback. -/
def RST_FW_STAT_fallback : Fld := ⟨RST_FW_STAT, 1, 1⟩
/-- RST_FW_STAT.rom_only. -/
def RST_FW_STAT_rom_only : Fld := ⟨RST_FW_STAT, 2, 2⟩
/-- RST_FW_STAT.a_valid. -/
def RST_FW_STAT_a_valid : Fld := ⟨RST_FW_STAT, 3, 3⟩
/-- RST_FW_STAT.b_valid. -/
def RST_FW_STAT_b_valid : Fld := ⟨RST_FW_STAT, 4, 4⟩
/-- RST_OPT_STAT. -/
def RST_OPT_STAT : Nat := 0x100018
/-- RST_OPT_STAT.source. -/
def RST_OPT_STAT_source : Fld := ⟨RST_OPT_STAT, 1, 0⟩
/-- RST_OPT_STAT.ignored. -/
def RST_OPT_STAT_ignored : Fld := ⟨RST_OPT_STAT, 15, 8⟩
/-- RST_OPT_STAT.refused. -/
def RST_OPT_STAT_refused : Fld := ⟨RST_OPT_STAT, 23, 16⟩
/-- RST_WDOG. -/
def RST_WDOG : Nat := 0x10001c
/-- RST_WDOG.boot_ms. -/
def RST_WDOG_boot_ms : Fld := ⟨RST_WDOG, 13, 0⟩
/-- RST_WDOG.run_ms. -/
def RST_WDOG_run_ms : Fld := ⟨RST_WDOG, 29, 16⟩
/-- RST_PHASE_NS. -/
def RST_PHASE_NS (i : Nat) : Nat := 0x100020 + 4 * i
/-- RST_PHASE_NS.ns. -/
def RST_PHASE_NS_ns (i : Nat) : Fld := ⟨RST_PHASE_NS i, 31, 0⟩
/-- RST_AON_SCR. -/
def RST_AON_SCR (i : Nat) : Nat := 0x100040 + 4 * i
/-- RST_AON_SCR.word. -/
def RST_AON_SCR_word (i : Nat) : Fld := ⟨RST_AON_SCR i, 31, 0⟩
/-- RST_BUS_TIMEOUT. -/
def RST_BUS_TIMEOUT : Nat := 0x100100
/-- RST_BUS_TIMEOUT.count. -/
def RST_BUS_TIMEOUT_count : Fld := ⟨RST_BUS_TIMEOUT, 63, 0⟩
/-- PAC_CTRL. -/
def PAC_CTRL : Nat := 0x200000
/-- PAC_CTRL.enable. -/
def PAC_CTRL_enable : Fld := ⟨PAC_CTRL, 0, 0⟩
/-- PAC_CTRL.gate_en. -/
def PAC_CTRL_gate_en : Fld := ⟨PAC_CTRL, 1, 1⟩
/-- PAC_CTRL.sleep_en. -/
def PAC_CTRL_sleep_en : Fld := ⟨PAC_CTRL, 2, 2⟩
/-- PAC_TARGET. -/
def PAC_TARGET : Nat := 0x200004
/-- PAC_TARGET.target_mgs. -/
def PAC_TARGET_target_mgs : Fld := ⟨PAC_TARGET, 15, 0⟩
/-- PAC_TARGET.hyst_mgs. -/
def PAC_TARGET_hyst_mgs : Fld := ⟨PAC_TARGET, 23, 16⟩
/-- PAC_VLIM. -/
def PAC_VLIM : Nat := 0x200008
/-- PAC_VLIM.vmin_mv. -/
def PAC_VLIM_vmin_mv : Fld := ⟨PAC_VLIM, 9, 0⟩
/-- PAC_VLIM.vmax_mv. -/
def PAC_VLIM_vmax_mv : Fld := ⟨PAC_VLIM, 25, 16⟩
/-- PAC_STEP. -/
def PAC_STEP : Nat := 0x20000c
/-- PAC_STEP.step_mv. -/
def PAC_STEP_step_mv : Fld := ⟨PAC_STEP, 4, 0⟩
/-- PAC_CAP. -/
def PAC_CAP : Nat := 0x200010
/-- PAC_CAP.cap_w. -/
def PAC_CAP_cap_w : Fld := ⟨PAC_CAP, 7, 0⟩
/-- PAC_STAT. -/
def PAC_STAT : Nat := 0x200014
/-- PAC_STAT.vdd_mv. -/
def PAC_STAT_vdd_mv : Fld := ⟨PAC_STAT, 9, 0⟩
/-- PAC_STAT.running. -/
def PAC_STAT_running : Fld := ⟨PAC_STAT, 10, 10⟩
/-- PAC_STAT.pending. -/
def PAC_STAT_pending : Fld := ⟨PAC_STAT, 11, 11⟩
/-- PAC_STAT.busy. -/
def PAC_STAT_busy : Fld := ⟨PAC_STAT, 12, 12⟩
/-- PAC_STAT.cap_limited. -/
def PAC_STAT_cap_limited : Fld := ⟨PAC_STAT, 13, 13⟩
/-- PAC_STAT.gated. -/
def PAC_STAT_gated : Fld := ⟨PAC_STAT, 14, 14⟩
/-- PAC_STAT.throttle. -/
def PAC_STAT_throttle : Fld := ⟨PAC_STAT, 15, 15⟩
/-- PAC_STAT.avs_fault. -/
def PAC_STAT_avs_fault : Fld := ⟨PAC_STAT, 16, 16⟩
/-- PAC_POWER. -/
def PAC_POWER : Nat := 0x200018
/-- PAC_POWER.avg_cw. -/
def PAC_POWER_avg_cw : Fld := ⟨PAC_POWER, 15, 0⟩
/-- PAC_POWER.last_cw. -/
def PAC_POWER_last_cw : Fld := ⟨PAC_POWER, 31, 16⟩
/-- PAC_TJ_MAX. -/
def PAC_TJ_MAX : Nat := 0x20001c
/-- PAC_TJ_MAX.tj. -/
def PAC_TJ_MAX_tj : Fld := ⟨PAC_TJ_MAX, 7, 0⟩
/-- PAC_TJ_MAX.sensor. -/
def PAC_TJ_MAX_sensor : Fld := ⟨PAC_TJ_MAX, 11, 8⟩
/-- PAC_PACE. -/
def PAC_PACE (i : Nat) : Nat := 0x200020 + 4 * i
/-- PAC_PACE.pace_mgs. -/
def PAC_PACE_pace_mgs (i : Nat) : Fld := ⟨PAC_PACE i, 15, 0⟩
/-- PAC_PACE.min_mgs. -/
def PAC_PACE_min_mgs (i : Nat) : Fld := ⟨PAC_PACE i, 31, 16⟩
/-- PAC_FLD_STATE. -/
def PAC_FLD_STATE (i : Nat) : Nat := 0x200030 + 4 * i
/-- PAC_FLD_STATE.state. -/
def PAC_FLD_STATE_state (i : Nat) : Fld := ⟨PAC_FLD_STATE i, 1, 0⟩
/-- PAC_FLD_STATE.hold_active. -/
def PAC_FLD_STATE_hold_active (i : Nat) : Fld := ⟨PAC_FLD_STATE i, 2, 2⟩
/-- PAC_DEV_STATE. -/
def PAC_DEV_STATE : Nat := 0x200040
/-- PAC_DEV_STATE.idle. -/
def PAC_DEV_STATE_idle : Fld := ⟨PAC_DEV_STATE, 0, 0⟩
/-- PAC_DWELL_QUIET. -/
def PAC_DWELL_QUIET : Nat := 0x200044
/-- PAC_DWELL_QUIET.ns. -/
def PAC_DWELL_QUIET_ns : Fld := ⟨PAC_DWELL_QUIET, 31, 0⟩
/-- PAC_DWELL_RET. -/
def PAC_DWELL_RET : Nat := 0x200048
/-- PAC_DWELL_RET.ns. -/
def PAC_DWELL_RET_ns : Fld := ⟨PAC_DWELL_RET, 31, 0⟩
/-- PAC_DWELL_OFF. -/
def PAC_DWELL_OFF : Nat := 0x20004c
/-- PAC_DWELL_OFF.ns. -/
def PAC_DWELL_OFF_ns : Fld := ⟨PAC_DWELL_OFF, 31, 0⟩
/-- PAC_GATE. -/
def PAC_GATE : Nat := 0x200050
/-- PAC_GATE.gate_ns. -/
def PAC_GATE_gate_ns : Fld := ⟨PAC_GATE, 16, 0⟩
/-- PAC_TJ. -/
def PAC_TJ (i : Nat) : Nat := 0x200060 + 4 * i
/-- PAC_TJ.tj. -/
def PAC_TJ_tj (i : Nat) : Fld := ⟨PAC_TJ i, 7, 0⟩
/-- PAC_TJ.fault. -/
def PAC_TJ_fault (i : Nat) : Fld := ⟨PAC_TJ i, 8, 8⟩
/-- PAC_DECISIONS. -/
def PAC_DECISIONS : Nat := 0x201000
/-- PAC_VSTEP_UP. -/
def PAC_VSTEP_UP : Nat := 0x201008
/-- PAC_VSTEP_DOWN. -/
def PAC_VSTEP_DOWN : Nat := 0x201010
/-- PAC_PACE_SHORT_NS. -/
def PAC_PACE_SHORT_NS : Nat := 0x201018
/-- PAC_CAP_LIMIT_NS. -/
def PAC_CAP_LIMIT_NS : Nat := 0x201020
/-- PAC_GATE_NS. -/
def PAC_GATE_NS : Nat := 0x201028
/-- PAC_THROTTLE_NS. -/
def PAC_THROTTLE_NS : Nat := 0x201030
/-- PAC_AVS_ERR. -/
def PAC_AVS_ERR : Nat := 0x201038
/-- PAC_PMBUS_ERR. -/
def PAC_PMBUS_ERR : Nat := 0x201040
/-- PAC_SENSOR_FAULT. -/
def PAC_SENSOR_FAULT : Nat := 0x201048
/-- PAC_WAKES. -/
def PAC_WAKES : Nat := 0x201050
/-- PAC_WAKE_LATE. -/
def PAC_WAKE_LATE : Nat := 0x201058
/-- THY_CTRL. -/
def THY_CTRL : Nat := 0x300000
/-- THY_CTRL.src. -/
def THY_CTRL_src : Fld := ⟨THY_CTRL, 1, 0⟩
/-- THY_CTRL.pps_out_en. -/
def THY_CTRL_pps_out_en : Fld := ⟨THY_CTRL, 2, 2⟩
/-- THY_CTRL.step. -/
def THY_CTRL_step : Fld := ⟨THY_CTRL, 3, 3⟩
/-- THY_CTRL.sw_state. -/
def THY_CTRL_sw_state : Fld := ⟨THY_CTRL, 5, 4⟩
/-- THY_STAT. -/
def THY_STAT : Nat := 0x300004
/-- THY_STAT.state. -/
def THY_STAT_state : Fld := ⟨THY_STAT, 1, 0⟩
/-- THY_STAT.adj_busy. -/
def THY_STAT_adj_busy : Fld := ⟨THY_STAT, 2, 2⟩
/-- THY_STAT.holdover_entered. -/
def THY_STAT_holdover_entered : Fld := ⟨THY_STAT, 3, 3⟩
/-- THY_TIME. -/
def THY_TIME : Nat := 0x300008
/-- THY_TIME.time. -/
def THY_TIME_time : Fld := ⟨THY_TIME, 63, 0⟩
/-- THY_SET. -/
def THY_SET : Nat := 0x300010
/-- THY_SET.set. -/
def THY_SET_set : Fld := ⟨THY_SET, 63, 0⟩
/-- THY_ADJ_FREQ. -/
def THY_ADJ_FREQ : Nat := 0x300018
/-- THY_ADJ_FREQ.freq. -/
def THY_ADJ_FREQ_freq : Fld := ⟨THY_ADJ_FREQ, 31, 0⟩
/-- THY_ADJ_PHASE. -/
def THY_ADJ_PHASE : Nat := 0x30001c
/-- THY_ADJ_PHASE.phase. -/
def THY_ADJ_PHASE_phase : Fld := ⟨THY_ADJ_PHASE, 31, 0⟩
/-- THY_PPS_IN_TS. -/
def THY_PPS_IN_TS : Nat := 0x300020
/-- THY_PPS_IN_TS.ts. -/
def THY_PPS_IN_TS_ts : Fld := ⟨THY_PPS_IN_TS, 63, 0⟩
/-- THY_PPS_ERR. -/
def THY_PPS_ERR : Nat := 0x300028
/-- THY_PPS_ERR.err. -/
def THY_PPS_ERR_err : Fld := ⟨THY_PPS_ERR, 31, 0⟩
/-- THY_PPS_OUT_W. -/
def THY_PPS_OUT_W : Nat := 0x30002c
/-- THY_PPS_OUT_W.width. -/
def THY_PPS_OUT_W_width : Fld := ⟨THY_PPS_OUT_W, 31, 0⟩
/-- THY_STEP_CNT. -/
def THY_STEP_CNT : Nat := 0x300030
/-- THY_STEP_CNT.count. -/
def THY_STEP_CNT_count : Fld := ⟨THY_STEP_CNT, 31, 0⟩
/-- THY_PPS_GLITCH. -/
def THY_PPS_GLITCH : Nat := 0x300034
/-- THY_PPS_GLITCH.count. -/
def THY_PPS_GLITCH_count : Fld := ⟨THY_PPS_GLITCH, 31, 0⟩
/-- THY_PTP_CTRL. -/
def THY_PTP_CTRL (i : Nat) : Nat := 0x301000 + 8 * i
/-- THY_PTP_CTRL.mode. -/
def THY_PTP_CTRL_mode (i : Nat) : Fld := ⟨THY_PTP_CTRL i, 1, 0⟩
/-- THY_PTP_CTRL.one_step. -/
def THY_PTP_CTRL_one_step (i : Nat) : Fld := ⟨THY_PTP_CTRL i, 2, 2⟩
/-- THY_PTP_CTRL.l2. -/
def THY_PTP_CTRL_l2 (i : Nat) : Fld := ⟨THY_PTP_CTRL i, 3, 3⟩
/-- THY_PTP_CTRL.udp. -/
def THY_PTP_CTRL_udp (i : Nat) : Fld := ⟨THY_PTP_CTRL i, 4, 4⟩
/-- THY_PTP_LINK_DELAY. -/
def THY_PTP_LINK_DELAY (i : Nat) : Nat := 0x301004 + 8 * i
/-- THY_PTP_LINK_DELAY.delay. -/
def THY_PTP_LINK_DELAY_delay (i : Nat) : Fld := ⟨THY_PTP_LINK_DELAY i, 31, 0⟩
/-- MAC_MODE. -/
def MAC_MODE : Nat := 0x400000
/-- MAC_MODE.mode. -/
def MAC_MODE_mode : Fld := ⟨MAC_MODE, 1, 0⟩
/-- MAC_LANE_POL_RX. -/
def MAC_LANE_POL_RX : Nat := 0x400004
/-- MAC_LANE_POL_RX.invert. -/
def MAC_LANE_POL_RX_invert : Fld := ⟨MAC_LANE_POL_RX, 31, 0⟩
/-- MAC_LANE_POL_TX. -/
def MAC_LANE_POL_TX : Nat := 0x400008
/-- MAC_LANE_POL_TX.invert. -/
def MAC_LANE_POL_TX_invert : Fld := ⟨MAC_LANE_POL_TX, 31, 0⟩
/-- MAC_PORT_CTRL. -/
def MAC_PORT_CTRL (i : Nat) : Nat := 0x401000 + 0x100 * i
/-- MAC_PORT_CTRL.enable. -/
def MAC_PORT_CTRL_enable (i : Nat) : Fld := ⟨MAC_PORT_CTRL i, 0, 0⟩
/-- MAC_PORT_CTRL.an_en. -/
def MAC_PORT_CTRL_an_en (i : Nat) : Fld := ⟨MAC_PORT_CTRL i, 1, 1⟩
/-- MAC_PORT_CTRL.pause_rx_en. -/
def MAC_PORT_CTRL_pause_rx_en (i : Nat) : Fld := ⟨MAC_PORT_CTRL i, 2, 2⟩
/-- MAC_PORT_CTRL.pfc_rx_en. -/
def MAC_PORT_CTRL_pfc_rx_en (i : Nat) : Fld := ⟨MAC_PORT_CTRL i, 3, 3⟩
/-- MAC_PORT_CTRL.pfc_tx_en. -/
def MAC_PORT_CTRL_pfc_tx_en (i : Nat) : Fld := ⟨MAC_PORT_CTRL i, 4, 4⟩
/-- MAC_PORT_CTRL.pfc_pri_mask. -/
def MAC_PORT_CTRL_pfc_pri_mask (i : Nat) : Fld := ⟨MAC_PORT_CTRL i, 15, 8⟩
/-- MAC_PORT_STAT. -/
def MAC_PORT_STAT (i : Nat) : Nat := 0x401004 + 0x100 * i
/-- MAC_PORT_STAT.pcs_lock. -/
def MAC_PORT_STAT_pcs_lock (i : Nat) : Fld := ⟨MAC_PORT_STAT i, 0, 0⟩
/-- MAC_PORT_STAT.link_up. -/
def MAC_PORT_STAT_link_up (i : Nat) : Fld := ⟨MAC_PORT_STAT i, 1, 1⟩
/-- MAC_PORT_STAT.held. -/
def MAC_PORT_STAT_held (i : Nat) : Fld := ⟨MAC_PORT_STAT i, 2, 2⟩
/-- MAC_PFC_THR. -/
def MAC_PFC_THR (i : Nat) : Nat := 0x401008 + 0x100 * i
/-- MAC_PFC_THR.xoff_kib. -/
def MAC_PFC_THR_xoff_kib (i : Nat) : Fld := ⟨MAC_PFC_THR i, 15, 0⟩
/-- MAC_PFC_THR.xon_kib. -/
def MAC_PFC_THR_xon_kib (i : Nat) : Fld := ⟨MAC_PFC_THR i, 31, 16⟩
/-- MAC_RX_FRAMES. -/
def MAC_RX_FRAMES (i : Nat) : Nat := 0x401020 + 0x100 * i
/-- MAC_RX_FCS_ERR. -/
def MAC_RX_FCS_ERR (i : Nat) : Nat := 0x401028 + 0x100 * i
/-- MAC_RX_OVERSIZE. -/
def MAC_RX_OVERSIZE (i : Nat) : Nat := 0x401030 + 0x100 * i
/-- MAC_RX_RUNT. -/
def MAC_RX_RUNT (i : Nat) : Nat := 0x401038 + 0x100 * i
/-- MAC_UNPARSED. -/
def MAC_UNPARSED (i : Nat) : Nat := 0x401040 + 0x100 * i
/-- MAC_EDGE_FULL. -/
def MAC_EDGE_FULL (i : Nat) : Nat := 0x401048 + 0x100 * i
/-- MAC_FALLBACK. -/
def MAC_FALLBACK (i : Nat) : Nat := 0x401050 + 0x100 * i
/-- MAC_TX_FRAMES. -/
def MAC_TX_FRAMES (i : Nat) : Nat := 0x401058 + 0x100 * i
/-- MAC_TX_BAD_FCS. -/
def MAC_TX_BAD_FCS (i : Nat) : Nat := 0x401060 + 0x100 * i
/-- MAC_PAUSE_RX. -/
def MAC_PAUSE_RX (i : Nat) : Nat := 0x401068 + 0x100 * i
/-- MAC_PFC_TX. -/
def MAC_PFC_TX (i : Nat) : Nat := 0x401070 + 0x100 * i
/-- MAC_PAIR_CTRL. -/
def MAC_PAIR_CTRL (i : Nat) : Nat := 0x408000 + 0x40 * i
/-- MAC_PAIR_CTRL.fallback. -/
def MAC_PAIR_CTRL_fallback (i : Nat) : Fld := ⟨MAC_PAIR_CTRL i, 0, 0⟩
/-- MAC_PAIR_CTRL.auto_close_link. -/
def MAC_PAIR_CTRL_auto_close_link (i : Nat) : Fld := ⟨MAC_PAIR_CTRL i, 1, 1⟩
/-- MAC_PAIR_CTRL.hb_src. -/
def MAC_PAIR_CTRL_hb_src (i : Nat) : Fld := ⟨MAC_PAIR_CTRL i, 2, 2⟩
/-- MAC_PAIR_CTRL.deadline_ns. -/
def MAC_PAIR_CTRL_deadline_ns (i : Nat) : Fld := ⟨MAC_PAIR_CTRL i, 31, 16⟩
/-- MAC_BYP_CTRL. -/
def MAC_BYP_CTRL (i : Nat) : Nat := 0x408004 + 0x40 * i
/-- MAC_BYP_CTRL.open. -/
def MAC_BYP_CTRL_open (i : Nat) : Fld := ⟨MAC_BYP_CTRL i, 0, 0⟩
/-- MAC_BYP_CTRL.close. -/
def MAC_BYP_CTRL_close (i : Nat) : Fld := ⟨MAC_BYP_CTRL i, 1, 1⟩
/-- MAC_BYP_HB_TIMEOUT. -/
def MAC_BYP_HB_TIMEOUT (i : Nat) : Nat := 0x408008 + 0x40 * i
/-- MAC_BYP_HB_TIMEOUT.timeout_ns. -/
def MAC_BYP_HB_TIMEOUT_timeout_ns (i : Nat) : Fld := ⟨MAC_BYP_HB_TIMEOUT i, 31, 0⟩
/-- MAC_BYP_OPEN_WAIT. -/
def MAC_BYP_OPEN_WAIT (i : Nat) : Nat := 0x40800c + 0x40 * i
/-- MAC_BYP_OPEN_WAIT.wait_ns. -/
def MAC_BYP_OPEN_WAIT_wait_ns (i : Nat) : Fld := ⟨MAC_BYP_OPEN_WAIT i, 31, 0⟩
/-- MAC_BYP_KICK. -/
def MAC_BYP_KICK (i : Nat) : Nat := 0x408010 + 0x40 * i
/-- MAC_BYP_KICK.kick. -/
def MAC_BYP_KICK_kick (i : Nat) : Fld := ⟨MAC_BYP_KICK i, 0, 0⟩
/-- MAC_BYP_STAT. -/
def MAC_BYP_STAT (i : Nat) : Nat := 0x408014 + 0x40 * i
/-- MAC_BYP_STAT.state. -/
def MAC_BYP_STAT_state (i : Nat) : Fld := ⟨MAC_BYP_STAT i, 1, 0⟩
/-- MAC_BYP_STAT.pin. -/
def MAC_BYP_STAT_pin (i : Nat) : Fld := ⟨MAC_BYP_STAT i, 2, 2⟩
/-- MAC_BYP_STAT.hb_fresh. -/
def MAC_BYP_STAT_hb_fresh (i : Nat) : Fld := ⟨MAC_BYP_STAT i, 3, 3⟩
/-- MAC_BYP_STAT.last_close_cause. -/
def MAC_BYP_STAT_last_close_cause (i : Nat) : Fld := ⟨MAC_BYP_STAT i, 7, 4⟩
/-- MAC_BYP_STAT.open_refused. -/
def MAC_BYP_STAT_open_refused (i : Nat) : Fld := ⟨MAC_BYP_STAT i, 8, 8⟩
/-- MAC_BYP_STAT.refuse_reason. -/
def MAC_BYP_STAT_refuse_reason (i : Nat) : Fld := ⟨MAC_BYP_STAT i, 15, 12⟩
/-- PRS_CTRL. -/
def PRS_CTRL : Nat := 0x600000
/-- PRS_CTRL.enable. -/
def PRS_CTRL_enable : Fld := ⟨PRS_CTRL, 0, 0⟩
/-- PRS_CTRL.ubp_en. -/
def PRS_CTRL_ubp_en : Fld := ⟨PRS_CTRL, 1, 1⟩
/-- PRS_UBP_PORT. -/
def PRS_UBP_PORT : Nat := 0x600004
/-- PRS_UBP_PORT.port. -/
def PRS_UBP_PORT_port : Fld := ⟨PRS_UBP_PORT, 15, 0⟩
/-- PRS_DEPTH. -/
def PRS_DEPTH : Nat := 0x600008
/-- PRS_DEPTH.depth. -/
def PRS_DEPTH_depth : Fld := ⟨PRS_DEPTH, 9, 0⟩
/-- PRS_PROG_CTRL. -/
def PRS_PROG_CTRL : Nat := 0x60000c
/-- PRS_PROG_CTRL.commit. -/
def PRS_PROG_CTRL_commit : Fld := ⟨PRS_PROG_CTRL, 0, 0⟩
/-- PRS_PROG_STAT. -/
def PRS_PROG_STAT : Nat := 0x600010
/-- PRS_PROG_STAT.active_bank. -/
def PRS_PROG_STAT_active_bank : Fld := ⟨PRS_PROG_STAT, 0, 0⟩
/-- PRS_PROG_STAT.draining. -/
def PRS_PROG_STAT_draining : Fld := ⟨PRS_PROG_STAT, 1, 1⟩
/-- PRS_PROG_STAT.busy. -/
def PRS_PROG_STAT_busy : Fld := ⟨PRS_PROG_STAT, 2, 2⟩
/-- PRS_PROG_STAT.loaded. -/
def PRS_PROG_STAT_loaded : Fld := ⟨PRS_PROG_STAT, 3, 3⟩
/-- PRS_CHIVE_BUSY. -/
def PRS_CHIVE_BUSY : Nat := 0x600014
/-- PRS_CHIVE_BUSY.busy. -/
def PRS_CHIVE_BUSY_busy : Fld := ⟨PRS_CHIVE_BUSY, 8, 0⟩
/-- PRS_EXC_CTRL. -/
def PRS_EXC_CTRL (i : Nat) : Nat := 0x600040 + 0x10 * i
/-- PRS_EXC_CTRL.fwd. -/
def PRS_EXC_CTRL_fwd (i : Nat) : Fld := ⟨PRS_EXC_CTRL i, 0, 0⟩
/-- PRS_EXC_CTRL.copy_en. -/
def PRS_EXC_CTRL_copy_en (i : Nat) : Fld := ⟨PRS_EXC_CTRL i, 1, 1⟩
/-- PRS_EXC_CTRL.copy_len. -/
def PRS_EXC_CTRL_copy_len (i : Nat) : Fld := ⟨PRS_EXC_CTRL i, 15, 8⟩
/-- PRS_EXC_QP. -/
def PRS_EXC_QP (i : Nat) : Nat := 0x600044 + 0x10 * i
/-- PRS_EXC_QP.qp. -/
def PRS_EXC_QP_qp (i : Nat) : Fld := ⟨PRS_EXC_QP i, 13, 0⟩
/-- PRS_EXC_RATE. -/
def PRS_EXC_RATE (i : Nat) : Nat := 0x600048 + 0x10 * i
/-- PRS_EXC_RATE.rate. -/
def PRS_EXC_RATE_rate (i : Nat) : Fld := ⟨PRS_EXC_RATE i, 23, 0⟩
/-- PRS_EXC_BURST. -/
def PRS_EXC_BURST (i : Nat) : Nat := 0x60004c + 0x10 * i
/-- PRS_EXC_BURST.burst. -/
def PRS_EXC_BURST_burst (i : Nat) : Fld := ⟨PRS_EXC_BURST i, 15, 0⟩
/-- PRS_FRAMES. -/
def PRS_FRAMES : Nat := 0x601000
/-- PRS_UBP_BUNDLES. -/
def PRS_UBP_BUNDLES : Nat := 0x601008
/-- PRS_UBP_SEGS. -/
def PRS_UBP_SEGS : Nat := 0x601010
/-- PRS_BAD_HEADER. -/
def PRS_BAD_HEADER : Nat := 0x601018
/-- PRS_SEG_OVERRUN. -/
def PRS_SEG_OVERRUN : Nat := 0x601020
/-- PRS_LEN_MISMATCH. -/
def PRS_LEN_MISMATCH : Nat := 0x601028
/-- PRS_UBP_TRAIL. -/
def PRS_UBP_TRAIL : Nat := 0x601030
/-- PRS_EXC_SLOW. -/
def PRS_EXC_SLOW : Nat := 0x601038
/-- PRS_EXC_FAIL. -/
def PRS_EXC_FAIL : Nat := 0x601040
/-- PRS_EXC_NOMATCH. -/
def PRS_EXC_NOMATCH : Nat := 0x601048
/-- PRS_EXC_RATE_DROP. -/
def PRS_EXC_RATE_DROP : Nat := 0x601050
/-- PRS_EXC_RING_DROP. -/
def PRS_EXC_RING_DROP : Nat := 0x601058
/-- PRS_ROB_FULL. -/
def PRS_ROB_FULL (i : Nat) : Nat := 0x602000 + 8 * i
/-- PRS_PROG_WIN. -/
def PRS_PROG_WIN (i : Nat) : Nat := 0x608000 + 8 * i
/-- PRS_PROG_WIN.instr. -/
def PRS_PROG_WIN_instr (i : Nat) : Fld := ⟨PRS_PROG_WIN i, 63, 0⟩
/-- RUL_CTRL. -/
def RUL_CTRL : Nat := 0x800000
/-- RUL_CTRL.enable. -/
def RUL_CTRL_enable : Fld := ⟨RUL_CTRL, 0, 0⟩
/-- RUL_CTRL.no_disp. -/
def RUL_CTRL_no_disp : Fld := ⟨RUL_CTRL, 1, 1⟩
/-- RUL_VER_CTRL. -/
def RUL_VER_CTRL : Nat := 0x800004
/-- RUL_VER_CTRL.commit. -/
def RUL_VER_CTRL_commit : Fld := ⟨RUL_VER_CTRL, 0, 0⟩
/-- RUL_VER_STAT. -/
def RUL_VER_STAT : Nat := 0x800008
/-- RUL_VER_STAT.current. -/
def RUL_VER_STAT_current : Fld := ⟨RUL_VER_STAT, 3, 0⟩
/-- RUL_VER_STAT.staged. -/
def RUL_VER_STAT_staged : Fld := ⟨RUL_VER_STAT, 7, 4⟩
/-- RUL_VER_STAT.draining. -/
def RUL_VER_STAT_draining : Fld := ⟨RUL_VER_STAT, 11, 8⟩
/-- RUL_VER_STAT.draining_valid. -/
def RUL_VER_STAT_draining_valid : Fld := ⟨RUL_VER_STAT, 12, 12⟩
/-- RUL_VER_STAT.pending. -/
def RUL_VER_STAT_pending : Fld := ⟨RUL_VER_STAT, 13, 13⟩
/-- RUL_VER_STAT.busy. -/
def RUL_VER_STAT_busy : Fld := ⟨RUL_VER_STAT, 14, 14⟩
/-- RUL_VER_STAT.commit_seq. -/
def RUL_VER_STAT_commit_seq : Fld := ⟨RUL_VER_STAT, 31, 16⟩
/-- RUL_MIRROR_WAIT. -/
def RUL_MIRROR_WAIT : Nat := 0x80000c
/-- RUL_MIRROR_WAIT.wait_ns. -/
def RUL_MIRROR_WAIT_wait_ns : Fld := ⟨RUL_MIRROR_WAIT, 31, 0⟩
/-- RUL_KEY_PROF. -/
def RUL_KEY_PROF (i : Nat) : Nat := 0x800010 + 4 * i
/-- RUL_KEY_PROF.map. -/
def RUL_KEY_PROF_map (i : Nat) : Fld := ⟨RUL_KEY_PROF i, 2, 0⟩
/-- RUL_KEY_MAP. -/
def RUL_KEY_MAP (i j : Nat) : Nat := 0x800100 + 0x60 * i + 4 * j
/-- RUL_KEY_MAP.sel3. -/
def RUL_KEY_MAP_sel3 (i j : Nat) : Fld := ⟨RUL_KEY_MAP i j, 7, 0⟩
/-- RUL_KEY_MAP.sel2. -/
def RUL_KEY_MAP_sel2 (i j : Nat) : Fld := ⟨RUL_KEY_MAP i j, 15, 8⟩
/-- RUL_KEY_MAP.sel1. -/
def RUL_KEY_MAP_sel1 (i j : Nat) : Fld := ⟨RUL_KEY_MAP i j, 23, 16⟩
/-- RUL_KEY_MAP.sel0. -/
def RUL_KEY_MAP_sel0 (i j : Nat) : Fld := ⟨RUL_KEY_MAP i j, 31, 24⟩
/-- RUL_TCAM_CMD. -/
def RUL_TCAM_CMD : Nat := 0x801000
/-- RUL_TCAM_CMD.index. -/
def RUL_TCAM_CMD_index : Fld := ⟨RUL_TCAM_CMD, 13, 0⟩
/-- RUL_TCAM_CMD.op. -/
def RUL_TCAM_CMD_op : Fld := ⟨RUL_TCAM_CMD, 17, 16⟩
/-- RUL_TCAM_STAT. -/
def RUL_TCAM_STAT : Nat := 0x801004
/-- RUL_TCAM_STAT.done. -/
def RUL_TCAM_STAT_done : Fld := ⟨RUL_TCAM_STAT, 0, 0⟩
/-- RUL_TCAM_STAT.status. -/
def RUL_TCAM_STAT_status : Fld := ⟨RUL_TCAM_STAT, 3, 1⟩
/-- RUL_TCAM_KEY. -/
def RUL_TCAM_KEY (i : Nat) : Nat := 0x801100 + 4 * i
/-- RUL_TCAM_KEY.word. -/
def RUL_TCAM_KEY_word (i : Nat) : Fld := ⟨RUL_TCAM_KEY i, 31, 0⟩
/-- RUL_TCAM_MASK. -/
def RUL_TCAM_MASK (i : Nat) : Nat := 0x801150 + 4 * i
/-- RUL_TCAM_MASK.word. -/
def RUL_TCAM_MASK_word (i : Nat) : Fld := ⟨RUL_TCAM_MASK i, 31, 0⟩
/-- RUL_TCAM_SLOT. -/
def RUL_TCAM_SLOT (i : Nat) : Nat := 0x8011a0 + 4 * i
/-- RUL_TCAM_SLOT.word. -/
def RUL_TCAM_SLOT_word (i : Nat) : Fld := ⟨RUL_TCAM_SLOT i, 31, 0⟩
/-- RUL_TCAM_CTL. -/
def RUL_TCAM_CTL : Nat := 0x8011c0
/-- RUL_TCAM_CTL.profile. -/
def RUL_TCAM_CTL_profile : Fld := ⟨RUL_TCAM_CTL, 2, 0⟩
/-- RUL_TCAM_CTL.add_ver. -/
def RUL_TCAM_CTL_add_ver : Fld := ⟨RUL_TCAM_CTL, 15, 12⟩
/-- RUL_TCAM_CTL.del_ver. -/
def RUL_TCAM_CTL_del_ver : Fld := ⟨RUL_TCAM_CTL, 19, 16⟩
/-- RUL_TCAM_CTL.add_live. -/
def RUL_TCAM_CTL_add_live : Fld := ⟨RUL_TCAM_CTL, 20, 20⟩
/-- RUL_TCAM_CTL.del. -/
def RUL_TCAM_CTL_del : Fld := ⟨RUL_TCAM_CTL, 21, 21⟩
/-- RUL_TCAM_CTL.used. -/
def RUL_TCAM_CTL_used : Fld := ⟨RUL_TCAM_CTL, 22, 22⟩
/-- RUL_EM_CMD. -/
def RUL_EM_CMD : Nat := 0x802000
/-- RUL_EM_CMD.op. -/
def RUL_EM_CMD_op : Fld := ⟨RUL_EM_CMD, 1, 0⟩
/-- RUL_EM_STAT. -/
def RUL_EM_STAT : Nat := 0x802004
/-- RUL_EM_STAT.done. -/
def RUL_EM_STAT_done : Fld := ⟨RUL_EM_STAT, 0, 0⟩
/-- RUL_EM_STAT.status. -/
def RUL_EM_STAT_status : Fld := ⟨RUL_EM_STAT, 3, 1⟩
/-- RUL_EM_COUNT. -/
def RUL_EM_COUNT : Nat := 0x802008
/-- RUL_EM_COUNT.entries. -/
def RUL_EM_COUNT_entries : Fld := ⟨RUL_EM_COUNT, 21, 0⟩
/-- RUL_EM_DATA. -/
def RUL_EM_DATA (i : Nat) : Nat := 0x802020 + 4 * i
/-- RUL_EM_DATA.word. -/
def RUL_EM_DATA_word (i : Nat) : Fld := ⟨RUL_EM_DATA i, 31, 0⟩
/-- RUL_MTR_SEL. -/
def RUL_MTR_SEL : Nat := 0x803000
/-- RUL_MTR_SEL.meter. -/
def RUL_MTR_SEL_meter : Fld := ⟨RUL_MTR_SEL, 15, 0⟩
/-- RUL_MTR_CMD. -/
def RUL_MTR_CMD : Nat := 0x803004
/-- RUL_MTR_CMD.write. -/
def RUL_MTR_CMD_write : Fld := ⟨RUL_MTR_CMD, 0, 0⟩
/-- RUL_MTR_CMD.read. -/
def RUL_MTR_CMD_read : Fld := ⟨RUL_MTR_CMD, 1, 1⟩
/-- RUL_MTR_STAT. -/
def RUL_MTR_STAT : Nat := 0x803008
/-- RUL_MTR_STAT.refused. -/
def RUL_MTR_STAT_refused : Fld := ⟨RUL_MTR_STAT, 0, 0⟩
/-- RUL_MTR_CIR. -/
def RUL_MTR_CIR : Nat := 0x803010
/-- RUL_MTR_CIR.rate. -/
def RUL_MTR_CIR_rate : Fld := ⟨RUL_MTR_CIR, 39, 0⟩
/-- RUL_MTR_PIR. -/
def RUL_MTR_PIR : Nat := 0x803018
/-- RUL_MTR_PIR.rate. -/
def RUL_MTR_PIR_rate : Fld := ⟨RUL_MTR_PIR, 39, 0⟩
/-- RUL_MTR_CBS. -/
def RUL_MTR_CBS : Nat := 0x803020
/-- RUL_MTR_CBS.size. -/
def RUL_MTR_CBS_size : Fld := ⟨RUL_MTR_CBS, 31, 0⟩
/-- RUL_MTR_PBS. -/
def RUL_MTR_PBS : Nat := 0x803024
/-- RUL_MTR_PBS.size. -/
def RUL_MTR_PBS_size : Fld := ⟨RUL_MTR_PBS, 31, 0⟩
/-- RUL_MTR_MODE. -/
def RUL_MTR_MODE : Nat := 0x803028
/-- RUL_MTR_MODE.aware. -/
def RUL_MTR_MODE_aware : Fld := ⟨RUL_MTR_MODE, 0, 0⟩
/-- RUL_MTR_MODE.enable. -/
def RUL_MTR_MODE_enable : Fld := ⟨RUL_MTR_MODE, 1, 1⟩
/-- RUL_DSCP_COLOR. -/
def RUL_DSCP_COLOR (i : Nat) : Nat := 0x803040 + 4 * i
/-- RUL_DSCP_COLOR.colour. -/
def RUL_DSCP_COLOR_colour (i : Nat) : Fld := ⟨RUL_DSCP_COLOR i, 31, 0⟩
/-- RUL_CNT_PERIOD. -/
def RUL_CNT_PERIOD : Nat := 0x804000
/-- RUL_CNT_PERIOD.period_ns. -/
def RUL_CNT_PERIOD_period_ns : Fld := ⟨RUL_CNT_PERIOD, 31, 0⟩
/-- RUL_CNT_SEL. -/
def RUL_CNT_SEL : Nat := 0x804004
/-- RUL_CNT_SEL.index. -/
def RUL_CNT_SEL_index : Fld := ⟨RUL_CNT_SEL, 19, 0⟩
/-- RUL_CNT_CMD. -/
def RUL_CNT_CMD : Nat := 0x804008
/-- RUL_CNT_CMD.clear. -/
def RUL_CNT_CMD_clear : Fld := ⟨RUL_CNT_CMD, 0, 0⟩
/-- RUL_CNT_GEN. -/
def RUL_CNT_GEN : Nat := 0x80400c
/-- RUL_CNT_GEN.gen. -/
def RUL_CNT_GEN_gen : Fld := ⟨RUL_CNT_GEN, 31, 0⟩
/-- RUL_CNT_VALUE. -/
def RUL_CNT_VALUE : Nat := 0x804010
/-- RUL_CNT_VALUE.value. -/
def RUL_CNT_VALUE_value : Fld := ⟨RUL_CNT_VALUE, 63, 0⟩
/-- RUL_CNT_GEN_TS. -/
def RUL_CNT_GEN_TS : Nat := 0x804018
/-- RUL_CNT_GEN_TS.t_g. -/
def RUL_CNT_GEN_TS_t_g : Fld := ⟨RUL_CNT_GEN_TS, 63, 0⟩
/-- RUL_STEER. -/
def RUL_STEER (i : Nat) : Nat := 0x805000 + 4 * i
/-- RUL_STEER.port. -/
def RUL_STEER_port (i : Nat) : Fld := ⟨RUL_STEER i, 3, 0⟩
/-- RUL_STEER.template. -/
def RUL_STEER_template (i : Nat) : Fld := ⟨RUL_STEER i, 9, 4⟩
/-- RUL_STEER.valid. -/
def RUL_STEER_valid (i : Nat) : Fld := ⟨RUL_STEER i, 10, 10⟩
/-- RUL_ENCAP_DATA. -/
def RUL_ENCAP_DATA (i : Nat) : Nat := 0x809080 + 4 * i
/-- RUL_ENCAP_DATA.word. -/
def RUL_ENCAP_DATA_word (i : Nat) : Fld := ⟨RUL_ENCAP_DATA i, 31, 0⟩
/-- RUL_ENCAP_DESC. -/
def RUL_ENCAP_DESC (i : Nat) : Nat := 0x80b004 + 4 * i
/-- RUL_ENCAP_DESC.len. -/
def RUL_ENCAP_DESC_len (i : Nat) : Fld := ⟨RUL_ENCAP_DESC i, 7, 0⟩
/-- RUL_ENCAP_DESC.ip_off. -/
def RUL_ENCAP_DESC_ip_off (i : Nat) : Fld := ⟨RUL_ENCAP_DESC i, 15, 8⟩
/-- RUL_ENCAP_DESC.l4_off. -/
def RUL_ENCAP_DESC_l4_off (i : Nat) : Fld := ⟨RUL_ENCAP_DESC i, 23, 16⟩
/-- RUL_ENCAP_DESC.ipv6. -/
def RUL_ENCAP_DESC_ipv6 (i : Nat) : Fld := ⟨RUL_ENCAP_DESC i, 24, 24⟩
/-- RUL_LOOKUPS. -/
def RUL_LOOKUPS : Nat := 0x80c000
/-- RUL_NOMATCH. -/
def RUL_NOMATCH : Nat := 0x80c008
/-- RUL_EM_HITS. -/
def RUL_EM_HITS : Nat := 0x80c010
/-- RUL_EM_CACHE_MISS. -/
def RUL_EM_CACHE_MISS : Nat := 0x80c018
/-- RUL_EM_MISS. -/
def RUL_EM_MISS : Nat := 0x80c020
/-- RUL_INFER_SUPPRESS. -/
def RUL_INFER_SUPPRESS : Nat := 0x80c028
/-- RUL_FWD_DROP. -/
def RUL_FWD_DROP : Nat := 0x80c030
/-- RUL_MIRROR_DROP. -/
def RUL_MIRROR_DROP : Nat := 0x80c038
/-- RUL_MIRROR_TRUNC. -/
def RUL_MIRROR_TRUNC : Nat := 0x80c040
/-- RUL_HOST_DROP. -/
def RUL_HOST_DROP : Nat := 0x80c048
/-- RUL_ENCAP_LEN_ERR. -/
def RUL_ENCAP_LEN_ERR : Nat := 0x80c050
/-- RUL_CNT_SWEEP_LATE. -/
def RUL_CNT_SWEEP_LATE : Nat := 0x80c058
/-- RUL_MTR_YELLOW. -/
def RUL_MTR_YELLOW : Nat := 0x80c060
/-- RUL_MTR_RED. -/
def RUL_MTR_RED : Nat := 0x80c068
/-- ERP_CTRL. -/
def ERP_CTRL : Nat := 0xc00000
/-- ERP_CTRL.enable. -/
def ERP_CTRL_enable : Fld := ⟨ERP_CTRL, 0, 0⟩
/-- ERP_CTRL.default_en. -/
def ERP_CTRL_default_en : Fld := ⟨ERP_CTRL, 1, 1⟩
/-- ERP_CTRL.default_profile. -/
def ERP_CTRL_default_profile : Fld := ⟨ERP_CTRL, 27, 16⟩
/-- ERP_REMOTE_WAIT. -/
def ERP_REMOTE_WAIT : Nat := 0xc00004
/-- ERP_REMOTE_WAIT.wait_ns. -/
def ERP_REMOTE_WAIT_wait_ns : Fld := ⟨ERP_REMOTE_WAIT, 31, 0⟩
/-- ERP_ARB_GUARD. -/
def ERP_ARB_GUARD : Nat := 0xc00008
/-- ERP_ARB_GUARD.guard_ns. -/
def ERP_ARB_GUARD_guard_ns : Fld := ⟨ERP_ARB_GUARD, 31, 0⟩
/-- ERP_PROF_SEL. -/
def ERP_PROF_SEL : Nat := 0xc00010
/-- ERP_PROF_SEL.profile. -/
def ERP_PROF_SEL_profile : Fld := ⟨ERP_PROF_SEL, 11, 0⟩
/-- ERP_PROF_CMD. -/
def ERP_PROF_CMD : Nat := 0xc00014
/-- ERP_PROF_CMD.write. -/
def ERP_PROF_CMD_write : Fld := ⟨ERP_PROF_CMD, 0, 0⟩
/-- ERP_PROF_CMD.read. -/
def ERP_PROF_CMD_read : Fld := ⟨ERP_PROF_CMD, 1, 1⟩
/-- ERP_PROF_STAT. -/
def ERP_PROF_STAT : Nat := 0xc00018
/-- ERP_PROF_STAT.done. -/
def ERP_PROF_STAT_done : Fld := ⟨ERP_PROF_STAT, 0, 0⟩
/-- ERP_PROF_STAT.status. -/
def ERP_PROF_STAT_status : Fld := ⟨ERP_PROF_STAT, 2, 1⟩
/-- ERP_PROF_DATA0. -/
def ERP_PROF_DATA0 : Nat := 0xc00020
/-- ERP_PROF_DATA0.valid. -/
def ERP_PROF_DATA0_valid : Fld := ⟨ERP_PROF_DATA0, 0, 0⟩
/-- ERP_PROF_DATA0.port_sel. -/
def ERP_PROF_DATA0_port_sel : Fld := ⟨ERP_PROF_DATA0, 2, 1⟩
/-- ERP_PROF_DATA0.port. -/
def ERP_PROF_DATA0_port : Fld := ⟨ERP_PROF_DATA0, 6, 3⟩
/-- ERP_PROF_DATA0.seal_mode. -/
def ERP_PROF_DATA0_seal_mode : Fld := ⟨ERP_PROF_DATA0, 8, 7⟩
/-- ERP_PROF_DATA0.honor_req. -/
def ERP_PROF_DATA0_honor_req : Fld := ⟨ERP_PROF_DATA0, 9, 9⟩
/-- ERP_PROF_DATA0.status_en. -/
def ERP_PROF_DATA0_status_en : Fld := ⟨ERP_PROF_DATA0, 10, 10⟩
/-- ERP_PROF_DATA0.report_drop. -/
def ERP_PROF_DATA0_report_drop : Fld := ⟨ERP_PROF_DATA0, 11, 11⟩
/-- ERP_PROF_DATA0.max_records. -/
def ERP_PROF_DATA0_max_records : Fld := ⟨ERP_PROF_DATA0, 23, 16⟩
/-- ERP_PROF_DATA1. -/
def ERP_PROF_DATA1 : Nat := 0xc00024
/-- ERP_PROF_DATA1.window_ns. -/
def ERP_PROF_DATA1_window_ns : Fld := ⟨ERP_PROF_DATA1, 31, 0⟩
/-- ERP_PROF_DATA2. -/
def ERP_PROF_DATA2 : Nat := 0xc00028
/-- ERP_PROF_DATA2.horizon_ns. -/
def ERP_PROF_DATA2_horizon_ns : Fld := ⟨ERP_PROF_DATA2, 31, 0⟩
/-- ERP_PROF_DATA3. -/
def ERP_PROF_DATA3 : Nat := 0xc0002c
/-- ERP_PROF_DATA3.tmpl_len. -/
def ERP_PROF_DATA3_tmpl_len : Fld := ⟨ERP_PROF_DATA3, 7, 0⟩
/-- ERP_PROF_DATA3.ip_off. -/
def ERP_PROF_DATA3_ip_off : Fld := ⟨ERP_PROF_DATA3, 15, 8⟩
/-- ERP_PROF_DATA3.l4_off. -/
def ERP_PROF_DATA3_l4_off : Fld := ⟨ERP_PROF_DATA3, 23, 16⟩
/-- ERP_PROF_DATA3.ipv6. -/
def ERP_PROF_DATA3_ipv6 : Fld := ⟨ERP_PROF_DATA3, 24, 24⟩
/-- ERP_PROF_DATA4. -/
def ERP_PROF_DATA4 : Nat := 0xc00030
/-- ERP_PROF_DATA4.reply_seq. -/
def ERP_PROF_DATA4_reply_seq : Fld := ⟨ERP_PROF_DATA4, 31, 0⟩
/-- ERP_REPLY_FRAMES. -/
def ERP_REPLY_FRAMES : Nat := 0xc01000
/-- ERP_RECORDS_PROV. -/
def ERP_RECORDS_PROV : Nat := 0xc01008
/-- ERP_RECORDS_FINAL. -/
def ERP_RECORDS_FINAL : Nat := 0xc01010
/-- ERP_SEAL_FRAMES. -/
def ERP_SEAL_FRAMES : Nat := 0xc01018
/-- ERP_STATUS_FRAMES. -/
def ERP_STATUS_FRAMES : Nat := 0xc01020
/-- ERP_RECALL_FRAMES. -/
def ERP_RECALL_FRAMES : Nat := 0xc01028
/-- ERP_STOMPED. -/
def ERP_STOMPED : Nat := 0xc01030
/-- ERP_WITHDRAWN. -/
def ERP_WITHDRAWN : Nat := 0xc01038
/-- ERP_DROP_PORT. -/
def ERP_DROP_PORT : Nat := 0xc01040
/-- ERP_DROP_PROFILE. -/
def ERP_DROP_PROFILE : Nat := 0xc01048
/-- ERP_RECALL_LATE. -/
def ERP_RECALL_LATE : Nat := 0xc01050
/-- ERP_VERDICT_LATE. -/
def ERP_VERDICT_LATE : Nat := 0xc01058
/-- ERP_TMPL. -/
def ERP_TMPL (i : Nat) : Nat := 0xc10000 + 4 * i
/-- ERP_TMPL.word. -/
def ERP_TMPL_word (i : Nat) : Fld := ⟨ERP_TMPL i, 31, 0⟩
/-- SFE_CTRL. -/
def SFE_CTRL : Nat := 0xd00000
/-- SFE_CTRL.enable. -/
def SFE_CTRL_enable : Fld := ⟨SFE_CTRL, 0, 0⟩
/-- SFE_ROW_REGION. -/
def SFE_ROW_REGION : Nat := 0xd00004
/-- SFE_ROW_REGION.mib. -/
def SFE_ROW_REGION_mib : Fld := ⟨SFE_ROW_REGION, 5, 0⟩
/-- SFE_STATE_CACHE. -/
def SFE_STATE_CACHE : Nat := 0xd00008
/-- SFE_STATE_CACHE.mib. -/
def SFE_STATE_CACHE_mib : Fld := ⟨SFE_STATE_CACHE, 5, 0⟩
/-- SFE_HOST_QP. -/
def SFE_HOST_QP : Nat := 0xd0000c
/-- SFE_HOST_QP.qp. -/
def SFE_HOST_QP_qp : Fld := ⟨SFE_HOST_QP, 13, 0⟩
/-- SFE_HOST_RATE. -/
def SFE_HOST_RATE : Nat := 0xd00010
/-- SFE_HOST_RATE.rate. -/
def SFE_HOST_RATE_rate : Fld := ⟨SFE_HOST_RATE, 23, 0⟩
/-- SFE_HOST_BURST. -/
def SFE_HOST_BURST : Nat := 0xd00014
/-- SFE_HOST_BURST.burst. -/
def SFE_HOST_BURST_burst : Fld := ⟨SFE_HOST_BURST, 15, 0⟩
/-- SFE_STALE_EN. -/
def SFE_STALE_EN (i : Nat) : Nat := 0xd00018 + 4 * i
/-- SFE_STALE_EN.en. -/
def SFE_STALE_EN_en (i : Nat) : Fld := ⟨SFE_STALE_EN i, 31, 0⟩
/-- SFE_PACK_WAIT. -/
def SFE_PACK_WAIT (i : Nat) : Nat := 0xd00020 + 4 * i
/-- SFE_PACK_WAIT.wait_ns. -/
def SFE_PACK_WAIT_wait_ns (i : Nat) : Fld := ⟨SFE_PACK_WAIT i, 31, 0⟩
/-- SFE_PROF_SEL. -/
def SFE_PROF_SEL : Nat := 0xd00040
/-- SFE_PROF_SEL.profile. -/
def SFE_PROF_SEL_profile : Fld := ⟨SFE_PROF_SEL, 11, 0⟩
/-- SFE_PROF_CMD. -/
def SFE_PROF_CMD : Nat := 0xd00044
/-- SFE_PROF_CMD.write. -/
def SFE_PROF_CMD_write : Fld := ⟨SFE_PROF_CMD, 0, 0⟩
/-- SFE_PROF_CMD.read. -/
def SFE_PROF_CMD_read : Fld := ⟨SFE_PROF_CMD, 1, 1⟩
/-- SFE_PROF_STAT. -/
def SFE_PROF_STAT : Nat := 0xd00048
/-- SFE_PROF_STAT.done. -/
def SFE_PROF_STAT_done : Fld := ⟨SFE_PROF_STAT, 0, 0⟩
/-- SFE_PROF_STAT.status. -/
def SFE_PROF_STAT_status : Fld := ⟨SFE_PROF_STAT, 2, 1⟩
/-- SFE_PROF_DATA0. -/
def SFE_PROF_DATA0 : Nat := 0xd00050
/-- SFE_PROF_DATA0.valid. -/
def SFE_PROF_DATA0_valid : Fld := ⟨SFE_PROF_DATA0, 0, 0⟩
/-- SFE_PROF_DATA0.wrate. -/
def SFE_PROF_DATA0_wrate : Fld := ⟨SFE_PROF_DATA0, 1, 1⟩
/-- SFE_PROF_DATA0.rate_mask. -/
def SFE_PROF_DATA0_rate_mask : Fld := ⟨SFE_PROF_DATA0, 5, 2⟩
/-- SFE_PROF_DATA0.codec_mask. -/
def SFE_PROF_DATA0_codec_mask : Fld := ⟨SFE_PROF_DATA0, 11, 6⟩
/-- SFE_PROF_DATA0.host_en. -/
def SFE_PROF_DATA0_host_en : Fld := ⟨SFE_PROF_DATA0, 12, 12⟩
/-- SFE_PROF_DATA0.pool. -/
def SFE_PROF_DATA0_pool : Fld := ⟨SFE_PROF_DATA0, 13, 13⟩
/-- SFE_PROF_DATA0.out_fmt. -/
def SFE_PROF_DATA0_out_fmt : Fld := ⟨SFE_PROF_DATA0, 14, 14⟩
/-- SFE_PROF_DATA0.levels. -/
def SFE_PROF_DATA0_levels : Fld := ⟨SFE_PROF_DATA0, 16, 15⟩
/-- SFE_PROF_DATA0.stride. -/
def SFE_PROF_DATA0_stride : Fld := ⟨SFE_PROF_DATA0, 18, 17⟩
/-- SFE_PROF_DATA0.norm_mode. -/
def SFE_PROF_DATA0_norm_mode : Fld := ⟨SFE_PROF_DATA0, 20, 19⟩
/-- SFE_PROF_DATA0.k. -/
def SFE_PROF_DATA0_k : Fld := ⟨SFE_PROF_DATA0, 24, 21⟩
/-- SFE_PROF_DATA1. -/
def SFE_PROF_DATA1 : Nat := 0xd00054
/-- SFE_PROF_DATA1.frame_len. -/
def SFE_PROF_DATA1_frame_len : Fld := ⟨SFE_PROF_DATA1, 10, 0⟩
/-- SFE_PROF_DATA1.hop. -/
def SFE_PROF_DATA1_hop : Fld := ⟨SFE_PROF_DATA1, 21, 11⟩
/-- SFE_PROF_DATA1.fft. -/
def SFE_PROF_DATA1_fft : Fld := ⟨SFE_PROF_DATA1, 23, 22⟩
/-- SFE_PROF_DATA1.log_en. -/
def SFE_PROF_DATA1_log_en : Fld := ⟨SFE_PROF_DATA1, 24, 24⟩
/-- SFE_PROF_DATA1.win_tbl. -/
def SFE_PROF_DATA1_win_tbl : Fld := ⟨SFE_PROF_DATA1, 27, 25⟩
/-- SFE_PROF_DATA2. -/
def SFE_PROF_DATA2 : Nat := 0xd00058
/-- SFE_PROF_DATA2.bins. -/
def SFE_PROF_DATA2_bins : Fld := ⟨SFE_PROF_DATA2, 7, 0⟩
/-- SFE_PROF_DATA2.mel_bank. -/
def SFE_PROF_DATA2_mel_bank : Fld := ⟨SFE_PROF_DATA2, 11, 8⟩
/-- SFE_PROF_DATA2.norm_tbl. -/
def SFE_PROF_DATA2_norm_tbl : Fld := ⟨SFE_PROF_DATA2, 17, 12⟩
/-- SFE_PROF_DATA2.out_shift. -/
def SFE_PROF_DATA2_out_shift : Fld := ⟨SFE_PROF_DATA2, 22, 18⟩
/-- SFE_PROF_DATA3. -/
def SFE_PROF_DATA3 : Nat := 0xd0005c
/-- SFE_PROF_DATA3.preemph. -/
def SFE_PROF_DATA3_preemph : Fld := ⟨SFE_PROF_DATA3, 15, 0⟩
/-- SFE_PROF_DATA3.gap_max. -/
def SFE_PROF_DATA3_gap_max : Fld := ⟨SFE_PROF_DATA3, 30, 16⟩
/-- SFE_PROF_DATA4. -/
def SFE_PROF_DATA4 : Nat := 0xd00060
/-- SFE_PROF_DATA4.max_seg_bytes. -/
def SFE_PROF_DATA4_max_seg_bytes : Fld := ⟨SFE_PROF_DATA4, 15, 0⟩
/-- SFE_PROF_DATA5. -/
def SFE_PROF_DATA5 : Nat := 0xd00064
/-- SFE_PROF_DATA5.fe_bytes. -/
def SFE_PROF_DATA5_fe_bytes : Fld := ⟨SFE_PROF_DATA5, 11, 0⟩
/-- SFE_PROF_DATA5.gen. -/
def SFE_PROF_DATA5_gen : Fld := ⟨SFE_PROF_DATA5, 27, 16⟩
/-- SFE_STALE_LIM. -/
def SFE_STALE_LIM (i : Nat) : Nat := 0xd00100 + 4 * i
/-- SFE_STALE_LIM.limit_ns. -/
def SFE_STALE_LIM_limit_ns (i : Nat) : Fld := ⟨SFE_STALE_LIM i, 31, 0⟩
/-- SFE_SEGS. -/
def SFE_SEGS : Nat := 0xd01000
/-- SFE_SPANS. -/
def SFE_SPANS : Nat := 0xd01008
/-- SFE_ROWS. -/
def SFE_ROWS : Nat := 0xd01010
/-- SFE_BAD_PROFILE. -/
def SFE_BAD_PROFILE : Nat := 0xd01018
/-- SFE_BAD_CODEC. -/
def SFE_BAD_CODEC : Nat := 0xd01020
/-- SFE_BAD_RATE. -/
def SFE_BAD_RATE : Nat := 0xd01028
/-- SFE_BAD_LEN. -/
def SFE_BAD_LEN : Nat := 0xd01030
/-- SFE_TOO_LONG. -/
def SFE_TOO_LONG : Nat := 0xd01038
/-- SFE_STALE_PARSE. -/
def SFE_STALE_PARSE : Nat := 0xd01040
/-- SFE_STALE_DISPATCH. -/
def SFE_STALE_DISPATCH : Nat := 0xd01048
/-- SFE_DUP. -/
def SFE_DUP : Nat := 0xd01050
/-- SFE_LATE_SEQ. -/
def SFE_LATE_SEQ : Nat := 0xd01058
/-- SFE_RESTART. -/
def SFE_RESTART : Nat := 0xd01060
/-- SFE_SEQ_GAP. -/
def SFE_SEQ_GAP : Nat := 0xd01068
/-- SFE_EMPTY. -/
def SFE_EMPTY : Nat := 0xd01070
/-- SFE_HOST_COPY. -/
def SFE_HOST_COPY : Nat := 0xd01078
/-- SFE_HOST_DROP. -/
def SFE_HOST_DROP : Nat := 0xd01080
/-- SFE_STATE_MISS. -/
def SFE_STATE_MISS : Nat := 0xd01088
/-- SFE_STALL_NS. -/
def SFE_STALL_NS : Nat := 0xd01090
/-- SFE_CLOCK_SKEW. -/
def SFE_CLOCK_SKEW : Nat := 0xd01098
/-- SFE_WIN. -/
def SFE_WIN (i : Nat) : Nat := 0xd10000 + 4 * i
/-- SFE_WIN.pair. -/
def SFE_WIN_pair (i : Nat) : Fld := ⟨SFE_WIN i, 31, 0⟩
/-- SFE_MEL. -/
def SFE_MEL (i : Nat) : Nat := 0xd18000 + 4 * i
/-- SFE_MEL.start. -/
def SFE_MEL_start (i : Nat) : Fld := ⟨SFE_MEL i, 8, 0⟩
/-- SFE_MEL.count. -/
def SFE_MEL_count (i : Nat) : Fld := ⟨SFE_MEL i, 14, 9⟩
/-- SFE_MEL.offset. -/
def SFE_MEL_offset (i : Nat) : Fld := ⟨SFE_MEL i, 29, 16⟩
/-- SFE_MELW. -/
def SFE_MELW (i : Nat) : Nat := 0xd20000 + 4 * i
/-- SFE_MELW.pair. -/
def SFE_MELW_pair (i : Nat) : Fld := ⟨SFE_MELW i, 31, 0⟩
/-- SFE_NORM. -/
def SFE_NORM (i : Nat) : Nat := 0xd30000 + 4 * i
/-- SFE_NORM.mean. -/
def SFE_NORM_mean (i : Nat) : Fld := ⟨SFE_NORM i, 15, 0⟩
/-- SFE_NORM.scale. -/
def SFE_NORM_scale (i : Nat) : Fld := ⟨SFE_NORM i, 31, 16⟩
/-- FAB_CTRL. -/
def FAB_CTRL : Nat := 0x1000000
/-- FAB_CTRL.enable. -/
def FAB_CTRL_enable : Fld := ⟨FAB_CTRL, 0, 0⟩
/-- FAB_CTRL.trail_en. -/
def FAB_CTRL_trail_en : Fld := ⟨FAB_CTRL, 1, 1⟩
/-- FAB_FIELD_STAT. -/
def FAB_FIELD_STAT (i : Nat) : Nat := 0x1000010 + 4 * i
/-- FAB_FIELD_STAT.role. -/
def FAB_FIELD_STAT_role (i : Nat) : Fld := ⟨FAB_FIELD_STAT i, 0, 0⟩
/-- FAB_FIELD_STAT.plots. -/
def FAB_FIELD_STAT_plots (i : Nat) : Fld := ⟨FAB_FIELD_STAT i, 8, 1⟩
/-- FAB_FIELD_STAT.free_tiles. -/
def FAB_FIELD_STAT_free_tiles (i : Nat) : Fld := ⟨FAB_FIELD_STAT i, 19, 9⟩
/-- FAB_COMMIT_STAT. -/
def FAB_COMMIT_STAT (i : Nat) : Nat := 0x1000020 + 4 * i
/-- FAB_COMMIT_STAT.commit_seq. -/
def FAB_COMMIT_STAT_commit_seq (i : Nat) : Fld := ⟨FAB_COMMIT_STAT i, 15, 0⟩
/-- FAB_COMMIT_STAT.applied. -/
def FAB_COMMIT_STAT_applied (i : Nat) : Fld := ⟨FAB_COMMIT_STAT i, 17, 16⟩
/-- FAB_COMMIT_STAT.running. -/
def FAB_COMMIT_STAT_running (i : Nat) : Fld := ⟨FAB_COMMIT_STAT i, 18, 18⟩
/-- FAB_COMMIT_STAT.pending. -/
def FAB_COMMIT_STAT_pending (i : Nat) : Fld := ⟨FAB_COMMIT_STAT i, 19, 19⟩
/-- FAB_COMMIT_STAT.busy. -/
def FAB_COMMIT_STAT_busy (i : Nat) : Fld := ⟨FAB_COMMIT_STAT i, 20, 20⟩
/-- FAB_ROWMAP. -/
def FAB_ROWMAP (i : Nat) : Nat := 0x1000030 + 4 * i
/-- FAB_ROWMAP.skip. -/
def FAB_ROWMAP_skip (i : Nat) : Fld := ⟨FAB_ROWMAP i, 31, 0⟩
/-- FAB_LOAD_STAT. -/
def FAB_LOAD_STAT : Nat := 0x1000040
/-- FAB_LOAD_STAT.code. -/
def FAB_LOAD_STAT_code : Fld := ⟨FAB_LOAD_STAT, 3, 0⟩
/-- FAB_LOAD_STAT.section. -/
def FAB_LOAD_STAT_section : Fld := ⟨FAB_LOAD_STAT, 7, 4⟩
/-- FAB_LOAD_STAT.handle. -/
def FAB_LOAD_STAT_handle : Fld := ⟨FAB_LOAD_STAT, 31, 16⟩
/-- FAB_FAULT_STAT. -/
def FAB_FAULT_STAT : Nat := 0x1000044
/-- FAB_FAULT_STAT.field. -/
def FAB_FAULT_STAT_field : Fld := ⟨FAB_FAULT_STAT, 1, 0⟩
/-- FAB_FAULT_STAT.x. -/
def FAB_FAULT_STAT_x : Fld := ⟨FAB_FAULT_STAT, 7, 2⟩
/-- FAB_FAULT_STAT.y. -/
def FAB_FAULT_STAT_y : Fld := ⟨FAB_FAULT_STAT, 13, 8⟩
/-- FAB_FAULT_STAT.kind. -/
def FAB_FAULT_STAT_kind : Fld := ⟨FAB_FAULT_STAT, 14, 14⟩
/-- FAB_STALL_SEL. -/
def FAB_STALL_SEL : Nat := 0x1000080
/-- FAB_STALL_SEL.kind. -/
def FAB_STALL_SEL_kind : Fld := ⟨FAB_STALL_SEL, 1, 0⟩
/-- FAB_STALL_SEL.field. -/
def FAB_STALL_SEL_field : Fld := ⟨FAB_STALL_SEL, 3, 2⟩
/-- FAB_STALL_SEL.plot. -/
def FAB_STALL_SEL_plot : Fld := ⟨FAB_STALL_SEL, 10, 4⟩
/-- FAB_STALL_SEL.x. -/
def FAB_STALL_SEL_x : Fld := ⟨FAB_STALL_SEL, 21, 16⟩
/-- FAB_STALL_SEL.y. -/
def FAB_STALL_SEL_y : Fld := ⟨FAB_STALL_SEL, 27, 22⟩
/-- FAB_SEL_INPUT_NS. -/
def FAB_SEL_INPUT_NS : Nat := 0x1000088
/-- FAB_SEL_CREDIT_NS. -/
def FAB_SEL_CREDIT_NS : Nat := 0x1000090
/-- FAB_SEL_STORE_NS. -/
def FAB_SEL_STORE_NS : Nat := 0x1000098
/-- FAB_SEL_CFG_NS. -/
def FAB_SEL_CFG_NS : Nat := 0x10000a0
/-- FAB_SEL_TOKENS. -/
def FAB_SEL_TOKENS : Nat := 0x10000a8
/-- FAB_FLD_INPUT_NS. -/
def FAB_FLD_INPUT_NS (i : Nat) : Nat := 0x1000100 + 0x40 * i
/-- FAB_FLD_CREDIT_NS. -/
def FAB_FLD_CREDIT_NS (i : Nat) : Nat := 0x1000108 + 0x40 * i
/-- FAB_FLD_STORE_NS. -/
def FAB_FLD_STORE_NS (i : Nat) : Nat := 0x1000110 + 0x40 * i
/-- FAB_FLD_CFG_NS. -/
def FAB_FLD_CFG_NS (i : Nat) : Nat := 0x1000118 + 0x40 * i
/-- FAB_FLD_TOKENS. -/
def FAB_FLD_TOKENS (i : Nat) : Nat := 0x1000120 + 0x40 * i
/-- FAB_QD_PERIOD. -/
def FAB_QD_PERIOD : Nat := 0x1000200
/-- FAB_QD_PERIOD.period_ns. -/
def FAB_QD_PERIOD_period_ns : Fld := ⟨FAB_QD_PERIOD, 31, 0⟩
/-- FAB_QD_SEL. -/
def FAB_QD_SEL (i : Nat) : Nat := 0x1000240 + 4 * i
/-- FAB_QD_SEL.x. -/
def FAB_QD_SEL_x (i : Nat) : Fld := ⟨FAB_QD_SEL i, 5, 0⟩
/-- FAB_QD_SEL.y. -/
def FAB_QD_SEL_y (i : Nat) : Fld := ⟨FAB_QD_SEL i, 11, 6⟩
/-- FAB_QD_SEL.queue. -/
def FAB_QD_SEL_queue (i : Nat) : Fld := ⟨FAB_QD_SEL i, 15, 12⟩
/-- FAB_QD_SEL.valid. -/
def FAB_QD_SEL_valid (i : Nat) : Fld := ⟨FAB_QD_SEL i, 16, 16⟩
/-- FAB_QD_LAST. -/
def FAB_QD_LAST (i : Nat) : Nat := 0x1000300 + 0x20 * i
/-- FAB_QD_LAST.last. -/
def FAB_QD_LAST_last (i : Nat) : Fld := ⟨FAB_QD_LAST i, 31, 0⟩
/-- FAB_QD_MAX. -/
def FAB_QD_MAX (i : Nat) : Nat := 0x1000304 + 0x20 * i
/-- FAB_QD_MAX.max. -/
def FAB_QD_MAX_max (i : Nat) : Fld := ⟨FAB_QD_MAX i, 31, 0⟩
/-- FAB_QD_SUM. -/
def FAB_QD_SUM (i : Nat) : Nat := 0x1000308 + 0x20 * i
/-- FAB_QD_SUM.sum. -/
def FAB_QD_SUM_sum (i : Nat) : Fld := ⟨FAB_QD_SUM i, 63, 0⟩
/-- FAB_QD_CNT. -/
def FAB_QD_CNT (i : Nat) : Nat := 0x1000310 + 0x20 * i
/-- FAB_QD_CNT.count. -/
def FAB_QD_CNT_count (i : Nat) : Fld := ⟨FAB_QD_CNT i, 63, 0⟩
/-- FAB_COLSKIP. -/
def FAB_COLSKIP (i j : Nat) : Nat := 0x1001000 + 0x100 * i + 4 * j
/-- FAB_COLSKIP.col. -/
def FAB_COLSKIP_col (i j : Nat) : Fld := ⟨FAB_COLSKIP i j, 5, 0⟩
/-- FAB_COLSKIP.rows32_33. -/
def FAB_COLSKIP_rows32_33 (i j : Nat) : Fld := ⟨FAB_COLSKIP i j, 31, 30⟩
/-- FAB_SECTIONS. -/
def FAB_SECTIONS : Nat := 0x1002000
/-- FAB_PASSES. -/
def FAB_PASSES : Nat := 0x1002008
/-- FAB_COMMITS. -/
def FAB_COMMITS : Nat := 0x1002010
/-- FAB_COMMIT_BUSY. -/
def FAB_COMMIT_BUSY : Nat := 0x1002018
/-- FAB_LOAD_REFUSED. -/
def FAB_LOAD_REFUSED : Nat := 0x1002020
/-- FAB_SPILL_BYTES. -/
def FAB_SPILL_BYTES : Nat := 0x1002028
/-- FAB_TAG_RANGE. -/
def FAB_TAG_RANGE : Nat := 0x1002030
/-- FAB_CFG_CRC. -/
def FAB_CFG_CRC : Nat := 0x1002038
/-- FAB_SLOT_FENCED. -/
def FAB_SLOT_FENCED : Nat := 0x1002040
/-- FAB_SHORT_STALLS. -/
def FAB_SHORT_STALLS : Nat := 0x1002048
/-- NUM_CTRL. -/
def NUM_CTRL : Nat := 0x1400000
/-- NUM_CTRL.widen_mode. -/
def NUM_CTRL_widen_mode : Fld := ⟨NUM_CTRL, 1, 0⟩
/-- NUM_CTRL.sr_en. -/
def NUM_CTRL_sr_en : Fld := ⟨NUM_CTRL, 2, 2⟩
/-- NUM_CTRL.stat_en. -/
def NUM_CTRL_stat_en : Fld := ⟨NUM_CTRL, 3, 3⟩
/-- NUM_CTRL.mse_shift. -/
def NUM_CTRL_mse_shift : Fld := ⟨NUM_CTRL, 8, 4⟩
/-- NUM_EPOCH_CTRL. -/
def NUM_EPOCH_CTRL : Nat := 0x1400004
/-- NUM_EPOCH_CTRL.commit. -/
def NUM_EPOCH_CTRL_commit : Fld := ⟨NUM_EPOCH_CTRL, 0, 0⟩
/-- NUM_EPOCH_STAT. -/
def NUM_EPOCH_STAT : Nat := 0x1400008
/-- NUM_EPOCH_STAT.current. -/
def NUM_EPOCH_STAT_current : Fld := ⟨NUM_EPOCH_STAT, 15, 0⟩
/-- NUM_EPOCH_STAT.installing. -/
def NUM_EPOCH_STAT_installing : Fld := ⟨NUM_EPOCH_STAT, 16, 16⟩
/-- NUM_EPOCH_STAT.draining_valid. -/
def NUM_EPOCH_STAT_draining_valid : Fld := ⟨NUM_EPOCH_STAT, 17, 17⟩
/-- NUM_EPOCH_STAT.pending. -/
def NUM_EPOCH_STAT_pending : Fld := ⟨NUM_EPOCH_STAT, 18, 18⟩
/-- NUM_EPOCH_STAT.busy. -/
def NUM_EPOCH_STAT_busy : Fld := ⟨NUM_EPOCH_STAT, 19, 19⟩
/-- NUM_EPOCH_DRAIN. -/
def NUM_EPOCH_DRAIN : Nat := 0x140000c
/-- NUM_EPOCH_DRAIN.draining. -/
def NUM_EPOCH_DRAIN_draining : Fld := ⟨NUM_EPOCH_DRAIN, 15, 0⟩
/-- NUM_STAT_QP. -/
def NUM_STAT_QP : Nat := 0x1400010
/-- NUM_STAT_QP.qp. -/
def NUM_STAT_QP_qp : Fld := ⟨NUM_STAT_QP, 13, 0⟩
/-- NUM_STAT_SEL. -/
def NUM_STAT_SEL : Nat := 0x1400020
/-- NUM_STAT_SEL.handle. -/
def NUM_STAT_SEL_handle : Fld := ⟨NUM_STAT_SEL, 15, 0⟩
/-- NUM_STAT_SEL.section. -/
def NUM_STAT_SEL_section : Fld := ⟨NUM_STAT_SEL, 19, 16⟩
/-- NUM_STAT_SEL.slot. -/
def NUM_STAT_SEL_slot : Fld := ⟨NUM_STAT_SEL, 20, 20⟩
/-- NUM_STAT_CMD. -/
def NUM_STAT_CMD : Nat := 0x1400024
/-- NUM_STAT_CMD.read. -/
def NUM_STAT_CMD_read : Fld := ⟨NUM_STAT_CMD, 0, 0⟩
/-- NUM_STAT_CMD.clear. -/
def NUM_STAT_CMD_clear : Fld := ⟨NUM_STAT_CMD, 1, 1⟩
/-- NUM_STAT_STAT. -/
def NUM_STAT_STAT : Nat := 0x1400028
/-- NUM_STAT_STAT.epoch. -/
def NUM_STAT_STAT_epoch : Fld := ⟨NUM_STAT_STAT, 15, 0⟩
/-- NUM_STAT_STAT.valid. -/
def NUM_STAT_STAT_valid : Fld := ⟨NUM_STAT_STAT, 16, 16⟩
/-- NUM_STAT_STAT.sse_sat. -/
def NUM_STAT_STAT_sse_sat : Fld := ⟨NUM_STAT_STAT, 17, 17⟩
/-- NUM_STAT_OUTPUTS. -/
def NUM_STAT_OUTPUTS : Nat := 0x1400030
/-- NUM_STAT_SAMPLES. -/
def NUM_STAT_SAMPLES : Nat := 0x1400038
/-- NUM_STAT_SSE. -/
def NUM_STAT_SSE : Nat := 0x1400040
/-- NUM_STAT_SAT. -/
def NUM_STAT_SAT : Nat := 0x1400048
/-- NUM_STAT_PASSES. -/
def NUM_STAT_PASSES : Nat := 0x1400050
/-- NUM_STAT_WIDENED. -/
def NUM_STAT_WIDENED : Nat := 0x1400058
/-- NUM_STAT_MAXERR. -/
def NUM_STAT_MAXERR : Nat := 0x1400060
/-- NUM_STAT_MAXERR.max_e8. -/
def NUM_STAT_MAXERR_max_e8 : Fld := ⟨NUM_STAT_MAXERR, 31, 0⟩
/-- NUM_SAT_ACC. -/
def NUM_SAT_ACC : Nat := 0x1401000
/-- NUM_SAT_OUT. -/
def NUM_SAT_OUT : Nat := 0x1401008
/-- NUM_SAT_EXP. -/
def NUM_SAT_EXP : Nat := 0x1401010
/-- NUM_SAT_ESC. -/
def NUM_SAT_ESC : Nat := 0x1401018
/-- NUM_ESC_ORPHAN. -/
def NUM_ESC_ORPHAN : Nat := 0x1401020
/-- NUM_BAD_SHIFT. -/
def NUM_BAD_SHIFT : Nat := 0x1401028
/-- NUM_EPOCH_COMMITS. -/
def NUM_EPOCH_COMMITS : Nat := 0x1401030
/-- NUM_WIDEN_RUNS. -/
def NUM_WIDEN_RUNS : Nat := 0x1401038
/-- NUM_WIDEN_SAT. -/
def NUM_WIDEN_SAT : Nat := 0x1401040
/-- NUM_WIDEN_NONE. -/
def NUM_WIDEN_NONE : Nat := 0x1401048
/-- NUM_RETAIN_VIOL. -/
def NUM_RETAIN_VIOL : Nat := 0x1401050
/-- NUM_EPOCH_BUSY. -/
def NUM_EPOCH_BUSY : Nat := 0x1401058
/-- NUM_STAT_DROP. -/
def NUM_STAT_DROP : Nat := 0x1401060
/-- BAY_CTRL. -/
def BAY_CTRL : Nat := 0x1500000
/-- BAY_CTRL.enable. -/
def BAY_CTRL_enable : Fld := ⟨BAY_CTRL, 0, 0⟩
/-- BAY_STAT. -/
def BAY_STAT : Nat := 0x1500004
/-- BAY_STAT.resident. -/
def BAY_STAT_resident : Fld := ⟨BAY_STAT, 8, 0⟩
/-- BAY_STAT.paging. -/
def BAY_STAT_paging : Fld := ⟨BAY_STAT, 11, 9⟩
/-- BAY_STAT.serving. -/
def BAY_STAT_serving : Fld := ⟨BAY_STAT, 15, 12⟩
/-- BAY_SERVE_RESERVE. -/
def BAY_SERVE_RESERVE : Nat := 0x1500008
/-- BAY_SERVE_RESERVE.fields. -/
def BAY_SERVE_RESERVE_fields : Fld := ⟨BAY_SERVE_RESERVE, 2, 0⟩
/-- BAY_SLOT_SIZE. -/
def BAY_SLOT_SIZE : Nat := 0x150000c
/-- BAY_SLOT_SIZE.size. -/
def BAY_SLOT_SIZE_size : Fld := ⟨BAY_SLOT_SIZE, 1, 0⟩
/-- BAY_HBM_IMG. -/
def BAY_HBM_IMG : Nat := 0x1500010
/-- BAY_HBM_IMG.gib. -/
def BAY_HBM_IMG_gib : Fld := ⟨BAY_HBM_IMG, 6, 0⟩
/-- BAY_PLOT_STALL. -/
def BAY_PLOT_STALL : Nat := 0x1500014
/-- BAY_PLOT_STALL.ns. -/
def BAY_PLOT_STALL_ns : Fld := ⟨BAY_PLOT_STALL, 31, 0⟩
/-- BAY_PIN_TERM. -/
def BAY_PIN_TERM : Nat := 0x1500018
/-- BAY_PIN_TERM.ns. -/
def BAY_PIN_TERM_ns : Fld := ⟨BAY_PIN_TERM, 31, 0⟩
/-- BAY_PAGE_MAX. -/
def BAY_PAGE_MAX : Nat := 0x150001c
/-- BAY_PAGE_MAX.n. -/
def BAY_PAGE_MAX_n : Fld := ⟨BAY_PAGE_MAX, 2, 0⟩
/-- BAY_CLASS. -/
def BAY_CLASS (i : Nat) : Nat := 0x1500040 + 4 * i
/-- BAY_CLASS.strict. -/
def BAY_CLASS_strict (i : Nat) : Fld := ⟨BAY_CLASS i, 0, 0⟩
/-- BAY_CLASS.quantum. -/
def BAY_CLASS_quantum (i : Nat) : Fld := ⟨BAY_CLASS i, 27, 16⟩
/-- BAY_CMD. -/
def BAY_CMD : Nat := 0x1500100
/-- BAY_CMD.go. -/
def BAY_CMD_go : Fld := ⟨BAY_CMD, 0, 0⟩
/-- BAY_CMD_STAT. -/
def BAY_CMD_STAT : Nat := 0x1500104
/-- BAY_CMD_STAT.done. -/
def BAY_CMD_STAT_done : Fld := ⟨BAY_CMD_STAT, 0, 0⟩
/-- BAY_CMD_STAT.status. -/
def BAY_CMD_STAT_status : Fld := ⟨BAY_CMD_STAT, 4, 1⟩
/-- BAY_CMD_DATA. -/
def BAY_CMD_DATA (i : Nat) : Nat := 0x1500140 + 4 * i
/-- BAY_CMD_DATA.word. -/
def BAY_CMD_DATA_word (i : Nat) : Fld := ⟨BAY_CMD_DATA i, 31, 0⟩
/-- BAY_CAT_SEL. -/
def BAY_CAT_SEL : Nat := 0x1500200
/-- BAY_CAT_SEL.handle. -/
def BAY_CAT_SEL_handle : Fld := ⟨BAY_CAT_SEL, 15, 0⟩
/-- BAY_CAT_CMD. -/
def BAY_CAT_CMD : Nat := 0x1500204
/-- BAY_CAT_CMD.read. -/
def BAY_CAT_CMD_read : Fld := ⟨BAY_CAT_CMD, 0, 0⟩
/-- BAY_CAT_DATA. -/
def BAY_CAT_DATA (i : Nat) : Nat := 0x1500240 + 4 * i
/-- BAY_CAT_DATA.word. -/
def BAY_CAT_DATA_word (i : Nat) : Fld := ⟨BAY_CAT_DATA i, 31, 0⟩
/-- BAY_MISS. -/
def BAY_MISS : Nat := 0x1501000
/-- BAY_PAGE_INS. -/
def BAY_PAGE_INS : Nat := 0x1501008
/-- BAY_PAGE_JOIN. -/
def BAY_PAGE_JOIN : Nat := 0x1501010
/-- BAY_EVICT. -/
def BAY_EVICT : Nat := 0x1501018
/-- BAY_EVICT_FRAG. -/
def BAY_EVICT_FRAG : Nat := 0x1501020
/-- BAY_PLACE_WAIT_NS. -/
def BAY_PLACE_WAIT_NS : Nat := 0x1501028
/-- BAY_DIGEST_FAIL. -/
def BAY_DIGEST_FAIL : Nat := 0x1501030
/-- BAY_LOAD_FAIL. -/
def BAY_LOAD_FAIL : Nat := 0x1501038
/-- BAY_LOAD_FAIL.count. -/
def BAY_LOAD_FAIL_count : Fld := ⟨BAY_LOAD_FAIL, 31, 0⟩
/-- BAY_PAGE_FAIL. -/
def BAY_PAGE_FAIL : Nat := 0x150103c
/-- BAY_PAGE_FAIL.count. -/
def BAY_PAGE_FAIL_count : Fld := ⟨BAY_PAGE_FAIL, 31, 0⟩
/-- BAY_REVOKE. -/
def BAY_REVOKE : Nat := 0x1501040
/-- BAY_STALL_REVOKE. -/
def BAY_STALL_REVOKE : Nat := 0x1501048
/-- BAY_STATE_RESET. -/
def BAY_STATE_RESET : Nat := 0x1501050
/-- BAY_SLOT_DENIED. -/
def BAY_SLOT_DENIED : Nat := 0x1501058
/-- BAY_SLOT_OVERSIZE. -/
def BAY_SLOT_OVERSIZE : Nat := 0x1501060
/-- BAY_PIN_EXPIRED. -/
def BAY_PIN_EXPIRED : Nat := 0x1501068
/-- BAY_ROWS. -/
def BAY_ROWS : Nat := 0x1501070
/-- ADP_CTRL. -/
def ADP_CTRL : Nat := 0x1600000
/-- ADP_CTRL.enable. -/
def ADP_CTRL_enable : Fld := ⟨ADP_CTRL, 0, 0⟩
/-- ADP_CACHE_GIB. -/
def ADP_CACHE_GIB : Nat := 0x1600004
/-- ADP_CACHE_GIB.gib. -/
def ADP_CACHE_GIB_gib : Fld := ⟨ADP_CACHE_GIB, 5, 0⟩
/-- ADP_GRANT_TERM. -/
def ADP_GRANT_TERM : Nat := 0x1600008
/-- ADP_GRANT_TERM.ns. -/
def ADP_GRANT_TERM_ns : Fld := ⟨ADP_GRANT_TERM, 31, 0⟩
/-- ADP_CMD. -/
def ADP_CMD : Nat := 0x1600010
/-- ADP_CMD.go. -/
def ADP_CMD_go : Fld := ⟨ADP_CMD, 0, 0⟩
/-- ADP_CMD_STAT. -/
def ADP_CMD_STAT : Nat := 0x1600014
/-- ADP_CMD_STAT.done. -/
def ADP_CMD_STAT_done : Fld := ⟨ADP_CMD_STAT, 0, 0⟩
/-- ADP_CMD_STAT.status. -/
def ADP_CMD_STAT_status : Fld := ⟨ADP_CMD_STAT, 4, 1⟩
/-- ADP_CMD_DATA. -/
def ADP_CMD_DATA (i : Nat) : Nat := 0x1600040 + 4 * i
/-- ADP_CMD_DATA.word. -/
def ADP_CMD_DATA_word (i : Nat) : Fld := ⟨ADP_CMD_DATA i, 31, 0⟩
/-- ADP_JOB_STAT. -/
def ADP_JOB_STAT (i : Nat) : Nat := 0x1600100 + 0x20 * i
/-- ADP_JOB_STAT.state. -/
def ADP_JOB_STAT_state (i : Nat) : Fld := ⟨ADP_JOB_STAT i, 1, 0⟩
/-- ADP_JOB_STAT.fields. -/
def ADP_JOB_STAT_fields (i : Nat) : Fld := ⟨ADP_JOB_STAT i, 7, 4⟩
/-- ADP_JOB_STAT.last_cause. -/
def ADP_JOB_STAT_last_cause (i : Nat) : Fld := ⟨ADP_JOB_STAT i, 11, 8⟩
/-- ADP_JOB_STAT.t_epoch. -/
def ADP_JOB_STAT_t_epoch (i : Nat) : Fld := ⟨ADP_JOB_STAT i, 31, 16⟩
/-- ADP_JOB_STEP. -/
def ADP_JOB_STEP (i : Nat) : Nat := 0x1600104 + 0x20 * i
/-- ADP_JOB_STEP.step. -/
def ADP_JOB_STEP_step (i : Nat) : Fld := ⟨ADP_JOB_STEP i, 25, 0⟩
/-- ADP_JOB_CKPT_SEQ. -/
def ADP_JOB_CKPT_SEQ (i : Nat) : Nat := 0x1600108 + 0x20 * i
/-- ADP_JOB_CKPT_SEQ.seq. -/
def ADP_JOB_CKPT_SEQ_seq (i : Nat) : Fld := ⟨ADP_JOB_CKPT_SEQ i, 31, 0⟩
/-- ADP_JOB_GRANT_LEFT. -/
def ADP_JOB_GRANT_LEFT (i : Nat) : Nat := 0x160010c + 0x20 * i
/-- ADP_JOB_GRANT_LEFT.ns. -/
def ADP_JOB_GRANT_LEFT_ns (i : Nat) : Fld := ⟨ADP_JOB_GRANT_LEFT i, 31, 0⟩
/-- ADP_BATCHES. -/
def ADP_BATCHES : Nat := 0x1601000
/-- ADP_BATCH_RERUN. -/
def ADP_BATCH_RERUN : Nat := 0x1601008
/-- ADP_SAMPLES. -/
def ADP_SAMPLES : Nat := 0x1601010
/-- ADP_SKIP. -/
def ADP_SKIP : Nat := 0x1601018
/-- ADP_TRUNC. -/
def ADP_TRUNC : Nat := 0x1601020
/-- ADP_CACHE_MISS. -/
def ADP_CACHE_MISS : Nat := 0x1601028
/-- ADP_SAT_RED. -/
def ADP_SAT_RED : Nat := 0x1601030
/-- ADP_SAT_OPT. -/
def ADP_SAT_OPT : Nat := 0x1601038
/-- ADP_REVOKE. -/
def ADP_REVOKE : Nat := 0x1601040
/-- ADP_CKPT. -/
def ADP_CKPT : Nat := 0x1601048
/-- HIF_CTRL. -/
def HIF_CTRL : Nat := 0x1700000
/-- HIF_CTRL.enable. -/
def HIF_CTRL_enable : Fld := ⟨HIF_CTRL, 0, 0⟩
/-- HIF_EVENT_QP. -/
def HIF_EVENT_QP : Nat := 0x1700004
/-- HIF_EVENT_QP.qp. -/
def HIF_EVENT_QP_qp : Fld := ⟨HIF_EVENT_QP, 13, 0⟩
/-- HIF_LTR. -/
def HIF_LTR : Nat := 0x1700008
/-- HIF_LTR.snoop. -/
def HIF_LTR_snoop : Fld := ⟨HIF_LTR, 15, 0⟩
/-- HIF_LTR.no_snoop. -/
def HIF_LTR_no_snoop : Fld := ⟨HIF_LTR, 31, 16⟩
/-- HIF_WAKE_BUDGET. -/
def HIF_WAKE_BUDGET (i : Nat) : Nat := 0x1700010 + 4 * i
/-- HIF_WAKE_BUDGET.budget_ns. -/
def HIF_WAKE_BUDGET_budget_ns (i : Nat) : Fld := ⟨HIF_WAKE_BUDGET i, 31, 0⟩
/-- HIF_WAKE_DEV. -/
def HIF_WAKE_DEV : Nat := 0x1700020
/-- HIF_WAKE_DEV.budget_ns. -/
def HIF_WAKE_DEV_budget_ns : Fld := ⟨HIF_WAKE_DEV, 31, 0⟩
/-- HIF_QP_CMD. -/
def HIF_QP_CMD : Nat := 0x1700100
/-- HIF_QP_CMD.qp. -/
def HIF_QP_CMD_qp : Fld := ⟨HIF_QP_CMD, 13, 0⟩
/-- HIF_QP_CMD.op. -/
def HIF_QP_CMD_op : Fld := ⟨HIF_QP_CMD, 18, 16⟩
/-- HIF_QP_STAT. -/
def HIF_QP_STAT : Nat := 0x1700104
/-- HIF_QP_STAT.done. -/
def HIF_QP_STAT_done : Fld := ⟨HIF_QP_STAT, 0, 0⟩
/-- HIF_QP_STAT.status. -/
def HIF_QP_STAT_status : Fld := ⟨HIF_QP_STAT, 3, 1⟩
/-- HIF_QP_DATA0. -/
def HIF_QP_DATA0 : Nat := 0x1700140
/-- HIF_QP_DATA0.func. -/
def HIF_QP_DATA0_func : Fld := ⟨HIF_QP_DATA0, 6, 0⟩
/-- HIF_QP_DATA0.local. -/
def HIF_QP_DATA0_local : Fld := ⟨HIF_QP_DATA0, 15, 7⟩
/-- HIF_QP_DATA0.domain. -/
def HIF_QP_DATA0_domain : Fld := ⟨HIF_QP_DATA0, 23, 16⟩
/-- HIF_QP_DATA0.state. -/
def HIF_QP_DATA0_state : Fld := ⟨HIF_QP_DATA0, 25, 24⟩
/-- HIF_QP_DATA1. -/
def HIF_QP_DATA1 (i : Nat) : Nat := 0x1700144 + 4 * i
/-- HIF_QP_DATA1.word. -/
def HIF_QP_DATA1_word (i : Nat) : Fld := ⟨HIF_QP_DATA1 i, 31, 0⟩
/-- HIF_QP_DATA5. -/
def HIF_QP_DATA5 (i : Nat) : Nat := 0x1700154 + 4 * i
/-- HIF_QP_DATA5.size. -/
def HIF_QP_DATA5_size (i : Nat) : Fld := ⟨HIF_QP_DATA5 i, 16, 0⟩
/-- HIF_QP_DATA7. -/
def HIF_QP_DATA7 : Nat := 0x170015c
/-- HIF_QP_DATA7.vector. -/
def HIF_QP_DATA7_vector : Fld := ⟨HIF_QP_DATA7, 10, 0⟩
/-- HIF_QP_DATA7.mod_count. -/
def HIF_QP_DATA7_mod_count : Fld := ⟨HIF_QP_DATA7, 23, 16⟩
/-- HIF_QP_DATA8. -/
def HIF_QP_DATA8 : Nat := 0x1700160
/-- HIF_QP_DATA8.mod_ns. -/
def HIF_QP_DATA8_mod_ns : Fld := ⟨HIF_QP_DATA8, 31, 0⟩
/-- HIF_QP_DATA9. -/
def HIF_QP_DATA9 : Nat := 0x1700164
/-- HIF_QP_DATA9.copy_rate. -/
def HIF_QP_DATA9_copy_rate : Fld := ⟨HIF_QP_DATA9, 23, 0⟩
/-- HIF_QP_DATA10. -/
def HIF_QP_DATA10 : Nat := 0x1700168
/-- HIF_QP_DATA10.copy_burst. -/
def HIF_QP_DATA10_copy_burst : Fld := ⟨HIF_QP_DATA10, 15, 0⟩
/-- HIF_QP_DATA11. -/
def HIF_QP_DATA11 : Nat := 0x170016c
/-- HIF_QP_DATA11.sq_head. -/
def HIF_QP_DATA11_sq_head : Fld := ⟨HIF_QP_DATA11, 15, 0⟩
/-- HIF_QP_DATA11.epoch. -/
def HIF_QP_DATA11_epoch : Fld := ⟨HIF_QP_DATA11, 31, 16⟩
/-- HIF_DOM_SEL. -/
def HIF_DOM_SEL : Nat := 0x1700200
/-- HIF_DOM_SEL.domain. -/
def HIF_DOM_SEL_domain : Fld := ⟨HIF_DOM_SEL, 7, 0⟩
/-- HIF_DOM_EPOCH. -/
def HIF_DOM_EPOCH : Nat := 0x1700204
/-- HIF_DOM_EPOCH.epoch. -/
def HIF_DOM_EPOCH_epoch : Fld := ⟨HIF_DOM_EPOCH, 15, 0⟩
/-- HIF_DOM_EPOCH.drain_abort. -/
def HIF_DOM_EPOCH_drain_abort : Fld := ⟨HIF_DOM_EPOCH, 16, 16⟩
/-- HIF_DOM_FLAGS. -/
def HIF_DOM_FLAGS : Nat := 0x1700208
/-- HIF_DOM_FLAGS.rights. -/
def HIF_DOM_FLAGS_rights : Fld := ⟨HIF_DOM_FLAGS, 3, 0⟩
/-- HIF_DOM_STAT. -/
def HIF_DOM_STAT : Nat := 0x170020c
/-- HIF_DOM_STAT.drained. -/
def HIF_DOM_STAT_drained : Fld := ⟨HIF_DOM_STAT, 0, 0⟩
/-- HIF_DOM_STAT.pending. -/
def HIF_DOM_STAT_pending : Fld := ⟨HIF_DOM_STAT, 1, 1⟩
/-- HIF_DOM_STAT.busy. -/
def HIF_DOM_STAT_busy : Fld := ⟨HIF_DOM_STAT, 2, 2⟩
/-- HIF_DOM_WIN_BASE. -/
def HIF_DOM_WIN_BASE (i : Nat) : Nat := 0x1701000 + 0x10 * i
/-- HIF_DOM_WIN_BASE.read. -/
def HIF_DOM_WIN_BASE_read (i : Nat) : Fld := ⟨HIF_DOM_WIN_BASE i, 0, 0⟩
/-- HIF_DOM_WIN_BASE.write. -/
def HIF_DOM_WIN_BASE_write (i : Nat) : Fld := ⟨HIF_DOM_WIN_BASE i, 1, 1⟩
/-- HIF_DOM_WIN_BASE.valid. -/
def HIF_DOM_WIN_BASE_valid (i : Nat) : Fld := ⟨HIF_DOM_WIN_BASE i, 2, 2⟩
/-- HIF_DOM_WIN_BASE.base. -/
def HIF_DOM_WIN_BASE_base (i : Nat) : Fld := ⟨HIF_DOM_WIN_BASE i, 63, 12⟩
/-- HIF_DOM_WIN_LEN. -/
def HIF_DOM_WIN_LEN (i : Nat) : Nat := 0x1701008 + 0x10 * i
/-- HIF_DOM_WIN_LEN.length. -/
def HIF_DOM_WIN_LEN_length (i : Nat) : Fld := ⟨HIF_DOM_WIN_LEN i, 63, 12⟩
/-- HIF_DOM_MSET. -/
def HIF_DOM_MSET (i : Nat) : Nat := 0x1702000 + 4 * i
/-- HIF_DOM_MSET.mset. -/
def HIF_DOM_MSET_mset (i : Nat) : Fld := ⟨HIF_DOM_MSET i, 31, 0⟩
/-- HIF_DESC. -/
def HIF_DESC : Nat := 0x1704000
/-- HIF_DB_BAD. -/
def HIF_DB_BAD : Nat := 0x1704008
/-- HIF_DB_IGNORED. -/
def HIF_DB_IGNORED : Nat := 0x1704010
/-- HIF_LEN_REFUSED. -/
def HIF_LEN_REFUSED : Nat := 0x1704018
/-- HIF_WINDOW_REFUSED. -/
def HIF_WINDOW_REFUSED : Nat := 0x1704020
/-- HIF_DENIED. -/
def HIF_DENIED : Nat := 0x1704028
/-- HIF_REVOKED. -/
def HIF_REVOKED : Nat := 0x1704030
/-- HIF_FENCED. -/
def HIF_FENCED : Nat := 0x1704038
/-- HIF_ABORT_DISCARD. -/
def HIF_ABORT_DISCARD : Nat := 0x1704040
/-- HIF_COPY_DROP. -/
def HIF_COPY_DROP : Nat := 0x1704048
/-- OSL_CTRL. -/
def OSL_CTRL : Nat := 0x1800000
/-- OSL_CTRL.enable. -/
def OSL_CTRL_enable : Fld := ⟨OSL_CTRL, 0, 0⟩
/-- OSL_CTRL.mode. -/
def OSL_CTRL_mode : Fld := ⟨OSL_CTRL, 2, 1⟩
/-- OSL_CTRL.rrst_en. -/
def OSL_CTRL_rrst_en : Fld := ⟨OSL_CTRL, 3, 3⟩
/-- OSL_TOPO. -/
def OSL_TOPO : Nat := 0x1800004
/-- OSL_TOPO.nx1. -/
def OSL_TOPO_nx1 : Fld := ⟨OSL_TOPO, 4, 0⟩
/-- OSL_TOPO.ny1. -/
def OSL_TOPO_ny1 : Fld := ⟨OSL_TOPO, 9, 5⟩
/-- OSL_TOPO.nz1. -/
def OSL_TOPO_nz1 : Fld := ⟨OSL_TOPO, 14, 10⟩
/-- OSL_CHIP_ADDR. -/
def OSL_CHIP_ADDR : Nat := 0x1800008
/-- OSL_CHIP_ADDR.addr. -/
def OSL_CHIP_ADDR_addr : Fld := ⟨OSL_CHIP_ADDR, 14, 0⟩
/-- OSL_SYS_ID. -/
def OSL_SYS_ID : Nat := 0x180000c
/-- OSL_SYS_ID.id. -/
def OSL_SYS_ID_id : Fld := ⟨OSL_SYS_ID, 15, 0⟩
/-- OSL_ABSENT_NS. -/
def OSL_ABSENT_NS : Nat := 0x1800010
/-- OSL_ABSENT_NS.ns. -/
def OSL_ABSENT_NS_ns : Fld := ⟨OSL_ABSENT_NS, 31, 0⟩
/-- OSL_RETRY_NS. -/
def OSL_RETRY_NS : Nat := 0x1800014
/-- OSL_RETRY_NS.ns. -/
def OSL_RETRY_NS_ns : Fld := ⟨OSL_RETRY_NS, 31, 0⟩
/-- OSL_LANE_THR. -/
def OSL_LANE_THR : Nat := 0x1800018
/-- OSL_LANE_THR.symbols. -/
def OSL_LANE_THR_symbols : Fld := ⟨OSL_LANE_THR, 31, 0⟩
/-- OSL_LBYP_CTRL. -/
def OSL_LBYP_CTRL : Nat := 0x1800020
/-- OSL_LBYP_CTRL.open. -/
def OSL_LBYP_CTRL_open : Fld := ⟨OSL_LBYP_CTRL, 7, 0⟩
/-- OSL_LBYP_CTRL.close. -/
def OSL_LBYP_CTRL_close : Fld := ⟨OSL_LBYP_CTRL, 15, 8⟩
/-- OSL_LBYP_STAT. -/
def OSL_LBYP_STAT : Nat := 0x1800024
/-- OSL_LBYP_STAT.pin. -/
def OSL_LBYP_STAT_pin : Fld := ⟨OSL_LBYP_STAT, 7, 0⟩
/-- OSL_LBYP_STAT.open_refused. -/
def OSL_LBYP_STAT_open_refused : Fld := ⟨OSL_LBYP_STAT, 15, 8⟩
/-- OSL_RRST. -/
def OSL_RRST : Nat := 0x1800030
/-- OSL_RRST.target. -/
def OSL_RRST_target : Fld := ⟨OSL_RRST, 14, 0⟩
/-- OSL_RRST.go. -/
def OSL_RRST_go : Fld := ⟨OSL_RRST, 16, 16⟩
/-- OSL_RRST_CODE. -/
def OSL_RRST_CODE : Nat := 0x1800034
/-- OSL_RRST_CODE.code. -/
def OSL_RRST_CODE_code : Fld := ⟨OSL_RRST_CODE, 31, 0⟩
/-- OSL_RRST_KEY. -/
def OSL_RRST_KEY : Nat := 0x1800038
/-- OSL_RRST_KEY.key. -/
def OSL_RRST_KEY_key : Fld := ⟨OSL_RRST_KEY, 31, 0⟩
/-- OSL_PROG_SEL. -/
def OSL_PROG_SEL : Nat := 0x1800040
/-- OSL_PROG_SEL.prog. -/
def OSL_PROG_SEL_prog : Fld := ⟨OSL_PROG_SEL, 3, 0⟩
/-- OSL_PROG_CMD. -/
def OSL_PROG_CMD : Nat := 0x1800044
/-- OSL_PROG_CMD.op. -/
def OSL_PROG_CMD_op : Fld := ⟨OSL_PROG_CMD, 2, 0⟩
/-- OSL_PROG_STAT. -/
def OSL_PROG_STAT : Nat := 0x1800048
/-- OSL_PROG_STAT.done. -/
def OSL_PROG_STAT_done : Fld := ⟨OSL_PROG_STAT, 0, 0⟩
/-- OSL_PROG_STAT.status. -/
def OSL_PROG_STAT_status : Fld := ⟨OSL_PROG_STAT, 3, 1⟩
/-- OSL_PROG_STATE. -/
def OSL_PROG_STATE : Nat := 0x180004c
/-- OSL_PROG_STATE.state. -/
def OSL_PROG_STATE_state : Fld := ⟨OSL_PROG_STATE, 31, 0⟩
/-- OSL_PROG_DATA0. -/
def OSL_PROG_DATA0 : Nat := 0x1800060
/-- OSL_PROG_DATA0.handle. -/
def OSL_PROG_DATA0_handle : Fld := ⟨OSL_PROG_DATA0, 15, 0⟩
/-- OSL_PROG_DATA0.field. -/
def OSL_PROG_DATA0_field : Fld := ⟨OSL_PROG_DATA0, 17, 16⟩
/-- OSL_PROG_DATA0.x0. -/
def OSL_PROG_DATA0_x0 : Fld := ⟨OSL_PROG_DATA0, 23, 18⟩
/-- OSL_PROG_DATA0.y0. -/
def OSL_PROG_DATA0_y0 : Fld := ⟨OSL_PROG_DATA0, 29, 24⟩
/-- OSL_PROG_DATA0.valid. -/
def OSL_PROG_DATA0_valid : Fld := ⟨OSL_PROG_DATA0, 30, 30⟩
/-- OSL_PROG_DATA1. -/
def OSL_PROG_DATA1 : Nat := 0x1800064
/-- OSL_PROG_DATA1.origin. -/
def OSL_PROG_DATA1_origin : Fld := ⟨OSL_PROG_DATA1, 14, 0⟩
/-- OSL_PROG_DATA1.bx1. -/
def OSL_PROG_DATA1_bx1 : Fld := ⟨OSL_PROG_DATA1, 19, 15⟩
/-- OSL_PROG_DATA1.by1. -/
def OSL_PROG_DATA1_by1 : Fld := ⟨OSL_PROG_DATA1, 24, 20⟩
/-- OSL_PROG_DATA1.bz1. -/
def OSL_PROG_DATA1_bz1 : Fld := ⟨OSL_PROG_DATA1, 29, 25⟩
/-- OSL_PROG_DATA2. -/
def OSL_PROG_DATA2 (i : Nat) : Nat := 0x1800068 + 4 * i
/-- OSL_PROG_DATA2.pc0. -/
def OSL_PROG_DATA2_pc0 (i : Nat) : Fld := ⟨OSL_PROG_DATA2 i, 14, 0⟩
/-- OSL_PROG_DATA2.valid0. -/
def OSL_PROG_DATA2_valid0 (i : Nat) : Fld := ⟨OSL_PROG_DATA2 i, 15, 15⟩
/-- OSL_PROG_DATA2.pc1. -/
def OSL_PROG_DATA2_pc1 (i : Nat) : Fld := ⟨OSL_PROG_DATA2 i, 30, 16⟩
/-- OSL_PROG_DATA2.valid1. -/
def OSL_PROG_DATA2_valid1 (i : Nat) : Fld := ⟨OSL_PROG_DATA2 i, 31, 31⟩
/-- OSL_PROG_DATA4. -/
def OSL_PROG_DATA4 (i : Nat) : Nat := 0x1800070 + 4 * i
/-- OSL_PROG_DATA4.pc. -/
def OSL_PROG_DATA4_pc (i : Nat) : Fld := ⟨OSL_PROG_DATA4 i, 14, 0⟩
/-- OSL_PROG_DATA4.chip. -/
def OSL_PROG_DATA4_chip (i : Nat) : Fld := ⟨OSL_PROG_DATA4 i, 29, 15⟩
/-- OSL_PROG_DATA4.valid. -/
def OSL_PROG_DATA4_valid (i : Nat) : Fld := ⟨OSL_PROG_DATA4 i, 31, 31⟩
/-- OSL_LINK_CTRL. -/
def OSL_LINK_CTRL (i : Nat) : Nat := 0x1801000 + 0x100 * i
/-- OSL_LINK_CTRL.enable. -/
def OSL_LINK_CTRL_enable (i : Nat) : Fld := ⟨OSL_LINK_CTRL i, 0, 0⟩
/-- OSL_LINK_CTRL.medium. -/
def OSL_LINK_CTRL_medium (i : Nat) : Fld := ⟨OSL_LINK_CTRL i, 1, 1⟩
/-- OSL_LINK_CTRL.retrain. -/
def OSL_LINK_CTRL_retrain (i : Nat) : Fld := ⟨OSL_LINK_CTRL i, 2, 2⟩
/-- OSL_LINK_STAT. -/
def OSL_LINK_STAT (i : Nat) : Nat := 0x1801004 + 0x100 * i
/-- OSL_LINK_STAT.state. -/
def OSL_LINK_STAT_state (i : Nat) : Fld := ⟨OSL_LINK_STAT i, 2, 0⟩
/-- OSL_LINK_STAT.width. -/
def OSL_LINK_STAT_width (i : Nat) : Fld := ⟨OSL_LINK_STAT i, 4, 3⟩
/-- OSL_LINK_STAT.fail_reason. -/
def OSL_LINK_STAT_fail_reason (i : Nat) : Fld := ⟨OSL_LINK_STAT i, 7, 5⟩
/-- OSL_LINK_STAT.peer. -/
def OSL_LINK_STAT_peer (i : Nat) : Fld := ⟨OSL_LINK_STAT i, 22, 8⟩
/-- OSL_LINK_STAT.peer_valid. -/
def OSL_LINK_STAT_peer_valid (i : Nat) : Fld := ⟨OSL_LINK_STAT i, 23, 23⟩
/-- OSL_LINK_STAT.lanes_good. -/
def OSL_LINK_STAT_lanes_good (i : Nat) : Fld := ⟨OSL_LINK_STAT i, 27, 24⟩
/-- OSL_LANE_POL. -/
def OSL_LANE_POL (i : Nat) : Nat := 0x1801008 + 0x100 * i
/-- OSL_LANE_POL.rx. -/
def OSL_LANE_POL_rx (i : Nat) : Fld := ⟨OSL_LANE_POL i, 3, 0⟩
/-- OSL_LANE_POL.tx. -/
def OSL_LANE_POL_tx (i : Nat) : Fld := ⟨OSL_LANE_POL i, 7, 4⟩
/-- OSL_FRAMES_TX. -/
def OSL_FRAMES_TX (i : Nat) : Nat := 0x1801020 + 0x100 * i
/-- OSL_FRAMES_RX. -/
def OSL_FRAMES_RX (i : Nat) : Nat := 0x1801028 + 0x100 * i
/-- OSL_FEC_CORR. -/
def OSL_FEC_CORR (i : Nat) : Nat := 0x1801030 + 0x100 * i
/-- OSL_FEC_UNCORR. -/
def OSL_FEC_UNCORR (i : Nat) : Nat := 0x1801038 + 0x100 * i
/-- OSL_CRC_ERR. -/
def OSL_CRC_ERR (i : Nat) : Nat := 0x1801040 + 0x100 * i
/-- OSL_REPLAY. -/
def OSL_REPLAY (i : Nat) : Nat := 0x1801048 + 0x100 * i
/-- OSL_RETRAIN. -/
def OSL_RETRAIN (i : Nat) : Nat := 0x1801050 + 0x100 * i
/-- OSL_DOWN. -/
def OSL_DOWN (i : Nat) : Nat := 0x1801058 + 0x100 * i
/-- OSL_DETOUR. -/
def OSL_DETOUR : Nat := 0x1802000
/-- OSL_UNDELIVERABLE. -/
def OSL_UNDELIVERABLE : Nat := 0x1802008
/-- OSL_STALE_GEN. -/
def OSL_STALE_GEN : Nat := 0x1802010
/-- OSL_PROG_ABORT. -/
def OSL_PROG_ABORT : Nat := 0x1802018
/-- OSL_NOT_HOME. -/
def OSL_NOT_HOME : Nat := 0x1802020
/-- OSL_EPOCH_MISS. -/
def OSL_EPOCH_MISS : Nat := 0x1802028
/-- OSL_HALT_DROP. -/
def OSL_HALT_DROP : Nat := 0x1802030
/-- OSL_RRST_REFUSED. -/
def OSL_RRST_REFUSED : Nat := 0x1802038
/-- REP_CTRL. -/
def REP_CTRL : Nat := 0x1a00000
/-- REP_CTRL.wdog_en. -/
def REP_CTRL_wdog_en : Fld := ⟨REP_CTRL, 0, 0⟩
/-- REP_CTRL.ce_retire. -/
def REP_CTRL_ce_retire : Fld := ⟨REP_CTRL, 1, 1⟩
/-- REP_CTRL.capsule_auto. -/
def REP_CTRL_capsule_auto : Fld := ⟨REP_CTRL, 6, 2⟩
/-- REP_CTRL.keep_first. -/
def REP_CTRL_keep_first : Fld := ⟨REP_CTRL, 7, 7⟩
/-- REP_WDOG_NS. -/
def REP_WDOG_NS : Nat := 0x1a00004
/-- REP_WDOG_NS.ns. -/
def REP_WDOG_NS_ns : Fld := ⟨REP_WDOG_NS, 31, 0⟩
/-- REP_CE_THR. -/
def REP_CE_THR : Nat := 0x1a00008
/-- REP_CE_THR.count. -/
def REP_CE_THR_count : Fld := ⟨REP_CE_THR, 15, 0⟩
/-- REP_VEC. -/
def REP_VEC : Nat := 0x1a0000c
/-- REP_VEC.vector. -/
def REP_VEC_vector : Fld := ⟨REP_VEC, 10, 0⟩
/-- REP_VEC.enable. -/
def REP_VEC_enable : Fld := ⟨REP_VEC, 16, 16⟩
/-- REP_CMD. -/
def REP_CMD : Nat := 0x1a00010
/-- REP_CMD.retire. -/
def REP_CMD_retire : Fld := ⟨REP_CMD, 0, 0⟩
/-- REP_CMD.x. -/
def REP_CMD_x : Fld := ⟨REP_CMD, 7, 2⟩
/-- REP_CMD.y. -/
def REP_CMD_y : Fld := ⟨REP_CMD, 13, 8⟩
/-- REP_CMD_STAT. -/
def REP_CMD_STAT : Nat := 0x1a00014
/-- REP_CMD_STAT.done. -/
def REP_CMD_STAT_done : Fld := ⟨REP_CMD_STAT, 0, 0⟩
/-- REP_CMD_STAT.status. -/
def REP_CMD_STAT_status : Fld := ⟨REP_CMD_STAT, 2, 1⟩
/-- REP_FAULT_CMD. -/
def REP_FAULT_CMD : Nat := 0x1a00018
/-- REP_FAULT_CMD.pop. -/
def REP_FAULT_CMD_pop : Fld := ⟨REP_FAULT_CMD, 0, 0⟩
/-- REP_FAULT_STAT. -/
def REP_FAULT_STAT : Nat := 0x1a0001c
/-- REP_FAULT_STAT.count. -/
def REP_FAULT_STAT_count : Fld := ⟨REP_FAULT_STAT, 8, 0⟩
/-- REP_FAULT_STAT.overflow. -/
def REP_FAULT_STAT_overflow : Fld := ⟨REP_FAULT_STAT, 9, 9⟩
/-- REP_FAULT_DATA. -/
def REP_FAULT_DATA (i : Nat) : Nat := 0x1a00020 + 4 * i
/-- REP_FAULT_DATA.word. -/
def REP_FAULT_DATA_word (i : Nat) : Fld := ⟨REP_FAULT_DATA i, 31, 0⟩
/-- REP_CAPSULE_STAT. -/
def REP_CAPSULE_STAT : Nat := 0x1a00030
/-- REP_CAPSULE_STAT.stored_valid. -/
def REP_CAPSULE_STAT_stored_valid : Fld := ⟨REP_CAPSULE_STAT, 0, 0⟩
/-- REP_CAPSULE_STAT.capturing. -/
def REP_CAPSULE_STAT_capturing : Fld := ⟨REP_CAPSULE_STAT, 1, 1⟩
/-- REP_CAPSULE_STAT.storing. -/
def REP_CAPSULE_STAT_storing : Fld := ⟨REP_CAPSULE_STAT, 2, 2⟩
/-- REP_CAPSULE_STAT.stored_trigger. -/
def REP_CAPSULE_STAT_stored_trigger : Fld := ⟨REP_CAPSULE_STAT, 6, 3⟩
/-- REP_CAPSULE_STAT.stored_seq. -/
def REP_CAPSULE_STAT_stored_seq : Fld := ⟨REP_CAPSULE_STAT, 31, 16⟩
/-- REP_FIELD_STAT. -/
def REP_FIELD_STAT (i : Nat) : Nat := 0x1a00040 + 4 * i
/-- REP_FIELD_STAT.state. -/
def REP_FIELD_STAT_state (i : Nat) : Fld := ⟨REP_FIELD_STAT i, 1, 0⟩
/-- REP_FIELD_STAT.defects. -/
def REP_FIELD_STAT_defects (i : Nat) : Fld := ⟨REP_FIELD_STAT i, 9, 2⟩
/-- REP_FIELD_STAT.retired. -/
def REP_FIELD_STAT_retired (i : Nat) : Fld := ⟨REP_FIELD_STAT i, 20, 10⟩
/-- REP_FIELD_STAT.remap_running. -/
def REP_FIELD_STAT_remap_running (i : Nat) : Fld := ⟨REP_FIELD_STAT i, 21, 21⟩
/-- REP_FIELD_STAT.remap_pending. -/
def REP_FIELD_STAT_remap_pending (i : Nat) : Fld := ⟨REP_FIELD_STAT i, 22, 22⟩
/-- REP_RETIRED. -/
def REP_RETIRED (i j : Nat) : Nat := 0x1a00100 + 0x80 * i + 4 * j
/-- REP_RETIRED.retired. -/
def REP_RETIRED_retired (i j : Nat) : Fld := ⟨REP_RETIRED i j, 31, 0⟩
/-- REP_WDOG_FIRED. -/
def REP_WDOG_FIRED : Nat := 0x1a01000
/-- REP_RETIRE. -/
def REP_RETIRE : Nat := 0x1a01008
/-- REP_REMAP. -/
def REP_REMAP : Nat := 0x1a01010
/-- REP_REMAP_REMOVE. -/
def REP_REMAP_REMOVE : Nat := 0x1a01018
/-- REP_REMAP_BUSY. -/
def REP_REMAP_BUSY : Nat := 0x1a01020
/-- REP_TILE_CE. -/
def REP_TILE_CE : Nat := 0x1a01028
/-- REP_TILE_UE. -/
def REP_TILE_UE : Nat := 0x1a01030
/-- REP_SS_CE. -/
def REP_SS_CE : Nat := 0x1a01038
/-- REP_SS_UE. -/
def REP_SS_UE : Nat := 0x1a01040
/-- REP_HBM_CE. -/
def REP_HBM_CE : Nat := 0x1a01048
/-- REP_HBM_UE. -/
def REP_HBM_UE : Nat := 0x1a01050
/-- REP_TABLE_CE. -/
def REP_TABLE_CE : Nat := 0x1a01058
/-- REP_TABLE_UE. -/
def REP_TABLE_UE : Nat := 0x1a01060
/-- REP_LINES_RETIRED. -/
def REP_LINES_RETIRED : Nat := 0x1a01068
/-- REP_STATE_LOST. -/
def REP_STATE_LOST : Nat := 0x1a01070
/-- REP_SMB_STUCK. -/
def REP_SMB_STUCK : Nat := 0x1a01078
/-- REP_PMB_STUCK. -/
def REP_PMB_STUCK : Nat := 0x1a01080
/-- REP_LEDGER_FULL. -/
def REP_LEDGER_FULL : Nat := 0x1a01088
/-- REP_CHAL_FAIL. -/
def REP_CHAL_FAIL : Nat := 0x1a01090
/-- REP_CAPSULE. -/
def REP_CAPSULE : Nat := 0x1a01098
/-- SAG_MBOX_CMD. -/
def SAG_MBOX_CMD : Nat := 0x1b00000
/-- SAG_MBOX_CMD.cmd. -/
def SAG_MBOX_CMD_cmd : Fld := ⟨SAG_MBOX_CMD, 7, 0⟩
/-- SAG_MBOX_STAT. -/
def SAG_MBOX_STAT : Nat := 0x1b00004
/-- SAG_MBOX_STAT.busy. -/
def SAG_MBOX_STAT_busy : Fld := ⟨SAG_MBOX_STAT, 0, 0⟩
/-- SAG_MBOX_STAT.refused. -/
def SAG_MBOX_STAT_refused : Fld := ⟨SAG_MBOX_STAT, 1, 1⟩
/-- SAG_MBOX_STAT.status. -/
def SAG_MBOX_STAT_status : Fld := ⟨SAG_MBOX_STAT, 5, 2⟩
/-- SAG_MBOX_VEC. -/
def SAG_MBOX_VEC : Nat := 0x1b00008
/-- SAG_MBOX_VEC.vector. -/
def SAG_MBOX_VEC_vector : Fld := ⟨SAG_MBOX_VEC, 10, 0⟩
/-- SAG_MBOX_VEC.enable. -/
def SAG_MBOX_VEC_enable : Fld := ⟨SAG_MBOX_VEC, 16, 16⟩
/-- SAG_FW_VER. -/
def SAG_FW_VER : Nat := 0x1b0000c
/-- SAG_FW_VER.version. -/
def SAG_FW_VER_version : Fld := ⟨SAG_FW_VER, 31, 0⟩
/-- SAG_MBOX_ARG. -/
def SAG_MBOX_ARG (i : Nat) : Nat := 0x1b00040 + 4 * i
/-- SAG_MBOX_ARG.arg. -/
def SAG_MBOX_ARG_arg (i : Nat) : Fld := ⟨SAG_MBOX_ARG i, 31, 0⟩
/-- SAG_MBOX_RSP. -/
def SAG_MBOX_RSP (i : Nat) : Nat := 0x1b00080 + 4 * i
/-- SAG_MBOX_RSP.rsp. -/
def SAG_MBOX_RSP_rsp (i : Nat) : Fld := ⟨SAG_MBOX_RSP i, 31, 0⟩

end Reg

/-- Where an address falls in a register's array: the rest of the offset must lie in the register itself. -/
def matchDims : List (Nat × Nat) → Nat → Option (List Nat × Nat)
  | [], off => some ([], off)
  | (s, c) :: r, off =>
    if off / s < c then (matchDims r (off % s)).map (fun p => (off / s :: p.1, p.2)) else none

/-- A register found at an address: its definition, its indices, the address of its lowest byte and whether the address names its upper half. -/
structure Loc where
  reg : RegDef
  idx : List Nat
  key : Nat
  upper : Bool
deriving DecidableEq, Repr

/-- Look an address up in one register's definition. -/
def RegDef.locate (r : RegDef) (a : Nat) : Option Loc :=
  if a < r.base then none
  else
    match matchDims r.dims (a - r.base) with
    | none => none
    | some (idx, off) =>
      if off = 0 then some ⟨r, idx, a, false⟩
      else if off = 4 ∧ r.width = 64 then some ⟨r, idx, a - 4, true⟩
      else none

/-- The block an address lies in; the reserved tail has none. -/
def findBlock (a : Nat) : Option BlockDef := blockMap.find? (fun b => decide (b.base ≤ a) && decide (a < b.stop))

/-- The register at an address (R391); a reserved address has none. -/
def findReg (a : Nat) : Option Loc :=
  match findBlock a with
  | none => none
  | some b => b.regs.findSome? (fun r => r.locate a)

/-- The reset value of a register, from its table's reset column. -/
def RegDef.resetVal (r : RegDef) : DWord :=
  r.fields.foldl (fun v f => v ||| BitVec.ofNat 64 (f.reset <<< f.lo)) 0

/-- The value every register holds at reset (R15). Class 0 of BAY_CLASS resets strict to 1 (09, BAY registers). -/
def regReset (key : Nat) : DWord :=
  match findReg key with
  | none => 0
  | some l => if key = Reg.BAY_CLASS 0 then l.reg.resetVal ||| 1 else l.reg.resetVal

/-- The mask of a field's bits within its register. -/
def maskBits (hi lo : Nat) : DWord := BitVec.ofNat 64 ((2 ^ (hi + 1 - lo) - 1) <<< lo)

/-- The bits of a register that its fields of one access type cover. -/
def RegDef.accMask (r : RegDef) (acc : Acc) : DWord :=
  r.fields.foldl (fun m f => if f.acc = acc then m ||| maskBits f.hi f.lo else m) 0

end Sys2Proof.Machine
end

