-- ==== Sys2Proof/Machine/Tab.lean ====
section
/-! DEFINITION. Sparse tables: a default and the entries that differ from it, in rising order of their keys, so that equal tables are equal data. -/

namespace Sys2Proof.Machine

/-- The entry listed for a key, if one is listed. -/
def cellsGet {α : Type} : List (Nat × α) → Nat → Option α
  | [], _ => none
  | (k, v) :: r, j => if k = j then some v else cellsGet r j

/-- The list without any entry for the key. -/
def cellsDel {α : Type} : List (Nat × α) → Nat → List (Nat × α)
  | [], _ => []
  | (k, v) :: r, j => if k = j then cellsDel r j else (k, v) :: cellsDel r j

/-- The list with one entry for the key, in rising order. -/
def cellsIns {α : Type} : List (Nat × α) → Nat → α → List (Nat × α)
  | [], j, x => [(j, x)]
  | (k, v) :: r, j, x =>
    if j < k then (j, x) :: (k, v) :: r
    else if k = j then (j, x) :: r
    else (k, v) :: cellsIns r j x

/-- Keys rise strictly. -/
def cellsRising {α : Type} : List (Nat × α) → Bool
  | [] => true
  | [_] => true
  | (k, _) :: (j, y) :: r => decide (k < j) && cellsRising ((j, y) :: r)

/-- A table over natural-number keys: every key that is not listed holds `dflt`. -/
structure Tab (α : Type) where
  dflt : α
  cells : List (Nat × α) := []
deriving DecidableEq, Repr

/-- The value a table holds at a key. -/
def Tab.get {α : Type} (t : Tab α) (k : Nat) : α := (cellsGet t.cells k).getD t.dflt

/-- The table with one value changed; an entry equal to the default is not listed. -/
def Tab.set {α : Type} [DecidableEq α] (t : Tab α) (k : Nat) (v : α) : Tab α :=
  if v = t.dflt then ⟨t.dflt, cellsDel t.cells k⟩ else ⟨t.dflt, cellsIns t.cells k v⟩

/-- The table with one value replaced by its image. -/
def Tab.upd {α : Type} [DecidableEq α] (t : Tab α) (k : Nat) (f : α → α) : Tab α :=
  t.set k (f (t.get k))

/-- The canonical form: keys rise strictly and no entry equals the default. -/
def Tab.wf {α : Type} [DecidableEq α] (t : Tab α) : Bool :=
  cellsRising t.cells && t.cells.all (fun c => decide (c.2 ≠ t.dflt))

/-- The table with every key back at the default. -/
def Tab.clear {α : Type} (t : Tab α) : Tab α := ⟨t.dflt, []⟩

/-- The keys that hold something other than the default, in rising order. -/
def Tab.keys {α : Type} (t : Tab α) : List Nat := t.cells.map (·.1)

/-- Change every listed entry (an entry that becomes the default is no longer listed). -/
def Tab.mapCells {α : Type} [DecidableEq α] (t : Tab α) (f : Nat → α → α) : Tab α :=
  t.keys.foldl (fun u k => u.set k (f k (t.get k))) t

/-- Change the value at every key, listed or not. -/
def Tab.mapAll {α : Type} [DecidableEq α] (t : Tab α) (f : α → α) : Tab α :=
  ⟨f t.dflt, (t.cells.map (fun c => (c.1, f c.2))).filter (fun c => decide (c.2 ≠ f t.dflt))⟩

end Sys2Proof.Machine
end

