-- ==== Sys2Proof/Machine/State.lean ====
section
/-! DEFINITION. The state of the block: plain data, holding everything the manual gives the machine, and its value at reset. Every register of BAR0 lives in `regs`; everything the manual names that is not a register (frames, queues, tables in HBM, stores, timers) has a field of its own. -/

namespace Sys2Proof.Machine

/-- Reasons the block stops with a fault. -/
inductive Fault where
  /-- Raised by a command whose operands no sender can give (WellFormed refuses it): a list of a length the spec does not allow. Safe: the model stops where no hardware event exists. -/
  | illFormed
deriving DecidableEq, Repr

/-- Reasons a command is refused. -/
inductive Refusal where
  /-- The command has no meaning yet. Raised by an arm of the dispatch only. Safe: nothing is claimed of it. -/
  | notModelled (mnemonic : String)
deriving DecidableEq, Repr

/-- A token bucket (R80, R132, R286): tokens in units of 10^-9 token, credited up to an elapsed instant. -/
structure Bucket where
  nano : Nat := 0
  last : Nat := 0
deriving DecidableEq, Repr

/-- The registers of BAR0: the words that differ from their reset value, by address. For the nanosecond `tieAt`, `raised` names the sticky bits that the block set in it and `wrote` the RW bits that accesses wrote in it, each as an address and a mask (R388). -/
structure Regs where
  cells : List (Nat × DWord) := []
  tieAt : Nat := 0
  raised : List (Nat × DWord) := []
  wrote : List (Nat × DWord) := []
deriving DecidableEq, Repr

/-! ### The outbox -/

/-- What leaves the block: frames on Ethernet ports, writes and reads of host memory, interrupts, link frames, bus transfers and pin edges, oldest first. The bytes of an Ethernet frame are given without its FCS; `fcsGood` says whether the FCS sent with it is valid. `regData` is the data a register read returns to its requester, `aer` an error reported on a function, `relaxed` is the relaxed-ordering attribute of a host write (R262), `ltr` the LTR message with its two values, `avs` a Voltage write over AVSBus, `voutMax` the one PMBus write of VOUT_MAX, `smbus` what the SMBus target answers (nothing for a NACK), `rstOut` an edge of RSTOUT_N. -/
inductive Output where
  | frame (port : Nat) (bytes : List Byte) (fcsGood : Bool)
  | pfc (port : Nat) (mask : Nat) (quanta : Nat)
  | hostWrite (func : Nat) (addr : Nat) (bytes : List Byte) (relaxed : Bool)
  | hostRead (func : Nat) (addr : Nat) (len : Nat)
  | msix (func : Nat) (vector : Nat)
  | ltr (snoop : Nat) (noSnoop : Nat)
  | ptpEvent (port : Nat) (bytes : List Byte) (stamp : DWord)
  | ppsOut (level : Bool)
  | linkFrame (link : Nat) (bytes : List Byte)
  | regData (who : Requester) (addr : Nat) (value : DWord)
  | aer (func : Nat) (error : TlpError)
  | completionTimeout (func : Nat)
  | avs (mv : Nat)
  | voutMax (mv : Nat)
  | pmbusRead (target : Nat) (command : Nat)
  | pmbusRecover
  | smbus (answer : Option (List Byte))
  | rstOut (level : Bool)
deriving DecidableEq, Repr

/-! ### Ports, frames and bypass (02) -/

/-- How a frame ended at the ingress MAC (R27, R35). -/
inductive Tail where
  | none | good | bad | oversize
deriving DecidableEq, Repr

/-- Where a frame's copy stands (R421, R56): not taken, in the crossing, with a chive, or finished. -/
inductive CopySt where
  | none | waiting | dispatched | finished
deriving DecidableEq, Repr

/-- Where the original frame stands (R27, R38, R39). -/
inductive OrigSt where
  | held | queued | sending | gone
deriving DecidableEq, Repr

/-- The disposition an action record gives the original frame (R79, R94). -/
inductive Disp where
  | drop
  | fwd (port : Nat) (tmpl : Nat)
deriving DecidableEq, Repr

/-- A MIRROR action (R92). -/
structure MirrorAct where
  port : Nat
  tmpl : Nat
  trunc : Nat
  session : Nat
deriving DecidableEq, Repr

/-- Causes of a bad verdict (R113). -/
inductive Cause where
  | none | fcsBad | truncated | verdictLost
deriving DecidableEq, Repr

/-- A bundle header taken by the UBP walk (R73, R76). -/
structure Ubp where
  off : Nat := 0
  stop : Nat := 0
  udpLen : Nat := 0
  flags : Nat := 0
  bundleLen : Nat := 0
  segCount : Nat := 0
  bundleId : Word := 0
  sender : Word := 0
  capture : DWord := 0
  firstDisc : Option Nat := none
  lenMismatch : Bool := false
  tailDone : Bool := false
  handed : Nat := 0
deriving DecidableEq, Repr

/-- A frame at the network edge: its bytes as they cross the wire, its stamps, its copy, its parse result vector, and what is still owed to it; `corrupt` says that its bytes met an uncorrectable error in a buffer (R369). -/
structure Frame where
  port : Nat := 0
  bytes : List Byte := []
  sof : Nat := 0
  stamp : DWord := 0
  lock : Nat := 0
  tail : Tail := .none
  tailAt : Nat := 0
  runt : Bool := false
  copy : CopySt := .none
  cut : Option Nat := none
  prv : List Byte := []
  prvReady : Bool := false
  released : Bool := false
  version : Nat := 0
  epoch : Nat := 0
  holdsVer : Bool := false
  holdsEpoch : Bool := false
  record : Option Disp := none
  recBack : Bool := false
  orig : OrigSt := .held
  mirror : Option MirrorAct := none
  hostCopy : Option (Nat × Nat) := none
  excClass : Option Nat := none
  infer : Option (Nat × Bool) := none
  ubp : Option Ubp := none
  walkDone : Bool := true
  segsOpen : Nat := 0
  verdict : Option (Cause × Bool) := none
  ptpDone : Bool := false
  corrupt : Bool := false
deriving DecidableEq, Repr

/-- A result record on its way to the wire (R112), with the bundle it belongs to; `settled` marks one that HOLD kept until its good verdict (R115). -/
structure Record where
  bundle : Nat := 0
  seg : Nat := 0
  streamId : Word := 0
  bundleId : Word := 0
  seq : Nat := 0
  segIndex : Nat := 0
  provisional : Bool := false
  widened : Bool := false
  rstat : Nat := 0
  model : Nat := 0
  epoch : Nat := 0
  cookie : DWord := 0
  result : DWord := 0
  settled : Bool := false
deriving DecidableEq, Repr

/-- A verdict record (R113). -/
structure VerdictRec where
  bundle : Nat := 0
  bundleId : Word := 0
  cause : Cause := .none
  firstDisc : Nat := 255
  segCount : Nat := 0
  cond : Nat := 0
  provMap : Nat := 0
  pendMap : Nat := 0
  firstSeq : Nat := 0
  lastSeq : Nat := 0
  ingressTs : DWord := 0
deriving DecidableEq, Repr

/-- A reply profile as loaded (R108, R129): DATA0 to DATA3 and the template bytes. -/
structure Profile where
  d0 : Word := 0x00010600
  d1 : Word := 0
  d2 : Word := 0x4E20
  d3 : Word := 0x00220E2A
  tmpl : List Byte := []
  seq : Word := 0
deriving DecidableEq, Repr

/-- A reply frame (R110, R111): its profile as it was when the frame opened, its kind and what it carries. -/
structure ReplyFrame where
  prof : Nat := 0
  port : Nat := 0
  kind : Nat := 0
  d0 : Word := 0
  d1 : Word := 0
  d2 : Word := 0
  d3 : Word := 0
  tmpl : List Byte := []
  sender : Word := 0
  remote : Bool := false
  emitTs : DWord := 0
  enteredAt : Nat := 0
  records : List Record := []
  verdict : Option VerdictRec := none
  seq : Word := 0
deriving DecidableEq, Repr

/-- What a frame that waits for an egress port is. -/
inductive EKind where
  | orig (frame : Nat) (tmpl : Nat)
  | mirror (frame : Nat)
  | host (desc : Nat) (bytes : List Byte)
  | reply (r : ReplyFrame)
deriving DecidableEq, Repr

/-- A frame that waits for an egress port (R121): its rank, its priority, the instant since which it is eligible, and whether the arbitration guard has passed for it. -/
structure EFrame where
  kind : EKind
  rank : Nat
  prio : Nat
  since : Nat
  promoted : Bool := false
deriving DecidableEq, Repr

/-- The frame an egress MAC is sending: start in units of 10 ps, bytes on the wire, whether it is to end with an invalid FCS. -/
structure TxFrame where
  item : EFrame
  start : Nat
  bytes : List Byte
  badFcs : Bool := false
  stomped : Bool := false
  stamp : DWord := 0
deriving DecidableEq, Repr

/-- One Ethernet port. Times of holds and of PFC frames are in units of 10 ps; 0 in a hold means none. `xoffAt` stands from the decision to send XOFF to the one to send XON, `xoffSent` is the instant the last XOFF was sent. -/
structure PortSt where
  pcsLock : Bool := false
  linkUp : Bool := false
  pauseUntil : Nat := 0
  pfcUntil : List Nat := [0, 0, 0, 0, 0, 0, 0, 0]
  xoffAt : Option Nat := none
  xoffSent : Option Nat := none
  pfcOut : List Bool := []
  nextFree : Nat := 0
  tx : Option TxFrame := none
  egress : List EFrame := []
  rob : List Nat := []
  rx : Option Nat := none
deriving DecidableEq, Repr

/-- Bypass states (R43). -/
inductive BypSt where
  | engaged | opening | open
deriving DecidableEq, Repr

/-- One inline pair: its bypass state, the instant of the accepted open request, which ports have been down since, the last kick, and the firmware's periodic kicks. `closedAt` is the instant of a close whose BYPASS_CLOSE event is still to be sent, `closedFrom` the state it closed. `openWait` says that an open request waits for RUN. -/
structure PairSt where
  st : BypSt := .engaged
  openAt : Nat := 0
  down0 : Bool := false
  down1 : Bool := false
  lastKick : Option Nat := none
  hbKick : Bool := false
  hbKickAt : Nat := 0
  closedAt : Option Nat := none
  closedFrom : BypSt := .engaged
  openWait : Bool := false
deriving DecidableEq, Repr

/-- The network edge. -/
structure MacSt where
  ports : Tab PortSt := ⟨{}, []⟩
  pairs : Tab PairSt := ⟨{}, []⟩
  frames : Tab Frame := ⟨{}, []⟩
deriving DecidableEq, Repr

/-- Thyme's servo and its pins (R48 to R53, R397). `frac` is the part of a nanosecond the count has gained, in units of 2^-8 ppb of one, `slewDone` the nanoseconds the running slew has applied. -/
structure ThySt where
  lock : Nat := 0
  slew : Option (Int × Nat) := none
  slewNext : Option Int := none
  slewDone : Nat := 0
  frac : Nat := 0
  lastValid : Option Nat := none
  acqSince : Nat := 0
  phaseTerm : Int := 0
  phaseUntil : Nat := 0
  freqTerm : Int := 0
  goodRun : Nat := 0
  badRun : Nat := 0
  refLost : Bool := false
  ppsOut : Bool := false
  ppsRoseAt : Nat := 0
deriving DecidableEq, Repr

/-! ### Chives (03) -/

/-- What a chive is doing (R59). -/
inductive ChivePhase where
  | idle | running | walking | waitTail
deriving DecidableEq, Repr

/-- One parse core (R63): the frame it holds, the bank it runs, its registers, its layer counters and its segment walk. `depth`, `ubpPort` and `ubpEn` are the values its frame was dispatched with. -/
structure Chive where
  phase : ChivePhase := .idle
  frame : Nat := 0
  bank : Nat := 0
  pc : Nat := 0
  cursor : Nat := 0
  g : List Word := [0, 0, 0, 0, 0, 0, 0, 0]
  vlan : Nat := 0
  mpls : Nat := 0
  tun : Nat := 0
  steps : Nat := 0
  depth : Nat := 512
  ubpPort : Nat := 0
  ubpEn : Bool := false
  pos : Nat := 0
  idx : Nat := 0
  tailSeen : Bool := false
deriving DecidableEq, Repr

/-- The parse cores, their program store and the exception classes. -/
structure PrsSt where
  bank0 : Tab DWord := ⟨0, []⟩
  bank1 : Tab DWord := ⟨0, []⟩
  active : Nat := 0
  draining : Bool := false
  loaded : Bool := false
  chives : Tab Chive := ⟨{}, []⟩
  lastChive : Nat := 255
  waiting : List Nat := []
  exc : Tab Bucket := ⟨⟨64000000000, 0⟩, []⟩
deriving DecidableEq, Repr

/-! ### Rule tables (04) -/

/-- An entry of the ternary table (R82, R87). -/
structure TEntry where
  used : Bool := false
  key : BitVec 640 := 0
  mask : BitVec 640 := 0
  profile : Nat := 0
  slots : List DWord := [0, 0, 0, 0]
  addVer : Nat := 0
  addLive : Bool := false
  delVer : Nat := 0
  del : Bool := false
deriving DecidableEq, Repr

/-- An entry of the stream table: its eight words (R85). -/
structure StreamEntry where
  w : List Word := [0, 0, 0, 0, 0, 0, 0, 0]
deriving DecidableEq, Repr

/-- A ternary command taken at its write (R90). -/
structure TcamCmd where
  index : Nat
  op : Nat
  entry : TEntry
deriving DecidableEq, Repr

/-- A stream-table command taken at its write (R91). -/
structure EmCmd where
  op : Nat
  entry : StreamEntry
deriving DecidableEq, Repr

/-- Where a commit request came from (R88). -/
inductive CommitSrc where
  | reg
  | desc (id : Nat)
deriving DecidableEq, Repr

/-- A meter (R98, R99). -/
structure Meter where
  cir : Nat := 0
  pir : Nat := 0
  cbs : Nat := 0
  pbs : Nat := 0
  aware : Bool := false
  enable : Bool := false
  tc : Nat := 0
  tp : Nat := 0
  last : Nat := 0
deriving DecidableEq, Repr

/-- The rule tables: versions (R86, R88), the ternary and stream tables, meters and counters. `lookups` are the segments that wait for classification, `misses` those that wait for HBM. -/
structure RulSt where
  current : Nat := 0
  staged : Nat := 1
  draining : Option Nat := none
  executing : Option CommitSrc := none
  pending : Option CommitSrc := none
  commitSeq : BitVec 16 := 0
  tcam : Tab TEntry := ⟨{}, []⟩
  tcamCmd : Option TcamCmd := none
  em : Tab (List StreamEntry) := ⟨[], []⟩
  emCache : List Nat := []
  emCmd : Option EmCmd := none
  lookups : List Nat := []
  misses : List Nat := []
  meters : Tab Meter := ⟨{}, []⟩
  images : Tab DWord := ⟨0, []⟩
  bank0 : Tab Nat := ⟨0, []⟩
  bank1 : Tab Nat := ⟨0, []⟩
  activeBank : Nat := 0
  sweepTs : Option DWord := none
  lastSweep : Nat := 0
  swapWaits : Bool := false
deriving DecidableEq, Repr

/-! ### Early reply (05) -/

/-- What one reply profile has sent of one bundle (R113, R120): the profile, its prov_map with the lowest and highest reply_seq, the emit instant of the earliest such frame, and whether the profile received any record. -/
structure ProfShare where
  prof : Nat := 0
  provMap : Nat := 0
  firstSeq : Word := 0
  lastSeq : Word := 0
  earliest : Option Nat := none
  sentMap : Nat := 0
deriving DecidableEq, Repr

/-- A bundle as the early reply unit sees it (R114 to R126). `chips` lists the reply chips its verdict goes to; at a reply chip `rcond` and `rfirst` are the conditions the verdict brought. -/
structure Bundle where
  frame : Option Nat := none
  port : Nat := 0
  bundleId : Word := 0
  sender : Word := 0
  ingressTs : DWord := 0
  segCount : Nat := 0
  sealReq : Bool := false
  remote : Bool := false
  origin : Nat := 0
  key : Nat := 0
  shares : List ProfShare := []
  entered : Nat := 0
  withdrawn : Nat := 0
  touched : Bool := false
  verdict : Option Cause := none
  verdictAt : Nat := 0
  firstProv : Option Nat := none
  chips : List Nat := []
  rcond : Nat := 0
  rfirst : Nat := 255
deriving DecidableEq, Repr

/-- The open frame of a profile's coalescing buffer (R116). -/
structure Coal where
  t0 : Nat
  frame : ReplyFrame
deriving DecidableEq, Repr

/-- The early reply unit. -/
structure ErpSt where
  profiles : Tab Profile := ⟨{}, []⟩
  coal : Tab (Option Coal) := ⟨none, []⟩
  held : List (Nat × Record) := []
  bundles : Tab Bundle := ⟨{}, []⟩
  results : List Record := []
deriving DecidableEq, Repr

/-! ### The sample front end (06) -/

/-- A normalisation profile as written (R130, R153): its five data words and its generation. -/
structure SfeProfile where
  d0 : Word := 0x00E483FE
  d1 : Word := 0x01450190
  d2 : Word := 0x00100040
  d3 : Word := 0x00080000
  d4 : Word := 0x1F40
  gen : BitVec 12 := 0
deriving DecidableEq, Repr

/-- Where a segment record stands on its way (R77, R95, R132, R142, R148). -/
inductive SegSt where
  | lookup | miss | admission | hostWait | alloc | line | features | packed | done
deriving DecidableEq, Repr

/-- A segment record (R75, R77, R281), with what its stream lookup gave it and its progress through the front end: `lease` is the epoch of its slot at admission, `rowHold` the bytes of row space and `rowIn` the open row with a place that it took at its allocation (R142), `scheduled` says that its first span has been dispatched (R118). -/
structure Seg where
  frame : Option Nat := none
  desc : Option Nat := none
  bundle : Nat := 0
  idx : Nat := 0
  streamId : Word := 0
  seq : BitVec 16 := 0
  len : Nat := 0
  codec : Nat := 0
  rate : Nat := 0
  flags : Nat := 0
  hint : Nat := 0
  off : Nat := 0
  ns : Nat := 0
  missCopy : Bool := false
  stamp : DWord := 0
  capture : DWord := 0
  epoch : Nat := 0
  entry : StreamEntry := {}
  model : Nat := 0
  prof : SfeProfile := {}
  st : SegSt := .done
  restart : Bool := false
  made : Nat := 0
  parts : Nat := 0
  lease : BitVec 16 := 0
  rowHold : Nat := 0
  rowIn : Option Nat := none
  scheduled : Bool := false
  withdrawn : Bool := false
  aborted : Bool := false
  fenced : Bool := false
deriving DecidableEq, Repr

/-- The front-end region of a state slot as its bytes spell it (R135): header, resampler history, sample carry, running statistics, and the accumulators of the pyramid with their phases. -/
structure Region where
  streamId : Word := 0
  lastSeq : BitVec 16 := 0
  valid : Bool := false
  ended : Bool := false
  prof : Nat := 0
  gen : BitVec 12 := 0
  pendingN : Nat := 0
  ph1 : Nat := 0
  ph2 : Nat := 0
  frames : Word := 0
  hist : List Int := []
  carry : List Int := []
  norm : List (Int × Int) := []
  acc1 : List Int := []
  acc2 : List Int := []
deriving DecidableEq, Repr

/-- A span of a row with its mark (R138, R149, R150), whether a slot check or a fence keeps it from being evaluated (R228, R187), and the feature codes it holds on each level. -/
structure Span where
  seg : Nat := 0
  start : Nat := 0
  len : Nat := 0
  reset : Bool := false
  contIn : Bool := false
  contOut : Bool := false
  final : Bool := false
  void : Bool := false
  slot : Nat := 0
  sampleId : DWord := 0
  slotEpoch : BitVec 16 := 0
  denied : Bool := false
  fenced : Bool := false
  l1Start : Nat := 0
  l1Len : Nat := 0
  l2Start : Nat := 0
  l2Len : Nat := 0
  codes : List (List Int) := []
  codes1 : List (List Int) := []
  codes2 : List (List Int) := []
deriving DecidableEq, Repr

/-- Where a row stands (R149, R235). -/
inductive RowSt where
  | opened | closed | taken | done
deriving DecidableEq, Repr

/-- A row (R137): its key, the instant it opened, the space it took, the epoch of the row region's lease it took it under (R225), and its spans. -/
structure Row where
  model : Nat := 0
  epoch : Nat := 0
  cls : Nat := 0
  openAt : Nat := 0
  size : Nat := 0
  lease : BitVec 16 := 0
  frames : Nat := 0
  frames1 : Nat := 0
  frames2 : Nat := 0
  rowFrames : Nat := 16
  maxSpans : Nat := 1
  st : RowSt := .done
  job : Option (Nat × Nat) := none
  spans : List Span := []
deriving DecidableEq, Repr

/-- The sample front end. `queue` holds segment records in the order they reached it, `cache` the slots that have lines of the state cache, least recently used first, with how many; `loading` those whose lines are still on their way from HBM, `epoch` the epoch of the front end's lease of its section-store regions (R224, R225). The regions themselves are the first bytes of the slots. -/
structure SfeSt where
  profiles : Tab SfeProfile := ⟨{}, []⟩
  segs : Tab Seg := ⟨{}, []⟩
  queue : List Nat := []
  cache : List (Nat × Nat) := []
  loading : List Nat := []
  rows : Tab Row := ⟨{}, []⟩
  order : List Nat := []
  epoch : BitVec 16 := 0
  host : Bucket := ⟨64000000000, 0⟩
deriving DecidableEq, Repr

/-! ### The tile fabric (07, 08) -/

/-- The producer of a flit (R162): its chip (0x7FFF for this one), tile, output channel and the section instance it sent it in. -/
structure Src where
  chip : Nat := 0x7FFF
  tile : Nat := 0
  ch : Nat := 0
  inst : Nat := 0
deriving DecidableEq, Repr

/-- A flit in a queue (R160, R168): its tag, its producer, in TAG mode whether the matching store holds it, and the instant it was enqueued. -/
structure Tok where
  flit : Flit := 0
  tag : Nat := 0
  src : Option Src := none
  matched : Bool := false
  since : Nat := 0
deriving DecidableEq, Repr

/-- What a router carries: a data flit, a control token, or a section-end token (R161, R178). -/
inductive PktKind where
  | data | control | sectionEnd
deriving DecidableEq, Repr

/-- A section-store access under way (R179, R180): the tile and its queue, the plot's region slot and word, the lease epoch it carries, the tag of the result, the flit of a write, and the section instance it was issued in. -/
structure SecReq where
  tile : Nat
  queue : Nat
  plot : Nat
  slot : Nat
  off : Nat
  lease : BitVec 16
  tag : Nat
  write : Option Flit
  inst : Nat := 0
deriving DecidableEq, Repr

/-- Where a flit goes (R179, R218, R175, R308): a tile, the early reply unit, the collector of a state channel, another chip, or the section store, with the access it carries. -/
inductive Dest where
  | tile (x y queue : Nat)
  | reply
  | collect (c : Nat)
  | remote (chip x y queue prog gen : Nat)
  | store (req : SecReq)
deriving DecidableEq, Repr

/-- A flit in the router network (R161): the router it is at, the input port it came by (0 N, 1 E, 2 S, 3 W, 4 L; 5 while it still waits at its tile's output for a place in L), its virtual channel, and the plot and section instance it belongs to. -/
structure Packet where
  x : Nat
  y : Nat
  port : Nat
  vc : Nat
  kind : PktKind
  dest : Dest
  tagged : Bool
  tok : Tok
  plot : Nat
  inst : Nat
  widened : Bool := false
deriving DecidableEq, Repr

/-- A loaded context (R173): the flits of its record, the section it runs, whether that is the wide variant, and the image generation it came from. -/
structure Ctx where
  flits : List Flit := []
  sec : Nat := 0
  wide : Bool := false
  gen : Nat := 0
deriving DecidableEq, Repr

/-- What a tile does: in no plot or before its first flip, running a section, past SECEND, or past the flip of an abandoned pass. -/
inductive TilePhase where
  | off | running | ended
deriving DecidableEq, Repr

/-- What a tile counted since its last section-end report (R199, R206, R213). -/
structure TileStat where
  outputs : Nat := 0
  samples : Nat := 0
  sse : Nat := 0
  sseSat : Bool := false
  maxE : Nat := 0
  satAcc : Nat := 0
  satOut : Nat := 0
  satExp : Nat := 0
  satEsc : Nat := 0
deriving DecidableEq, Repr

/-- The categories of a tile's stall time (R188). -/
inductive StallKind where
  | input | credit | store | cfg
deriving DecidableEq, Repr

/-- A tile (R154 to R174): contexts, registers, store, multiplier block, counters, queues and credits. `west` holds vectors a west-column tile has fed and the array has not consumed, `sets` the finished sums at a south edge. `readyNs` counts the time with ready work since the last handshake (R366), and `stall` holds the instant since when the tile has waited in a category (R188). -/
structure Tile where
  plot : Option Nat := none
  phase : TilePhase := .off
  ctx : Ctx := {}
  nxt : Option Ctx := none
  side : Bool := false
  inst : Nat := 0
  pc : Nat := 0
  regs : Tab DWord := ⟨0, []⟩
  store : Tab Flit := ⟨0, []⟩
  acc : List (Int × Bool) := []
  sets : List (List (Int × Bool)) := []
  west : List (List Int × Nat) := []
  wblock : List Flit := []
  wshift : Flit := 0
  book : List Flit := []
  codebook : Bool := false
  ctrs : List (Nat × Nat) := [(0, 0), (0, 0), (0, 0), (0, 0), (0, 0), (0, 0), (0, 0), (0, 0)]
  queues : Tab (List Tok) := ⟨[], []⟩
  nextTag : Tab Nat := ⟨0, []⟩
  spent : Tab Nat := ⟨0, []⟩
  ends : List (Nat × Nat) := []
  units : Tab Nat := ⟨0, []⟩
  groups : Tab Nat := ⟨0, []⟩
  outIdx : Nat := 0
  stat : TileStat := {}
  readyNs : Nat := 0
  stall : Option (StallKind × Nat) := none
deriving DecidableEq, Repr

/-- A write-back that a span's loaded state awaits (R187): the row and its span, the slot with the lease epoch and offset its access carries, the order in which its row was dispatched, and how many state channels its section has. -/
structure Back where
  row : Nat
  span : Nat
  slot : Nat
  epoch : BitVec 16
  off : Nat
  order : Nat
  lanes : Nat
deriving DecidableEq, Repr

/-- Something a section with widen_en 1 holds until its decision (R207): a result record of a span of a row, or a state write-back. -/
inductive Held where
  | record (row span : Nat) (result : DWord) (widened : Bool)
  | state (back : Back) (flits : List Flit)
deriving DecidableEq, Repr

/-- A table word that a calibration block names (R237): the tile in the plot, the section, the store word in bank 0, and whether the section is the wide variant. -/
structure CalName where
  px : Nat
  py : Nat
  sec : Nat
  word : Nat
  wide : Bool
deriving DecidableEq, Repr

/-- A plot (R175 to R187, R222 to R226). `inst` numbers the section instance whose reports the sequencer gathers, and `sec` and `wide` say which section that is; `epoch`, `passKey` and `ctrl` are the calibration epoch, the pass key and NUM_CTRL of the pass; `expect` names the spans whose result flits are still to come; `backs` the write-backs that collected flits will serve, with copies as they were when the section began; `collected` holds state flits by channel with the instance that sent them; `kept` the states a section that may widen has loaded; `cal` names the table words that calibration blocks have written since its page-in (R211); `lineLease` and `imgLease` are the epochs under which its model holds its configuration-store lines and its image space (R225); `retire` says that it is the old plot of a shadow replacement, removed when its pass ends (R236). -/
structure PlotSt where
  used : Bool := false
  ready : Bool := false
  handle : Nat := 0
  gen : Nat := 0
  field : Nat := 0
  index : Nat := 0
  x0 : Nat := 0
  y0 : Nat := 0
  h : Nat := 1
  w : Nat := 1
  lease : BitVec 16 := 0
  image : List Byte := []
  newImage : Option (List Byte × Nat) := none
  removing : Bool := false
  pass : Bool := false
  row : Option Nat := none
  order : Nat := 0
  epoch : Nat := 0
  passKey : Nat := 0
  ctrl : Word := 0
  sec : Nat := 0
  wide : Bool := false
  widened : Bool := false
  inst : Nat := 0
  secCount : Nat := 0
  passCount : Nat := 0
  done : List Nat := []
  flipAll : Bool := false
  deciding : Bool := false
  sats : Nat := 0
  expect : List (Nat × Nat) := []
  expect0 : List (Nat × Nat) := []
  spanLoad : Nat := 0
  backs : List Back := []
  backs0 : List Back := []
  collected : List (Nat × Nat × Flit) := []
  kept : List (Nat × List Flit) := []
  held : List Held := []
  leased : List Nat := []
  holdLines : Nat := 0
  since : Nat := 0
  prog : Option Nat := none
  job : Option Nat := none
  fault : Bool := false
  cal : List CalName := []
  lineLease : BitVec 16 := 0
  imgLease : BitVec 16 := 0
  retire : Bool := false
deriving DecidableEq, Repr

/-- A change carried by a configuration commit (R185), with the plot it concerns. -/
inductive Change where
  | add (plot : Nat)
  | remove (plot : Nat)
  | replaceBy (plot : Nat)
  | role (adaptation : Bool)
deriving DecidableEq, Repr

/-- A configuration commit (R185, R186): its changes, each with whether it has applied, the counts of section and pass boundaries of every plot it names when it was accepted, and the code of FAB_COMMIT_STAT.applied so far. -/
structure Commit where
  changes : List (Change × Bool)
  snap : List (Nat × Nat × Nat)
  applied : Nat := 0
deriving DecidableEq, Repr

/-- A section-end report on its way to the sequencer: plot, tile, section instance, and what the tile counted. -/
structure Report where
  plot : Nat
  tile : Nat
  inst : Nat
  stat : TileStat
deriving DecidableEq, Repr

/-- A field and its sequencer (R184 to R186): the reports not yet ordered, the commit accepted and not ordered, the one running, the one pending, and the changes Bay holds back; `seq` and `applied` are those of FAB_COMMIT_STAT. `leaving` names the job a serving field is being vacated for, `roleSent` whether the role change has been issued. -/
structure FieldSt where
  adaptation : Bool := false
  leaving : Option Nat := none
  roleSent : Bool := false
  reports : List Report := []
  seq : BitVec 16 := 0
  applied : Nat := 0
  accepted : Option Commit := none
  running : Option Commit := none
  pending : Option Commit := none
  waiting : List Change := []
deriving DecidableEq, Repr

/-- The fabric: tiles (y × 64 + x), plots, fields, the router network, credits on their way back, section-store accesses and region contents. `sel` holds, by category, since when the target of FAB_STALL_SEL has waited (R188). -/
structure FabSt where
  tiles : Tab Tile := ⟨{}, []⟩
  plots : Tab PlotSt := ⟨{}, []⟩
  fields : Tab FieldSt := ⟨{}, []⟩
  packets : List Packet := []
  credits : List Src := []
  reqs : List SecReq := []
  regions : Tab Flit := ⟨0, []⟩
  orderNext : Nat := 0
  sel : List (Option Nat) := [none, none, none, none]
deriving DecidableEq, Repr

/-! ### Calibration epochs and statistics (08) -/

/-- A statistics entry (R214) of one section of one model under one epoch. -/
structure NumStat where
  live : Bool := false
  outputs : Nat := 0
  samples : Nat := 0
  sse : Nat := 0
  sseSat : Bool := false
  sats : Nat := 0
  passes : Nat := 0
  widened : Nat := 0
  maxE : Nat := 0
deriving DecidableEq, Repr

/-- Calibration epochs (R210 to R212) and statistics, keyed by epoch × 2^20 + handle × 16 + section. -/
structure NumSt where
  current : Nat := 0
  installing : Bool := false
  draining : Option Nat := none
  pending : Bool := false
  stats : Tab NumStat := ⟨{}, []⟩
deriving DecidableEq, Repr

/-! ### Bay (09) -/

/-- Catalogue states (R221). -/
inductive CatSt where
  | free | host | hbm | staged | paging | resident | evicting | faulted
deriving DecidableEq, Repr

/-- How far a page-in has come (R230): queued, copying from the host, waiting for its digest, loading, or waiting for its ADD. -/
inductive PageSt where
  | none | queued | placing | copying | copied | loading | adding
deriving DecidableEq, Repr

/-- A new image of a handle (R236), or with `move` the same image on its way out of the fields `avoid` (R238): its bytes, its digest, its host address, its domain, whether it is installed in place and, while it is placed as a shadow, its plot, how far its page-in has come, since when it waits for a placement, and whether it waits for lines. -/
structure NewImage where
  image : List Byte := []
  digest : List Byte := []
  addr : Nat := 0
  func : Nat := 0
  domain : Nat := 0
  move : Bool := false
  avoid : List Nat := []
  inPlace : Bool := false
  page : PageSt := .none
  plot : Option Nat := none
  placeSince : Option Nat := none
  spaceWait : Bool := false
deriving DecidableEq, Repr

/-- A catalogue entry (R221) with its row queues and scheduler state (R235), its page-in (`placeSince` is the instant since which it waits for a placement, `spaceWait` says that it waits for lines or image space), its pin, its calibration blocks (R237) its replacements (R236), the configuration-store lines its records take, the region lines that each section of its image declares (R175, R261), the function whose queue pair registered it (R263), and the commands that complete when its plot is gone. -/
structure Model where
  st : CatSt := .free
  prev : CatSt := .free
  page : PageSt := .none
  domain : Nat := 0
  gen : Nat := 0
  hdr : List Byte := []
  image : List Byte := []
  copied : List Byte := []
  digest : List Byte := []
  addr : Nat := 0
  func : Nat := 0
  len : Nat := 0
  tier0 : Bool := false
  pinned : Bool := false
  pinDomain : Nat := 0
  pinUntil : Option Nat := none
  plot : Option Nat := none
  level : Nat := 3
  fault : Nat := 0
  q : Tab (List Nat) := ⟨[], []⟩
  cur : Nat := 0
  credit : Tab Nat := ⟨0, []⟩
  joined : List CmdSrc := []
  lastErr : Nat := 0
  lastPass : Nat := 0
  lastUse : DWord := 0
  misses : Word := 0
  pageIns : Word := 0
  blocks : Tab (List Byte) := ⟨[], []⟩
  stagedCal : List Byte := []
  replacing : Option NewImage := none
  nextImage : Option NewImage := none
  placeSince : Option Nat := none
  spaceWait : Bool := false
  dropping : Bool := false
  lines : Nat := 0
  decl : List (List Nat) := []
  leavers : List CmdSrc := []
deriving DecidableEq, Repr

/-- A stream slot (R228): its owner, its lease epoch, its tag, and its bytes: the front-end region and after it the model's recurrent state (R135). Bytes beyond the end of the list are zero. -/
structure Slot where
  domain : Nat := 0
  epoch : BitVec 16 := 0
  tag : Nat := 0
  tagGen : Nat := 0
  state : List Byte := []
deriving DecidableEq, Repr

/-- A lease that is being revoked (R226): a plot, or a field grant with the cause it ends for. -/
inductive Revoke where
  | plot (p : Nat)
  | grant (field cause : Nat)
deriving DecidableEq, Repr

/-- Bay: the catalogue, the page-ins that wait and run, slots, the lease epochs at the guards of the configuration store and of HBM image space by handle and generation (R225), revocations decided and not yet in force, a command block latched by a write of BAY_CMD, the command that runs, and the command descriptors that wait. -/
structure BaySt where
  models : Tab Model := ⟨{}, []⟩
  queue : List Nat := []
  slots : Tab Slot := ⟨{}, []⟩
  guards : Tab (BitVec 16) := ⟨0, []⟩
  revokes : List Revoke := []
  latched : Option (List Byte) := none
  busy : Option CmdSrc := none
  cmds : List Nat := []
deriving DecidableEq, Repr

/-! ### Adaptation mode (10) -/

/-- A sample of a sample set (R245). -/
structure AdpSample where
  audio : Nat := 0
  len : Nat := 0
  codec : Nat := 0
  rate : Nat := 0
  label : Nat := 0
deriving DecidableEq, Repr

/-- A group entry of an adapter map (R249). -/
structure AdpGroup where
  px : Nat := 0
  py : Nat := 0
  w0 : Nat := 0
  sw0 : Nat := 0
  stride : Nat := 0
  k : Nat := 0
  initG : Nat := 0
deriving DecidableEq, Repr

/-- A row of the batch in progress: its samples in span order (none for padding), the row record it runs as, the plot it runs on, and its gradients once it has completed. -/
structure AdpRow where
  samples : List (Option Nat) := []
  row : Option Nat := none
  complete : Bool := false
  grads : List (List Flit) := []
  reduced : Bool := false
deriving DecidableEq, Repr

/-- A job slot (R242 to R261). -/
structure Job where
  st : Nat := 0
  cause : Nat := 0
  handle : Nat := 0
  block : List Byte := []
  grants : List (Nat × Option Nat) := []
  replicas : List (Nat × Nat) := []
  sampleFrames : Nat := 16
  labelBytes : Nat := 0
  samples : List AdpSample := []
  clips : List (List Int) := []
  gLen : Nat := 32
  groups : List AdpGroup := []
  gradSlot : Nat := 0
  labelSlot : Nat := 0
  b0 : Nat := 0
  wCode : List Int := []
  wG : List Nat := []
  mCode : List Int := []
  mG : List Nat := []
  sCode : List Int := []
  sNib : List Nat := []
  acc : List Int := []
  tEpoch : Nat := 0
  toRun : Nat := 0
  step : Nat := 0
  order : List Nat := []
  ordering : Bool := false
  batch : Nat := 0
  calEpoch : Nat := 0
  rows : List AdpRow := []
  cache : List (Nat × List Int) := []
  fresh : List (Nat × List Int) := []
  labels : List (Nat × List Byte) := []
  skip : List Nat := []
  nextReduce : Nat := 0
  ckpt : Nat := 0
  ckptDue : Bool := false
  stopping : Bool := false
  again : Bool := false
deriving DecidableEq, Repr

/-- Adaptation: the job slots, a command block latched by a write of ADP_CMD, and the command descriptors that wait. -/
structure AdpSt where
  jobs : Tab Job := ⟨{}, []⟩
  latched : Option (List Byte) := none
  cmds : List Nat := []
deriving DecidableEq, Repr

/-! ### Host interface (11) -/

/-- Queue-pair states (R266). -/
inductive QpPhase where
  | free | active | draining | error
deriving DecidableEq, Repr

/-- A posted receive buffer (R280, R285). -/
structure RxBuf where
  sqIndex : Nat
  cookie : DWord
  addr : Nat
  len : Nat
  domEpoch : Nat
deriving DecidableEq, Repr

/-- A queue pair (R265 to R271, R278, R286). `cqUsed` counts records written and not consumed, `reserved` entries reserved by fetched descriptors, `inflight` the descriptors a fetch read has been issued for and `readEpoch` the lease epoch that read carries. -/
structure Qp where
  st : QpPhase := .free
  func : Nat := 0
  loc : Nat := 0
  domain : Nat := 0
  sqBase : Nat := 0
  cqBase : Nat := 0
  sqSize : Nat := 16
  cqSize : Nat := 16
  sqHead : Nat := 0
  sqTail : Nat := 0
  cqTail : Nat := 0
  cqHead : Nat := 0
  cqUsed : Nat := 0
  phase : Bool := true
  reserved : Nat := 0
  inflight : Nat := 0
  readEpoch : BitVec 16 := 0
  vector : Nat := 0
  modCount : Nat := 0
  modNs : Nat := 0
  rate : Nat := 0x2710
  burst : Nat := 0x40
  bucket : Bucket := {}
  armed : Bool := false
  sinceArm : Nat := 0
  firstAt : Option Nat := none
  rx : List RxBuf := []
  epoch : BitVec 16 := 0
  fenced : Bool := false
deriving DecidableEq, Repr

/-- What a fetched descriptor is doing. -/
inductive DescSt where
  | waiting
  | reading (issued : Nat)
  | running
  | done
deriving DecidableEq, Repr

/-- A fetched descriptor (R269 to R283): its queue pair, its ring index, its 64 bytes, the lease epoch and the domain epoch it was fetched under, the instants of its fetch, and where it stands. -/
structure Desc where
  qp : Nat := 0
  sqIndex : Nat := 0
  bytes : List Byte := []
  lease : BitVec 16 := 0
  domain : Nat := 0
  domEpoch : Nat := 0
  fetchTs : DWord := 0
  calEpoch : Nat := 0
  order : Nat := 0
  st : DescSt := .done
  aborted : Bool := false
  payload : List Byte := []
deriving DecidableEq, Repr

/-- A domain window (R273). -/
structure Win where
  base : Nat := 0
  len : Nat := 0
  read : Bool := false
  write : Bool := false
  valid : Bool := false
deriving DecidableEq, Repr

/-- The rights of a domain (R272): flags ADMIN, REGISTER, ADAPT and TX in bits 0 to 3, windows, and the words of the model-handle set. -/
structure Rights where
  flags : Nat := 0
  wins : Tab Win := ⟨{}, []⟩
  mset : Tab Word := ⟨0, []⟩
deriving DecidableEq, Repr

/-- A pending or starting write of a domain's epoch (R274, R275), with the rights staged when it was made. -/
structure EpochWrite where
  epoch : Nat
  abort : Bool
  rights : Rights := {}
deriving DecidableEq, Repr

/-- A protection domain: its rights in force, its staged rights, its epoch and the count of epochs that came into force, the rights older epochs had while descriptors fetched under them remain, and its epoch writes. -/
structure Dom where
  rights : Rights := {}
  staged : Rights := {}
  epoch : Nat := 0
  ver : Nat := 0
  old : List (Nat × Rights) := []
  starting : Option EpochWrite := none
  draining : Bool := false
  pending : Option EpochWrite := none
  busy : Bool := false
deriving DecidableEq, Repr

/-- A function's PCIe state (R262, R264): Bus Master Enable and D3hot. -/
structure FuncSt where
  busMaster : Bool := false
  d3hot : Bool := false
deriving DecidableEq, Repr

/-- A mailbox command that Sage runs (R288): its code and arguments, whether it has still to run, the response and status it has prepared, and the bytes on their way to the boot flash. -/
structure Mbox where
  code : Nat
  args : List Word
  waits : Bool := true
  rsp : List Word := []
  status : Nat := 0
  writing : Option (List Byte) := none
deriving DecidableEq, Repr

/-- A DMA or an interrupt that waits for Bus Master Enable (R264): its function, the lease epoch of the queue pair it belongs to (R267), and what is sent. -/
structure HostHeld where
  func : Nat
  lease : Option (Nat × BitVec 16) := none
  out : Output
deriving DecidableEq, Repr

/-- The host interface. -/
structure HifSt where
  qps : Tab Qp := ⟨{}, []⟩
  descs : Tab Desc := ⟨{}, []⟩
  doms : Tab Dom := ⟨{}, []⟩
  funcs : Tab FuncSt := ⟨{}, []⟩
  mbox : Option Mbox := none
  rrQp : Nat := 0
  blocked : List HostHeld := []
deriving DecidableEq, Repr

/-! ### Oslink (12) -/

/-- A 24-byte record of a link frame (R293): its first 8 bytes and its last 16. -/
structure OslRec where
  hdr : DWord := 0
  data : Flit := 0
deriving DecidableEq, Repr

/-- A link frame in a retry buffer (R294): its sequence number, its records and the credits it carries. -/
structure TxLink where
  seq : Word
  recs : List OslRec
  freed : List Nat
deriving DecidableEq, Repr

/-- A record on its way out of the chip (R295, R305): until it leaves it holds its place in the landing pool of the link it came on, one of the 512 of its virtual channel and class; `src` names that link, its era and the pool, and is none for a record of this chip. -/
structure Carried where
  r : OslRec
  src : Option (Nat × Nat × Nat) := none
deriving DecidableEq, Repr

/-- An Oslink link (R293 to R298). `lanes` are the lanes in use and `good` those that this end reports good (R298). `era` counts how often the link left service, so that a place in a landing pool that is gone is not given back. `credits` are the sender's link credits for VC0 class 0, VC0 class 1, VC1 class 0 and VC1 class 1; `freed` the records freed at this end and not yet reported. -/
structure LinkSt where
  st : Nat := 0
  width : Nat := 0
  fail : Nat := 0
  peer : Option (BitVec 15) := none
  lanes : BitVec 4 := 0
  good : BitVec 4 := 0
  era : Nat := 0
  txSeq : Word := 1
  rxSeq : Word := 0
  retry : List TxLink := []
  waiting : List Carried := []
  credits : List Nat := [512, 512, 512, 512]
  freed : List Nat := [0, 0, 0, 0]
  nak : Bool := false
  replays : Nat := 0
  progress : Nat := 0
  failedAt : Nat := 0
deriving DecidableEq, Repr

/-- A direction's set of ACTIVE links in use and the records held until the set may change (R305); `absent` is set once the chip in that direction has been declared absent (R314). -/
structure DirSt where
  links : List Nat := []
  heldBack : List Carried := []
  absent : Bool := false
deriving DecidableEq, Repr

/-- A span notice at a reply chip (R310), or the first half of one: its records, the status it carries and the segment record made for it. -/
structure Notice where
  first : OslRec
  whole : Bool := false
  rstat : Nat := 0
  seg : Nat := 0
deriving DecidableEq, Repr

/-- A spanning program's table entry (R306, R312): its eight words, its state, its generation, when it entered RECOVER, and at a reply chip the notices and result flits that wait for each other. -/
structure ProgSt where
  words : List Word := [0, 0, 0, 0, 0, 0, 0, 0]
  st : Nat := 0
  gen : Nat := 0
  since : Nat := 0
  notices : List Notice := []
  results : List (Flit × Bool) := []
deriving DecidableEq, Repr

/-- Oslink: links, directions (2 × dimension + sign), programs, control records that arrived and are not yet acted on, floods already forwarded, and the link bypass pins. -/
structure OslSt where
  links : Tab LinkSt := ⟨{}, []⟩
  dirs : Tab DirSt := ⟨{}, []⟩
  progs : Tab ProgSt := ⟨{}, []⟩
  arrived : List OslRec := []
  abortsSeen : List (Nat × Nat) := []
  absentSeen : List (Nat × Nat) := []
  flood : Word := 0
  pins : BitVec 8 := 0
deriving DecidableEq, Repr

/-! ### Pace and power (13) -/

/-- A field's power (R325, R332, R335): its state (0 ACTIVE, 1 QUIET, 2 RETENTION, 3 OFF), the instant a wake began and the state it goes to, the instants since which the conditions of QUIET, RETENTION and OFF have held, the last row popped under the gate, the paces that its four replica rings last latched (none before the first, or since they stopped), and the instant of its last entry with the state it left. -/
structure FieldPow where
  st : Nat := 0
  waking : Option Nat := none
  goal : Nat := 0
  quietAt : Option Nat := none
  retAt : Option Nat := none
  offAt : Option Nat := none
  lastPop : Option Nat := none
  rings : Tab (Option Nat) := ⟨none, []⟩
  entered : Option (Nat × Nat) := none
deriving DecidableEq, Repr

/-- The governor and its supply (R324, R327 to R330, R336), and the device's power state (R326, R333). Powers are in units of 0.01 W; `samples` holds the last 1,000, newest first; `rails` the last READ_VOUT and READ_POUT of each other rail and `coreRail` those of the core regulator; `sampledAt` and `polledAt` are the instants of the last sample and the last poll, `idleFrom` that of the last entry into IDLE. `mv` is the setpoint, `acked` the last one acknowledged, `tries` the failures of the write in hand and `retry` asks for it again. `gateCap` says that the cap set the gate, `gateTop` counts decisions at the longest interval, `ceil` is the thermal ceiling. -/
structure PowSt where
  fields : Tab FieldPow := ⟨{}, []⟩
  on : Bool := false
  lastAt : Option Nat := none
  mv : Nat := 780
  acked : Nat := 780
  tries : Nat := 0
  writing : Bool := false
  retry : Bool := false
  samples : List Nat := []
  current : Nat := 0
  dieMv : Nat := 0
  rails : List (Nat × Nat) := [(0, 0), (0, 0), (0, 0), (0, 0), (0, 0), (0, 0), (0, 0), (0, 0)]
  low : Option Nat := none
  running : Bool := false
  pendTarget : Option Word := none
  capOver : Bool := false
  gate : Nat := 0
  gateCap : Bool := false
  gateTop : Nat := 0
  throttle : Bool := false
  ceil : Option Nat := none
  thrCount : Nat := 0
  swept : Bool := false
  hot : Nat := 0
  decisions : List (Nat × Nat × Nat) := []
  idle : Bool := false
  idleAt : Option Nat := none
  devWaking : Option Nat := none
  idleFrom : Option Nat := none
  coreRail : Nat × Nat := (0, 0)
  sampledAt : Option Nat := none
  polledAt : Option Nat := none
deriving DecidableEq, Repr

/-! ### Reset and bring-up (14) -/

/-- The boot flash (R349): the option image slots, the firmware slots, the two halves of the field repair ledger and the failure capsule. Bytes beyond the end of a list are erased, 0xFF. -/
structure Flash where
  optA : List Byte := []
  optB : List Byte := []
  fwA : List Byte := []
  fwB : List Byte := []
  led0 : List Byte := []
  led1 : List Byte := []
  capsule : List Byte := []
deriving DecidableEq, Repr

/-- Reset and bring-up (R340 to R358). `asserted` lists the level sources that are asserted and `since` is the always-on instant that governs the stretch; `held` says that TEST_EN keeps the device from loading options; `cold` that the last reset was cold. `phaseAt` is the elapsed instant the phase under way began, `kickAt` the always-on instant of the watchdog's last kick. `pins` holds the GPIO pins and then the LED pins (0 high impedance, 1 low, 2 high, 3 input with pull-up), `tap` the current JTAG instruction. `probed` names the PMBus addresses that answered the probe; `hung` says that the internal register bus hangs, `stuck` the accesses that wait on it: when each began and, of a read, who reads which address. `fwFirst` is the firmware slot tried first, and `fwStopped` says that an error in Sage's memories has stopped the firmware (R369). -/
structure RstSt where
  coreReady : Bool := false
  asserted : List LevelSource := []
  since : Nat := 0
  held : Bool := false
  cold : Bool := true
  dlActive : Bool := false
  phaseAt : Nat := 0
  kickAt : Nat := 0
  pins : List Nat := List.replicate 24 0
  tap : Nat := 2
  probed : BitVec 9 := 0
  hung : Bool := false
  stuck : List (Nat × Option (Requester × Nat)) := []
  fwFirst : Nat := 0
  fwStopped : Bool := false
  flash : Flash := {}
deriving DecidableEq, Repr

/-! ### Repair and faults (15) -/

/-- A repair map of a field (R155): the two skipped physical rows and the skipped column of each other row. -/
structure RepMap where
  rows : List Nat := [32, 33]
  cols : Tab Nat := ⟨32, []⟩
deriving DecidableEq, Repr

/-- A tile that failed (R365): its physical row and column, and the cause and the instant of its ledger entry. -/
structure NewDefect where
  row : Nat
  col : Nat
  cause : Nat
  thyme : DWord
deriving DecidableEq, Repr

/-- A field's repair state (R361 to R368): its map, the defects on record (row, column), those beyond 255 that hold for this power-on only (R362), logical tiles retired (by tile index), the maps submitted and running and pending, failed tiles whose remap is not yet submitted, and whether it is out of spares. -/
structure RepField where
  map : RepMap := {}
  defects : List (Nat × Nat) := []
  extra : List (Nat × Nat) := []
  retired : List Nat := []
  running : Option RepMap := none
  pending : Option RepMap := none
  toMerge : List NewDefect := []
  degraded : Bool := false
deriving DecidableEq, Repr

/-- A record of the fault log (R372). -/
structure FaultRec where
  code : Nat
  field : Nat := 0
  x : Nat := 0
  y : Nat := 0
  thyme : DWord := 0
  detail : Nat := 0
deriving DecidableEq, Repr

/-- A ledger entry that waits to be written (R362): field, physical row and column, cause and action, and the instant of detection. -/
structure LedgerEntry where
  field : Nat
  prow : Nat
  pcol : Nat
  cause : Nat
  action : Nat
  thyme : DWord
deriving DecidableEq, Repr

/-- Repair (R361 to R381): fields; routers in SINK (field, physical row, physical column); uncorrectable errors and, in the present window of 10^9 ns, corrected errors per tile; lines, banks and pages never leased again (`ssDead` names the lines by bank and line, `hbmDead` the pages); tables' objects that are invalid; the fault log; ledger entries on their way to the flash and the number of the next; the failure capsule: triggers that wait, the trigger and instant of a capture under way, the bytes on their way to the flash and the last capsule's number; and the maker's challenge: its nonce, its state and its refusals. -/
structure RepSt where
  fields : Tab RepField := ⟨{}, []⟩
  sink : List (Nat × Nat × Nat) := []
  ues : Tab Nat := ⟨0, []⟩
  ces : Tab Nat := ⟨0, []⟩
  ceWindow : Nat := 0
  log : List FaultRec := []
  cfgLines : Nat := 0
  ssLines : Tab Nat := ⟨0, []⟩
  ssDead : List (Nat × Nat) := []
  ssBanks : List Nat := []
  hbmPages : Nat := 0
  hbmDead : List Nat := []
  badTables : List TableUse := []
  ledger : List LedgerEntry := []
  ledgerSeq : Nat := 0
  triggers : List CapTrigger := []
  capturing : Option CapTrigger := none
  storing : Option (List Byte) := none
  capSeq : Nat := 0
  nonce : List Byte := []
  chal : Nat := 0
  refusals : Nat := 0
deriving DecidableEq, Repr

/-! ### The whole block -/

/-- The state of the block. `now` is elapsed Thyme nanoseconds, `thyme` the Thyme count, `aon` always-on nanoseconds; `nextId` names the next frame, segment, descriptor, row or handle-less object; `freeIdx` numbers the free values taken; `out` is the outbox; `pending` is the queue of commands that wait, first in, first out. -/
structure State where
  regs : Regs := {}
  shadowPf : Option (Nat × Word) := none
  shadowSage : Option (Nat × Word) := none
  now : Nat := 0
  thyme : DWord := 0
  aon : Nat := 0
  nextId : Nat := 0
  freeIdx : Nat := 0
  mac : MacSt := {}
  thy : ThySt := {}
  prs : PrsSt := {}
  rul : RulSt := {}
  erp : ErpSt := {}
  sfe : SfeSt := {}
  fab : FabSt := {}
  num : NumSt := {}
  bay : BaySt := {}
  adp : AdpSt := {}
  hif : HifSt := {}
  osl : OslSt := {}
  pow : PowSt := {}
  rst : RstSt := {}
  rep : RepSt := {}
  out : List Output := []
  pending : List Instr := []
deriving DecidableEq, Repr

/-- The block right after the power-on source is released (R340, R341, R344): every register and store at its reset value, RST_CAUSE with por, the stretch beginning. -/
def State.reset : State := { regs := { cells := [(Reg.RST_CAUSE, 1)] } }

end Sys2Proof.Machine
end

