-- ==== Sys2Proof/Machine/Flags.lean ====
section
/-! DEFINITION. Registers of BAR0 as the block itself reads and writes them: whole registers, fields, sticky bits and counters (R13 to R15, R388). -/

namespace Sys2Proof.Machine

/-- The value of a register, by the address of its lowest byte. -/
def Regs.get (r : Regs) (a : Nat) : DWord := (cellsGet r.cells a).getD (regReset a)

/-- Store a register; one that holds its reset value is not listed. -/
def Regs.set (r : Regs) (a : Nat) (v : DWord) : Regs :=
  if v = regReset a then { r with cells := cellsDel r.cells a } else { r with cells := cellsIns r.cells a v }

/-- The canonical form of the register file. -/
def Regs.wf (r : Regs) : Bool :=
  cellsRising r.cells && r.cells.all (fun c => decide (c.2 ≠ regReset c.1))

/-- Read a register. -/
def State.reg (s : State) (a : Nat) : DWord := s.regs.get a

/-- Store a register. -/
def State.setReg (s : State) (a : Nat) (v : DWord) : State := { s with regs := s.regs.set a v }

/-- Read a field. -/
def State.fld (s : State) (f : Fld) : Nat := bits (s.reg f.addr).toNat f.hi f.lo

/-- A one-bit field as a truth value. -/
def State.flag (s : State) (f : Fld) : Bool := s.fld f == 1

/-- A register's value with one field replaced. -/
def putBits (v : DWord) (hi lo n : Nat) : DWord :=
  (v &&& ~~~ maskBits hi lo) ||| (BitVec.ofNat 64 ((n % 2 ^ (hi + 1 - lo)) <<< lo))

/-- Store a field. -/
def State.setFld (s : State) (f : Fld) (n : Nat) : State :=
  s.setReg f.addr (putBits (s.reg f.addr) f.hi f.lo n)

/-! #### Ties of one nanosecond (R388) -/

/-- What ties in the present nanosecond have been noted. -/
def State.ties (s : State) : Regs := if s.regs.tieAt = s.now then s.regs else { s.regs with tieAt := s.now, raised := [], wrote := [] }

/-- The mask noted for a register. -/
def tieMask (l : List (Nat × DWord)) (a : Nat) : DWord := l.foldl (fun m c => if c.1 = a then m ||| c.2 else m) 0

/-- Note a mask for a register. -/
def tieAdd (l : List (Nat × DWord)) (a : Nat) (m : DWord) : List (Nat × DWord) := if m = 0 ∨ l.contains (a, m) = true then l else l ++ [(a, m)]

/-- Sticky bits that the block has set in this nanosecond, and RW bits that accesses have written in it. -/
def State.raisedNow (s : State) (a : Nat) : DWord := tieMask s.ties.raised a

/-- An access has written RW bits of a register. -/
def State.noteWrite (s : State) (a : Nat) (m : DWord) : State :=
  { s with regs := let r := s.ties; { r with wrote := tieAdd r.wrote a m } }

/-- The block updates RW fields: a bit that an access wrote in the same nanosecond keeps what was written (R388). -/
def State.hwUpdate (s : State) (k : State → State) : State :=
  s.ties.wrote.foldl (fun t w => t.setReg w.1 ((t.reg w.1 &&& ~~~ w.2) ||| (s.reg w.1 &&& w.2))) (k s)

/-- Set a sticky bit; a write that clears it in the same nanosecond leaves it set (R388). -/
def State.stick (s : State) (f : Fld) : State :=
  let s := s.setFld f 1
  { s with regs := let r := s.ties; { r with raised := tieAdd r.raised f.addr (maskBits f.hi f.lo) } }

/-- Add to a 64-bit counter, modulo 2^64. -/
def State.addCnt (s : State) (a n : Nat) : State := s.setReg a (s.reg a + BitVec.ofNat 64 n)

/-- Count one event in a 64-bit counter. -/
def State.bump (s : State) (a : Nat) : State := s.addCnt a 1

/-- Count one event in a 32-bit counting field, modulo 2^32. -/
def State.bumpFld (s : State) (f : Fld) : State := s.setFld f (s.fld f + 1)

/-- Count an event if a condition holds. -/
def State.bumpIf (s : State) (c : Bool) (a : Nat) : State := if c then s.bump a else s

/-- A signed 32-bit field. -/
def State.sfld (s : State) (f : Fld) : Int := (BitVec.ofNat 32 (s.fld f)).toInt

end Sys2Proof.Machine
end

