-- ==== Sys2Proof/Machine/Ops.lean ====
section
/-! DEFINITION. Operations that every family shares: time, identifiers, free values, the outbox, token buckets. -/

namespace Sys2Proof.Machine

/-- The answer of a command. -/
abbrev Out := Host.Outcome State Fault Refusal

/-- Elapsed time in units of 10 ps. -/
def State.now10 (s : State) : Nat := s.now * 100

/-- Put something in the outbox. -/
def State.emit (s : State) (o : Output) : State := { s with out := s.out ++ [o] }

/-- Take the next identifier. -/
def State.freshId (s : State) : Nat × State := (s.nextId, { s with nextId := s.nextId + 1 })

/-- Take a value the manual leaves open. -/
def State.free (s : State) : DWord × State :=
  (Config.freeValue s.freeIdx, { s with freeIdx := s.freeIdx + 1 })

/-- Whether a span of elapsed time that began at `since` has passed (R53). -/
def State.passed (s : State) (since span : Nat) : Bool := decide (since + span ≤ s.now)

/-- Whether a span of elapsed time has been exceeded. -/
def State.exceeded (s : State) (since span : Nat) : Bool := decide (since + span < s.now)

/-- Credit a token bucket up to an instant (R80): `rate` tokens per 10^9 ns, at most `burst`. -/
def Bucket.credit (b : Bucket) (rate burst now : Nat) : Bucket :=
  ⟨min (burst * 1000000000) (b.nano + rate * (now - b.last)), now⟩

/-- Set a bucket full. -/
def Bucket.fill (burst now : Nat) : Bucket := ⟨burst * 1000000000, now⟩

/-- A copy conforms if tokens ≥ 1, and then takes one (R80). -/
def Bucket.take (b : Bucket) (rate burst now : Nat) : Bool × Bucket :=
  let c := b.credit rate burst now
  if 1000000000 ≤ c.nano then (true, ⟨c.nano - 1000000000, c.last⟩) else (false, c)

/-! #### Who can reach what (14, 16) -/

/-- RST_STAT.phase: 0 STRETCH, 1 to 5 the option-loading phases, 6 WAVE, 7 DONE, 8 HALT. -/
def State.phase (s : State) : Nat := s.fld Reg.RST_STAT_phase

/-- core_ready as RST_STAT shows it: it reads 0 while a response to the maker's challenge stands ACCEPTED (R346, R379). -/
def State.coreReadyBit (s : State) : Bool := s.rst.coreReady && decide (s.rep.chal ≠ 2)

/-- Whether the host reaches BAR0: from the end of phase 1, but not in a HALT that a fuse failure caused (R347, R353, R390). -/
def State.reachable (s : State) : Bool :=
  decide (2 ≤ s.phase) && !(decide (s.phase = 8) && decide (s.fld Reg.RST_STAT_halt_reason = 1))

/-- What reaches the RST, GLB, SAG, THY or MAC block: it comes out of reset at the end of phase 1, with the PCIe controller (R347). -/
def State.edgeWrite (s : State) (k : State → State) : State := if s.reachable then k s else s

/-- Whether an isolable block is cut off from the register bus (R356). -/
def State.isolated (s : State) (blk : Option Nat) : Bool :=
  (blk.map (fun b => bit (s.fld Reg.RST_ISO_iso) b)).getD false

/-- A write to a core block: before core_ready it is dropped and early_access is set; on a hung bus it waits for its timeout; an isolated block does not take it (14, R356, R357). -/
def State.coreWrite (s : State) (blk : Option Nat) (k : State → State) : State :=
  if s.reachable = false then s
  else if s.rst.coreReady = false then s.stick Reg.RST_STAT_early_access
  else if s.rst.hung then { s with rst := { s.rst with stuck := s.rst.stuck ++ [(s.now, none)] } }
  else if s.isolated blk then s
  else k s

/-- Whether the blocks that IDLE gates have no power: in IDLE, and until the exit from it has ended (R326, R333). -/
def State.gated (s : State) : Bool := s.pow.idle || s.pow.devWaking.isSome

/-- Leave IDLE for RUN, if the device is in it (R333): an entry of the same nanosecond is undone, and no exit runs (R335). -/
def State.leaveIdle (s : State) : State :=
  if s.pow.idle then
    { s with pow := { s.pow with
      idle := false, idleAt := none, devWaking := if s.pow.idleFrom = some s.now then none else some s.now } }
  else s

/-- Whether a core block works: the release wave has reached it, isolation has not cut it off, and IDLE does not gate it (R326, R345, R346, R356). The block is named by its bit of RST_ISO; `none` is Bay, which has none. What comes to a block that does not work waits at its port. -/
def State.runs (s : State) (blk : Option Nat) : Bool := s.rst.coreReady && !s.isolated blk && !s.gated

/-- What a core block does by itself, while it works. -/
def State.whenRuns (s : State) (blk : Option Nat) (k : State → State) : State := if s.runs blk then k s else s

/-- Whether boundary scan drives the bypass pins low: under EXTEST, CLAMP or HIGHZ (R414). -/
def State.scanDrives (s : State) : Bool := decide (s.rst.tap = 0) || decide (s.rst.tap = 3) || decide (s.rst.tap = 4)

/-! #### Objects that an uncorrectable error made invalid (R369) -/

/-- Whether an action template is invalid until it is rewritten. -/
def State.tmplBad (s : State) (t : Nat) : Bool :=
  s.rep.badTables.any (fun u => match u with
    | .template x => x.val + 1 == t
    | _ => false)

/-- Whether a steer entry is invalid until it is rewritten. -/
def State.badSteer (s : State) (i : Nat) : Bool :=
  s.rep.badTables.any (fun u => match u with
    | .steer x => x.val == i
    | _ => false)

/-- Whether a key map is invalid until it is rewritten: it delivers no key, so nothing matches. -/
def State.badKeyMap (s : State) (m : Nat) : Bool :=
  s.rep.badTables.any (fun u => match u with
    | .keyMap x => x.val == m
    | _ => false)

end Sys2Proof.Machine
end

