-- ==== Sys2Proof/Machine/Delivery.lean ====
section
/-! DEFINITION. How anything reaches the host: host writes, interrupts, completion records, copies and events (R262 to R286). -/

namespace Sys2Proof.Machine

/-- A queue pair. -/
def State.qp (s : State) (q : Nat) : Qp := s.hif.qps.get q

/-- Change a queue pair. -/
def State.updQp (s : State) (q : Nat) (f : Qp → Qp) : State :=
  { s with hif := { s.hif with qps := s.hif.qps.upd q f } }

/-- A fetched descriptor. -/
def State.desc (s : State) (i : Nat) : Desc := s.hif.descs.get i

/-- Change a fetched descriptor. -/
def State.updDesc (s : State) (i : Nat) (f : Desc → Desc) : State :=
  { s with hif := { s.hif with descs := s.hif.descs.upd i f } }

/-- A function's PCIe state. -/
def State.func (s : State) (f : Nat) : FuncSt := s.hif.funcs.get f

/-- What a function sends leaves at once while Bus Master Enable is set, and waits otherwise (R264). -/
def State.sendHeld (s : State) (h : HostHeld) : State :=
  if (s.func h.func).busMaster then s.emit h.out
  else { s with hif := { s.hif with blocked := s.hif.blocked ++ [h] } }

/-- A DMA or an interrupt of a function. -/
def State.hostOut (s : State) (func : Nat) (o : Output) : State := s.sendHeld { func := func, out := o }

/-- A write of a queue pair to host memory: it has its function's requester ID and carries its lease epoch (R263, R267). -/
def State.qpWrite (s : State) (q addr : Nat) (b : List Byte) (relaxed : Bool) : State :=
  let p := s.qp q
  s.sendHeld { func := p.func, lease := some (q, p.epoch), out := .hostWrite p.func addr b relaxed }

/-- Whether what waits may still be sent: the lease its queue pair gave it is in force (R267, R271). -/
def State.heldLive (s : State) (h : HostHeld) : Bool :=
  match h.lease with
  | none => true
  | some (q, e) => decide ((s.qp q).epoch = e) && !(s.qp q).fenced

/-- The descriptor opcodes that use the command-block layout (R279). -/
def cmdBlockOp (op : Nat) : Bool :=
  (decide (0x11 ≤ op) && decide (op ≤ 0x1B)) || (decide (0x21 ≤ op) && decide (op ≤ 0x25))

/-- The bytes of a completion record (R284). -/
def cqRecord (sqIndex kind status length : Nat) (cookie value : DWord) (info sqHead : Nat) (phase : Bool) : List Byte :=
  toLe 2 sqIndex ++ toLe 1 kind ++ toLe 1 status ++ toLe 4 length ++ toLe 8 cookie.toNat ++ toLe 8 value.toNat
    ++ toLe 4 info ++ toLe 2 sqHead ++ toLe 2 (b2n phase <<< 15)

/-- Send the interrupt of a queue pair and disarm it (R278). -/
def State.interrupt (s : State) (q : Nat) : State :=
  (s.hostOut (s.qp q).func (.msix (s.qp q).func (s.qp q).vector)).updQp q
    (fun p => { p with armed := false, sinceArm := 0, firstAt := none })

/-- The queue pair after one record is written: the CQ index moves on, the phase turns at the wrap, moderation counts the record. -/
def Qp.wrote (p : Qp) (now : Nat) : Qp :=
  let p := if p.cqTail + 1 = p.cqSize then { p with cqTail := 0, phase := !p.phase } else { p with cqTail := p.cqTail + 1 }
  let p := { p with cqUsed := p.cqUsed + 1 }
  if p.armed then { p with sinceArm := p.sinceArm + 1, firstAt := some (p.firstAt.getD now) } else p

/-- Whether moderation asks for the interrupt with the record just written (R278). -/
def Qp.modDue (p : Qp) : Bool :=
  p.armed && (decide (max p.modCount 1 ≤ p.sinceArm) || (decide (p.modNs = 0) && decide (0 < p.sinceArm)))

/-- Write one completion record of a queue pair (R270). -/
def State.writeRecord (s : State) (q sqIndex kind status length : Nat) (cookie value : DWord) (info : Nat) : State :=
  let p := s.qp q
  let s := s.qpWrite q (p.cqBase + 32 * p.cqTail) (cqRecord sqIndex kind status length cookie value info p.sqHead p.phase) false
  let s := s.updQp q (fun p => p.wrote s.now)
  if (s.qp q).modDue then s.interrupt q else s

/-- Whether the CQ can take one more record beyond those written and those reserved (R269). -/
def Qp.cqRoom (p : Qp) : Bool := decide (p.cqUsed + p.reserved < p.cqSize)

/-- Whether a queue pair may take copies: ACTIVE, its lease in force and its function not in D3hot (R262, R271, R286). -/
def State.qpOpen (s : State) (q : Nat) : Bool :=
  let p := s.qp q
  decide (p.st = .active) && !p.fenced && !(s.hif.funcs.get p.func).d3hot && s.flag Reg.HIF_CTRL_enable

/-- Deliver a copy (R285, R286): the queue pair's bucket, its state, a receive buffer and a CQ entry are asked in turn. The answer says whether it was delivered. -/
def State.deliverCopy (s : State) (q kind : Nat) (content : List Byte) (value : DWord) (info : Nat) : Bool × State :=
  let (ok, b) := (s.qp q).bucket.take (s.qp q).rate (s.qp q).burst s.now
  let s := s.updQp q (fun p => { p with bucket := b })
  match (s.qp q).rx with
  | r :: rest =>
    if ok && s.qpOpen q && (s.qp q).cqRoom then
      let data := content.take r.len
      let cutBit := if r.len < content.length then 2 else 0
      let s := s.updQp q (fun p => { p with rx := rest, reserved := p.reserved - 1 })
      let s := s.qpWrite q r.addr data true
      (true, s.writeRecord q r.sqIndex kind 0 data.length r.cookie value (info ||| cutBit))
    else (false, s.bump Reg.HIF_COPY_DROP)
  | [] => (false, s.bump Reg.HIF_COPY_DROP)

/-- Whether a queue pair may take records (R271, R286 and the edge of 11): it has a CQ, its lease is in force and delivery is enabled. -/
def State.recordsOpen (s : State) (q : Nat) : Bool :=
  decide ((s.qp q).st ≠ .free) && !(s.qp q).fenced && s.flag Reg.HIF_CTRL_enable

/-- Deliver a record-only kind (R285, R286): it needs only the free CQ entry. -/
def State.deliverRecord (s : State) (q kind : Nat) (cookie value : DWord) (info : Nat) : State :=
  if s.recordsOpen q && (s.qp q).cqRoom then s.writeRecord q 0xFFFF kind 0 0 cookie value info
  else s.bump Reg.HIF_COPY_DROP

/-- Send an EVENT record (R285): the code and its detail bits. -/
def State.event (s : State) (code detail : Nat) : State :=
  s.deliverRecord (s.fld Reg.HIF_EVENT_QP_qp) 0x85 0 s.thyme (code ||| detail)

/-- The opcode of a descriptor. -/
def Desc.op (d : Desc) : Nat := byteAt d.bytes 0

/-- Whether a descriptor asks for no record when its status is OK (R279). -/
def Desc.noCq (d : Desc) : Bool := !cmdBlockOp d.op && bit (byteAt d.bytes 1) 0

/-- A descriptor is alive while its queue pair's lease has not been revoked since its fetch (R267, R271) and it has not been completed. -/
def State.descLive (s : State) (i : Nat) : Bool :=
  let d := s.desc i
  decide (d.st ≠ .done) && !d.aborted && decide (d.lease = (s.qp d.qp).epoch) && !(s.qp d.qp).fenced

/-- Whether a command that came by a descriptor may run (R264): a live one only while its function may use the bus. -/
def State.dmaOk (s : State) (d : Nat) : Bool := !s.descLive d || (s.func (s.qp (s.desc d).qp).func).busMaster

/-- The function of a command (R263): that of the queue pair whose descriptor gave it; the PF's for one that the PF driver gave through registers. -/
def State.srcFunc (s : State) : CmdSrc → Nat
  | .reg => 0
  | .desc d => (s.qp (s.desc d).qp).func

/-- Issue reads of host memory as a function. -/
def State.hostReads (s : State) (func : Nat) (l : List (Nat × Nat)) : State :=
  l.foldl (fun s r => s.hostOut func (.hostRead func r.1 r.2)) s

/-- The descriptors of a queue pair that are fetched and not complete. -/
def State.openDescs (s : State) (q : Nat) : List Nat :=
  s.hif.descs.keys.filter (fun i => decide ((s.desc i).qp = q) && decide ((s.desc i).st ≠ .done))

/-- A draining queue pair with nothing left to complete returns its posted buffers FLUSHED and becomes FREE (R266). -/
def State.drainQp (s : State) (q : Nat) : State :=
  if (s.qp q).st = .draining ∧ s.openDescs q = [] ∧ (s.qp q).inflight = 0 then
    let s := (s.qp q).rx.foldl (fun s r =>
      (s.updQp q (fun p => { p with reserved := p.reserved - 1 })).writeRecord q r.sqIndex 3 0x0C 0 r.cookie 0 0) s
    s.updQp q (fun p => { p with st := .free, rx := [] })
  else s

/-- Complete a descriptor with a status (R270, R284). One that is no longer alive completes without any record. -/
def State.completeDesc (s : State) (i status length : Nat) (value : DWord) (info : Nat) : State :=
  let d := s.desc i
  if s.descLive i then
    let s := s.updDesc i (fun d => { d with st := .done })
    let s := s.updQp d.qp (fun p => { p with reserved := p.reserved - 1 })
    let (cookie, s) := if cmdBlockOp d.op then s.free else (BitVec.ofNat 64 (le d.bytes 8 8), s)
    let s := if d.noCq && status = 0 then s
      else s.writeRecord d.qp d.sqIndex d.op status length cookie value info
    s.drainQp d.qp
  else s

/-- The rights a descriptor is checked under: those of the domain epoch in force at its fetch (R274). -/
def State.rightsOf (s : State) (d : Desc) : Rights :=
  let m := s.hif.doms.get d.domain
  if d.domEpoch = m.ver then m.rights
  else ((m.old.find? (fun p => p.1 == d.domEpoch)).map (·.2)).getD m.rights

/-- Whether a handle is in a model-handle set; bit 0 is never set (R272). -/
def Rights.hasHandle (r : Rights) (h : Nat) : Bool :=
  decide (h ≠ 0) && (r.mset.get (h / 32)).toNat.testBit (h % 32)

/-- Whether a buffer lies in one window that grants the access (R273). -/
def Rights.inWindow (r : Rights) (addr len : Nat) (wr : Bool) : Bool :=
  (List.range 64).any (fun i =>
    let w := r.wins.get i
    w.valid && (if wr then w.write else w.read) && decide (w.base ≤ addr) && decide (addr + len ≤ w.base + w.len))

/-- The domain a stream entry names (R85, R276). -/
def State.domRights (s : State) (dom : Nat) : Rights := (s.hif.doms.get dom).rights

end Sys2Proof.Machine
end

