-- ==== Sys2Proof/Machine/Frames.lean ====
section
/-! DEFINITION. Frames at the network edge: port modes, what has arrived, buffer and crossing occupancy, PFC thresholds, host copies, encapsulation and PTP messages (R32, R37, R38, R55, R79, R97, R104, R105, R421). -/

namespace Sys2Proof.Machine

/-- The port mode of R32. -/
def State.portMode (s : State) : Nat := s.fld Reg.MAC_MODE_mode

/-- Ports in use in a mode. -/
def portsOf (mode : Nat) : Nat := if mode = 0 then 4 else if mode = 1 then 8 else 16

/-- Time of one byte on the wire in units of 10 ps: 400, 200 and 100 Gb/s. -/
def byteTimeOf (mode : Nat) : Nat := if mode = 0 then 2 else if mode = 1 then 4 else 8

/-- The edge buffer of a port in KiB (R32). -/
def edgeKibOf (mode : Nat) : Nat := if mode = 0 then 4096 else if mode = 1 then 2048 else 1024

/-- Ports in use. -/
def State.portCount (s : State) : Nat := portsOf s.portMode

/-- Time of one byte. -/
def State.byteTime (s : State) : Nat := byteTimeOf s.portMode

/-- The paired port (R32). -/
def pairedPort (p : Nat) : Nat := p ^^^ 1

/-- A port. -/
def State.port (s : State) (p : Nat) : PortSt := s.mac.ports.get p

/-- Change a port. -/
def State.updPort (s : State) (p : Nat) (f : PortSt → PortSt) : State :=
  { s with mac := { s.mac with ports := s.mac.ports.upd p f } }

/-- A pair. -/
def State.pair (s : State) (k : Nat) : PairSt := s.mac.pairs.get k

/-- Change a pair. -/
def State.updPair (s : State) (k : Nat) (f : PairSt → PairSt) : State :=
  { s with mac := { s.mac with pairs := s.mac.pairs.upd k f } }

/-- A frame. -/
def State.frame (s : State) (f : Nat) : Frame := s.mac.frames.get f

/-- Change a frame. -/
def State.updFrame (s : State) (f : Nat) (g : Frame → Frame) : State :=
  { s with mac := { s.mac with frames := s.mac.frames.upd f g } }

/-- Whether a port can send and receive: in use in the mode, enabled and up. -/
def State.portUp (s : State) (p : Nat) : Bool :=
  decide (p < s.portCount) && s.flag (Reg.MAC_PORT_CTRL_enable p) && (s.port p).linkUp

/-- How many bytes of a frame have arrived: at the line rate since its delimiter, all of them once its end is there (R24). -/
def State.arrived (s : State) (f : Nat) : Nat :=
  let fr := s.frame f
  if fr.tail = .none then min fr.bytes.length ((s.now10 - fr.sof * 100) / s.byteTime) else fr.bytes.length

/-- How many bytes of a frame's copy can be read: those that have arrived, up to where the copy was cut (R421). -/
def State.copyBytes (s : State) (f : Nat) : Nat :=
  match (s.frame f).cut with
  | none => s.arrived f
  | some n => min n (s.arrived f)

/-- Whether a frame's copy has ended: at the frame's end or where it was cut. -/
def State.copyEnded (s : State) (f : Nat) : Bool :=
  decide ((s.frame f).tail ≠ .none) || (match (s.frame f).cut with | none => false | some n => decide (n ≤ s.arrived f))

/-- Bytes in a port's edge buffer: the arrived bytes of the originals that have not left (R38, R40). -/
def State.edgeOcc (s : State) (p : Nat) : Nat :=
  (s.mac.frames.keys.filter (fun f => decide ((s.frame f).port = p) && decide ((s.frame f).orig ≠ .gone))).foldl
    (fun n f => n + s.arrived f) 0

/-- Bytes in a port's ingress crossing: the copies no chive has taken (R421). -/
def State.crossOcc (s : State) (p : Nat) : Nat :=
  (s.mac.frames.keys.filter (fun f => decide ((s.frame f).port = p) && decide ((s.frame f).copy = .waiting))).foldl
    (fun n f => n + s.copyBytes f) 0

/-- The capacity of a port's ingress crossing (R421). -/
def crossCap : Nat := 32768

/-- The thresholds in use (R37), in bytes: XOFF and XON. -/
def State.pfcThr (s : State) (p : Nat) : Nat × Nat :=
  let kib := edgeKibOf s.portMode
  if s.fld (Reg.MAC_PFC_THR_xoff_kib p) < kib then
    (s.fld (Reg.MAC_PFC_THR_xoff_kib p) * 1024, s.fld (Reg.MAC_PFC_THR_xon_kib p) * 1024)
  else (kib * 768, kib * 512)

/-- Send XOFF when the occupancy has reached its threshold, XON when it has fallen to its own (R37). The PFC frame goes out at the next frame boundary. While pfc_tx_en is 0 nothing is sent, and an XOFF that stands is judged again once it is set: the manual does not say what becomes of it (DESIGN CHOICE, log 171). -/
def State.pfcCheck (s : State) (p : Nat) : State :=
  if s.flag (Reg.MAC_PORT_CTRL_pfc_tx_en p) then
    match (s.port p).xoffAt with
    | none =>
      if (s.pfcThr p).1 ≤ s.edgeOcc p then
        s.updPort p (fun q => { q with xoffAt := some s.now10, xoffSent := none, pfcOut := q.pfcOut ++ [true] })
      else s
    | some _ =>
      if s.edgeOcc p ≤ (s.pfcThr p).2 then
        s.updPort p (fun q => { q with xoffAt := none, xoffSent := none, pfcOut := q.pfcOut ++ [false] })
      else s
  else s

/-- PFC checks on every port. -/
def State.pfcCheckAll (s : State) : State := (List.range 16).foldl (fun s p => s.pfcCheck p) s

/-- The original frame has left the edge buffer. -/
def State.origGone (s : State) (f : Nat) : State :=
  (s.updFrame f (fun fr => { fr with orig := .gone })).pfcCheck (s.frame f).port

/-- Offset of the EtherType after the VLAN tags of a frame, with the number of tags still allowed. -/
def etherOff (l : List Byte) : Nat → Nat → Nat
  | 0, o => o
  | n + 1, o => if be l o 2 = 0x8100 ∨ be l o 2 = 0x88A8 then etherOff l n (o + 4) else o

/-- A frame's egress priority: its VLAN PCP, or 0 without a tag (R37). -/
def prioOf (l : List Byte) : Nat :=
  if be l 12 2 = 0x8100 ∨ be l 12 2 = 0x88A8 then byteAt l 14 / 32 else 0

/-- Where a PTP message lies in a frame (R54): its offset and, over UDP, the offset of the UDP checksum and whether the outer header is IPv4. -/
structure PtpAt where
  off : Nat
  sum : Option (Nat × Bool)
deriving DecidableEq, Repr

/-- Find a PTP message over Ethernet or over UDP ports 319 and 320, as THY_PTP_CTRL.l2 and .udp allow. -/
def findPtp (l : List Byte) (l2 udp : Bool) : Option PtpAt :=
  let o := etherOff l 8 12
  let et := be l o 2
  if et = 0x88F7 then (if l2 then some ⟨o + 2, none⟩ else none)
  else if et = 0x0800 then
    let u := o + 2 + 4 * (byteAt l (o + 2) % 16)
    if udp && decide (byteAt l (o + 11) = 17) && (decide (be l (u + 2) 2 = 319) || decide (be l (u + 2) 2 = 320)) then
      some ⟨u + 8, some (u + 6, true)⟩
    else none
  else if et = 0x86DD then
    let u := o + 42
    if udp && decide (byteAt l (o + 8) = 17) && (decide (be l (u + 2) 2 = 319) || decide (be l (u + 2) 2 = 320)) then
      some ⟨u + 8, some (u + 6, false)⟩
    else none
  else none

/-- PTP event messages are those of type 0 to 3 (IEEE 1588, PRESUMED). -/
def ptpIsEvent (l : List Byte) (a : PtpAt) : Bool := decide (byteAt l a.off % 16 < 4)

/-- Replace bytes of a UDP datagram and update its checksum incrementally; an IPv4 checksum of zero stays zero (R55). Both byte ranges have even length and offset from the checksum. -/
def patchUdp (l : List Byte) (off : Nat) (b : List Byte) (sum : Option (Nat × Bool)) : List Byte :=
  let l' := patch l off b
  match sum with
  | none => l'
  | some (so, v4) =>
    if v4 && decide (be l so 2 = 0) then l'
    else
      let n := b.length / 2
      let old := (slice l off b.length).map (fun x => ~~~ x)
      let acc := (65535 - be l so 2) + onesSum old n + onesSum b n
      patch l' so (toBe 2 (65535 - foldCarry acc))

/-- The PTP message of a frame that arrived on, or leaves by, a port, under that port's THY_PTP_CTRL. -/
def State.ptpOf (s : State) (p : Nat) (l : List Byte) : Option PtpAt :=
  (findPtp l (s.flag (Reg.THY_PTP_CTRL_l2 p)) (s.flag (Reg.THY_PTP_CTRL_udp p))).filter (ptpIsEvent l)

/-- Transparent clock (R55): the residence time, and in peer-to-peer mode the link delay of the ingress port, enter the correctionField in units of 2^-16 ns. -/
def State.ptpCorrect (s : State) (inPort : Nat) (inStamp outStamp : DWord) (l : List Byte) : List Byte :=
  let m := s.fld (Reg.THY_PTP_CTRL_mode inPort)
  if m = 2 ∨ m = 3 then
    match s.ptpOf inPort l with
    | none => l
    | some a =>
      let delay : DWord := if m = 3 then BitVec.ofNat 64 (s.fld (Reg.THY_PTP_LINK_DELAY_delay inPort)) else 0
      let c : DWord := BitVec.ofNat 64 (be l (a.off + 8) 8) + ((outStamp - inStamp + delay) <<< 16)
      patchUdp l (a.off + 8) (toBe 8 c.toNat) a.sum
  else l

/-- One-step operation of an ordinary clock (R54): the egress stamp becomes the origin timestamp, seconds then nanoseconds (IEEE 1588 layout, PRESUMED). -/
def State.ptpOneStep (s : State) (p : Nat) (stamp : DWord) (l : List Byte) : List Byte :=
  if s.fld (Reg.THY_PTP_CTRL_mode p) = 1 ∧ s.flag (Reg.THY_PTP_CTRL_one_step p) = true then
    match s.ptpOf p l with
    | none => l
    | some a =>
      if byteAt l a.off % 16 < 3 then
        patchUdp l (a.off + 34) (toBe 6 (stamp.toNat / 1000000000) ++ toBe 4 (stamp.toNat % 1000000000)) a.sum
      else l
  else l

/-- Bytes of an array of words in registers, the first byte in [31:24] (R11, R419). -/
def State.wordBytes (s : State) (base n : Nat) : List Byte :=
  (List.range n).flatMap (fun i => toBe 4 (s.reg (base + 4 * i)).toNat)

/-- Fix up an outer IP header for what follows it (R97, R110): total length and header checksum of IPv4, payload length of IPv6. -/
def fixIp (l : List Byte) (ipOff : Nat) (v6 : Bool) (total : Nat) : List Byte :=
  if v6 then patch l (ipOff + 4) (toBe 2 (total - ipOff - 40))
  else
    let l := patch (patch l (ipOff + 2) (toBe 2 (total - ipOff))) (ipOff + 10) [0, 0]
    patch l (ipOff + 10) (toBe 2 (inetSum (slice l ipOff (4 * (byteAt l ipOff % 16)))))

/-- The bytes of encapsulation template `t` in front of `n` bytes, with the outer headers fixed up (R97). -/
def State.encap (s : State) (t n : Nat) : List Byte :=
  let len := s.fld (Reg.RUL_ENCAP_DESC_len (t - 1))
  let ipOff := s.fld (Reg.RUL_ENCAP_DESC_ip_off (t - 1))
  let l4 := s.fld (Reg.RUL_ENCAP_DESC_l4_off (t - 1))
  let raw := fit (s.wordBytes (Reg.RUL_ENCAP_DATA (32 * (t - 1))) 32) len
  let l := fixIp raw ipOff (s.flag (Reg.RUL_ENCAP_DESC_ipv6 (t - 1))) (len + n)
  if l4 = 255 then l else patch l (l4 + 4) (toBe 2 (len - l4 + n) ++ [0, 0])

/-- Length of a template. -/
def State.encapLen (s : State) (t : Nat) : Nat := if t = 0 then 0 else s.fld (Reg.RUL_ENCAP_DESC_len (t - 1))

/-- The frame length, FCS included, that the outermost IP length field of the original gives (R97); none for a frame without a marked IP header. -/
def Frame.ipLength (f : Frame) : Option Nat :=
  let o := be f.prv 74 2
  if o = 0 then none
  else if byteAt f.bytes o / 16 = 4 then some (o + be f.bytes (o + 2) 2 + 4)
  else if byteAt f.bytes o / 16 = 6 then some (o + 40 + be f.bytes (o + 4) 2 + 4)
  else none

/-- The length a forward of a frame is built with: its IP length under a template, its own otherwise (R97). -/
def Frame.fwdLength (f : Frame) (tmpl : Nat) : Nat :=
  if tmpl = 0 then f.bytes.length else f.ipLength.getD f.bytes.length

/-- The exception code of a frame (R70). -/
def Frame.excCode (f : Frame) : Nat := byteAt f.prv 14

/-- The info word of an EXC_COPY or HOST_COPY (R285). -/
def Frame.copyInfo (f : Frame) : Nat :=
  b2n (decide (f.tail = .bad)) ||| (b2n (decide (f.tail = .oversize) || f.cut.isSome) <<< 2)
    ||| (f.excCode <<< 8) ||| ((f.bytes.length % 65536) <<< 16)

/-- The copy of an exception class (R79, R80): the class's bucket, then the queue pair. -/
def State.excCopy (s : State) (c : Nat) (content : List Byte) (value : DWord) (info : Nat) : State :=
  let (ok, b) := (s.prs.exc.get c).take (s.fld (Reg.PRS_EXC_RATE_rate c)) (s.fld (Reg.PRS_EXC_BURST_burst c)) s.now
  let s := { s with prs := { s.prs with exc := s.prs.exc.set c b } }
  if ok then
    let (done, s) := s.deliverCopy (s.fld (Reg.PRS_EXC_QP_qp c)) 0x80 content value info
    s.bumpIf (!done) Reg.PRS_EXC_RING_DROP
  else s.bump Reg.PRS_EXC_RATE_DROP

/-- The copies a frame owes once its tail is there: the exception copy of its class and its COPY_HOST copy (R79, R80, R105). -/
def State.tailHostCopies (s : State) (f : Nat) : State :=
  let fr := s.frame f
  if fr.tail = .none ∨ fr.runt = true then s
  else
    let s := match fr.excClass with
      | none => s
      | some c =>
        let s := s.updFrame f (fun x => { x with excClass := none })
        if s.flag (Reg.PRS_EXC_CTRL_copy_en c) then
          s.excCopy c (fr.prv ++ fr.bytes.take (64 * s.fld (Reg.PRS_EXC_CTRL_copy_len c))) fr.stamp fr.copyInfo
        else s
    match fr.hostCopy with
    | none => s
    | some (q, n) =>
      let s := s.updFrame f (fun x => { x with hostCopy := none })
      let (done, s) := s.deliverCopy q 0x81 (fr.prv ++ fr.bytes.take (64 * n)) fr.stamp fr.copyInfo
      s.bumpIf (!done) Reg.RUL_HOST_DROP

/-- A frame releases its rule version once its action record has reached the edge and, for a bundle, its walk has ended and its last segment record has been classified (R89). -/
def State.releaseVer (s : State) (f : Nat) : State :=
  let fr := s.frame f
  if fr.holdsVer && fr.recBack && fr.walkDone && decide (fr.segsOpen = 0) then
    s.updFrame f (fun x => { x with holdsVer := false })
  else s

end Sys2Proof.Machine
end

