-- ==== Sys2Proof/Machine/Egress.lean ====
section
/-! DEFINITION. Egress ports: reply frames as bytes, what waits for a port, arbitration, and frames on the wire (R36, R37, R40, R104, R109 to R124). -/

namespace Sys2Proof.Machine

/-- A bundle at the early reply unit. -/
def State.bundle (s : State) (b : Nat) : Bundle := s.erp.bundles.get b

/-- Change a bundle. -/
def State.updBundle (s : State) (b : Nat) (f : Bundle → Bundle) : State :=
  { s with erp := { s.erp with bundles := s.erp.bundles.upd b f } }

/-- Change a bundle's share on a profile; a share that does not exist yet is made. -/
def Bundle.updShare (b : Bundle) (prof : Nat) (f : ProfShare → ProfShare) : Bundle :=
  if b.shares.any (fun x => x.prof == prof) then
    { b with shares := b.shares.map (fun x => if x.prof = prof then f x else x) }
  else { b with shares := b.shares ++ [f { prof := prof }] }

/-- This chip's address (R111). -/
def State.chipAddr (s : State) : Nat := s.fld Reg.OSL_CHIP_ADDR_addr

/-- Bytes of a result record (R112). -/
def Record.bytes (r : Record) : List Byte :=
  toBe 4 r.streamId.toNat ++ toBe 4 r.bundleId.toNat ++ toBe 2 r.seq
    ++ toBe 2 (r.segIndex <<< 11 ||| b2n r.provisional <<< 10 ||| b2n r.widened <<< 9 ||| r.rstat)
    ++ toBe 2 r.model ++ toBe 2 r.epoch ++ toBe 8 r.cookie.toNat ++ toBe 8 r.result.toNat

/-- The code of a verdict's cause (R113). -/
def Cause.code : Cause → Nat
  | .none => 0 | .fcsBad => 1 | .truncated => 2 | .verdictLost => 3

/-- Bytes of a verdict record (R113). -/
def VerdictRec.bytes (v : VerdictRec) : List Byte :=
  toBe 4 v.bundleId.toNat ++ toBe 1 v.cause.code ++ toBe 1 v.firstDisc ++ toBe 1 v.segCount ++ toBe 1 v.cond
    ++ toBe 4 v.provMap ++ toBe 4 v.pendMap ++ toBe 4 v.firstSeq ++ toBe 4 v.lastSeq ++ toBe 8 v.ingressTs.toNat

/-- A UDP checksum over the whole datagram with its pseudo-header (R110); a computed zero is sent as 0xFFFF. -/
def udpSum (l : List Byte) (ipOff l4 : Nat) (v6 : Bool) : Nat :=
  let dg := l.drop l4
  let addrs := if v6 then slice l (ipOff + 8) 32 else slice l (ipOff + 12) 8
  let x := inetSum (addrs ++ toBe 4 17 ++ toBe 4 dg.length ++ dg)
  if x = 0 then 65535 else x

/-- Bytes of a reply frame without its FCS (R110, R111): template, reply header and records, with the outer headers fixed up. -/
def ReplyFrame.bytes (r : ReplyFrame) (chip : Nat) : List Byte :=
  let tlen := bits r.d3.toNat 7 0
  let ipOff := bits r.d3.toNat 15 8
  let l4 := bits r.d3.toNat 23 16
  let v6 := bit r.d3.toNat 24
  let recs := match r.verdict with
    | some v => v.bytes
    | none => r.records.flatMap Record.bytes
  let count := match r.verdict with | some _ => 1 | none => r.records.length
  let hdr := toBe 2 0xC7A2 ++ toBe 1 (16 + r.kind) ++ toBe 1 (b2n r.remote) ++ toBe 1 count ++ toBe 1 0
    ++ toBe 2 chip ++ toBe 4 r.seq.toNat ++ toBe 4 r.sender.toNat ++ toBe 8 r.emitTs.toNat
  let body := fixIp (fit r.tmpl tlen) ipOff v6 (tlen + hdr.length + recs.length) ++ hdr ++ recs
  let body := patch body (l4 + 4) (toBe 2 (body.length - l4) ++ [0, 0])
  patch body (l4 + 6) (toBe 2 (udpSum body ipOff l4 v6))

/-- Whether a reply may be sent on a port: enabled, up, and its pair's bypass OPEN (R109). -/
def State.replyPort (s : State) (p : Nat) : Bool := s.portUp p && decide ((s.pair (p / 2)).st = .open)

/-- Whether a priority of a port is held by PAUSE or PFC (R36, R37). -/
def PortSt.heldPrio (p : PortSt) (prio : Nat) : Bool :=
  decide (p.pauseUntil ≠ 0) || decide ((p.pfcUntil[prio]?).getD 0 ≠ 0)

/-- Queue a frame for a port. -/
def State.enqueue (s : State) (p : Nat) (e : EFrame) : State :=
  s.updPort p (fun q => { q with egress := q.egress ++ [e] })

/-- A bundle that came from an INFER descriptor: its verdict is good and known (R281). -/
def Bundle.fromHost (b : Bundle) : Bool := b.frame.isNone && !b.remote

/-- Whether a record that enters the egress crossing now is provisional: its bundle's verdict is not there, or came in this nanosecond (R114). One that HOLD kept for the verdict leaves final (R115). -/
def State.isProvisional (s : State) (r : Record) : Bool :=
  let b := s.bundle r.bundle
  !r.settled && !b.fromHost && (b.verdict.isNone || decide (b.verdictAt = s.now))

/-- Whether a waiting frame is a REPLY of a profile with a record that `pick` takes. -/
def EFrame.carries (e : EFrame) (prof : Nat) (pick : Record → Bool) : Bool :=
  match e.kind with
  | .reply r => decide (r.kind = 0) && decide (r.prof = prof) && r.records.any pick
  | _ => false

/-- Whether a frame that carries a provisional record of a bundle on a profile has still to end, on any port, or may still be formed in the coalescing buffer (R121). Final records follow the bundle's SEAL (R122), which therefore does not wait for them. -/
def State.recordsLeft (s : State) (b prof : Nat) : Bool :=
  let prov (x : Record) : Bool := x.bundle == b && x.provisional
  (List.range 16).any (fun p =>
    (s.port p).egress.any (fun e => e.carries prof prov)
      || (match (s.port p).tx with | some t => t.item.carries prof prov | none => false))
    || (match s.erp.coal.get prof with
        | some c => c.frame.records.any (fun x => x.bundle == b && s.isProvisional x)
        | none => false)

/-- Whether a SEAL of a bundle on a profile waits for its port. -/
def State.sealWaits (s : State) (b prof : Nat) : Bool :=
  (List.range 16).any (fun p => (s.port p).egress.any (fun e => match e.kind with
    | .reply r => decide (r.kind = 2) && decide (r.prof = prof) && (r.verdict.map (fun v => v.bundle == b)).getD false
    | _ => false))

/-- Whether nothing of its own keeps a waiting frame back (R97, R121, R122): its priority is not held, a frame to encapsulate has its length, a verdict has no record before it, and a REPLY with a final record has no SEAL of that bundle before it. -/
def State.sendable (s : State) (p : Nat) (e : EFrame) : Bool :=
  !(s.port p).heldPrio e.prio &&
  (match e.kind with
   | .orig f t => decide (t = 0) || (s.frame f).ipLength.isSome || decide ((s.frame f).tail ≠ .none)
   | .reply r => (match r.verdict with
      | some v => !s.recordsLeft v.bundle r.prof
      | none => r.records.all (fun x => x.provisional || !s.sealWaits x.bundle r.prof))
   | _ => true)

/-- Whether a waiting frame is eligible at a boundary (R121): it is sendable, and a REPLY does not pass one of its profile that waits before it (R122). -/
def State.eligible (s : State) (p : Nat) (e : EFrame) : Bool :=
  s.sendable p e && (match e.kind with
    | .reply r => decide (r.kind ≠ 0) || ((s.port p).egress.takeWhile (fun x => x != e)).all (fun x =>
        !x.carries r.prof (fun _ => true) || s.sendable p x)
    | _ => true)

/-- The order of a waiting frame at a boundary: its rank, or just ahead of rank 3 once the guard has passed for it (R121). -/
def EFrame.order (e : EFrame) : Nat := if e.promoted then 20 + e.rank else 10 * e.rank

/-- A RECALL whose profile turns out to have nothing to recall is not sent (R120). -/
def State.dropIdleRecalls (s : State) (p : Nat) : State :=
  s.updPort p (fun q => { q with egress := q.egress.filter (fun e => match e.kind with
    | .reply r => (match r.verdict with
      | some v => !(decide (r.kind = 1) && !s.recordsLeft v.bundle r.prof
          && decide (((s.bundle v.bundle).shares.find? (fun x => x.prof == r.prof)).elim true (fun h => h.provMap == 0)))
      | none => true)
    | _ => true) })

/-- The frame taken at a boundary: the first of the lowest order among the eligible ones. -/
def State.pick (s : State) (p : Nat) : Option (EFrame × List EFrame) :=
  let l := (s.port p).egress
  match (l.filter (s.eligible p)).map EFrame.order |>.min? with
  | none => none
  | some o => takeFirst (fun e => s.eligible p e && e.order == o) l

/-- Whether a verdict is bad. -/
def Cause.bad (c : Cause) : Bool := decide (c ≠ .none)

/-- Count a segment whose record is never sent, once (R118). -/
def State.withdraw (s : State) (b i : Nat) : State :=
  if (s.bundle b).withdrawn.testBit i then s
  else (s.updBundle b (fun x => { x with withdrawn := x.withdrawn ||| 1 <<< i })).bump Reg.ERP_WITHDRAWN

/-- The segments of a bundle with a record that has begun transmission, on any profile. -/
def Bundle.sent (b : Bundle) : Nat := b.shares.foldl (fun m h => m ||| h.sentMap) 0

/-- A record is lost with the frame that carried it: if its bundle has failed and the segment's record was never sent, it is withdrawn (R118). -/
def State.recordLost (s : State) (x : Record) : State :=
  let b := s.bundle x.bundle
  if (b.verdict.map Cause.bad).getD false && !b.sent.testBit x.segIndex then s.withdraw x.bundle x.segIndex else s

/-- A waiting frame that its port can no longer carry is dropped and counted against its own kind (R103, R109). -/
def State.dropEgress (s : State) (e : EFrame) : State :=
  match e.kind with
  | .orig f _ => (s.bump Reg.RUL_FWD_DROP).origGone f
  | .mirror f => (s.bump Reg.RUL_MIRROR_DROP).updFrame f (fun x => { x with mirror := none })
  | .host d _ => s.completeDesc d 0x0B 0 0 0
  | .reply r => r.records.foldl State.recordLost (s.bump Reg.ERP_DROP_PORT)

/-- Whether an original frame can be sent with a template as the tables stand: the template is valid, and the result is not longer than 9,216 bytes (R97, R369). -/
def State.fwdFits (s : State) (f t : Nat) : Bool :=
  decide (t = 0) || (!s.tmplBad t && decide (s.encapLen t + (s.frame f).fwdLength t ≤ 9216))

/-- Whether a port can carry a waiting frame. -/
def State.canCarry (s : State) (p : Nat) (e : EFrame) : Bool :=
  match e.kind with
  | .reply _ => s.replyPort p
  | .orig f t => s.portUp p && s.fwdFits f t
  | .mirror f => s.portUp p && !((s.frame f).mirror.elim true (fun m => s.tmplBad m.tmpl))
  | .host _ _ => s.portUp p

/-- Drop what a port can no longer carry. -/
def State.dropDead (s : State) (p : Nat) : State :=
  let l := (s.port p).egress
  (l.filter (fun e => !s.canCarry p e)).foldl State.dropEgress
    (s.updPort p (fun q => { q with egress := l.filter (s.canCarry p) }))

/-- A reply frame that ended complete on the wire: its provisional records enter prov_map of their bundles (R113). -/
def State.replyEnded (s : State) (r : ReplyFrame) : State :=
  r.records.foldl (fun s x =>
    if x.provisional then
      s.updBundle x.bundle (fun b => b.updShare r.prof (fun h =>
        { h with
          firstSeq := if h.provMap = 0 then r.seq else if r.seq.toNat < h.firstSeq.toNat then r.seq else h.firstSeq
          lastSeq := if h.provMap = 0 then r.seq else if h.lastSeq.toNat < r.seq.toNat then r.seq else h.lastSeq
          earliest := some (match h.earliest with | none => r.enteredAt | some e => min e r.enteredAt)
          provMap := h.provMap ||| 1 <<< x.segIndex }))
    else s) s

/-- Whether the frame on the wire has ended: its time has passed and, for an original, its tail has arrived (R27). -/
def State.txEnded (s : State) (t : TxFrame) : Bool :=
  decide (t.start + (t.bytes.length + 4) * s.byteTime ≤ s.now10) &&
  (match t.item.kind with
   | .orig f _ => decide ((s.frame f).tail ≠ .none)
   | _ => true)

/-- A frame that has ended on the wire leaves its port and is counted (R27, R97, R119). -/
def State.settleTx (s : State) (p : Nat) : State :=
  match (s.port p).tx with
  | none => s
  | some t =>
    if s.txEnded t then
      let lenErr := match t.item.kind with
        | .orig f tm => decide (tm ≠ 0) && decide ((s.frame f).fwdLength tm ≠ (s.frame f).bytes.length)
        | _ => false
      let bad := t.badFcs || lenErr || (match t.item.kind with
        | .orig f _ => decide ((s.frame f).tail ≠ .good) || (s.frame f).corrupt
        | _ => false)
      let s := s.updPort p (fun q => { q with tx := none })
      let s := (s.emit (.frame p t.bytes (!bad))).bump (Reg.MAC_TX_FRAMES p)
      let s := (s.bumpIf bad (Reg.MAC_TX_BAD_FCS p)).bumpIf lenErr Reg.RUL_ENCAP_LEN_ERR
      match t.item.kind with
      | .orig f _ => s.origGone f
      | .mirror _ => s
      | .host d _ => s.completeDesc d 0 0 (if bit (byteAt (s.desc d).bytes 1) 2 then t.stamp else 0) 0
      | .reply r => if r.kind = 0 ∧ t.stomped = false then s.replyEnded r else s
    else s

/-- Settle every port. -/
def State.settleAll (s : State) : State := (List.range 16).foldl (fun s p => s.settleTx p) s

/-- The bytes of a mirror copy, without its FCS, and whether it is truncated (R104). -/
def State.mirrorBytes (s : State) (f : Nat) (m : MirrorAct) : List Byte × Bool :=
  let fr := s.frame f
  let whole := fr.bytes.length - 4
  let tlen := s.encapLen m.tmpl
  let n := min whole (min (if m.trunc = 0 then whole else 64 * m.trunc) (9216 - tlen - 20))
  let cutB := decide (n < whole)
  let hdr := toBe 2 0xC7A3 ++ toBe 2 (0x1000 + b2n cutB + 2 * b2n (decide (fr.tail ≠ .good)))
    ++ toBe 2 fr.bytes.length ++ toBe 2 m.session ++ toBe 8 fr.stamp.toNat
  (s.encap m.tmpl (16 + n) ++ hdr ++ fr.bytes.take n, cutB)

/-- The mirror copy of a frame joins its port's queue once the tail is there; a port that cannot carry it drops it (R103, R104). -/
def State.mirrorTail (s : State) (f : Nat) : State :=
  let fr := s.frame f
  match fr.mirror with
  | some m =>
    if fr.tail = .none ∨ fr.runt = true then s
    else if s.portUp m.port && !s.tmplBad m.tmpl then
      s.enqueue m.port ⟨.mirror f, 5, prioOf (s.wordBytes (Reg.RUL_ENCAP_DATA (32 * (m.tmpl - 1))) 32), s.now, false⟩
    else (s.bump Reg.RUL_MIRROR_DROP).updFrame f (fun x => { x with mirror := none })
  | none => s

/-- Everything a frame owes at its tail (R80, R104, R105). -/
def State.tailCopies (s : State) (f : Nat) : State := (s.mirrorTail f).tailHostCopies f

/-- Put a frame on the wire. -/
def State.putTx (s : State) (p : Nat) (e : EFrame) (bytes : List Byte) (bad : Bool) : State :=
  s.updPort p (fun q => { q with
    tx := some ⟨e, s.now10, bytes, bad, false, s.thyme⟩
    nextFree := s.now10 + (bytes.length + 24) * s.byteTime })

/-- A bundle's share on a profile; an empty one if the profile has none. -/
def Bundle.share (b : Bundle) (prof : Nat) : ProfShare :=
  (b.shares.find? (fun x => x.prof == prof)).getD { prof := prof }

/-- A verdict record as its frame begins: what ended complete on the wire on this profile, the state touched, and LATE for a RECALL past its horizon (R113, R118, R120, R124). -/
def State.verdictNow (s : State) (r : ReplyFrame) (v : VerdictRec) : VerdictRec × Bool :=
  let h := (s.bundle v.bundle).share r.prof
  let late := decide (r.kind = 1) && (match h.earliest with | some e => decide (e + r.d2.toNat < s.now) | none => false)
  let touched := decide (r.kind = 1) && (s.bundle v.bundle).touched
  ({ v with
      provMap := h.provMap
      firstSeq := if h.provMap = 0 then 0 else h.firstSeq.toNat
      lastSeq := if h.provMap = 0 then 0 else h.lastSeq.toNat
      cond := v.cond ||| 4 * b2n late ||| 8 * b2n touched }, late)

/-- The records of a reply frame have begun transmission; R126 measures from the emit instant of the first provisional one. -/
def State.recordsStart (s : State) (r : ReplyFrame) : State :=
  r.records.foldl (fun s x => s.updBundle x.bundle (fun b =>
    { b.updShare r.prof (fun h => { h with sentMap := h.sentMap ||| 1 <<< x.segIndex }) with
      firstProv := if x.provisional then some (min r.enteredAt (b.firstProv.getD r.enteredAt)) else b.firstProv })) s

/-- Start a frame on a port (R55, R97, R104, R111, R124). The egress stamp is Thyme at this instant. -/
def State.startTx (s : State) (p : Nat) (e : EFrame) : State :=
  match e.kind with
  | .orig f t =>
    let fr := s.frame f
    let n := fr.fwdLength t - 4
    let raw := fit ((fr.bytes.take 9216).take n) n
    let raw := if p = pairedPort fr.port then s.ptpCorrect fr.port fr.stamp s.thyme raw else raw
    let s := s.updFrame f (fun x => { x with orig := .sending })
    s.putTx p e (if t = 0 then raw else s.encap t n ++ raw) false
  | .mirror f =>
    match (s.frame f).mirror with
    | none => s
    | some m =>
      let (b, c) := s.mirrorBytes f m
      ((s.updFrame f (fun x => { x with mirror := none })).bumpIf c Reg.RUL_MIRROR_TRUNC).putTx p e b false
  | .host _ b => s.putTx p e (s.ptpOneStep p s.thyme b) false
  | .reply r =>
    let pr := s.erp.profiles.get r.prof
    let s := { s with erp := { s.erp with profiles := s.erp.profiles.set r.prof { pr with seq := pr.seq + 1 } } }
    let (v, late) := match r.verdict with
      | none => (none, false)
      | some v => let q := s.verdictNow r v; (some q.1, q.2)
    let r : ReplyFrame := { r with seq := pr.seq, verdict := v }
    let s := s.recordsStart r
    let s : State := if r.kind = 0 then
        let provs := (r.records.filter (·.provisional)).length
        ((s.bump Reg.ERP_REPLY_FRAMES).addCnt Reg.ERP_RECORDS_PROV provs).addCnt Reg.ERP_RECORDS_FINAL (r.records.length - provs)
      else if r.kind = 1 then (s.bump Reg.ERP_RECALL_FRAMES).bumpIf late Reg.ERP_RECALL_LATE
      else if r.kind = 2 then s.bump Reg.ERP_SEAL_FRAMES
      else s.bump Reg.ERP_STATUS_FRAMES
    s.putTx p { e with kind := .reply r } (r.bytes s.chipAddr) false

/-- Bypass, link or enable of a port is gone: what waits for it is dropped, and with the link the frame on the wire is lost; an original frame and a mirror copy are counted as dropped (R103, R109, 02 At the edges). -/
def State.cutTx (s : State) (p : Nat) : State :=
  let s := s.settleTx p
  match (s.port p).tx with
  | none => s
  | some t =>
    let s := s.updPort p (fun q => { q with tx := none })
    match t.item.kind with
    | .reply _ => s
    | _ => s.dropEgress t.item

end Sys2Proof.Machine
end

