-- ==== Sys2Proof/Machine/Mac.lean ====
section
/-! DEFINITION. Ports, the network edge and bypass: what each command of 02 does (R32 to R47, R103, R104, R121, R421, R423). -/

namespace Sys2Proof.Machine

/-- The priority a forward of a frame has (R37): its own tag, or its template's. -/
def State.fwdPrio (s : State) (fr : Frame) (t : Nat) : Nat :=
  if t = 0 then prioOf fr.bytes else prioOf (s.wordBytes (Reg.RUL_ENCAP_DATA (32 * (t - 1))) 32)

/-- Apply a disposition to an original frame (R27, R40, R97, R103). -/
def State.applyDisp (s : State) (f : Nat) (d : Disp) : State :=
  let fr := s.frame f
  match d with
  | .drop => s.origGone f
  | .fwd p t =>
    if s.portUp p && s.fwdFits f t then
      (s.enqueue p ⟨.orig f t, 4, s.fwdPrio fr t, s.now, false⟩).updFrame f (fun x => { x with orig := .queued })
    else (s.bump Reg.RUL_FWD_DROP).origGone f

/-- The pair's fallback action for an original frame, counted in MAC_FALLBACK (R39, R421). -/
def State.fallback (s : State) (f : Nat) : State :=
  let p := (s.frame f).port
  let s := s.bump (Reg.MAC_FALLBACK p)
  s.applyDisp f (if s.fld (Reg.MAC_PAIR_CTRL_fallback (p / 2)) = 0 then .fwd (pairedPort p) 0 else .drop)

/-- The lock state Thyme reports (R50). -/
def State.lockState (s : State) : Nat :=
  let src := s.fld Reg.THY_CTRL_src
  if src = 1 then s.thy.lock else if src = 2 then s.fld Reg.THY_CTRL_sw_state else 0

/-- Whether a frame's copy can start: the parse cores are enabled, a reorder slot is free and 256 bytes of the crossing are free (R57, R421). -/
def State.copyRoom (s : State) (p : Nat) : Bool :=
  s.flag Reg.PRS_CTRL_enable && decide ((s.port p).rob.length < 512) && decide (s.crossOcc p + 256 ≤ crossCap)

/-- A frame is admitted to the edge buffer: it is stamped, takes its reorder slot and starts its copy, or follows the fallback action without one (R38, R49, R56, R57, R421). -/
def State.admitFrame (s : State) (p : Nat) (bytes : List Byte) : State :=
  let (f, s) := s.freshId
  let base : Frame := { port := p, bytes := bytes, sof := s.now, stamp := s.thyme, lock := s.lockState,
                        prv := zeros 128 }
  if s.copyRoom p then
    let s := s.updFrame f (fun _ => { base with copy := .waiting })
    let s := s.updPort p (fun q => { q with rx := some f, rob := q.rob ++ [f] })
    { s with prs := { s.prs with waiting := s.prs.waiting ++ [f] } }
  else
    let full := s.flag Reg.PRS_CTRL_enable && decide (512 ≤ (s.port p).rob.length)
    let s := s.updFrame f (fun _ => base)
    let s := s.updPort p (fun q => { q with rx := some f })
    let s := (s.bump (Reg.MAC_UNPARSED p)).bumpIf full (Reg.PRS_ROB_FULL p)
    s.fallback f

/-- A frame that finds fewer than 9,216 free bytes is discarded whole (R38). -/
def State.discardFrame (s : State) (p : Nat) (bytes : List Byte) : State :=
  let (f, s) := s.freshId
  let s := s.updFrame f (fun _ => { port := p, bytes := bytes, sof := s.now, stamp := s.thyme, orig := .gone })
  (s.updPort p (fun q => { q with rx := some f })).bump (Reg.MAC_EDGE_FULL p)

/-- SOF_DELIMITER (R38, R49, R57, R421). -/
def State.sofDelimiter (s : State) (p : Nat) (bytes : List Byte) : State :=
  if s.portUp p && (s.port p).rx.isNone then
    let s := if s.edgeOcc p + 9216 ≤ edgeKibOf s.portMode * 1024 then s.admitFrame p bytes else s.discardFrame p bytes
    s.pfcCheck p
  else s

/-- SOF_DELIMITER: a frame of at least one byte begins at a port. -/
def execSofDelimiter (p : Fin 16) (bytes : List Byte) (s : State) : Out :=
  if bytes = [] then .fault .illFormed else .next (s.sofDelimiter p.val bytes)

/-- COPY_TRUNCATED (R421): a byte of the copy being written finds no room, and the copy ends as truncated; the bad verdict follows on the clocked path. A copy that just fills the crossing is whole. -/
def execCopyTruncated (p : Fin 16) (s : State) : Out :=
  .next (match (s.port p.val).rx with
    | none => s
    | some f =>
      let others := s.crossOcc p.val - s.copyBytes f
      if (s.frame f).copy = .waiting ∧ (s.frame f).cut = none ∧ crossCap < others + s.arrived f then
        s.updFrame f (fun x => { x with cut := some (crossCap - others), verdict := some (.truncated, true) })
      else s)

/-- The end of a frame at the ingress MAC: its verdict is raised and what waits for the tail leaves (R27, R35, R119). -/
def State.endFrame (s : State) (p f : Nat) (t : Tail) : State :=
  let s := s.updPort p (fun q => { q with rx := none })
  let s := s.updFrame f (fun x => { x with
    tail := t, tailAt := s.now
    bytes := if t = .oversize then x.bytes.take 9216 else x.bytes
    verdict := match x.verdict with
      | some v => some v
      | none => some (match t with
        | .good => (.none, false) | .bad => (.fcsBad, true) | _ => (.truncated, true)) })
  (s.tailCopies f).pfcCheck p

/-- An original that is on its way out ends `n` bytes early. -/
def State.cutOriginal (s : State) (f n : Nat) : State :=
  (List.range 16).foldl (fun s p => s.updPort p (fun q => { q with tx := q.tx.map (fun t => match t.item.kind with
    | .orig g _ => if g = f then { t with bytes := t.bytes.take (t.bytes.length - n) } else t
    | _ => t) })) s

/-- A frame passes 9,216 bytes (R35, 02 At the edges): a forwarded original ends there too. -/
def State.oversize (s : State) (p f : Nat) : State :=
  (((s.cutOriginal f ((s.frame f).bytes.length - 9216)).bump (Reg.MAC_RX_FRAMES p)).bump (Reg.MAC_RX_OVERSIZE p)).endFrame p f .oversize

/-- OVERSIZE_TRUNCATION (R35). -/
def execOversizeTruncation (p : Fin 16) (s : State) : Out :=
  .next (match (s.port p.val).rx with
    | none => s
    | some f => if 9216 < s.arrived f then s.oversize p.val f else s)

/-- A runt is discarded with its copy; its reorder slot is ready with no vector, and it releases what it had stamped (R58, 02 At the edges). -/
def State.runt (s : State) (p f : Nat) : State :=
  let s := s.updPort p (fun q => { q with rx := none })
  let s := (s.bump (Reg.MAC_RX_FRAMES p)).bump (Reg.MAC_RX_RUNT p)
  let s := s.updFrame f (fun x => { x with
    tail := .bad, tailAt := s.now, runt := true, prvReady := true, holdsVer := false, holdsEpoch := false,
    copy := if x.copy = .waiting then .finished else x.copy,
    mirror := none, hostCopy := none, excClass := none, record := none, infer := none })
  let s := { s with prs := { s.prs with waiting := s.prs.waiting.filter (fun g => g != f) } }
  s.origGone f

/-- FRAME_TAIL (R27): the FCS verdict of a frame; a runt is discarded, and a frame past 9,216 bytes has already ended at byte 9,217. -/
def execFrameTail (p : Fin 16) (fcsGood : Bool) (s : State) : Out :=
  .next (match (s.port p.val).rx with
    | none => s
    | some f =>
      let n := (s.frame f).bytes.length
      if n < 64 then s.runt p.val f
      else if 9216 < n then s.oversize p.val f
      else ((s.bump (Reg.MAC_RX_FRAMES p.val)).bumpIf (!fcsGood) (Reg.MAC_RX_FCS_ERR p.val)).endFrame p.val f
        (if fcsGood then .good else .bad))

/-- Whether the mirror copy of a frame waits for a port. -/
def State.mirrorWaits (s : State) (p f : Nat) : Bool := (s.port p).egress.any (fun e => e.kind == .mirror f)

/-- MIRROR_WAIT_EXPIRY (R104): a mirror copy that has waited RUL_MIRROR_WAIT ns after the tail is dropped. -/
def execMirrorWaitExpiry (f : Nat) (s : State) : Out :=
  .next (match (s.frame f).mirror with
    | none => s
    | some m =>
      if s.mirrorWaits m.port f = true ∧ s.passed (s.frame f).tailAt (s.fld Reg.RUL_MIRROR_WAIT_wait_ns) = true then
        let s := s.updPort m.port (fun q => { q with egress := q.egress.filter (fun e => e.kind != .mirror f) })
        (s.updFrame f (fun x => { x with mirror := none })).bump Reg.RUL_MIRROR_DROP
      else s)

/-- The decision deadline of a frame's pair (R39). -/
def State.deadlineOf (s : State) (f : Nat) : Nat :=
  (s.frame f).sof + s.fld (Reg.MAC_PAIR_CTRL_deadline_ns ((s.frame f).port / 2))

/-- ACTION_RECORD_RETURN (R39, R40, R89): a record back by the deadline sets the original frame's disposition; a later one is discarded for the original. -/
def execActionRecordReturn (f : Nat) (s : State) : Out :=
  .next (match (s.frame f).record with
    | none => s
    | some d =>
      if (s.frame f).recBack then s
      else
        let s := s.updFrame f (fun x => { x with recBack := true })
        let s := if (s.frame f).orig = .held ∧ s.now ≤ s.deadlineOf f then s.applyDisp f d else s
        s.releaseVer f)

/-- DECISION_DEADLINE (R39): past the deadline an original without its record follows the fallback action. -/
def execDecisionDeadline (f : Nat) (s : State) : Out :=
  .next (if (s.frame f).orig = .held ∧ (s.frame f).bytes ≠ [] ∧ s.deadlineOf f < s.now then s.fallback f else s)

/-- EGRESS_FRAME_BOUNDARY (R121): the port sends a waiting PFC frame, or else takes the first eligible frame. -/
def State.boundary (s : State) (p : Nat) : State :=
  let s := (((s.settleTx p).dropDead p).dropIdleRecalls p).pfcCheck p
  if (s.port p).tx.isSome ∨ s.now10 < (s.port p).nextFree ∨ s.portUp p = false then s
  else
    match (s.port p).pfcOut with
    | x :: rest =>
      let s := s.updPort p (fun q => { q with
        pfcOut := rest, nextFree := s.now10 + 84 * s.byteTime, xoffSent := if x then some s.now10 else q.xoffSent })
      ((s.emit (.pfc p (s.fld (Reg.MAC_PORT_CTRL_pfc_pri_mask p)) (if x then 0xFFFF else 0))).bump (Reg.MAC_TX_FRAMES p)).bump (Reg.MAC_PFC_TX p)
    | [] =>
      match s.pick p with
      | none => s
      | some (e, rest) => (s.updPort p (fun q => { q with egress := rest })).startTx p e

/-- EGRESS_FRAME_BOUNDARY. -/
def execEgressFrameBoundary (p : Fin 16) (s : State) : Out := .next (s.boundary p.val)

/-- ARB_GUARD_EXPIRY (R121): frames of rank 4 or 5 that have been eligible for ERP_ARB_GUARD ns go ahead of rank 3. -/
def execArbGuardExpiry (p : Fin 16) (s : State) : Out :=
  .next (s.updPort p.val (fun q => { q with egress := q.egress.map (fun e =>
    if 4 ≤ e.rank ∧ s.eligible p.val e = true ∧ s.passed e.since (s.fld Reg.ERP_ARB_GUARD_guard_ns) = true
    then { e with promoted := true } else e) }))

/-- A pause quantum in units of 10 ps: 512 bit times at the port's rate. -/
def State.quantum (s : State) : Nat := 64 * s.byteTime

/-- PAUSE_RX (R36): once the MAC is out of reset (R347) the frame is counted; with pause_rx_en 1 it holds every frame not yet started, and quanta of 0 end the hold. -/
def execPauseRx (p : Fin 16) (quanta : BitVec 16) (s : State) : Out :=
  .next (s.edgeWrite (fun s =>
    let s := (s.bump (Reg.MAC_RX_FRAMES p.val)).bump (Reg.MAC_PAUSE_RX p.val)
    if s.flag (Reg.MAC_PORT_CTRL_pause_rx_en p.val) then
      s.updPort p.val (fun q => { q with pauseUntil := if quanta = 0 then 0 else s.now10 + quanta.toNat * s.quantum })
    else s))

/-- PFC_RX (R37): each named priority is held for its quanta; other priorities go on. -/
def execPfcRx (p : Fin 16) (mask : BitVec 8) (quanta : List (BitVec 16)) (s : State) : Out :=
  if quanta.length ≠ 8 then .fault .illFormed
  else .next (s.edgeWrite (fun s =>
    let s := (s.bump (Reg.MAC_RX_FRAMES p.val)).bump (Reg.MAC_PAUSE_RX p.val)
    if s.flag (Reg.MAC_PORT_CTRL_pfc_rx_en p.val) then
      s.updPort p.val (fun q => { q with pfcUntil := (List.range 8).map (fun i =>
        if mask.toNat.testBit i then
          (if ((quanta[i]?).getD 0) = 0 then 0 else s.now10 + ((quanta[i]?).getD 0).toNat * s.quantum)
        else (q.pfcUntil[i]?).getD 0) })
    else s))

/-- PAUSE_HOLD_EXPIRY (R36, R37): holds whose quanta have run out end, and what they held is eligible from now. -/
def execPauseHoldExpiry (p : Fin 16) (s : State) : Out :=
  .next (s.updPort p.val (fun q =>
    let q' := { q with
      pauseUntil := if q.pauseUntil ≤ s.now10 then 0 else q.pauseUntil
      pfcUntil := q.pfcUntil.map (fun u => if u ≤ s.now10 then 0 else u) }
    { q' with egress := q'.egress.map (fun e =>
        if q.heldPrio e.prio && !q'.heldPrio e.prio then { e with since := s.now } else e) }))

/-- PFC_XOFF_REFRESH (R37): half of 0xFFFF quanta after the last XOFF was sent, with the occupancy still above XON, the XOFF is sent again. -/
def execPfcXoffRefresh (p : Fin 16) (s : State) : Out :=
  .next (
    let s := s.pfcCheck p.val
    match (s.port p.val).xoffAt, (s.port p.val).xoffSent with
    | some _, some t =>
      if s.flag (Reg.MAC_PORT_CTRL_pfc_tx_en p.val) = true ∧ t + 32768 * s.quantum ≤ s.now10 then
        s.updPort p.val (fun q => { q with xoffSent := none, pfcOut := q.pfcOut ++ [true] })
      else s
    | _, _ => s)

/-- The heartbeat of a pair is fresh while the time since the last kick does not exceed the timeout (R45). -/
def State.hbFresh (s : State) (k : Nat) : Bool :=
  match (s.pair k).lastKick with
  | none => false
  | some t => decide (s.now ≤ t + s.fld (Reg.MAC_BYP_HB_TIMEOUT_timeout_ns k))

/-- The lowest of a close cause and the causes that hold at the same instant (R46). -/
def State.lowestCause (s : State) (k c : Nat) : Nat :=
  let c := if (s.pair k).st = .opening ∧ s.exceeded (s.pair k).openAt (s.fld (Reg.MAC_BYP_OPEN_WAIT_wait_ns k)) = true
    then min c 5 else c
  if s.hbFresh k then c else min c 3

/-- The BYPASS_CLOSE event of a pair that has closed, if it is still to be sent: it carries the cause on record, which is the lowest of the nanosecond of the close (R46, R285). -/
def State.sendClose (s : State) (k : Nat) : State :=
  if (s.pair k).closedAt.isNone then s
  else
    (s.updPair k (fun q => { q with closedAt := none })).event 1
      (k <<< 8 ||| s.fld (Reg.MAC_BYP_STAT_last_close_cause k) <<< 12)

/-- Whether a close cause applies in a state (R46). -/
def BypSt.closesBy (st : BypSt) (c : Nat) : Bool :=
  match st with
  | .engaged => false
  | .opening => decide (c ≠ 4)
  | .open => decide (c ≠ 5)

/-- Close a pair: it is ENGAGED, its cause is recorded and frames bound for its ports are dropped; its event follows when the nanosecond is over. A lower cause of the same nanosecond replaces the one on record (R46, R109). -/
def State.closePair (s : State) (k c : Nat) : State :=
  let q := s.pair k
  if q.st = .engaged then
    if q.closedAt = some s.now ∧ q.closedFrom.closesBy c = true ∧ c < s.fld (Reg.MAC_BYP_STAT_last_close_cause k) then
      s.setFld (Reg.MAC_BYP_STAT_last_close_cause k) c
    else s
  else
    let c := s.lowestCause k c
    let s := (s.sendClose k).updPair k (fun q => { q with st := .engaged, closedAt := some s.now, closedFrom := q.st })
    ((s.setFld (Reg.MAC_BYP_STAT_last_close_cause k) c).dropDead (2 * k)).dropDead (2 * k + 1)

/-- PCS_LOCK_RISE (R423): the MAC is in reset until phase 1 has ended (R347). -/
def execPcsLockRise (p : Fin 16) (s : State) : Out :=
  .next (s.edgeWrite (fun s => if p.val < s.portCount then s.updPort p.val (fun q => { q with pcsLock := true }) else s))

/-- A port loses its link: link_up falls, the pair notes it, an OPEN pair with auto_close_link closes if the link was up, and what the port was to send is dropped (R44, R46, R423). -/
def State.linkLost (s : State) (p : Nat) : State :=
  let wasUp := (s.port p).linkUp
  let s := (s.cutTx p).updPort p (fun q => { q with linkUp := false })
  let s := s.updPair (p / 2) (fun q => if p % 2 = 0 then { q with down0 := true } else { q with down1 := true })
  let s := s.dropDead p
  if wasUp = true ∧ (s.pair (p / 2)).st ≠ .opening ∧ s.flag (Reg.MAC_PAIR_CTRL_auto_close_link (p / 2)) = true then
    s.closePair (p / 2) 4
  else s

/-- PCS_LOCK_FALL (R423). -/
def execPcsLockFall (p : Fin 16) (s : State) : Out :=
  .next (if (s.port p.val).pcsLock then (s.updPort p.val (fun q => { q with pcsLock := false })).linkLost p.val else s)

/-- An OPENING pair whose ports both came up since its open request becomes OPEN, at or before the end of its wait (R43, R44). -/
def State.tryOpen (s : State) (k : Nat) : State :=
  let q := s.pair k
  if q.st = .opening ∧ q.down0 = true ∧ q.down1 = true ∧ (s.port (2 * k)).linkUp = true ∧ (s.port (2 * k + 1)).linkUp = true
      ∧ s.now ≤ q.openAt + s.fld (Reg.MAC_BYP_OPEN_WAIT_wait_ns k) then
    s.updPair k (fun q => { q with st := .open })
  else s

/-- LINK_UP (R423, R44): a port in use, enabled and locked comes up, and may complete its pair's OPENING. -/
def execLinkUp (p : Fin 16) (s : State) : Out :=
  .next (if p.val < s.portCount ∧ (s.port p.val).pcsLock = true ∧ s.flag (Reg.MAC_PORT_CTRL_enable p.val) = true then
      (s.updPort p.val (fun q => { q with linkUp := true })).tryOpen (p.val / 2)
    else s)

/-- MAC_MODE is writable only while every port is disabled and every pair engaged (R34). Every port means all sixteen: the enable of a port above the mode's count is stored although the port reads zero, and counts here (DESIGN CHOICE, log 172). -/
def State.modeWritable (s : State) : Bool :=
  (List.range 16).all (fun p => !s.flag (Reg.MAC_PORT_CTRL_enable p))
    && (List.range 8).all (fun k => decide ((s.pair k).st = .engaged))

/-- MAC_MODE_WRITE (R34, R37, R418): accepted whole or refused whole; the PFC thresholds are chosen afresh. -/
def State.macModeWrite (s : State) (v : Nat) : State :=
  if s.modeWritable && decide (v % 4 ≠ 3) then (s.setFld Reg.MAC_MODE_mode (v % 4)).pfcCheckAll else s

/-- MAC_MODE_WRITE. -/
def execMacModeWrite (v : Word) (s : State) : Out := .next (s.edgeWrite (fun s => s.macModeWrite v.toNat))

/-- The first condition of R44 that fails for an open request, as its refuse_reason code; 0 when all hold. -/
def State.openRefusal (s : State) (k : Nat) : Nat :=
  if ¬ (k < s.portCount / 2 ∧ s.flag (Reg.MAC_PORT_CTRL_enable (2 * k)) = true
      ∧ s.flag (Reg.MAC_PORT_CTRL_enable (2 * k + 1)) = true) then 4
  else if ¬ ((s.port (2 * k)).linkUp = true ∧ (s.port (2 * k + 1)).linkUp = true) then 1
  else if s.coreReadyBit = false then 2
  else if s.hbFresh k = false then 3
  else 0

/-- An open request is judged (R44). -/
def State.judgeOpen (s : State) (k : Nat) : State :=
  if (s.pair k).st = .engaged then
    let r := s.openRefusal k
    if r = 0 then
      s.updPair k (fun q => { q with st := .opening, openAt := s.now, down0 := false, down1 := false })
    else (s.stick (Reg.MAC_BYP_STAT_open_refused k)).setFld (Reg.MAC_BYP_STAT_refuse_reason k) r
  else s

/-- An open request (R44): in IDLE it wakes the device, and it is judged once RUN is reached (R333, 13 At the edges). What a close does to a request that waits is open: nothing, since the pair is ENGAGED (DESIGN CHOICE, log 213). -/
def State.openRequest (s : State) (k : Nat) : State :=
  let s := s.leaveIdle
  if s.gated then (if (s.pair k).st = .engaged then s.updPair k (fun q => { q with openWait := true }) else s) else s.judgeOpen k

/-- RUN is reached: the open requests that waited for it are judged (13 At the edges). -/
def State.judgeWaiting (s : State) : State :=
  (List.range 8).foldl (fun s k =>
    if (s.pair k).openWait then (s.updPair k (fun q => { q with openWait := false })).judgeOpen k else s) s

/-- BYP_OPEN_REQUEST (R44, R333). -/
def execBypOpenRequest (k : Fin 8) (s : State) : Out := .next (s.edgeWrite (fun s => s.openRequest k.val))

/-- BYP_CLOSE (R44, R46): with or without the open bit the write is a close; it acts in OPENING and OPEN. -/
def execBypClose (k : Fin 8) (_withOpen : Bool) (s : State) : Out := .next (s.edgeWrite (fun s => s.closePair k.val 2))

/-- Whether the firmware runs on Sage: from phase 3, not in HALT, and until an error stops it (R45, R353, R369). -/
def State.fwRuns (s : State) : Bool := decide (3 ≤ s.phase) && decide (s.phase ≠ 8) && !s.rst.fwStopped

/-- A kick by the actor that hb_src selects renews the heartbeat; any other is ignored, and Sage kicks only while the firmware runs (R45). -/
def State.kick (s : State) (k : Nat) (who : Requester) : State :=
  if s.flag (Reg.MAC_PAIR_CTRL_hb_src k) = decide (who = .sage) ∧ (who = .pf ∨ s.fwRuns = true) then
    s.updPair k (fun q => { q with lastKick := some s.now })
  else s

/-- BYP_KICK (R45). -/
def execBypKick (k : Fin 8) (who : Requester) (s : State) : Out := .next (s.edgeWrite (fun s => s.kick k.val who))

/-- HB_EXPIRY (R45, R46). -/
def State.hbExpiry (s : State) (k : Nat) : State := if s.hbFresh k then s else s.closePair k 3

/-- HB_EXPIRY. -/
def execHbExpiry (k : Fin 8) (s : State) : Out := .next (s.hbExpiry k.val)

/-- A pair whose open wait is over closes with OPEN_TIMEOUT; at the very instant of its end it may still open (R44, R46). -/
def State.openTimeout (s : State) (k : Nat) : State :=
  if (s.pair k).st = .opening ∧ s.exceeded (s.pair k).openAt (s.fld (Reg.MAC_BYP_OPEN_WAIT_wait_ns k)) = true then
    s.closePair k 5
  else s

/-- OPEN_TIMEOUT. -/
def execOpenTimeout (k : Fin 8) (s : State) : Out := .next (s.openTimeout k.val)

/-- The level driven on BYP_N[k] (R41): high only for a pair in use that is not ENGAGED. -/
def State.bypPin (s : State) (k : Nat) : Bool := decide (k < s.portCount / 2) && decide ((s.pair k).st ≠ .engaged) && !s.scanDrives

/-- A write of MAC_PORT_CTRL has taken effect: a port that it disables loses its link and closes its pair, and PFC is judged afresh (R37, R44, R46). A hold in force goes on to the end of its quanta when pause_rx_en or pfc_rx_en is cleared: the manual does not say what becomes of it (DESIGN CHOICE, log 170). -/
def State.portCtrlWritten (s : State) (p : Nat) (wasEnabled : Bool) : State :=
  let s := if wasEnabled && !s.flag (Reg.MAC_PORT_CTRL_enable p) then
      (((s.cutTx p).closePair (p / 2) 6).updPort p (fun q => { q with linkUp := false, rx := none })).dropDead p
    else s
  s.pfcCheck p

end Sys2Proof.Machine
end

