-- ==== Sys2Proof/Machine/Thyme.lean ====
section
/-! DEFINITION. Thyme: steps, slews, the PPS servo, PPS_OUT, PTP delivery and the reference clock (R48 to R55, R397). -/

namespace Sys2Proof.Machine

/-- Change Thyme's servo. -/
def State.updThy (s : State) (f : ThySt → ThySt) : State := { s with thy := f s.thy }

/-- Move the lock state of the PPS servo; a change is reported by a THYME_STATE event (R50, R285). -/
def State.setLock (s : State) (l : Nat) : State :=
  if s.thy.lock = l then s else (s.updThy (fun t => { t with lock := l })).event 6 (l <<< 8)

/-- Thyme takes THY_SET at one instant; elapsed time does not move (R53). -/
def State.stepThyme (s : State) : State :=
  { (s.bumpFld Reg.THY_STEP_CNT_count) with thyme := s.reg Reg.THY_SET }

/-- The effect of a write of THY_CTRL on the servo: PPS_IN chosen starts ACQUIRING with r = 0, and PPS_OUT is low while it is not enabled (R50 to R52). A write that leaves src at PPS_IN sets it again: the manual does not say whether it does (DESIGN CHOICE, log 173). -/
def State.thyCtrlWritten (s : State) : State :=
  let s := if s.fld Reg.THY_CTRL_src = 1 then
      s.updThy (fun t => { t with lock := 1, freqTerm := 0, goodRun := 0, badRun := 0, acqSince := s.now })
    else s.updThy (fun t => { t with lock := 0, phaseTerm := 0, goodRun := 0, badRun := 0 })
  if s.flag Reg.THY_CTRL_pps_out_en = false ∧ s.thy.ppsOut = true then
    (s.updThy (fun t => { t with ppsOut := false })).emit (.ppsOut false)
  else s

/-- Report the lock state by a THYME_STATE event where it is no longer what it was (R50, R285). -/
def State.reportLock (s : State) (old : Nat) : State :=
  if s.lockState = old then s else s.event 6 (s.lockState <<< 8)

/-- A write of THY_CTRL (R50, R53): refused whole for the reserved source 3; a lock state it changes is reported; the step bit loads THY_SET. -/
def State.thyCtrlWrite (s : State) (v : Nat) : State :=
  if bits v 1 0 = 3 then s
  else
    let old := s.lockState
    let s := ((s.setFld Reg.THY_CTRL_src (bits v 1 0)).setFld Reg.THY_CTRL_pps_out_en (bits v 2 2)).setFld
      Reg.THY_CTRL_sw_state (bits v 5 4)
    let s := s.thyCtrlWritten.reportLock old
    if bit v 3 then s.stepThyme else s

/-- THYME_STEP (R53): a write of THY_CTRL with the step bit set. -/
def execThymeStep (v : Word) (s : State) : Out := .next (s.edgeWrite (fun s => s.thyCtrlWrite (v.toNat ||| 8)))

/-- A write of THY_ADJ_PHASE (R53): it starts a slew, waits behind the running one, or is refused. -/
def State.phaseAdjWrite (s : State) (v : Int) : State :=
  if v < -1000000 ∨ 1000000 < v then s
  else
    match s.thy.slew, s.thy.slewNext with
    | none, _ => s.updThy (fun t => { t with slew := some (v, s.now), slewDone := 0 })
    | some _, none => s.updThy (fun t => { t with slewNext := some v })
    | some _, some _ => s.stick Reg.THY_STAT_adj_busy

/-- PHASE_ADJ_WRITE (R53). -/
def execPhaseAdjWrite (v : Word) (s : State) : Out := .next (s.edgeWrite (fun s => s.phaseAdjWrite (sint v)))

/-- The correction of a slew still to be applied: 1 ns is applied in 10,000 ns (R53). -/
def slewLeft (v : Int) (since now : Nat) : Int :=
  let gone : Int := ((now - since) / 10000 : Nat)
  if 0 ≤ v then max 0 (v - gone) else min 0 (v + gone)

/-- The value THY_ADJ_PHASE reads: what the running adjustment has still to apply. Whether a pending one is part of it the manual does not say; here it is not (DESIGN CHOICE, log 174). -/
def State.slewRemainder (s : State) : Int :=
  match s.thy.slew with
  | none => 0
  | some (v, t) => slewLeft v t s.now

/-- PHASE_SLEW_DONE (R53): the running slew is complete and a pending one starts. -/
def execPhaseSlewDone (s : State) : Out :=
  .next (match s.thy.slew with
    | none => s
    | some (v, t) =>
      if slewLeft v t s.now = 0 ∧ t + v.natAbs * 10000 ≤ s.now then
        s.updThy (fun h => { h with slew := h.slewNext.map (fun w => (w, s.now)), slewNext := none, slewDone := 0 })
      else s)

/-- The error of an edge: its offset from the nearest whole second (R51). -/
def ppsError (t : DWord) : Int := ((t.toNat + 500000000) % 1000000000 : Nat) - 500000000

/-- The servo at a valid edge with error `e` (R51): a step or new rate terms, the runs of good and bad pulses, and the lock state. The manual leaves two points open (DESIGN CHOICE, log 175): an edge that steps Thyme has no error left, so its phase term is 0 and r stays; and the pulse that ends HOLDOVER is handled as one of ACQUIRING. -/
def State.ppsServo (s : State) (e : Int) : State :=
  let s := if s.thy.lock = 3 then (s.updThy (fun t => { t with goodRun := 0, badRun := 0 })).setLock 1 else s
  let s := if s.thy.lock = 1 ∧ (e < -1000000 ∨ 1000000 < e) then
      { (s.bumpFld Reg.THY_STEP_CNT_count).updThy (fun t => { t with phaseTerm := 0 }) with
        thyme := s.thyme - BitVec.ofInt 64 e }
    else s.updThy (fun t => { t with
      phaseTerm := clamp (-100000) 100000 (-e)
      phaseUntil := s.now + 1000000000
      freqTerm := clamp (-100000) 100000 (t.freqTerm - tdiv e 8) })
  let s := if -4 ≤ e ∧ e ≤ 4 then s.updThy (fun t => { t with goodRun := t.goodRun + 1, badRun := 0 })
    else s.updThy (fun t => { t with goodRun := 0, badRun := t.badRun + 1 })
  if s.thy.lock = 1 ∧ 8 ≤ s.thy.goodRun then s.setLock 2
  else if s.thy.lock = 2 ∧ 2 ≤ s.thy.badRun then (s.updThy (fun t => { t with goodRun := 0 })).setLock 1
  else s

/-- PPS_IN_EDGE (R51, R413): an edge too soon after the last valid one is a glitch; a valid one is stamped, and drives the servo unless TREFCLK is lost. -/
def execPpsInEdge (s : State) : Out :=
  .next (
    if s.fld Reg.THY_CTRL_src ≠ 1 then s
    else if (match s.thy.lastValid with | none => false | some t => decide (s.now < t + 500000000)) then
      s.bumpFld Reg.THY_PPS_GLITCH_count
    else
      let e := ppsError s.thyme
      let s := (s.setReg Reg.THY_PPS_IN_TS s.thyme).setFld Reg.THY_PPS_ERR_err (ofInt32 e).toNat
      let s := s.updThy (fun t => { t with lastValid := some s.now, acqSince := s.now })
      if s.thy.refLost then s else s.ppsServo e)

/-- PPS_PHASE_TERM_END (R51): the phase term ends 10^9 ns after its edge. -/
def execPpsPhaseTermEnd (s : State) : Out :=
  .next (if s.thy.phaseUntil ≤ s.now then s.updThy (fun t => { t with phaseTerm := 0 }) else s)

/-- HOLDOVER is entered: the phase term ends, r is kept (R51). -/
def State.enterHoldover (s : State) : State :=
  ((s.stick Reg.THY_STAT_holdover_entered).updThy (fun t => { t with phaseTerm := 0, goodRun := 0, badRun := 0 })).setLock 3

/-- PPS_HOLDOVER_TIMEOUT (R50): no valid pulse for 1.5 s while LOCKED or ACQUIRING. -/
def execPpsHoldoverTimeout (s : State) : Out :=
  .next (if s.fld Reg.THY_CTRL_src = 1 ∧ (s.thy.lock = 1 ∨ s.thy.lock = 2) ∧ s.passed s.thy.acqSince 1500000000 = true
    then s.enterHoldover else s)

/-- PPS_OUT_RISE (R52): at a whole second of the count, with pps_out_en 1. -/
def execPpsOutRise (s : State) : Out :=
  .next (if s.flag Reg.THY_CTRL_pps_out_en = true ∧ s.thyme.toNat % 1000000000 = 0 then
      (s.updThy (fun t => { t with ppsOut := true, ppsRoseAt := s.now })).emit (.ppsOut true)
    else s)

/-- PPS_OUT_FALL (R52): THY_PPS_OUT_W ns after the rise. -/
def execPpsOutFall (s : State) : Out :=
  .next (if s.thy.ppsOut = true ∧ s.passed s.thy.ppsRoseAt (s.fld Reg.THY_PPS_OUT_W_width) = true then
      (s.updThy (fun t => { t with ppsOut := false })).emit (.ppsOut false)
    else s)

/-- PTP_EVENT_RX (R54): on a port in ordinary-clock mode an event message reaches the host with its ingress stamp, once. The manual gives the message no completion kind and no queue pair, so it leaves as an output of its own, whether or not the tail is there (DESIGN CHOICE, log 176). -/
def execPtpEventRx (f : Nat) (s : State) : Out :=
  .next (
    let fr := s.frame f
    if s.fld (Reg.THY_PTP_CTRL_mode fr.port) = 1 ∧ (s.ptpOf fr.port fr.bytes).isSome = true ∧ fr.ptpDone = false then
      (s.updFrame f (fun x => { x with ptpDone := true })).emit (.ptpEvent fr.port fr.bytes fr.stamp)
    else s)

/-- TREFCLK_LOSS (R397): the count goes on from PCIE_REFCLK without a step, and a disciplined state becomes HOLDOVER. Thyme is in reset until the stretch has ended (R345). -/
def execTrefclkLoss (s : State) : Out :=
  .next (
    if s.thy.refLost = true ∨ s.phase = 0 then s
    else
      let s := s.updThy (fun t => { t with refLost := true })
      if s.fld Reg.THY_CTRL_src = 1 ∧ (s.thy.lock = 1 ∨ s.thy.lock = 2) then s.enterHoldover
      else s.event 6 (s.lockState <<< 8))

/-- TREFCLK_RETURN (R397): Thyme moves back without a step, and the servo resumes in ACQUIRING. -/
def execTrefclkReturn (s : State) : Out :=
  .next (
    if s.thy.refLost then
      let s := s.updThy (fun t => { t with refLost := false })
      if s.fld Reg.THY_CTRL_src = 1 then
        (s.updThy (fun t => { t with goodRun := 0, badRun := 0, acqSince := s.now })).setLock 1
      else s
    else s)

end Sys2Proof.Machine
end

