-- ==== Sys2Proof/Machine/Parse.lean ====
section
/-! DEFINITION. The parse cores: dispatch, the parse instructions, the end of a program, the segment walk and the program store (R56 to R78). Instructions are fetched by the chive itself from the bank its frame was dispatched with; a row names the chive, and acts only if that chive's next instruction is the row's. -/

namespace Sys2Proof.Machine

/-- A parse core. -/
def State.chive (s : State) (c : Nat) : Chive := s.prs.chives.get c

/-- Change a parse core. -/
def State.updChive (s : State) (c : Nat) (f : Chive → Chive) : State :=
  { s with prs := { s.prs with chives := s.prs.chives.upd c f } }

/-- The idle chive that takes the next frame: the first in round-robin order after the one last given a frame (R56). -/
def State.nextIdle (s : State) : Option Nat :=
  ((List.range 256).map (fun i => (s.prs.lastChive + 1 + i) % 256)).find? (fun c => decide ((s.chive c).phase = .idle))

/-- The waiting copy that is dispatched next: the earliest delimiter, and within one nanosecond the lowest port. A nanosecond must be over before its copies are dispatched, since another delimiter of it may still come on a lower port (R56). -/
def State.nextCopy (s : State) : Option Nat :=
  match s.prs.waiting.filter (fun f => decide ((s.frame f).sof < s.now)) with
  | [] => none
  | f :: r => some (r.foldl (fun best g =>
      if (s.frame g).sof < (s.frame best).sof ∨
         ((s.frame g).sof = (s.frame best).sof ∧ (s.frame g).port < (s.frame best).port) then g else best) f)

/-- CHIVE_DISPATCH (R56, R62, R63): a waiting copy goes to an idle chive, whose state for the frame is zero. -/
def execChiveDispatch (s : State) : Out :=
  .next (s.whenRuns (some 0) (fun s => match s.nextIdle, s.nextCopy with
    | some c, some f =>
      let s := { s with prs := { s.prs with lastChive := c, waiting := s.prs.waiting.filter (fun g => g != f) } }
      let s := s.updFrame f (fun x => { x with copy := .dispatched })
      (s.updChive c (fun _ => {
        phase := .running, frame := f, bank := s.prs.active, depth := s.fld Reg.PRS_DEPTH_depth,
        ubpPort := s.fld Reg.PRS_UBP_PORT_port, ubpEn := s.flag Reg.PRS_CTRL_ubp_en })).bump Reg.PRS_FRAMES
    | _, _ => s))

/-- The fields of a parse instruction (R64). -/
structure PInstr where
  op : Nat
  ga : Nat
  gb : Nat
  w : Nat
  n : Nat
  poff : Nat
  imm : Nat
  target : Nat
deriving DecidableEq, Repr

/-- Split an instruction word (R64). -/
def decodeParse (w : DWord) : PInstr :=
  let n := w.toNat
  ⟨bits n 63 58, bits n 57 55, bits n 54 52, bits n 51 50, bits n 49 46, bits n 45 38, bits n 27 12, bits n 11 0⟩

/-- Whether a word of the program store is invalid until it is rewritten (R369). -/
def State.badWord (s : State) (bank pc : Nat) : Bool :=
  s.rep.badTables.any (fun u => match u with
    | .program b i => b == bank && i.val == pc
    | _ => false)

/-- The instruction a chive is at: the instruction index has 12 bits, as target has. -/
def State.fetchParse (s : State) (c : Nat) : PInstr :=
  let h := s.chive c
  if s.badWord h.bank (h.pc % 4096) then decodeParse (BitVec.allOnes 64)
  else decodeParse ((if h.bank = 0 then s.prs.bank0 else s.prs.bank1).get (h.pc % 4096))

/-- A general register of a chive. -/
def Chive.reg (h : Chive) (i : Nat) : Word := (h.g[i]?).getD 0

/-- Write a general register. -/
def Chive.setReg (h : Chive) (i : Nat) (v : Word) : Chive := { h with g := h.g.set i v }

/-- Bytes moved by a width code (R64). -/
def widthOf (w : Nat) : Nat := if w = 0 then 1 else if w = 1 then 2 else 4

/-- Whether result vector bytes may be written by a program (R66). -/
def prvWritable (off n : Nat) : Bool :=
  (decide (17 ≤ off) && decide (off + n ≤ 72)) || (decide (108 ≤ off) && decide (off + n ≤ 124))

/-- Illegal instructions (R66), the UBP test of R72 included. -/
def illegalParse (h : Chive) (port : Nat) (i : PInstr) : Bool :=
  decide (0x15 < i.op)
    || (decide (i.op = 0x01) && decide (i.w = 3))
    || (decide (i.op = 0x0F) && (decide (i.w = 3) || !prvWritable i.poff (widthOf i.w)))
    || (decide (i.op = 0x10) && !prvWritable i.poff (i.n + 1))
    || (decide (i.op = 0x0E) && decide (4 < i.imm % 8))
    || (decide (i.op = 0x11) && decide (2 < i.imm))
    || (decide (i.op = 0x12) && h.ubpEn && decide (port = h.ubpPort) && decide (h.cursor < 8))

/-- The parse result vector of a chive's frame. -/
def State.prvOf (s : State) (c : Nat) : List Byte := (s.frame (s.chive c).frame).prv

/-- The exception class of a code (R70): 0 SLOW, 1 FAIL. -/
def excClassOf (code : Nat) : Nat := if 0x20 ≤ code then 1 else 0

/-- The disposition an exception class gives (R79). -/
def State.excDisp (s : State) (c port : Nat) : Disp :=
  if s.fld (Reg.PRS_EXC_CTRL_fwd c) = 0 then .fwd (pairedPort port) 0 else .drop

/-- The hardware fields of the result vector at the end of a program (R69, R71). -/
def stampPrv (fr : Frame) (h : Chive) (ver epoch code : Nat) (ubp : Bool) : List Byte :=
  let l := patch fr.prv 0 (toBe 8 fr.stamp.toNat ++ toBe 1 fr.port ++ toBe 1 fr.lock ++ toBe 1 ver
    ++ toBe 1 (b2n ubp + 2 * b2n (decide (code ≠ 0)) + 4 * (h.tun % 4)) ++ toBe 2 epoch ++ toBe 1 code
    ++ toBe 1 (16 * (h.mpls % 16) + 2 * (h.vlan % 8)))
  l

/-- The end of a program (R59, R70, R71, R79): the vector is stamped and marked ready; an exception takes its class's action record; a frame that is not a bundle leaves its chive idle. A runt has no vector. -/
def State.endProgram (s : State) (c code : Nat) (ubp : Bool) : State :=
  let h := s.chive c
  let f := h.frame
  let fr := s.frame f
  let s := s.updChive c (fun h => if ubp then { h with phase := .walking } else { h with phase := .idle })
  let s := s.updFrame f (fun x => { x with copy := if ubp then x.copy else .finished })
  if fr.runt then s
  else
    let s := s.updFrame f (fun x => { x with
      prv := stampPrv x h s.rul.current s.num.current code ubp
      prvReady := true, version := s.rul.current, epoch := s.num.current, holdsVer := true, holdsEpoch := true })
    if code = 0 then s
    else
      let k := excClassOf code
      let s := s.updFrame f (fun x => { x with record := some (s.excDisp k x.port), excClass := some k })
      let s := s.bump (if k = 0 then Reg.PRS_EXC_SLOW else Reg.PRS_EXC_FAIL)
      s.tailHostCopies f

/-- What the bytes an instruction reads allow: go on, wait, or end with TRUNC (R63). -/
inductive Ready where
  | go | stall | trunc
deriving DecidableEq, Repr

/-- Whether the first `n` bytes of a chive's copy are there (R63). -/
def State.ready (s : State) (c n : Nat) : Ready :=
  let f := (s.chive c).frame
  if n ≤ s.copyBytes f then .go else if s.copyEnded f then .trunc else .stall

/-- Go to the next instruction, having executed one. -/
def Chive.advance (h : Chive) : Chive := { h with pc := (h.pc + 1) % 4096, steps := h.steps + 1 }

/-- Go to a target if a condition holds. -/
def Chive.branch (h : Chive) (cond : Bool) (target : Nat) : Chive :=
  { h with pc := if cond then target else (h.pc + 1) % 4096, steps := h.steps + 1 }

/-- Frame bytes as a chive reads them. -/
def State.frameBytes (s : State) (c off n : Nat) : List Byte := slice (s.frame (s.chive c).frame).bytes off n

/-- Record a 16-bit offset in the result vector. -/
def State.mark16 (s : State) (c at_ v : Nat) : State :=
  s.updFrame (s.chive c).frame (fun x => { x with prv := patch x.prv at_ (toBe 2 v) })

/-- What the tail settles for a bundle (R78, 03 At the edges): LEN_MISMATCH for an intact frame, and TRUNCATED when the UDP length passes the tail. A frame whose FCS is good is not truncated in the sense of R78 where only its UDP length passes the tail, so its lengths are compared too; the manual does not settle which it means (DESIGN CHOICE, log 178). -/
def State.tailBundle (s : State) (f : Nat) (u : Ubp) : State :=
  let fr := s.frame f
  let whole := decide (fr.tail = .good) && fr.cut.isNone
  let mismatch := whole && decide (u.bundleLen ≠ 0) && decide (u.bundleLen ≠ u.udpLen - 8)
  let short := whole && decide (fr.bytes.length - 4 < u.stop)
  let s := s.updFrame f (fun x => { x with
    ubp := some { u with lenMismatch := mismatch, tailDone := true }
    verdict := if short then some (.truncated, false) else x.verdict })
  s.bumpIf mismatch Reg.PRS_LEN_MISMATCH

/-- Start the UBP walk of a valid bundle header (R69, R73, R76): its fields enter the result vector and the early reply unit learns of the bundle; a tail that has come already is judged. -/
def State.startWalk (s : State) (c udpLen : Nat) : State :=
  let h := s.chive c
  let f := h.frame
  let b := s.frameBytes c h.cursor 32
  let u : Ubp := {
    off := h.cursor, stop := h.cursor - 8 + udpLen, udpLen := udpLen, flags := be b 2 2 % 4096,
    bundleLen := be b 4 2, segCount := be b 6 1, bundleId := BitVec.ofNat 32 (be b 8 4),
    sender := BitVec.ofNat 32 (be b 12 4), capture := BitVec.ofNat 64 (be b 16 8) }
  let s := s.updFrame f (fun x => { x with
    ubp := some u, walkDone := false
    prv := patch x.prv 88 (toBe 4 u.sender.toNat ++ toBe 4 u.bundleId.toNat ++ toBe 8 u.capture.toNat
      ++ toBe 1 (be b 24 1) ++ toBe 1 u.segCount ++ toBe 2 u.flags) })
  let s := s.updBundle f (fun _ => {
    frame := some f, port := (s.frame f).port, bundleId := u.bundleId, sender := u.sender,
    ingressTs := (s.frame f).stamp, segCount := u.segCount, sealReq := bit u.flags 0,
    origin := s.chipAddr, key := f })
  let s := s.updChive c (fun h => { h with pos := h.cursor + 32, idx := 0 })
  (if h.tailSeen then s.tailBundle f u else s).endProgram c 0 true

/-- Whether a UBP instruction matches: ubp_en is 1 and the vector's l4_dst is the UBP port (R65). -/
def State.ubpMatches (s : State) (c : Nat) : Bool :=
  (s.chive c).ubpEn && decide (be (s.prvOf c) 38 2 = (s.chive c).ubpPort)

/-- Instruction UBP (R65, R72, R74). One that matches records its offset in bytes 86 and 87 whatever the tests find; where they end the program the ubp bit and the ubp fields stay unwritten, which the manual leaves open (DESIGN CHOICE, log 177). -/
def State.ubpInstr (s : State) (c : Nat) : State :=
  let h := s.chive c
  if s.ubpMatches c then
    let udpLen := beNat (s.frameBytes c (h.cursor - 4) 2)
    let s := (s.bump Reg.PRS_UBP_BUNDLES).mark16 c 86 h.cursor
    let badHdr : State := (s.bump Reg.PRS_BAD_HEADER).endProgram c 0x04 false
    if udpLen < 40 then badHdr
    else if h.depth ≤ h.cursor + 31 then s.endProgram c 0x02 false
    else
      let b := s.frameBytes c h.cursor 32
      if be b 0 2 = 0xC7A1 ∧ be b 2 2 / 4096 = 1 ∧ 1 ≤ be b 6 1 ∧ be b 6 1 ≤ 32 then s.startWalk c udpLen
      else badHdr
  else s.updChive c Chive.advance

/-- How many bytes of the frame the UBP instruction needs before it can decide (R72): the UDP length, and the bundle header where its tests reach it. -/
def State.ubpNeed (s : State) (c : Nat) : Nat :=
  let h := s.chive c
  if s.ubpMatches c then
    if s.ready c (h.cursor - 2) = .go then
      let udpLen := beNat (s.frameBytes c (h.cursor - 4) 2)
      if 40 ≤ udpLen ∧ h.cursor + 31 < h.depth then h.cursor + 32 else h.cursor - 2
    else h.cursor - 2
  else 0

/-- Instruction MARK (R65 to R67, R69). -/
def State.markInstr (s : State) (c : Nat) (i : PInstr) : State :=
  let h := s.chive c
  let l := i.imm % 8
  if l = 4 then s.endProgram c 0x01 false
  else if l = 1 then
    let s := (s.mark16 c (if h.tun = 0 then 74 else 82) h.cursor)
    let ver := beNat (s.frameBytes c h.cursor 1) / 16
    let s := s.updFrame h.frame (fun x => { x with prv := patch x.prv 16 (toBe 1 ver) })
    if ver = 4 ∧ beNat (s.frameBytes c (h.cursor + 6) 2) % 0x4000 ≠ 0 then s.endProgram c 0x01 false
    else s.updChive c Chive.advance
  else
    let s := if l = 0 then s.mark16 c (if h.tun = 0 then 72 else 80) h.cursor
      else if l = 2 then s.mark16 c (if h.tun = 0 then 76 else 84) h.cursor
      else if h.tun = 1 then s.mark16 c 78 h.cursor else s
    s.updChive c Chive.advance

/-- The bytes MARK needs: L3 reads the version nibble, and for IPv4 the flags and fragment offset (R67). -/
def State.markNeed (s : State) (c : Nat) (i : PInstr) : Nat :=
  let h := s.chive c
  if i.imm % 8 = 1 then
    if s.ready c (h.cursor + 1) = .go ∧ beNat (s.frameBytes c h.cursor 1) / 16 = 4 then h.cursor + 8 else h.cursor + 1
  else 0

/-- The offset just past the last byte an instruction names or reads, for the parse depth (R66); 0 when it names none. -/
def State.depthNeed (s : State) (c : Nat) (i : PInstr) : Nat :=
  let h := s.chive c
  if i.op = 0x01 then h.cursor + i.imm + widthOf i.w
  else if i.op = 0x10 then h.cursor + i.imm + i.n + 1
  else if i.op = 0x0E then max (h.cursor + 1) (s.markNeed c i)
  else 0

/-- The bytes an instruction waits for (R63). -/
def State.byteNeed (s : State) (c : Nat) (i : PInstr) : Nat :=
  let h := s.chive c
  if i.op = 0x01 then h.cursor + i.imm + widthOf i.w
  else if i.op = 0x10 then h.cursor + i.imm + i.n + 1
  else if i.op = 0x0E then s.markNeed c i
  else if i.op = 0x12 then s.ubpNeed c
  else 0

/-- The layer counters after CNT (R65, R66). -/
def Chive.count (h : Chive) (k : Nat) : Chive :=
  if k = 0 then { h with vlan := h.vlan + 1 }
  else if k = 1 then { h with mpls := h.mpls + 1 }
  else { h with tun := h.tun + 1 }

/-- Whether a layer counter has passed its limit (R66). -/
def Chive.overLimit (h : Chive) : Bool := decide (4 < h.vlan) || decide (8 < h.mpls) || decide (2 < h.tun)

/-- What an instruction does once it is legal, within the depth and has its bytes (R65). -/
def State.parseEffect (s : State) (c : Nat) (i : PInstr) : State :=
  let h := s.chive c
  let a := h.reg i.ga
  let put (v : Word) : State := s.updChive c (fun h => (h.setReg i.ga v).advance)
  if i.op = 0x00 then s.updChive c Chive.advance
  else if i.op = 0x01 then put (BitVec.ofNat 32 (beNat (s.frameBytes c (h.cursor + i.imm) (widthOf i.w))))
  else if i.op = 0x02 then put (a &&& BitVec.ofNat 32 i.imm)
  else if i.op = 0x03 then put (a >>> (i.imm % 32))
  else if i.op = 0x04 then put (a + BitVec.ofNat 32 i.imm)
  else if i.op = 0x05 then put (BitVec.ofNat 32 i.imm)
  else if i.op = 0x06 then put (a + h.reg i.gb)
  else if i.op = 0x07 then put (a <<< (i.imm % 32))
  else if i.op = 0x08 then s.updChive c (fun h => h.branch (decide (a.toNat = i.imm)) i.target)
  else if i.op = 0x09 then s.updChive c (fun h => h.branch (decide (a.toNat ≠ i.imm)) i.target)
  else if i.op = 0x0A then s.updChive c (fun h => h.branch (decide (a.toNat < i.imm)) i.target)
  else if i.op = 0x0B then s.updChive c (fun h => h.branch true i.target)
  else if i.op = 0x0C then
    if h.depth < h.cursor + a.toNat then s.endProgram c 0x02 false
    else s.updChive c (fun h => { h.advance with cursor := h.cursor + a.toNat })
  else if i.op = 0x0D then
    if h.depth < h.cursor + i.imm then s.endProgram c 0x02 false
    else s.updChive c (fun h => { h.advance with cursor := h.cursor + i.imm })
  else if i.op = 0x0E then s.markInstr c i
  else if i.op = 0x0F then
    (s.updFrame h.frame (fun x => { x with prv := patch x.prv i.poff (toBe (widthOf i.w) a.toNat) })).updChive c Chive.advance
  else if i.op = 0x10 then
    (s.updFrame h.frame (fun x => { x with
      prv := patch x.prv i.poff (s.frameBytes c (h.cursor + i.imm) (i.n + 1)) })).updChive c Chive.advance
  else if i.op = 0x11 then
    let s := s.updChive c (fun h => (h.count i.imm).advance)
    if (s.chive c).overLimit then s.endProgram c 0x03 false else s
  else if i.op = 0x12 then s.ubpInstr c
  else if i.op = 0x13 then s.endProgram c 0x00 false
  else if i.op = 0x14 then s.endProgram c (0x10 + i.imm % 16) false
  else if i.op = 0x15 then s.endProgram c (0x30 + i.imm % 16) false
  else s

/-- One parse instruction (R63 to R66): illegal encodings and the parse depth are judged first, then the bytes it reads must be there. A UBP instruction that matches counts also where its bytes never come (03, PRS counters). -/
def State.parseOne (s : State) (c : Nat) (i : PInstr) : State :=
  if illegalParse (s.chive c) (be (s.prvOf c) 38 2) i then s.endProgram c 0x22 false
  else if (s.chive c).depth < s.depthNeed c i then s.endProgram c 0x02 false
  else match s.ready c (s.byteNeed c i) with
    | .go => s.parseEffect c i
    | .stall => s
    | .trunc => (s.bumpIf (decide (i.op = 0x12) && s.ubpMatches c) Reg.PRS_UBP_BUNDLES).endProgram c 0x20 false

/-- A row of the parse instruction set: it acts if its chive runs a program, has executed fewer than 256 instructions and is at an instruction of the row's opcode. -/
def State.parseRow (s : State) (c op : Nat) : State :=
  s.whenRuns (some 0) (fun s =>
    if (s.chive c).phase = .running ∧ (s.chive c).steps < 256 ∧ (s.fetchParse c).op = op then s.parseOne c (s.fetchParse c)
    else s)

/-- PARSE_NOP (R65). -/
def execParseNop (c : Fin 256) (s : State) : Out := .next (s.parseRow c.val 0x00)
/-- PARSE_EXT (R63, R65, R66). -/
def execParseExt (c : Fin 256) (s : State) : Out := .next (s.parseRow c.val 0x01)
/-- PARSE_ANDI (R65). -/
def execParseAndi (c : Fin 256) (s : State) : Out := .next (s.parseRow c.val 0x02)
/-- PARSE_SHRI (R65). -/
def execParseShri (c : Fin 256) (s : State) : Out := .next (s.parseRow c.val 0x03)
/-- PARSE_ADDI (R65). -/
def execParseAddi (c : Fin 256) (s : State) : Out := .next (s.parseRow c.val 0x04)
/-- PARSE_MOVI (R65). -/
def execParseMovi (c : Fin 256) (s : State) : Out := .next (s.parseRow c.val 0x05)
/-- PARSE_ADD (R65). -/
def execParseAdd (c : Fin 256) (s : State) : Out := .next (s.parseRow c.val 0x06)
/-- PARSE_SHLI (R65). -/
def execParseShli (c : Fin 256) (s : State) : Out := .next (s.parseRow c.val 0x07)
/-- PARSE_BEQI (R65). -/
def execParseBeqi (c : Fin 256) (s : State) : Out := .next (s.parseRow c.val 0x08)
/-- PARSE_BNEI (R65). -/
def execParseBnei (c : Fin 256) (s : State) : Out := .next (s.parseRow c.val 0x09)
/-- PARSE_BLTI (R65). -/
def execParseBlti (c : Fin 256) (s : State) : Out := .next (s.parseRow c.val 0x0A)
/-- PARSE_JMP (R65). -/
def execParseJmp (c : Fin 256) (s : State) : Out := .next (s.parseRow c.val 0x0B)
/-- PARSE_ADV (R65, R66). -/
def execParseAdv (c : Fin 256) (s : State) : Out := .next (s.parseRow c.val 0x0C)
/-- PARSE_ADVI (R65, R66). -/
def execParseAdvi (c : Fin 256) (s : State) : Out := .next (s.parseRow c.val 0x0D)
/-- PARSE_MARK (R65 to R67, R69). -/
def execParseMark (c : Fin 256) (s : State) : Out := .next (s.parseRow c.val 0x0E)
/-- PARSE_SETF (R65, R66). -/
def execParseSetf (c : Fin 256) (s : State) : Out := .next (s.parseRow c.val 0x0F)
/-- PARSE_COPY (R63, R65, R66). -/
def execParseCopy (c : Fin 256) (s : State) : Out := .next (s.parseRow c.val 0x10)
/-- PARSE_CNT (R65, R66). -/
def execParseCnt (c : Fin 256) (s : State) : Out := .next (s.parseRow c.val 0x11)
/-- PARSE_UBP (R65, R72 to R74). -/
def execParseUbp (c : Fin 256) (s : State) : Out := .next (s.parseRow c.val 0x12)
/-- PARSE_DONE (R65, R71). -/
def execParseDone (c : Fin 256) (s : State) : Out := .next (s.parseRow c.val 0x13)
/-- PARSE_SLOW (R65, R70, R79). -/
def execParseSlow (c : Fin 256) (s : State) : Out := .next (s.parseRow c.val 0x14)
/-- PARSE_FAIL (R65, R70, R79). -/
def execParseFail (c : Fin 256) (s : State) : Out := .next (s.parseRow c.val 0x15)

/-- PARSE_ILLEGAL (R66): the chive's next instruction is illegal, and its program ends with ILLEGAL. -/
def execParseIllegal (c : Fin 256) (s : State) : Out :=
  .next (s.whenRuns (some 0) (fun s => if (s.chive c.val).phase = .running ∧ (s.chive c.val).steps < 256
      ∧ illegalParse (s.chive c.val) (be (s.prvOf c.val) 38 2) (s.fetchParse c.val) = true then s.endProgram c.val 0x22 false
    else s))

/-- STEPS (R66): 256 instructions have been executed without an end. -/
def execSteps (c : Fin 256) (s : State) : Out :=
  .next (s.whenRuns (some 0) (fun s => if (s.chive c.val).phase = .running ∧ 256 ≤ (s.chive c.val).steps then s.endProgram c.val 0x21 false else s))

/-- The walk of a bundle has ended; its chive is idle once the tail has reached it too (R59). -/
def State.endWalk (s : State) (c : Nat) : State :=
  let f := (s.chive c).frame
  let s := s.updFrame f (fun x => { x with walkDone := true })
  let s := if (s.chive c).tailSeen then
      (s.updChive c (fun h => { h with phase := .idle })).updFrame f (fun x => { x with copy := .finished })
    else s.updChive c (fun h => { h with phase := .waitTail })
  s.releaseVer f

/-- Segment `i` and every later one are discarded (R76). -/
def State.segOverrun (s : State) (c : Nat) : State :=
  let s := (s.bump Reg.PRS_SEG_OVERRUN).updFrame (s.chive c).frame (fun x =>
    { x with ubp := x.ubp.map (fun u => { u with firstDisc := some (s.chive c).idx }) })
  s.endWalk c

/-- A segment record is handed on (R75, R77); one of a bundle whose verdict is already bad is withdrawn (R118). -/
def State.emitSegment (s : State) (c : Nat) (u : Ubp) : State :=
  let h := s.chive c
  let f := h.frame
  let b := s.frameBytes c h.pos 16
  let bad := ((s.bundle f).verdict.map (fun c => decide (c ≠ .none))).getD false
  let s := if bad then (s.updBundle f (fun x => { x with withdrawn := x.withdrawn ||| 1 <<< h.idx })).bump Reg.ERP_WITHDRAWN else s
  let (id, s) := s.freshId
  let seg : Seg := {
    frame := some f, bundle := f, idx := h.idx, streamId := BitVec.ofNat 32 (be b 0 4),
    seq := BitVec.ofNat 16 (be b 4 2), len := be b 6 2, codec := be b 8 1, rate := be b 9 1, flags := be b 10 1,
    hint := be b 12 2, off := h.pos + 16, stamp := (s.frame f).stamp,
    capture := if bit u.flags 2 then u.capture else (s.frame f).stamp, epoch := (s.frame f).epoch, st := .lookup
    withdrawn := bad }
  let s := { s with
    sfe := { s.sfe with segs := s.sfe.segs.set id seg }
    rul := { s.rul with lookups := s.rul.lookups ++ [id] } }
  let s := s.updFrame f (fun x => { x with
    segsOpen := x.segsOpen + 1
    ubp := x.ubp.map (fun u => { u with handed := u.handed ||| 1 <<< h.idx }) })
  (s.updChive c (fun h => { h with pos := h.pos + 16 + seg.len, idx := h.idx + 1 })).bump Reg.PRS_UBP_SEGS

/-- The end of the walk's loop: bytes left in the UDP payload are counted (R76). -/
def State.walkTail (s : State) (c : Nat) (u : Ubp) : State :=
  if u.segCount ≤ (s.chive c).idx then (s.bumpIf (decide ((s.chive c).pos < u.stop)) Reg.PRS_UBP_TRAIL).endWalk c else s

/-- SEGMENT_HEADER_WALK (R76, R77): one segment header. -/
def execSegmentHeaderWalk (c : Fin 256) (s : State) : Out :=
  .next (s.whenRuns (some 0) (fun s =>
    let h := s.chive c.val
    match (s.frame h.frame).ubp with
    | none => s
    | some u =>
      if h.phase ≠ .walking then s
      else if u.stop < h.pos + 16 then s.segOverrun c.val
      else match s.ready c.val (h.pos + 16) with
        | .stall => s
        | .trunc => s.endWalk c.val
        | .go =>
          if u.stop < h.pos + 16 + beNat (s.frameBytes c.val (h.pos + 6) 2) then s.segOverrun c.val
          else (s.emitSegment c.val u).walkTail c.val u))

/-- TAIL_AT_CHIVE (R59, R63, R78): a program that waits for bytes past the tail ends with TRUNC; a bundle's length is compared, and its chive is idle once its walk has ended. -/
def execTailAtChive (c : Fin 256) (s : State) : Out :=
  .next (s.whenRuns (some 0) (fun s =>
    let h := s.chive c.val
    let f := h.frame
    if h.phase = .idle ∨ s.copyEnded f = false ∨ h.tailSeen = true then s
    else
      let s := s.updChive c.val (fun h => { h with tailSeen := true })
      match (s.frame f).ubp with
      | some u =>
        let s := s.tailBundle f u
        if h.phase = .waitTail then
          (s.updChive c.val (fun h => { h with phase := .idle })).updFrame f (fun x => { x with copy := .finished })
        else s
      | none =>
        if h.phase = .running ∧ h.steps < 256 ∧ s.ready c.val (s.byteNeed c.val (s.fetchParse c.val)) = .trunc then
          s.parseOne c.val (s.fetchParse c.val)
        else s))

/-- Whether a chive still runs the bank that is not active (R61). -/
def State.bankInUse (s : State) : Bool :=
  s.prs.chives.keys.any (fun c => decide ((s.chive c).phase ≠ .idle) && decide ((s.chive c).bank ≠ s.prs.active))

/-- PROG_COMMIT (R61): the banks change places and the replaced one drains; refused while a bank drains. -/
def State.progCommit (s : State) : State :=
  if s.prs.draining then s.stick Reg.PRS_PROG_STAT_busy
  else { s with prs := { s.prs with active := 1 - s.prs.active, draining := true, loaded := true } }

/-- PROG_COMMIT. -/
def execProgCommit (s : State) : Out := .next (s.coreWrite (some 0) (fun s => s.progCommit))

/-- PROG_DRAIN_DONE (R61): no chive runs the replaced bank any more. -/
def execProgDrainDone (s : State) : Out :=
  .next (s.whenRuns (some 0) (fun s => if s.bankInUse then s else { s with prs := { s.prs with draining := false } }))

/-- A write to the program window (R61): it goes to the inactive bank, and is refused while that bank drains. -/
def State.progWinWrite (s : State) (i : Nat) (v : DWord) : State :=
  if s.prs.draining then s.stick Reg.PRS_PROG_STAT_busy
  else
    let bank := if s.prs.active = 0 then 1 else 0
    let s := { s with rep := { s.rep with badTables := s.rep.badTables.filter (fun u => match u with
      | .program b k => !(b == bank && k.val == i)
      | _ => true) } }
    if bank = 1 then { s with prs := { s.prs with bank1 := s.prs.bank1.set i v } }
    else { s with prs := { s.prs with bank0 := s.prs.bank0.set i v } }

end Sys2Proof.Machine
end

