-- ==== Sys2Proof/Machine/Rules.lean ====
section
/-! DEFINITION. The rule tables: classification, the stream table, versions, meters and counters (R82 to R107). -/

namespace Sys2Proof.Machine

/-- Change the rule tables. -/
def State.updRul (s : State) (f : RulSt → RulSt) : State := { s with rul := f s.rul }

/-- A segment record. -/
def State.seg (s : State) (i : Nat) : Seg := s.sfe.segs.get i

/-- Change a segment record. -/
def State.updSeg (s : State) (i : Nat) (f : Seg → Seg) : State :=
  { s with sfe := { s.sfe with segs := s.sfe.segs.upd i f } }

/-! #### Versions -/

/-- The oldest version a frame may carry (R87). -/
def RulSt.oldest (r : RulSt) : Nat := r.draining.getD r.current

/-- The age of a version (R87), modulo 16. -/
def verAge (oldest v : Nat) : Nat := (v + 16 - oldest % 16) % 16

/-- Whether an entry is visible to a version (R87). -/
def TEntry.visible (e : TEntry) (oldest v : Nat) : Bool :=
  e.used && !(e.addLive && decide (verAge oldest v < verAge oldest e.addVer))
    && !(e.del && decide (verAge oldest e.delVer ≤ verAge oldest v))

/-- A commit executes in one step (R88); a descriptor that asked for it completes. -/
def State.executeCommit (s : State) (src : CommitSrc) : State :=
  let s := s.updRul (fun r => { r with
    draining := some r.current, current := r.staged, staged := (r.staged + 1) % 16, commitSeq := r.commitSeq + 1
    executing := none })
  match src with
  | .reg => s
  | .desc d => s.completeDesc d 0 0 0 0

/-- A commit request (R88): accepted, pending or refused with BUSY. -/
def State.requestCommit (s : State) (src : CommitSrc) : State :=
  if s.rul.pending.isSome then
    match src with
    | .reg => s.stick Reg.RUL_VER_STAT_busy
    | .desc d => (s.stick Reg.RUL_VER_STAT_busy).completeDesc d 0x01 0 0 0
  else if s.rul.executing.isSome ∨ s.rul.draining.isSome then s.updRul (fun r => { r with pending := some src })
  else s.updRul (fun r => { r with executing := some src })

/-- RULE_COMMIT: a write of 1 to RUL_VER_CTRL.commit. -/
def execRuleCommit (s : State) : Out := .next (s.coreWrite (some 1) (fun s => s.requestCommit .reg))

/-- COMMIT_EXECUTE (R88). -/
def execCommitExecute (s : State) : Out :=
  .next (s.whenRuns (some 1) (fun s => match s.rul.executing, s.rul.draining with
    | some src, none => s.executeCommit src
    | _, _ => s))

/-- Whether any frame holds a version (R89). -/
def State.verHeld (s : State) (v : Nat) : Bool :=
  s.mac.frames.keys.any (fun f => (s.frame f).holdsVer && decide ((s.frame f).version = v))

/-- An entry when a version retires, with the new oldest version (R89). -/
def TEntry.retire (e : TEntry) (o : Nat) : TEntry :=
  if e.used && e.del && decide (e.delVer = o) then {}
  else if e.used && e.addLive && decide (e.addVer = o) then { e with addLive := false }
  else e

/-- VERSION_RETIRE (R88, R89): a draining version that no frame holds retires, and a pending commit executes at that instant. -/
def execVersionRetire (s : State) : Out :=
  .next (s.whenRuns (some 1) (fun s => match s.rul.draining with
    | none => s
    | some d =>
      if s.verHeld d then s
      else
        let s := s.updRul (fun r => { r with draining := none, tcam := r.tcam.mapCells (fun _ e => e.retire r.current) })
        match s.rul.pending with
        | none => s
        | some src => (s.updRul (fun r => { r with pending := none })).executeCommit src))

/-! #### The ternary table -/

/-- The ops of an action slot (R92). -/
def slotOp (w : DWord) : Nat := bits w.toNat 63 60

/-- The parameter bits R92 lists for an op. -/
def slotParams (op : Nat) : Nat :=
  if op = 2 then 0x3F1F else if op = 3 then 0x3FFFF else if op = 4 then 0x3FFFFF else if op = 5 then 0x3FFFFFFFF
  else if op = 6 then 0x3FFFFF else if op = 7 then 0xFFFFF else if op = 8 then 0x1FF else 0

/-- Whether a slot uses a reserved op or encoding (R92, R93). -/
def slotBad (w : DWord) : Bool :=
  let n := w.toNat
  let op := slotOp w
  decide (8 < op)
    || decide (bits n 59 0 &&& (2 ^ 60 - 1 - slotParams op) ≠ 0)
    || (decide (op = 3) && (decide (bits n 17 16 = 3) || decide (4 < bits n 15 12)))
    || (decide (op = 4) && (decide (bits n 21 14 = 0) || decide (144 < bits n 21 14)))
    || (decide (op = 5) && decide (bits n 9 4 = 0))
    || (decide (op = 6) && (decide (bits n 21 20 = 3) || (decide (bits n 21 20 = 2) && decide (n % 2 = 1))))
    || (decide (op = 7) && (decide (bits n 17 16 = 3) || decide (bits n 19 18 = 3)))

/-- How many slots of an entry hold an op. -/
def countOp (slots : List DWord) (op : Nat) : Nat := (slots.filter (fun w => slotOp w == op)).length

/-- BAD_ACTION (R93). -/
def badAction (slots : List DWord) : Bool :=
  slots.any slotBad
    || decide (1 < countOp slots 1 + countOp slots 2 + countOp slots 3)
    || [4, 5, 7, 8].any (fun op => decide (1 < countOp slots op))

/-- The entry that RUL_TCAM_WDATA holds (R419). -/
def State.tcamWdata (s : State) : TEntry :=
  { used := true
    key := BitVec.ofNat 640 (beNat (s.wordBytes (Reg.RUL_TCAM_KEY 0) 20))
    mask := BitVec.ofNat 640 (beNat (s.wordBytes (Reg.RUL_TCAM_MASK 0) 20))
    profile := s.fld Reg.RUL_TCAM_CTL_profile
    slots := (List.range 4).map (fun i =>
      BitVec.ofNat 64 (s.fld (Reg.RUL_TCAM_SLOT_word (2 * i)) + s.fld (Reg.RUL_TCAM_SLOT_word (2 * i + 1)) <<< 32)) }

/-- Store an array of words into registers, the first byte in [31:24]. -/
def State.putWords (s : State) (base : Nat) : Nat → List Byte → State
  | 0, _ => s
  | n + 1, l => (s.setReg base (BitVec.ofNat 64 (beNat (fit l 4)))).putWords (base + 4) n (l.drop 4)

/-- Load an entry and its version state into RUL_TCAM_WDATA (R90, R419). -/
def State.loadWdata (s : State) (e : TEntry) : State :=
  let s := s.putWords (Reg.RUL_TCAM_KEY 0) 20 (toBe 80 e.key.toNat)
  let s := s.putWords (Reg.RUL_TCAM_MASK 0) 20 (toBe 80 e.mask.toNat)
  let s := (List.range 4).foldl (fun s i =>
    (s.setFld (Reg.RUL_TCAM_SLOT_word (2 * i)) (((e.slots[i]?).getD 0).toNat % 2 ^ 32)).setFld
      (Reg.RUL_TCAM_SLOT_word (2 * i + 1)) (((e.slots[i]?).getD 0).toNat >>> 32)) s
  s.setReg Reg.RUL_TCAM_CTL (BitVec.ofNat 64
    (e.profile + e.addVer <<< 12 + e.delVer <<< 16 + b2n e.addLive <<< 20 + b2n e.del <<< 21 + b2n e.used <<< 22))

/-- A command write under R422: refused with BUSY while one runs, otherwise taken with its data. The fields are the done bit, the status field and the BUSY code. -/
def State.startCmd (s : State) (done status : Fld) (busy : Nat) (k : State → State) : State :=
  if s.flag done then k (s.setFld done 0) else s.setFld status busy

/-- A command finishes (R422): its result and done at one instant. -/
def State.finishCmd (s : State) (done status : Fld) (code : Nat) : State := (s.setFld status code).setFld done 1

/-- A write of RUL_TCAM_CMD (R90): index, op and, for ADD, the data are taken at the write. Op 3 is reserved. -/
def State.tcamWrite (s : State) (index op : Nat) : State :=
  if op = 3 then s
  else s.startCmd Reg.RUL_TCAM_STAT_done Reg.RUL_TCAM_STAT_status 5
    (fun s => s.updRul (fun r => { r with tcamCmd := some ⟨index, op, s.tcamWdata⟩ }))

/-- TCAM_ADD (R90). -/
def execTcamAdd (i : Fin 16384) (s : State) : Out := .next (s.coreWrite (some 1) (fun s => s.tcamWrite i.val 0))
/-- TCAM_DELETE (R90). -/
def execTcamDelete (i : Fin 16384) (s : State) : Out := .next (s.coreWrite (some 1) (fun s => s.tcamWrite i.val 1))
/-- TCAM_READ (R90). -/
def execTcamRead (i : Fin 16384) (s : State) : Out := .next (s.coreWrite (some 1) (fun s => s.tcamWrite i.val 2))

/-- The status a ternary command completes with (R90, R93): FROZEN, OCCUPIED, BAD_ACTION or NOT_VISIBLE, or OK. -/
def State.tcamStatus (s : State) (c : TcamCmd) : Nat :=
  let e := s.rul.tcam.get c.index
  if c.op = 2 then 0
  else if s.rul.pending.isSome then 4
  else if c.op = 0 then (if e.used then 1 else if badAction c.entry.slots then 3 else 0)
  else if e.visible s.rul.oldest s.rul.staged then 0 else 2

/-- The effect of a ternary command that completes OK (R90). -/
def State.tcamEffect (s : State) (c : TcamCmd) : State :=
  let e := s.rul.tcam.get c.index
  if c.op = 2 then s.hwUpdate (fun s => s.loadWdata e)
  else if c.op = 0 then
    let n : TEntry := { c.entry with used := true, addVer := s.rul.staged, addLive := true, delVer := 0, del := false }
    s.updRul (fun r => { r with tcam := r.tcam.set c.index n })
  else if e.addVer = s.rul.staged ∧ e.addLive = true then s.updRul (fun r => { r with tcam := r.tcam.set c.index {} })
  else s.updRul (fun r => { r with tcam := r.tcam.set c.index { e with del := true, delVer := r.staged } })

/-- TCAM_CMD_COMPLETE (R90, R93, R422). -/
def execTcamCmdComplete (s : State) : Out :=
  .next (s.whenRuns (some 1) (fun s => match s.rul.tcamCmd with
    | none => s
    | some c =>
      let st := s.tcamStatus c
      let s := s.updRul (fun r => { r with tcamCmd := none })
      let s := if st = 0 then s.tcamEffect c else s
      s.finishCmd Reg.RUL_TCAM_STAT_done Reg.RUL_TCAM_STAT_status st))

/-! #### The stream table -/

/-- A word of a stream entry. -/
def StreamEntry.word (e : StreamEntry) (i : Nat) : Nat := (wordAt e.w i).toNat
/-- The 40-bit key of a stream entry: namespace, then stream_id (R84). -/
def StreamEntry.key (e : StreamEntry) : Nat := bits (e.word 1) 7 0 <<< 32 + e.word 0
/-- hint_ok (R85). -/
def StreamEntry.hintOk (e : StreamEntry) : Bool := bit (e.word 1) 9
/-- stale_class (R85). -/
def StreamEntry.staleClass (e : StreamEntry) : Nat := bits (e.word 1) 15 10
/-- model_handle (R85). -/
def StreamEntry.model (e : StreamEntry) : Nat := bits (e.word 1) 31 16
/-- state_slot (R85). -/
def StreamEntry.slot (e : StreamEntry) : Nat := bits (e.word 2) 19 0
/-- norm_profile (R85). -/
def StreamEntry.norm (e : StreamEntry) : Nat := bits (e.word 2) 31 20
/-- reply_profile (R85). -/
def StreamEntry.reply (e : StreamEntry) : Nat := bits (e.word 3) 11 0
/-- domain (R85). -/
def StreamEntry.domain (e : StreamEntry) : Nat := bits (e.word 3) 19 12
/-- sched_class (R85). -/
def StreamEntry.cls (e : StreamEntry) : Nat := bits (e.word 3) 22 20
/-- cnt_en (R85). -/
def StreamEntry.cntEn (e : StreamEntry) : Bool := bit (e.word 3) 23
/-- cnt_index (R85). -/
def StreamEntry.cntIndex (e : StreamEntry) : Nat := bits (e.word 4) 19 0
/-- cookie (R85). -/
def StreamEntry.cookie (e : StreamEntry) : DWord := BitVec.ofNat 64 (e.word 6 + e.word 7 <<< 32)

/-- The hash of a key (R84): CRC-32C over ns, then stream_id most significant byte first. -/
def emHash (key : Nat) : Nat := crc32c (toBe 5 key)
/-- First bucket of a key. -/
def emB0 (key : Nat) : Nat := emHash key % 2 ^ 18
/-- Second bucket of a key. -/
def emB1 (key : Nat) : Nat := (emHash key >>> 14) % 2 ^ 18

/-- The entry of a key. -/
def State.emFind (s : State) (key : Nat) : Option StreamEntry :=
  match (s.rul.em.get (emB0 key)).find? (fun e => e.key == key) with
  | some e => some e
  | none => (s.rul.em.get (emB1 key)).find? (fun e => e.key == key)

/-- BAD_ENTRY (R85): handle 0, or an odd counter index with cnt_en. -/
def StreamEntry.bad (e : StreamEntry) : Bool :=
  decide (e.model = 0) || (e.cntEn && decide (e.cntIndex % 2 = 1))

/-- A write of RUL_EM_CMD (R91); op 3 is reserved. -/
def State.emWrite (s : State) (op : Nat) : State :=
  if op = 3 then s
  else s.startCmd Reg.RUL_EM_STAT_done Reg.RUL_EM_STAT_status 5
    (fun s => s.updRul (fun r => { r with emCmd := some ⟨op,
      ⟨(List.range 8).map (fun i => BitVec.ofNat 32 (s.fld (Reg.RUL_EM_DATA_word i)))⟩⟩ }))

/-- EM_INSERT (R91). -/
def execEmInsert (s : State) : Out := .next (s.coreWrite (some 1) (fun s => s.emWrite 0))
/-- EM_MODIFY (R91). -/
def execEmModify (s : State) : Out := .next (s.coreWrite (some 1) (fun s => s.emWrite 1))
/-- EM_DELETE (R91). -/
def execEmDelete (s : State) : Out := .next (s.coreWrite (some 1) (fun s => s.emWrite 2))

/-- The status a stream-table command completes with, the first refusal in the order of R91. -/
def State.emStatus (s : State) (c : EmCmd) : Nat :=
  let k := c.entry.key
  let found := (s.emFind k).isSome
  if c.op ≠ 2 ∧ c.entry.bad = true then 4
  else if c.op = 0 then
    if found then 1
    else if 8 ≤ (s.rul.em.get (emB0 k)).length ∧ 8 ≤ (s.rul.em.get (emB1 k)).length then 3 else 0
  else if found then 0 else 2

/-- Replace or remove the entry of a key in both its buckets. -/
def State.emReplace (s : State) (k : Nat) (e : Option StreamEntry) : State :=
  let f (l : List StreamEntry) : List StreamEntry := l.filterMap (fun x => if x.key = k then e else some x)
  s.updRul (fun r => { r with
    em := (r.em.upd (emB0 k) f).upd (emB1 k) f
    emCache := r.emCache.filter (fun c => c != k) })

/-- The effect of a stream-table command that completes OK (R91): INSERT goes to the less full bucket. -/
def State.emEffect (s : State) (c : EmCmd) : State :=
  let k := c.entry.key
  if c.op = 0 then
    let b := if (s.rul.em.get (emB1 k)).length < (s.rul.em.get (emB0 k)).length then emB1 k else emB0 k
    s.updRul (fun r => { r with em := r.em.upd b (fun l => l ++ [c.entry]) })
  else if c.op = 1 then s.emReplace k (some c.entry)
  else s.emReplace k none

/-- EM_CMD_COMPLETE (R91, R422). -/
def execEmCmdComplete (s : State) : Out :=
  .next (s.whenRuns (some 1) (fun s => match s.rul.emCmd with
    | none => s
    | some c =>
      let st := s.emStatus c
      let s := s.updRul (fun r => { r with emCmd := none })
      let s := if st = 0 then s.emEffect c else s
      s.finishCmd Reg.RUL_EM_STAT_done Reg.RUL_EM_STAT_status st))

/-! #### Meters and counters -/

/-- Refill of a bucket held in 10^-9 bytes (R99). -/
def refill (t rate cap dt : Nat) : Nat :=
  if rate = 0 then t else if (cap - t) / rate + 1 ≤ dt then cap else t + rate * dt

/-- The two-rate three-colour marker of R99: 0 green, 1 yellow, 2 red. -/
def Meter.colour (m : Meter) (ts len pre : Nat) : Nat × Meter :=
  let dt := if m.last < ts then ts - m.last else 0
  let tp := refill m.tp m.pir (m.pbs * 1000000000) dt
  let tc := refill m.tc m.cir (m.cbs * 1000000000) dt
  let m := { m with last := max m.last ts, tp := tp, tc := tc }
  let b := len * 1000000000
  if (m.aware && decide (pre = 2)) || decide (tp < b) then (2, m)
  else if (m.aware && decide (pre = 1)) || decide (tc < b) then (1, { m with tp := tp - b })
  else (0, { m with tp := tp - b, tc := tc - b })

/-- The pre-colour of a frame in colour-aware mode (R98): by DSCP; green without an IP header. -/
def State.preColour (s : State) (prv : List Byte) : Nat :=
  if byteAt prv 16 = 0 then 0
  else
    let d := byteAt prv 18 % 64
    bits (s.fld (Reg.RUL_DSCP_COLOR_colour (d / 16))) (2 * (d % 16) + 1) (2 * (d % 16))

/-- Colour a frame by a meter at its ingress stamp (R98); a disabled meter colours green. -/
def State.meterFrame (s : State) (i : Nat) (fr : Frame) : Nat × State :=
  let m := s.rul.meters.get i
  if m.enable then
    let (c, m) := m.colour fr.stamp.toNat (min fr.bytes.length 9216) (s.preColour fr.prv)
    let s := s.updRul (fun r => { r with meters := r.meters.set i m })
    (c, (s.bumpIf (c == 1) Reg.RUL_MTR_YELLOW).bumpIf (c == 2) Reg.RUL_MTR_RED)
  else (0, s)

/-- Add to a counter's active delta bank (R100). -/
def State.countAdd (s : State) (i n : Nat) : State :=
  s.updRul (fun r => if r.activeBank = 0 then { r with bank0 := r.bank0.upd i (· + n) }
    else { r with bank1 := r.bank1.upd i (· + n) })

/-- Whether a meter write is refused: PIR below CIR, or an empty bucket size. -/
def State.meterRefused (s : State) : Bool :=
  decide (s.fld Reg.RUL_MTR_PIR_rate < s.fld Reg.RUL_MTR_CIR_rate) || decide (s.fld Reg.RUL_MTR_CBS_size = 0)
    || decide (s.fld Reg.RUL_MTR_PBS_size = 0)

/-- METER_WRITE (R98): the configuration is loaded, both buckets are full and last is the Thyme value; PIR below CIR or an empty bucket size is refused. -/
def State.meterWrite (s : State) : State :=
  let cir := s.fld Reg.RUL_MTR_CIR_rate
  let pir := s.fld Reg.RUL_MTR_PIR_rate
  let cbs := s.fld Reg.RUL_MTR_CBS_size
  let pbs := s.fld Reg.RUL_MTR_PBS_size
  if s.meterRefused then s.stick Reg.RUL_MTR_STAT_refused
  else
    let m : Meter := {
      cir := cir, pir := pir, cbs := cbs, pbs := pbs, aware := s.flag Reg.RUL_MTR_MODE_aware,
      enable := s.flag Reg.RUL_MTR_MODE_enable, tc := cbs * 1000000000, tp := pbs * 1000000000, last := s.thyme.toNat }
    s.updRul (fun r => { r with meters := r.meters.set (s.fld Reg.RUL_MTR_SEL_meter) m })

/-- METER_WRITE. -/
def execMeterWrite (s : State) : Out := .next (s.coreWrite (some 1) (fun s => s.meterWrite))

/-- METER_READ (R98): the configuration is read back. -/
def State.meterRead (s : State) : State :=
  let m := s.rul.meters.get (s.fld Reg.RUL_MTR_SEL_meter)
  let s := (s.setFld Reg.RUL_MTR_CIR_rate m.cir).setFld Reg.RUL_MTR_PIR_rate m.pir
  let s := (s.setFld Reg.RUL_MTR_CBS_size m.cbs).setFld Reg.RUL_MTR_PBS_size m.pbs
  (s.setFld Reg.RUL_MTR_MODE_aware (b2n m.aware)).setFld Reg.RUL_MTR_MODE_enable (b2n m.enable)

/-- METER_READ. -/
def execMeterRead (s : State) : Out := .next (s.coreWrite (some 1) (fun s => s.meterRead))

/-- Swap the active delta bank at a sweep instant (R100). -/
def State.swapBanks (s : State) : State :=
  s.updRul (fun r => { r with activeBank := 1 - r.activeBank, sweepTs := some s.thyme, swapWaits := false })

/-- COUNTER_SWEEP (R100, R101): at each period the banks are swapped, or the swap waits behind a late sweep. -/
def execCounterSweep (s : State) : Out :=
  .next (s.whenRuns (some 1) (fun s => if s.passed s.rul.lastSweep (s.fld Reg.RUL_CNT_PERIOD_period_ns) then
      let s := s.updRul (fun r => { r with lastSweep := r.lastSweep + s.fld Reg.RUL_CNT_PERIOD_period_ns })
      match s.rul.sweepTs with
      | none => s.swapBanks
      | some _ => (s.updRul (fun r => { r with swapWaits := true })).bump Reg.RUL_CNT_SWEEP_LATE
    else s))

/-- Add a frozen bank into the images (R100). -/
def addBank (images : Tab DWord) (bank : Tab Nat) : Tab DWord :=
  bank.cells.foldl (fun t c => t.upd c.1 (· + BitVec.ofNat 64 c.2)) images

/-- SWEEP_COMPLETE (R100, R101): the frozen bank enters the images, the generation is published, and a swap that waited happens now. -/
def execSweepComplete (s : State) : Out :=
  .next (s.whenRuns (some 1) (fun s => match s.rul.sweepTs with
    | none => s
    | some t =>
      let s := s.updRul (fun r =>
        if r.activeBank = 0 then { r with images := addBank r.images r.bank1, bank1 := r.bank1.clear, sweepTs := none }
        else { r with images := addBank r.images r.bank0, bank0 := r.bank0.clear, sweepTs := none })
      let s := (s.bumpFld Reg.RUL_CNT_GEN_gen).setReg Reg.RUL_CNT_GEN_TS t
      if s.rul.swapWaits then s.swapBanks else s))

/-- COUNTER_CLEAR (R102): image and both banks are zero at one instant. -/
def State.counterClear (s : State) : State :=
  let i := s.fld Reg.RUL_CNT_SEL_index
  s.updRul (fun r => { r with images := r.images.set i 0, bank0 := r.bank0.set i 0, bank1 := r.bank1.set i 0 })

/-- COUNTER_CLEAR. -/
def execCounterClear (s : State) : Out := .next (s.coreWrite (some 1) (fun s => s.counterClear))

/-- The value RUL_CNT_VALUE reads (R102). -/
def State.counterValue (s : State) (i : Nat) : DWord :=
  s.rul.images.get i + BitVec.ofNat 64 (s.rul.bank0.get i) + BitVec.ofNat 64 (s.rul.bank1.get i)

/-! #### Classification -/

/-- The 640-bit key of a vector under a key map (R83). -/
def State.buildKey (s : State) (m : Nat) (prv : List Byte) : BitVec 640 :=
  BitVec.ofNat 640 (beNat ((s.wordBytes (Reg.RUL_KEY_MAP m 0) 20).map (fun sel =>
    if sel.toNat < 128 then BitVec.ofNat 8 (byteAt prv sel.toNat) else 0)))

/-- Whether an entry matches a key built by a profile (R82). -/
def TEntry.isMatch (e : TEntry) (profile : Nat) (key : BitVec 640) : Bool :=
  decide (e.profile = profile) && decide ((key &&& e.mask) = (e.key &&& e.mask))

/-- The entry chosen for a key in a version: the lowest index that matches and is visible (R82). -/
def State.tcamLookup (s : State) (profile : Nat) (key : BitVec 640) (ver : Nat) : Option TEntry :=
  (s.rul.tcam.cells.find? (fun c => c.2.isMatch profile key && c.2.visible s.rul.oldest ver)).map (·.2)

/-- The slot of an op in an entry, if it has one. -/
def TEntry.slotOf (e : TEntry) (op : Nat) : Option Nat := (e.slots.find? (fun w => slotOp w == op)).map (·.toNat)

/-- STEER (R96): the port and template of a steer table entry; an invalid entry drops and counts. -/
def State.steer (s : State) (w : Nat) (prv : List Byte) : Disp × State :=
  let sel := if bits w 17 16 = 0 then byteAt prv 104
    else if bits w 17 16 = 1 then crc32c (slice prv 40 32 ++ slice prv 17 1 ++ slice prv 36 4)
    else be prv 108 4
  let i := (bits w 11 0 + sel % 2 ^ bits w 15 12) % 4096
  if s.flag (Reg.RUL_STEER_valid i) && !s.badSteer i then (.fwd (s.fld (Reg.RUL_STEER_port i)) (s.fld (Reg.RUL_STEER_template i)), s)
  else (.drop, s.bump Reg.RUL_FWD_DROP)

/-- The disposition an entry gives (R94 step 2), before any drop by a meter. -/
def State.entryDisp (s : State) (e : TEntry) (fr : Frame) : Disp × State :=
  if (e.slotOf 1).isSome then (.drop, s)
  else match e.slotOf 2 with
  | some w => (.fwd (if bit w 4 then pairedPort fr.port else bits w 3 0) (bits w 13 8), s)
  | none => match e.slotOf 3 with
    | some w => s.steer w fr.prv
    | none => (if s.flag Reg.RUL_CTRL_no_disp then .drop else .fwd (pairedPort fr.port) 0, s)

/-- COUNT actions of an entry (R92, R94). -/
def State.countActions (s : State) (e : TEntry) (len : Nat) : State :=
  e.slots.foldl (fun s w =>
    if slotOp w = 6 then
      let n := w.toNat
      let i := bits n 19 0
      if bits n 21 20 = 0 then s.countAdd i 1
      else if bits n 21 20 = 1 then s.countAdd i len
      else (s.countAdd i 1).countAdd (i + 1) len
    else s) s

/-- A frame that no entry matches takes the NOMATCH class (R79, R82). -/
def State.noMatch (s : State) (f : Nat) : State :=
  let s := (s.bump Reg.RUL_NOMATCH).bump Reg.PRS_EXC_NOMATCH
  let s := s.updFrame f (fun x => { x with
    prv := patch (patch x.prv 14 [0x40]) 11 [BitVec.ofNat 8 (byteAt x.prv 11 ||| 2)]
    record := some (s.excDisp 2 x.port), excClass := some 2 })
  s.tailCopies f

/-- The actions of the matching entry, in the order of R94. -/
def State.applyEntry (s : State) (f : Nat) (e : TEntry) : State :=
  let fr := s.frame f
  let (act, s) := match e.slotOf 7 with
    | none => (0, s)
    | some w =>
      let (c, s) := s.meterFrame (bits w 15 0) fr
      (if c = 1 then bits w 17 16 else if c = 2 then bits w 19 18 else 0, s)
  let (d, s) := if act = 1 then (Disp.drop, s) else s.entryDisp e fr
  let s := s.updFrame f (fun x => { x with
    record := some d
    mirror := (e.slotOf 5).map (fun w => ⟨bits w 3 0, bits w 9 4, bits w 17 10, bits w 33 18⟩)
    hostCopy := (e.slotOf 4).map (fun w => (bits w 13 0, bits w 21 14)) })
  let s := s.countActions e (min fr.bytes.length 9216)
  let s := match e.slotOf 8 with
    | none => s
    | some w =>
      if act = 0 then s.updFrame f (fun x => { x with infer := some (bits w 7 0, bit w 8) })
      else s.bump Reg.RUL_INFER_SUPPRESS
  s.tailCopies f

/-- Classify a released vector (R82, R94): SLOW and FAIL frames are not looked up. -/
def State.classify (s : State) (f : Nat) : State :=
  let fr := s.frame f
  if fr.runt || decide (fr.excCode ≠ 0) then s
  else
    let s := s.bump Reg.RUL_LOOKUPS
    if s.flag Reg.RUL_CTRL_enable then
      let m := s.fld (Reg.RUL_KEY_PROF_map fr.port)
      match if s.badKeyMap m then none else s.tcamLookup m (s.buildKey m fr.prv) fr.version with
      | none => s.noMatch f
      | some e => s.applyEntry f e
    else s.noMatch f

/-- Release the ready vectors at the head of a port's reorder buffer (R58). -/
def State.releaseHead (s : State) (p : Nat) : Nat → State
  | 0 => s
  | n + 1 =>
    match (s.port p).rob with
    | [] => s
    | f :: rest =>
      if (s.frame f).prvReady then
        let s := s.updPort p (fun q => { q with rob := rest })
        let s := s.updFrame f (fun x => { x with released := true })
        (s.classify f).releaseHead p n
      else s

/-- PRV_RELEASE (R58, R82, R94). -/
def execPrvRelease (p : Fin 16) (s : State) : Out := .next (s.whenRuns (some 1) (fun s => s.releaseHead p.val (s.port p.val).rob.length))

/-! #### Stream lookups -/

/-- The result record a segment yields (R112). -/
def Seg.record (g : Seg) (id : Nat) (b : Bundle) (rstat : Nat) (result : DWord) (widened : Bool) : Record :=
  { bundle := g.bundle, seg := id, streamId := g.streamId, bundleId := b.bundleId, seq := g.seq.toNat,
    segIndex := g.idx, widened := widened, rstat := rstat, model := g.model, epoch := g.epoch,
    cookie := g.entry.cookie, result := if rstat = 0 then result else 0 }

/-- A result leaves for the early reply unit. -/
def State.sendResult (s : State) (i rstat : Nat) (result : DWord) (widened : Bool) : State :=
  let g := s.seg i
  let s := s.updSeg i (fun g => { g with st := .done })
  { s with erp := { s.erp with results := s.erp.results ++ [g.record i (s.bundle g.bundle) rstat result widened] } }

/-- A segment record has left classification and admission: its frame may release its version (R89; DEDUCED, log). -/
def State.segClassified (s : State) (i : Nat) : State :=
  match (s.seg i).frame with
  | none => s
  | some f => (s.updFrame f (fun x => { x with segsOpen := x.segsOpen - 1 })).releaseVer f

/-- A segment that came from an INFER descriptor and yields no record completes DISCARDED with a reason (R281). -/
def State.segDiscard (s : State) (i reason : Nat) : State :=
  let g := s.seg i
  let s := s.updSeg i (fun g => { g with st := .done })
  match g.desc with
  | none => s
  | some d => s.completeDesc d 0x0A 0 0 reason

/-- A lookup whose entry is read now (R91, R95, R276): a hit goes to the front end or is DENIED, a miss is discarded. -/
def State.finishLookup (s : State) (i : Nat) : State :=
  let g := s.seg i
  match s.emFind (g.ns <<< 32 + g.streamId.toNat) with
  | none =>
    let s := s.bump Reg.RUL_EM_MISS
    let s := match g.frame with
      | some f =>
        if g.missCopy then
          let fr := s.frame f
          s.excCopy 2 (fr.prv ++ slice fr.bytes (g.off - 16) 16) fr.stamp fr.copyInfo
        else s
      | none => s
    (s.segDiscard i 1).segClassified i
  | some e =>
    let s := s.bump Reg.RUL_EM_HITS
    let s := if e.cntEn then (s.countAdd e.cntIndex 1).countAdd (e.cntIndex + 1) g.len else s
    let h := if e.hintOk && decide (g.hint ≠ 0) then g.hint else e.model
    let s := s.updSeg i (fun g => { g with entry := e, model := h, prof := s.sfe.profiles.get e.norm })
    if (s.domRights e.domain).hasHandle h then
      let s := s.updSeg i (fun g => { g with st := .admission })
      { s with sfe := { s.sfe with queue := s.sfe.queue ++ [i] } }
    else (s.sendResult i 2 0 false).segClassified i

/-- Whether a segment record may be looked up now: its vector has been released, or it came from the host (R58, R281). -/
def State.lookupReady (s : State) (i : Nat) : Bool :=
  match (s.seg i).frame with
  | none => true
  | some f => (s.frame f).released

/-- The namespace of a segment's lookup: from the frame's INFER action, or from its descriptor; none where there is no INFER. -/
def State.segNs (s : State) (i : Nat) : Option (Nat × Bool) :=
  match (s.seg i).frame with
  | none => some ((s.seg i).ns, false)
  | some f => (s.frame f).infer

/-- STREAM_LOOKUP (R95): the next segment record is looked up; a cache miss waits for its bucket from HBM. -/
def execStreamLookup (s : State) : Out :=
  .next (s.whenRuns (some 1) (fun s => match takeFirst s.lookupReady s.rul.lookups with
    | none => s
    | some (i, rest) =>
      let s := s.updRul (fun r => { r with lookups := rest })
      match s.segNs i with
      | none => (s.segDiscard i 1).segClassified i
      | some (ns, mc) =>
        let s := s.updSeg i (fun g => { g with ns := ns, missCopy := mc })
        if s.rul.emCache.contains (ns <<< 32 + (s.seg i).streamId.toNat) then s.finishLookup i
        else
          ((s.updSeg i (fun g => { g with st := .miss })).updRul (fun r => { r with misses := r.misses ++ [i] })).bump
            Reg.RUL_EM_CACHE_MISS))

/-- Install a key in the stream cache of 65,536 entries; which line it replaces is left open (R84). -/
def State.emInstall (s : State) (key : Nat) : State :=
  if s.rul.emCache.contains key then s
  else if s.rul.emCache.length < 65536 then s.updRul (fun r => { r with emCache := r.emCache ++ [key] })
  else
    let (v, s) := s.free
    s.updRul (fun r => { r with emCache := r.emCache.set (v.toNat % 65536) key })

/-- STREAM_CACHE_FILL (R91): the fetched bucket is installed, and the entry is read at that instant. -/
def execStreamCacheFill (which : Nat) (s : State) : Out :=
  .next (s.whenRuns (some 1) (fun s => match s.rul.misses[which]? with
    | none => s
    | some i =>
      let s := s.updRul (fun r => { r with misses := r.misses.eraseIdx which })
      let s := s.emInstall ((s.seg i).ns <<< 32 + (s.seg i).streamId.toNat)
      s.finishLookup i))

end Sys2Proof.Machine
end

