-- ==== Sys2Proof/Machine/Reply.lean ====
section
/-! DEFINITION. The early reply unit: records, coalescing, verdicts, stomps and profiles (R108 to R129). -/

namespace Sys2Proof.Machine

/-- Fields of a reply profile (R108, R129). -/
def profValid (d0 : Word) : Bool := bit d0.toNat 0
/-- port_sel. -/
def profPortSel (d0 : Word) : Nat := bits d0.toNat 2 1
/-- seal_mode: 0 OFF, 1 SEAL, 2 HOLD. -/
def profSeal (d0 : Word) : Nat := bits d0.toNat 8 7
/-- max_records. -/
def profMax (d0 : Word) : Nat := bits d0.toNat 23 16

/-- A reply profile. -/
def State.profile (s : State) (p : Nat) : Profile := s.erp.profiles.get p

/-- Change the early reply unit. -/
def State.updErp (s : State) (f : ErpSt → ErpSt) : State := { s with erp := f s.erp }

/-- The egress port a profile gives a bundle (R109). -/
def replyPortOf (d0 : Word) (b : Bundle) : Nat :=
  if profPortSel d0 = 0 then b.port else if profPortSel d0 = 1 then pairedPort b.port else bits d0.toNat 6 3

/-- A reply frame enters the egress crossing (R109, R111, R114): its emit stamp and its provisional bits are fixed; one bound for a port that cannot send it is dropped. -/
def State.enterCrossing (s : State) (r : ReplyFrame) : State :=
  if s.replyPort r.port then
    let recs := r.records.map (fun x => { x with provisional := s.isProvisional x })
    let r : ReplyFrame := { r with emitTs := s.thyme, enteredAt := s.now, records := recs }
    let s := recs.foldl (fun s x => s.updBundle x.bundle (fun b => { b with entered := b.entered ||| 1 <<< x.segIndex })) s
    s.enqueue r.port ⟨.reply r, if r.kind = 0 then 3 else if r.kind = 1 then 1 else 2, prioOf r.tmpl, s.now, false⟩
  else s.bump Reg.ERP_DROP_PORT

/-- Open a frame of a profile with its first record (R108, R111, R116). -/
def State.openFrame (s : State) (p : Nat) (x : Record) : ReplyFrame :=
  let pr := s.profile p
  let b := s.bundle x.bundle
  { prof := p, port := replyPortOf pr.d0 b, d0 := pr.d0, d1 := pr.d1, d2 := pr.d2, d3 := pr.d3, tmpl := pr.tmpl,
    sender := b.sender, remote := b.remote, records := [x] }

/-- Set a profile's coalescing buffer. -/
def State.setCoal (s : State) (p : Nat) (c : Option Coal) : State :=
  s.updErp (fun e => { e with coal := e.coal.set p c })

/-- A record opens a frame (R116); with no window, or a limit of one record, the frame enters the crossing at once. -/
def State.openCoal (s : State) (p : Nat) (x : Record) : State :=
  let fr := s.openFrame p x
  if fr.d1 = 0 ∨ profMax fr.d0 ≤ 1 then s.enterCrossing fr else s.setCoal p (some ⟨s.now, fr⟩)

/-- The open frame of a profile enters the crossing. -/
def State.flushCoal (s : State) (p : Nat) : State :=
  match s.erp.coal.get p with
  | none => s
  | some c => (s.setCoal p none).enterCrossing c.frame

/-- A record joins its profile's frame (R116): past the window or from another sender it opens the next one. -/
def State.coalesce (s : State) (p : Nat) (x : Record) : State :=
  match s.erp.coal.get p with
  | none => s.openCoal p x
  | some c =>
    if c.t0 + c.frame.d1.toNat < s.now ∨ c.frame.sender ≠ (s.bundle x.bundle).sender then (s.flushCoal p).openCoal p x
    else
      let fr : ReplyFrame := { c.frame with records := c.frame.records ++ [x] }
      if profMax fr.d0 ≤ fr.records.length then (s.setCoal p none).enterCrossing fr
      else s.setCoal p (some ⟨c.t0, fr⟩)

/-- Whether a record for the network leaves on its profile: the profile may send, its bundle has not failed, and a record without a result is reported (R108, R112, R118). -/
def State.netSends (s : State) (p : Nat) (x : Record) : Bool :=
  s.flag Reg.ERP_CTRL_enable && profValid (s.profile p).d0 && !(((s.bundle x.bundle).verdict.map Cause.bad).getD false)
    && (decide (x.rstat = 0) || bit (s.profile p).d0.toNat 11)

/-- A record for the network (R108, R112, R115, R118): dropped for an invalid profile, withdrawn after a bad verdict, held under HOLD, or sent. -/
def State.netRecord (s : State) (p : Nat) (x : Record) : State :=
  let pr := s.profile p
  let b := s.bundle x.bundle
  if s.flag Reg.ERP_CTRL_enable = false ∨ profValid pr.d0 = false then s.bump Reg.ERP_DROP_PROFILE
  else if (b.verdict.map Cause.bad).getD false then s.withdraw x.bundle x.segIndex
  else if x.rstat ≠ 0 ∧ bit pr.d0.toNat 11 = false then s
  else
    let s := s.updBundle x.bundle (fun b => b.updShare p id)
    if profSeal pr.d0 = 2 ∧ b.verdict.isNone ∧ b.fromHost = false then
      s.updErp (fun e => { e with held := e.held ++ [(p, x)] })
    else s.coalesce p (if profSeal pr.d0 = 2 then { x with settled := true } else x)

/-- The order of two segments at ingress: by stamp, then by index (R122). -/
def Seg.before (g h : Seg) : Bool :=
  decide (g.stamp.toNat < h.stamp.toNat) || (decide (g.stamp = h.stamp) && decide (g.idx < h.idx))

/-- Whether a segment is still to yield a result for a profile: one that waits for its lookup may name any. -/
def Seg.stillComes (g : Seg) (prof : Nat) : Bool :=
  !g.withdrawn && decide (g.st ≠ .done) && (decide (g.st = .lookup) || decide (g.st = .miss) || decide (g.entry.reply = prof))

/-- A result may be taken when no earlier segment of its stream on its profile is still to come, and none of its records waits before it, for the unit or under HOLD (R122). -/
def State.streamClear (s : State) (x : Record) : Bool :=
  let g := s.seg x.seg
  let earlier (y : Record) (prof : Nat) : Bool :=
    decide (y.streamId = x.streamId) && decide (prof = g.entry.reply) && (s.seg y.seg).before g
  s.sfe.segs.cells.all (fun c => !(decide (c.2.streamId = g.streamId) && c.2.before g && c.2.stillComes g.entry.reply))
  && s.erp.results.all (fun y => !earlier y (s.seg y.seg).entry.reply)
  && s.erp.held.all (fun h => !earlier h.2 h.1)

/-- A result of an INFER descriptor (R271, R274, R281, R284): its record goes to the completion, and with net_reply to the reply profile too. -/
def State.hostResult (s : State) (d : Nat) (x : Record) : State :=
  let g := s.seg x.seg
  let de := s.desc d
  if de.aborted then s.bump Reg.HIF_ABORT_DISCARD
  else if s.descLive d = false then s.bump Reg.HIF_FENCED
  else
    let net := bit (byteAt de.bytes 1) 2
    let sent := net && s.netSends g.entry.reply x
    let s := if net then s.netRecord g.entry.reply x else s
    s.completeDesc d 0 0 x.result (x.rstat ||| b2n x.widened <<< 8 ||| b2n sent <<< 9 ||| x.epoch <<< 16)

/-- RESULT_AT_ERP (R28, R108, R112 to R116). -/
def execResultAtErp (s : State) : Out :=
  .next (s.whenRuns (some 3) (fun s => match takeFirst s.streamClear s.erp.results with
    | none => s
    | some (x, rest) =>
      let s := s.updErp (fun e => { e with results := rest })
      match (s.seg x.seg).desc with
      | some d => s.hostResult d x
      | none => s.netRecord (s.seg x.seg).entry.reply x))

/-- COALESCE_WINDOW_END (R116): at t0 + window_ns the open frame enters the crossing. -/
def execCoalesceWindowEnd (p : Fin 4096) (s : State) : Out :=
  .next (s.whenRuns (some 3) (fun s => match s.erp.coal.get p.val with
    | none => s
    | some c => if s.passed c.t0 c.frame.d1.toNat then s.flushCoal p.val else s))

/-- Whether seal is in force for a bundle on a profile (R115). -/
def sealInForce (d0 : Word) (b : Bundle) : Bool :=
  decide (profSeal d0 = 1) || (decide (profSeal d0 = 0) && bit d0.toNat 9 && b.sealReq)

/-- The conditions the chive recorded for a bundle (R76, R78, R113): SEG_OVERRUN, LEN_MISMATCH and the first discarded index; at a reply chip those its verdict brought. -/
def State.bundleCond (s : State) (b : Bundle) : Nat × Nat :=
  match b.frame.bind (fun f => (s.frame f).ubp) with
  | none => (b.rcond, b.rfirst)
  | some u => (b2n u.firstDisc.isSome ||| 2 * b2n u.lenMismatch, u.firstDisc.getD 255)

/-- The segments handed on by the walk. -/
def State.handedMap (s : State) (b : Bundle) : Nat :=
  match b.frame.bind (fun f => (s.frame f).ubp) with
  | none => s.sfe.segs.cells.foldl (fun m c => if decide (c.2.bundle = b.key) && b.remote then m ||| 1 <<< c.2.idx else m) 0
  | some u => u.handed

/-- A RECALL (kind 1), SEAL (2) or STATUS (3) frame of a bundle on a profile enters the crossing (R113, R117, R120). -/
def State.sendVerdict (s : State) (bi p kind : Nat) (cause : Cause) : State :=
  let b := s.bundle bi
  let pr := s.profile p
  let (cond, fd) := s.bundleCond b
  let handed := s.handedMap b
  let v : VerdictRec := {
    bundle := bi, bundleId := b.bundleId, cause := cause, firstDisc := fd, segCount := b.segCount, cond := cond,
    pendMap := handed ^^^ (handed &&& b.entered), ingressTs := b.ingressTs }
  s.enterCrossing {
    prof := p, port := replyPortOf pr.d0 b, kind := kind, d0 := pr.d0, d1 := pr.d1, d2 := pr.d2, d3 := pr.d3,
    tmpl := pr.tmpl, sender := b.sender, remote := b.remote, verdict := some v }

/-- What a good verdict sends on one profile (R117): SEAL where seal is in force, else STATUS for a condition. -/
def State.sendGood (s : State) (bi p : Nat) : State :=
  let d0 := (s.profile p).d0
  if sealInForce d0 (s.bundle bi) then s.sendVerdict bi p 2 .none
  else if bit d0.toNat 10 = true ∧ (s.bundleCond (s.bundle bi)).1 ≠ 0 then s.sendVerdict bi p 3 .none
  else s

/-- Split what waits under HOLD: the records whose bundle's good verdict is there and that no earlier record of their stream on their profile keeps back leave, and the others stay (R115, R122). -/
def holdSplit (l : List (Nat × Record)) : List (Nat × Record) × List (Nat × Record) :=
  l.foldl (fun a h =>
    if h.2.settled && !a.2.any (fun k => decide (k.1 = h.1) && decide (k.2.streamId = h.2.streamId))
    then (a.1 ++ [h], a.2) else (a.1, a.2 ++ [h])) ([], [])

/-- What may leave HOLD leaves, as R116 directs. -/
def State.leaveHold (s : State) : State :=
  let (go, stay) := holdSplit s.erp.held
  go.foldl (fun s h =>
    if s.flag Reg.ERP_CTRL_enable = false ∨ profValid (s.profile h.1).d0 = false then s.bump Reg.ERP_DROP_PROFILE
    else s.coalesce h.1 h.2) (s.updErp (fun e => { e with held := stay }))

/-- A good verdict (R117): SEAL or STATUS goes out, and what HOLD kept of the bundle is settled. A record that still coalesces is final from the next nanosecond on (R114). -/
def State.goodVerdict (s : State) (bi : Nat) : State :=
  let shares := (s.bundle bi).shares
  let s := s.updErp (fun e => { e with held := e.held.map (fun h => if h.2.bundle = bi then (h.1, { h.2 with settled := true }) else h) })
  if s.flag Reg.ERP_CTRL_enable = false then s
  else if shares.isEmpty then
    if s.flag Reg.ERP_CTRL_default_en then s.sendGood bi (s.fld Reg.ERP_CTRL_default_profile) else s
  else shares.foldl (fun s h => s.sendGood bi h.prof) s

/-- Remove the records of a bundle from coalescing buffers and HOLD, and from the crossing every unstarted frame that holds only its records (R118). -/
def State.removeRecords (s : State) (bi : Nat) : State :=
  let s := s.updErp (fun e => { e with
    coal := e.coal.mapCells (fun _ c => match c with
      | none => none
      | some c =>
        let l := c.frame.records.filter (fun x => x.bundle != bi)
        if l.isEmpty then none else some ⟨c.t0, { c.frame with records := l }⟩)
    held := e.held.filter (fun h => h.2.bundle != bi) })
  (List.range 16).foldl (fun s p => s.updPort p (fun q => { q with egress := q.egress.filter (fun e => match e.kind with
    | .reply r => !(decide (r.kind = 0) && r.records.all (fun x => x.bundle == bi))
    | _ => true) })) s

/-- Whether a record of a segment of a bundle waits for a port in a frame that is still sent. -/
def State.recordWaits (s : State) (bi i : Nat) : Bool :=
  (List.range 16).any (fun p => (s.port p).egress.any (fun e => match e.kind with
    | .reply r => r.records.any (fun x => x.bundle == bi && x.segIndex == i)
    | _ => false))

/-- A bad verdict (R118, R120, R126): records are removed, segments not yet scheduled are discarded, what is never sent is counted, and RECALL goes out where a record was or will be on the wire. -/
def State.badVerdict (s : State) (bi : Nat) (cause : Cause) : State :=
  let s := s.settleAll.removeRecords bi
  let s := { s with sfe := { s.sfe with segs := s.sfe.segs.mapCells (fun _ g =>
    if g.bundle = bi then { g with withdrawn := true } else g) } }
  let b := s.bundle bi
  let s := (setBits (s.handedMap b) 32).foldl (fun s i => if b.sent.testBit i || s.recordWaits bi i then s else s.withdraw bi i) s
  b.shares.foldl (fun s h =>
    if s.flag Reg.ERP_CTRL_enable && (decide (h.provMap ≠ 0) || s.recordsLeft bi h.prof) then s.sendVerdict bi h.prof 1 cause else s) s

/-- A verdict reaches the early reply unit (R114, R117, R118). While the unit is off, no SEAL, STATUS or RECALL is sent and the records held under HOLD are dropped. -/
def State.applyVerdict (s : State) (bi : Nat) (cause : Cause) : State :=
  let s := s.updBundle bi (fun b => { b with verdict := some cause, verdictAt := s.now })
  (if cause = .none then s.goodVerdict bi else s.badVerdict bi cause).leaveHold

/-- Whether a frame's verdict is complete for the early reply unit: a bad one at once, a good one once the chive has recorded its conditions at the tail (R113, R76, R78). -/
def Frame.verdictReady (f : Frame) : Option Cause :=
  match f.verdict, f.ubp with
  | some (c, _), some u => if c.bad || (u.tailDone && f.walkDone) then some c else none
  | _, _ => none

/-- VERDICT_AT_ERP (R117, R118). -/
def State.verdictAtErp (s : State) (f : Nat) : State :=
  match (s.frame f).verdictReady with
  | none => s
  | some c => if (s.bundle f).frame = some f ∧ (s.bundle f).verdict = none then s.applyVerdict f c else s

/-- Every started reply that holds only a failed bundle's records and whose FCS has not begun is stomped (R119, R125). -/
def State.stompBundle (s : State) (bi : Nat) : State :=
  (List.range 16).foldl (fun s p => match (s.port p).tx with
    | none => s
    | some t => match t.item.kind with
      | .reply r =>
        if r.kind = 0 ∧ t.stomped = false ∧ r.records.all (fun x => x.bundle == bi) = true
            ∧ s.now10 < t.start + t.bytes.length * s.byteTime then
          (s.updPort p (fun q => { q with tx := some { t with badFcs := true, stomped := true } })).bump Reg.ERP_STOMPED
        else s
      | _ => s) s.settleAll

/-- STOMP (R119): a bad verdict raised at the clocked edge reaches the egress MACs. -/
def execStomp (f : Nat) (s : State) : Out :=
  .next (s.whenRuns (some 3) (fun s => match (s.frame f).verdict with
    | some (c, true) => if c.bad then s.stompBundle f else s
    | _ => s))

/-- REMOTE_WAIT_EXPIRY (R126): a remote chip without a verdict for ERP_REMOTE_WAIT ns after a provisional frame withdraws the bundle with VERDICT_LOST. -/
def execRemoteWaitExpiry (bi : Nat) (s : State) : Out :=
  .next (s.whenRuns (some 3) (fun s =>
    let b := s.bundle bi
    match b.firstProv with
    | some t =>
      if b.remote = true ∧ b.verdict = none ∧ s.passed t (s.fld Reg.ERP_REMOTE_WAIT_wait_ns) = true then
        s.applyVerdict bi .verdictLost
      else s
    | none => s))

/-- BAD_PROFILE (R129). -/
def badReplyProfile (d0 d1 d2 d3 : Word) : Bool :=
  let tlen := bits d3.toNat 7 0
  let ipOff := bits d3.toNat 15 8
  let l4 := bits d3.toNat 23 16
  decide (profMax d0 = 0) || decide (tlen < 42) || decide (128 < tlen) || decide (tlen < l4 + 8) || decide (ipOff < 14)
    || decide (l4 < ipOff + (if bit d3.toNat 24 then 40 else 20))
    || decide (profPortSel d0 = 3) || decide (profSeal d0 = 3) || decide (1000000 < d1.toNat)
    || decide (d2.toNat < 1000) || decide (100000000 < d2.toNat)

/-- A 32-bit register as a word. -/
def State.wreg (s : State) (a : Nat) : Word := BitVec.ofNat 32 (s.reg a).toNat

/-- ERP_PROF_CMD.write (R129): the profile and its template are taken, or BAD_PROFILE; the command finishes in the same step. -/
def State.erpProfWrite (s : State) : State :=
  s.startCmd Reg.ERP_PROF_STAT_done Reg.ERP_PROF_STAT_status 2 (fun s =>
    let d0 := s.wreg Reg.ERP_PROF_DATA0
    let d1 := s.wreg Reg.ERP_PROF_DATA1
    let d2 := s.wreg Reg.ERP_PROF_DATA2
    let d3 := s.wreg Reg.ERP_PROF_DATA3
    if badReplyProfile d0 d1 d2 d3 then s.finishCmd Reg.ERP_PROF_STAT_done Reg.ERP_PROF_STAT_status 1
    else
      let p := s.fld Reg.ERP_PROF_SEL_profile
      let n : Profile := ⟨d0, d1, d2, d3, s.wordBytes (Reg.ERP_TMPL (32 * p)) 32, (s.profile p).seq⟩
      (s.updErp (fun e => { e with profiles := e.profiles.set p n })).finishCmd
        Reg.ERP_PROF_STAT_done Reg.ERP_PROF_STAT_status 0)

/-- ERP_PROF_CMD.read (R129): the profile and its next reply_seq are loaded. -/
def State.erpProfRead (s : State) : State :=
  s.startCmd Reg.ERP_PROF_STAT_done Reg.ERP_PROF_STAT_status 2 (fun s =>
    let p := s.profile (s.fld Reg.ERP_PROF_SEL_profile)
    let s := (s.setReg Reg.ERP_PROF_DATA0 (p.d0.setWidth 64)).setReg Reg.ERP_PROF_DATA1 (p.d1.setWidth 64)
    let s := (s.setReg Reg.ERP_PROF_DATA2 (p.d2.setWidth 64)).setReg Reg.ERP_PROF_DATA3 (p.d3.setWidth 64)
    (s.setReg Reg.ERP_PROF_DATA4 (p.seq.setWidth 64)).finishCmd Reg.ERP_PROF_STAT_done Reg.ERP_PROF_STAT_status 0)

/-- ERP_PROFILE_WRITE. -/
def execErpProfileWrite (s : State) : Out := .next (s.coreWrite (some 3) (fun s => s.erpProfWrite))
/-- ERP_PROFILE_READ. -/
def execErpProfileRead (s : State) : Out := .next (s.coreWrite (some 3) (fun s => s.erpProfRead))

end Sys2Proof.Machine
end

