-- ==== Sys2Proof/Machine/Catalogue.lean ====
section
/-! DEFINITION. The catalogue as every other unit sees it: model entries and image headers, spanning programs, offers of rows, aborted rows (R217, R221, R230, R231, R306, R309, R314). -/

namespace Sys2Proof.Machine

/-! #### Models -/

/-- A catalogue entry. -/
def State.model (s : State) (h : Nat) : Model := s.bay.models.get h

/-- Change Bay. -/
def State.updBay (s : State) (f : BaySt → BaySt) : State := { s with bay := f s.bay }

/-- Change a catalogue entry. -/
def State.updModel (s : State) (h : Nat) (f : Model → Model) : State :=
  s.updBay (fun b => { b with models := b.models.upd h f })

/-- row_frames of an image header; the smallest value where there is none (R217). -/
def hdrRowFrames (b : List Byte) : Nat := if b.isEmpty then 16 else le b 12 2
/-- max_spans. -/
def hdrMaxSpans (b : List Byte) : Nat := if b.isEmpty then 1 else le b 14 1
/-- row_slot. -/
def hdrRowSlot (b : List Byte) : Nat := le b 15 1 % 16
/-- state_bytes. -/
def hdrStateBytes (b : List Byte) : Nat := le b 16 2
/-- Plot rows. -/
def hdrH (b : List Byte) : Nat := le b 8 1
/-- Plot columns. -/
def hdrW (b : List Byte) : Nat := le b 9 1
/-- Whether the image is tier 0. -/
def hdrTier0 (b : List Byte) : Bool := bit (le b 3 1) 0
/-- inplace_ok. -/
def hdrInplace (b : List Byte) : Bool := bit (le b 3 1) 1
/-- state_compat. -/
def hdrCompat (b : List Byte) : Bool := bit (le b 3 1) 2
/-- out_sel. -/
def hdrOutSel (b : List Byte) : Bool := bit (le b 3 1) 3
/-- field_mask. -/
def hdrMask (b : List Byte) : Nat := le b 10 1 % 16
/-- n_sections. -/
def hdrSections (b : List Byte) : Nat := le b 11 1

/-! #### Spanning programs (R306) -/

/-- A program entry. -/
def State.prog (s : State) (p : Nat) : ProgSt := s.osl.progs.get p

/-- Change Oslink. -/
def State.updOsl (s : State) (f : OslSt → OslSt) : State := { s with osl := f s.osl }

/-- Change a program entry. -/
def State.updProg (s : State) (p : Nat) (f : ProgSt → ProgSt) : State :=
  s.updOsl (fun o => { o with progs := o.progs.upd p f })

/-- A word of a program entry. -/
def ProgSt.word (p : ProgSt) (i : Nat) : Nat := (wordAt p.words i).toNat

/-- The handle of a program's slices. -/
def ProgSt.handle (p : ProgSt) : Nat := bits (p.word 0) 15 0

/-- The three coordinates of a chip address: x in [14:10], y in [9:5], z in [4:0] (R111, R299). -/
def chipX (a : Nat) : Nat := bits a 14 10
/-- y. -/
def chipY (a : Nat) : Nat := bits a 9 5
/-- z. -/
def chipZ (a : Nat) : Nat := bits a 4 0

/-- A chip address of coordinates. -/
def chipOf (x y z : Nat) : Nat := x * 1024 + y * 32 + z

/-- The dimensions of the topology (R299). -/
def State.dims (s : State) : List Nat :=
  [s.fld Reg.OSL_TOPO_nx1 + 1, s.fld Reg.OSL_TOPO_ny1 + 1, s.fld Reg.OSL_TOPO_nz1 + 1]

/-- The chip's own address. -/
def State.me (s : State) : Nat := s.fld Reg.OSL_CHIP_ADDR_addr

/-- The remap entries of a program: coordinate and chip of each valid one. -/
def ProgSt.remaps (p : ProgSt) : List (Nat × Nat) :=
  (p.words.drop 4).filterMap (fun w => if bit w.toNat 31 then some (bits w.toNat 14 0, bits w.toNat 29 15) else none)

/-- The physical chip of a program coordinate (R306). -/
def State.progChip (s : State) (p : ProgSt) (pc : Nat) : Nat :=
  match p.remaps.find? (fun r => r.1 == pc) with
  | some r => r.2
  | none =>
    let o := bits (p.word 1) 14 0
    let d := s.dims
    chipOf ((chipX o + chipX pc) % (d[0]?.getD 1)) ((chipY o + chipY pc) % (d[1]?.getD 1)) ((chipZ o + chipZ pc) % (d[2]?.getD 1))

/-- The program coordinates of a box. -/
def ProgSt.box (p : ProgSt) : List Nat :=
  (List.range (bits (p.word 1) 19 15 + 1)).flatMap (fun x =>
    (List.range (bits (p.word 1) 24 20 + 1)).flatMap (fun y =>
      (List.range (bits (p.word 1) 29 25 + 1)).map (fun z => chipOf x y z)))

/-- Whether a chip lies in a program's box. -/
def State.inBox (s : State) (p : ProgSt) (chip : Nat) : Bool := p.box.any (fun pc => s.progChip p pc == chip)

/-- The home chip of a program. -/
def State.homeChip (s : State) (p : ProgSt) : Nat := s.progChip p 0

/-- The enabled program of a handle, if there is one. -/
def State.progOf (s : State) (h : Nat) : Option Nat :=
  (List.range 16).find? (fun i => decide ((s.prog i).st ≠ 0) && decide ((s.prog i).handle = h))

/-! #### Rows -/

/-- A row. -/
def State.row (s : State) (r : Nat) : Row := s.sfe.rows.get r

/-- Change the sample front end. -/
def State.updSfe (s : State) (f : SfeSt → SfeSt) : State := { s with sfe := f s.sfe }

/-- Change a row. -/
def State.updRow (s : State) (r : Nat) (f : Row → Row) : State := s.updSfe (fun e => { e with rows := e.rows.upd r f })

/-- The record of a span's segment with a status other than OK, once for each segment: it leaves with the last span of the segment (R139). -/
def State.spanFails (s : State) (sp : Span) (rstat : Nat) : State :=
  if (s.seg sp.seg).st = .done then s
  else if sp.contOut then s.updSeg sp.seg (fun g => { g with aborted := g.aborted || decide (rstat = 3) })
  else s.sendResult sp.seg (if (s.seg sp.seg).aborted then 3 else rstat) 0 false

/-- Discard a row with its records ABORTED (R225, R230). -/
def State.abortRow (s : State) (r : Nat) : State :=
  let row := s.row r
  let s := if row.job.isSome then s else row.spans.foldl (fun s sp => s.spanFails sp 3) s
  s.updRow r (fun x => { x with st := .done })

/-- A miss or a PREFETCH starts a page-in, or joins the one that runs (R230, R231). -/
def State.startPage (s : State) (h : Nat) : State :=
  let m := s.model h
  if m.st = .paging then s.bump Reg.BAY_PAGE_JOIN
  else (s.updModel h (fun m => { m with prev := m.st, st := .paging, page := .queued })).updBay
    (fun b => { b with queue := b.queue ++ [h] })

/-- Queue a row at its model, or discard it where the model takes none; a miss starts or joins a page-in (R230). -/
def State.queueRow (s : State) (h cls r : Nat) : State :=
  let st := (s.model h).st
  if st = .faulted ∨ st = .free then s.abortRow r
  else
    let s := s.updModel h (fun m => { m with q := m.q.upd cls (fun l => l ++ [r]) })
    if st = .resident ∨ st = .evicting then s
    else if st = .paging then s.startPage h
    else ((s.updModel h (fun m => { m with misses := m.misses + 1 })).bump Reg.BAY_MISS).startPage h

/-- A row is offered (R149, R230): it joins its model's queue. A row for a slice on a chip of the box that is not its program's home, or for a HALTED program, is discarded (R309, R314). -/
def State.offerRow (s : State) (r : Nat) : State :=
  let row := s.row r
  match s.progOf row.model with
  | some p =>
    if s.inBox (s.prog p) s.me && decide (s.homeChip (s.prog p) ≠ s.me) then (s.abortRow r).bump Reg.OSL_NOT_HOME
    else if (s.prog p).st = 3 then (s.abortRow r).bump Reg.OSL_HALT_DROP
    else s.queueRow row.model row.cls r
  | none => s.queueRow row.model row.cls r

end Sys2Proof.Machine
end

