-- ==== Sys2Proof/Machine/Oslink.lean ====
section
/-! DEFINITION. Oslink records: their formats, routing, link credits, and sending on links (R293 to R295, R300, R304, R305, R313). -/

namespace Sys2Proof.Machine

/-! #### Record fields (R293) -/

/-- Type of a record: 0 empty, 1 FLIT, 2 CREDIT, 4 CONTROL. -/
def OslRec.type (r : OslRec) : Nat := bits r.hdr.toNat 63 61
/-- Destination chip; the producer chip of a CREDIT. -/
def OslRec.dst (r : OslRec) : Nat := bits r.hdr.toNat 60 46
/-- Kind of a CONTROL record. -/
def OslRec.kind (r : OslRec) : Nat := bits r.hdr.toNat 45 40

/-- Where class, locked and dir lie in a record's first word. -/
def OslRec.clsBit (r : OslRec) : Nat := if r.type = 1 then 28 else if r.type = 2 then 21 else 39

/-- class. -/
def OslRec.cls (r : OslRec) : Bool := bit r.hdr.toNat r.clsBit
/-- locked. -/
def OslRec.locked (r : OslRec) : Bool := bit r.hdr.toNat (r.clsBit - 1)
/-- dir: 0 plus, 1 minus. -/
def OslRec.dir (r : OslRec) : Nat := b2n (bit r.hdr.toNat (r.clsBit - 2))

/-- Set class, locked and dir. -/
def OslRec.setRoute (r : OslRec) (cls locked : Bool) (dir : Nat) : OslRec :=
  { r with hdr := putBits r.hdr r.clsBit (r.clsBit - 2) (b2n cls * 4 + b2n locked * 2 + dir) }

/-- Virtual channel of a record: CREDIT and CONTROL records travel on VC1. -/
def OslRec.vc (r : OslRec) : Nat := if r.type = 1 then b2n (bit r.hdr.toNat 29) else 1

/-- Which link credit a record spends: VC0 class 0, VC0 class 1, VC1 class 0, VC1 class 1. -/
def OslRec.pool (r : OslRec) : Nat := 2 * r.vc + b2n r.cls

/-- The entries of a CREDIT record: up to three, each with its own program and generation. -/
def OslRec.entries (r : OslRec) : List Nat :=
  [r.hdr.toNat, r.data.toNat >>> 64, r.data.toNat % 2 ^ 64].filter (fun e => decide (bits e 63 61 = 2))

/-- The program that a FLIT or a notice belongs to. A PASS_NOTICE has it in its payload; of a SPAN_NOTICE, see log 187. -/
def OslRec.prog (r : OslRec) : Option Nat :=
  if r.type = 1 then some (bits r.hdr.toNat 8 5)
  else if r.type = 4 ∧ r.kind = 1 then some (bits r.data.toNat 79 76)
  else if r.type = 4 ∧ r.kind = 2 then some (bits r.hdr.toNat 35 32) else none

/-- The generation that a FLIT or a notice carries, modulo 16. -/
def OslRec.gen (r : OslRec) : Nat :=
  if r.type = 1 then bits r.hdr.toNat 4 1 else if r.kind = 1 then bits r.data.toNat 71 68 else bits r.hdr.toNat 31 28

/-- Every program that a record carries an index of. -/
def OslRec.progs (r : OslRec) : List Nat := if r.type = 2 then r.entries.map (fun e => bits e 18 15) else r.prog.toList

/-- A FLIT record. -/
def flitRec (dst gx gy queue vc : Nat) (tagged : Bool) (tag prog gen : Nat) (f : Flit) : OslRec :=
  ⟨BitVec.ofNat 64 (1 <<< 61 ||| dst <<< 46 ||| gx <<< 40 ||| gy <<< 34 ||| queue <<< 30 ||| vc <<< 29 ||| b2n tagged <<< 25
    ||| (tag % 65536) <<< 9 ||| prog <<< 5 ||| (gen % 16) <<< 1), f⟩

/-- A FLIT record that carries a section-end token (R161, R178); R293 gives the token no mark, and the model sets the reserved bit 0 (DESIGN CHOICE, log 188). -/
def OslRec.markEnd (r : OslRec) : OslRec := { r with hdr := r.hdr ||| 1 }

/-- A CREDIT record with one entry. -/
def creditRec (chip gx gy ch count prog gen : Nat) : OslRec :=
  ⟨BitVec.ofNat 64 (2 <<< 61 ||| chip <<< 46 ||| gx <<< 40 ||| gy <<< 34 ||| ch <<< 30 ||| count <<< 22 ||| prog <<< 15 ||| (gen % 16) <<< 11), 0⟩

/-- A CONTROL record: its kind, the low 37 bits of its first word, and its payload. -/
def controlRec (dst kind low : Nat) (data : Flit) : OslRec :=
  ⟨BitVec.ofNat 64 (4 <<< 61 ||| dst <<< 46 ||| kind <<< 40 ||| low % 2 ^ 37), data⟩

/-- The bytes of a record. -/
def OslRec.bytes (r : OslRec) : List Byte := toBe 8 r.hdr.toNat ++ toBe 16 r.data.toNat

/-- A record from its 24 bytes. -/
def recOfBytes (b : List Byte) : OslRec := ⟨BitVec.ofNat 64 (be b 0 8), BitVec.ofNat 128 (be b 8 16)⟩

/-! #### Links -/

/-- A link. -/
def State.link (s : State) (l : Nat) : LinkSt := s.osl.links.get l

/-- Change a link. -/
def State.updLink (s : State) (l : Nat) (f : LinkSt → LinkSt) : State := s.updOsl (fun o => { o with links := o.links.upd l f })

/-- The dimension of a link pair in a topology (R300). -/
def pairDim (mode k : Nat) : Nat := if mode = 1 then 0 else if mode = 2 then k % 2 else k % 3

/-- The links of a direction in ascending order: link 2k faces minus, link 2k + 1 plus (R300). -/
def dirLinks (mode dim : Nat) (minus : Bool) : List Nat :=
  ((List.range 8).filter (fun k => decide (pairDim mode k = dim))).map (fun k => 2 * k + (if minus then 0 else 1))

/-- The topology mode. -/
def State.oslMode (s : State) : Nat := s.fld Reg.OSL_CTRL_mode

/-- The ACTIVE links of a direction. -/
def State.activeLinks (s : State) (dim : Nat) (minus : Bool) : List Nat :=
  (dirLinks s.oslMode dim minus).filter (fun l => decide ((s.link l).st = 2))

/-- The bytes of a link frame (R293). -/
def linkFrame (seq ack : Word) (nak : Bool) (freed : List Nat) (recs : List OslRec) : List Byte :=
  let body := fit (toBe 4 seq.toNat ++ toBe 4 ack.toNat ++ toBe 1 recs.length ++ toBe 1 (b2n nak) ++ zeros 2
    ++ freed.map (BitVec.ofNat 8) ++ recs.flatMap OslRec.bytes) 496
  body ++ toBe 4 (crc32c body) ++ zeros 12

/-- The link credits that the next frame gives back: a byte for each pool, so at most 255 of each at a time (R293, R295). -/
def LinkSt.giving (k : LinkSt) : List Nat := k.freed.map (min 255)

/-- Send a link frame: its records stay in the retry buffer until they are acknowledged (R294). -/
def State.sendFrame (s : State) (l : Nat) (recs : List OslRec) : State :=
  let k := s.link l
  let s := s.emit (.linkFrame l (linkFrame k.txSeq k.rxSeq k.nak k.giving recs))
  let s := s.updLink l (fun k => { k with
    txSeq := k.txSeq + 1, retry := k.retry ++ [⟨k.txSeq, recs, k.giving⟩], freed := k.freed.map (· - 255), nak := false
    progress := if k.retry.isEmpty then s.now else k.progress })
  s.bump (Reg.OSL_FRAMES_TX l)

/-- A record leaves its landing pool, whose place is reported to the sender with a later frame (R295). -/
def State.leavePool (s : State) (c : Carried) : State :=
  match c.src with
  | none => s
  | some (l, era, p) => if (s.link l).era = era then s.updLink l (fun k => { k with freed := modifyAt k.freed p (· + 1) }) else s

/-- A coordinate of a chip address. -/
def chipCoord (a dim : Nat) : Nat := if dim = 0 then chipX a else if dim = 1 then chipY a else chipZ a

/-- Whether a hop on a link crosses the wrap of its dimension. -/
def State.wraps (s : State) (l : Nat) : Bool :=
  let dim := pairDim s.oslMode (l / 2)
  match (s.link l).peer with
  | none => false
  | some p => if l % 2 = 0 then decide (chipCoord s.me dim ≤ chipCoord p.toNat dim) else decide (chipCoord p.toNat dim ≤ chipCoord s.me dim)

/-- A record as it crosses a link: one that crosses a wrap takes class 1 (R304). -/
def State.onLink (s : State) (l : Nat) (r : OslRec) : OslRec := if s.wraps l then r.setRoute true r.locked r.dir else r

/-- Send the records that wait for a link while it is ACTIVE, within the window of 64 frames and the link credits; a record never passes another of its virtual channel and class (R294, R295). -/
def State.drainLink (s : State) (l : Nat) : State :=
  let k := s.link l
  let (s, left) := k.waiting.foldl (fun (a : State × List Carried) c =>
    let k := a.1.link l
    let r := s.onLink l c.r
    if k.st = 2 ∧ k.retry.length < 64 ∧ 0 < (k.credits[r.pool]?.getD 0) ∧ a.2.all (fun q => (s.onLink l q.r).pool != r.pool) = true then
      (((a.1.updLink l (fun k => { k with credits := modifyAt k.credits r.pool (· - 1) })).sendFrame l [r]).leavePool c, a.2)
    else (a.1, a.2 ++ [c])) (s, [])
  s.updLink l (fun k => { k with waiting := left })

/-- Give a record to a link. -/
def State.giveLink (s : State) (l : Nat) (c : Carried) : State :=
  (s.updLink l (fun k => { k with waiting := k.waiting ++ [c] })).drainLink l

/-- Send a frame on every ACTIVE link that has link credits to give back or a nak to answer, while its window has room (R294, R295). -/
def State.returnCredits (s : State) : State :=
  (List.range 16).foldl (fun s l =>
    let k := s.link l
    if k.st = 2 ∧ (k.freed.any (fun n => decide (0 < n)) || k.nak) = true ∧ k.retry.length < 64 then s.sendFrame l [] else s) s

/-! #### Routing -/

/-- What the routing rule answers. -/
inductive Route where
  | dir (dim : Nat) (minus : Bool)
  | localChip
  | undeliverable
deriving DecidableEq, Repr

/-- The routing rule of R304; `fromDim` is the dimension the record came along. The answer holds the record with its routing fields and whether it took a detour. -/
def State.route (s : State) (fromDim : Option Nat) (r : OslRec) : Route × OslRec × Bool :=
  match (List.range 3).find? (fun k => chipCoord s.me k != chipCoord r.dst k) with
  | none => (.localChip, r, false)
  | some k =>
    let r := if fromDim = some k then r else r.setRoute false false 0
    let n := s.dims[k]?.getD 1
    let fwd := (chipCoord r.dst k + n - chipCoord s.me k % n) % n
    let want := if r.locked then r.dir else if fwd ≤ n - fwd then 0 else 1
    if (s.activeLinks k (want == 1)).isEmpty = false then (.dir k (want == 1), r, false)
    else if r.locked || (s.activeLinks k (want == 0)).isEmpty then (.undeliverable, r, false)
    else (.dir k (want == 0), r.setRoute r.cls true (1 - want), true)

/-- Which of n links a record takes (R305). -/
def OslRec.pick (r : OslRec) (n : Nat) : Nat :=
  (if r.type = 1 then r.dst + bits r.hdr.toNat 45 40 + bits r.hdr.toNat 39 34 + bits r.hdr.toNat 33 30
    else r.dst + (if r.type = 4 then r.kind else 0)) % n

/-- Index of a direction. -/
def dirIndex (dim : Nat) (minus : Bool) : Nat := 2 * dim + b2n minus

/-- Whether every record sent on a direction's old links has been acknowledged (R305); a FAILED link has none that will be. -/
def State.dirQuiet (s : State) (d : Nat) : Bool :=
  (s.osl.dirs.get d).links.all (fun l => decide ((s.link l).st ≠ 2 ∧ (s.link l).st ≠ 3)
    || ((s.link l).retry.isEmpty && (s.link l).waiting.isEmpty))

/-- Send a record in a direction on a link of the set in use. -/
def State.sendDir (s : State) (dim : Nat) (minus : Bool) (c : Carried) : State :=
  let set := (s.osl.dirs.get (dirIndex dim minus)).links
  match set[c.r.pick set.length]? with
  | none => s
  | some l => s.giveLink l c

/-- The records held for a direction are taken out, and its present ACTIVE links are its set (R305). -/
def State.takeSet (s : State) (dim : Nat) (minus : Bool) : List Carried × State :=
  let d := dirIndex dim minus
  ((s.osl.dirs.get d).heldBack,
    s.updOsl (fun o => { o with dirs := o.dirs.upd d (fun x => { x with links := s.activeLinks dim minus, heldBack := [] }) }))

/-- Take the present ACTIVE links of a direction as its set and send what was held (R305). -/
def State.switchDir (s : State) (dim : Nat) (minus : Bool) : State :=
  let (held, s) := s.takeSet dim minus
  held.foldl (fun s c => s.sendDir dim minus c) s

/-- Send a record in a direction, or hold it while the direction's set of links changes; nothing passes a record that is held (R305). -/
def State.toDir (s : State) (dim : Nat) (minus : Bool) (c : Carried) : State :=
  let d := dirIndex dim minus
  let x := s.osl.dirs.get d
  if x.links = s.activeLinks dim minus ∧ x.heldBack.isEmpty = true then s.sendDir dim minus c
  else if s.dirQuiet d then (s.switchDir dim minus).sendDir dim minus c
  else s.updOsl (fun o => { o with dirs := o.dirs.upd d (fun x => { x with heldBack := x.heldBack ++ [c] }) })

/-- Start a flood of PROG_ABORT for a program, under its generation here (R313). -/
def State.raiseAbort (s : State) (p : Nat) : State :=
  s.updOsl (fun o => { o with arrived := o.arrived ++ [controlRec 0 4 0 (BitVec.ofNat 128 (p <<< 120 ||| (s.prog p).gen <<< 112))] })

/-- The column of routers on the outer edge of the field that holds a column: west for the west fields, east for the east ones (R154, R179). -/
def edgeX (x : Nat) : Nat := if x < 32 then 0 else 63

/-- The section instance of a plot that a section-end token of another chip ends: a section of the pass under way, or of the next one; none for a section already past (R178; DESIGN CHOICE, log 188). -/
def PlotSt.endInst (p : PlotSt) (f : Flit) : Option Nat :=
  let key := f.toNat % 2 ^ 32
  let sec := bits f.toNat 35 32
  if key = p.passKey % 2 ^ 32 then (if p.pass ∧ p.sec ≤ sec then some (p.inst + (sec - p.sec)) else none)
  else some (if p.pass then p.inst + (hdrSections p.image - p.sec) + sec else p.inst + 1 + sec)

/-- Whether what carries a program and a generation is to be discarded here (R312). -/
def State.stale (s : State) (p gen : Nat) : Bool := decide ((s.prog p).st ≠ 1) || decide ((s.prog p).gen % 16 ≠ gen)

/-- A record has reached its destination chip (R293, R304, R312): a FLIT enters the router network at its tile, the credits of each entry of a CREDIT record start their way to their channel, a CONTROL record is kept for its step. What belongs to a program that does not run here, or to another generation of it, is discarded, entry by entry in a CREDIT record (DEDUCED, log 207). -/
def State.deliverRec (s : State) (r : OslRec) : State :=
  if (r.prog.map (fun p => s.stale p r.gen)).getD false then s.bump Reg.OSL_STALE_GEN
  else if r.type = 1 then
    let x := bits r.hdr.toNat 45 40
    let y := bits r.hdr.toNat 39 34
    let t := s.fab.tiles.get (y * 64 + x)
    let ends := bit r.hdr.toNat 0
    let inst := if ends then (s.fab.plots.get (t.plot.getD 0)).endInst r.data else some t.inst
    match inst with
    | none => s
    | some n =>
      let p : Packet := {
        x := edgeX x, y := y, port := if x < 32 then 3 else 1, vc := r.vc,
        kind := if ends then .sectionEnd else if r.vc = 1 then .control else .data
        dest := .tile x y (bits r.hdr.toNat 33 30), tagged := bit r.hdr.toNat 25
        tok := ⟨r.data, bits r.hdr.toNat 24 9, if ends then none else some ⟨0x8000 + (r.prog.getD 0), 0, 0, 0⟩, false, 0⟩
        plot := t.plot.getD 0, inst := n }
      { s with fab := { s.fab with packets := s.fab.packets ++ [p] } }
  else if r.type = 2 then
    let es := r.entries.filter (fun e => !s.stale (bits e 18 15) (bits e 14 11))
    let s := s.addCnt Reg.OSL_STALE_GEN (r.entries.length - es.length)
    { s with fab := { s.fab with credits := s.fab.credits ++ es.flatMap (fun e =>
      let t := bits e 39 34 * 64 + bits e 45 40
      List.replicate (bits e 29 22) ⟨0x7FFF, t, bits e 33 30, (s.fab.tiles.get t).inst⟩) } }
  else s.updOsl (fun o => { o with arrived := o.arrived ++ [r] })

/-- Route a record: deliver it, send it on, or discard it as UNDELIVERABLE, which aborts every program it carries an index of (R304, R313). -/
def State.oslCarry (s : State) (fromDim : Option Nat) (c : Carried) : State :=
  match s.route fromDim c.r with
  | (.localChip, r, _) => (s.leavePool c).deliverRec r
  | (.dir d m, r, det) => (s.bumpIf det Reg.OSL_DETOUR).toDir d m { c with r := r }
  | (.undeliverable, r, _) => r.progs.eraseDups.foldl (fun s p => s.raiseAbort p) ((s.leavePool c).bump Reg.OSL_UNDELIVERABLE)

/-- Route a record of this chip. -/
def State.oslSubmit (s : State) (fromDim : Option Nat) (r : OslRec) : State := s.oslCarry fromDim ⟨r, none⟩

/-- The set of links of a direction may change now (R305): what was held goes on the new set, or, where no link is ACTIVE, is routed again (R304). -/
def State.settleDir (s : State) (dim : Nat) (minus : Bool) : State :=
  if (s.activeLinks dim minus).isEmpty then
    let (held, s) := s.takeSet dim minus
    held.foldl (fun s c => s.oslCarry (some dim) c) s
  else s.switchDir dim minus

/-- Send a copy of a flooded record on every ACTIVE link (R313). -/
def State.floodOut (s : State) (r : OslRec) : State :=
  (List.range 16).foldl (fun s l => if (s.link l).st = 2 then s.giveLink l ⟨r, none⟩ else s) s

end Sys2Proof.Machine
end

