-- ==== Sys2Proof/Machine/Sfe.lean ====
section
/-! DEFINITION. The sample front end: admission, decoding, feature frames, rows and spans, profiles (R130 to R153). -/

namespace Sys2Proof.Machine

/-! #### Profiles -/

/-- Working rate in Hz. -/
def SfeProfile.wrate (p : SfeProfile) : Nat := if bit p.d0.toNat 1 then 16000 else 8000
/-- host_en. -/
def SfeProfile.hostEn (p : SfeProfile) : Bool := bit p.d0.toNat 12
/-- out_fmt: Q16 when set. -/
def SfeProfile.q16 (p : SfeProfile) : Bool := bit p.d0.toNat 14
/-- Pyramid levels. -/
def SfeProfile.levels (p : SfeProfile) : Nat := bits p.d0.toNat 16 15
/-- stride. -/
def SfeProfile.stride (p : SfeProfile) : Nat := bits p.d0.toNat 18 17
/-- norm_mode: 0 NONE, 1 FIXED, 2 RUNNING. -/
def SfeProfile.norm (p : SfeProfile) : Nat := bits p.d0.toNat 20 19
/-- k. -/
def SfeProfile.k (p : SfeProfile) : Nat := bits p.d0.toNat 24 21
/-- frame_len. -/
def SfeProfile.frameLen (p : SfeProfile) : Nat := bits p.d1.toNat 10 0
/-- hop. -/
def SfeProfile.hop (p : SfeProfile) : Nat := bits p.d1.toNat 21 11
/-- bins. -/
def SfeProfile.bins (p : SfeProfile) : Nat := bits p.d2.toNat 7 0
/-- norm_tbl. -/
def SfeProfile.normTbl (p : SfeProfile) : Nat := bits p.d2.toNat 17 12
/-- out_shift. -/
def SfeProfile.outShift (p : SfeProfile) : Nat := bits p.d2.toNat 22 18
/-- gap_max. -/
def SfeProfile.gapMax (p : SfeProfile) : Nat := bits p.d3.toNat 30 16
/-- max_seg_bytes. -/
def SfeProfile.maxSeg (p : SfeProfile) : Nat := bits p.d4.toNat 15 0

/-- Bytes of one feature frame. -/
def SfeProfile.frameBytes (p : SfeProfile) : Nat := if p.q16 then 2 * p.bins else p.bins

/-- fe_bytes (R135): the region's size, rounded up to a multiple of 64. -/
def SfeProfile.feBytes (p : SfeProfile) : Nat :=
  (128 + 2 * p.frameLen + (if p.norm = 2 then 8 * p.bins else 0) + 4 * p.bins * (p.levels - 1) + 63) / 64 * 64

/-- BAD_PROFILE (R153). -/
def SfeProfile.bad (p : SfeProfile) : Bool :=
  decide (p.hop = 0) || decide (p.frameLen < p.hop) || decide (p.frameLen < 80) || decide (1024 < p.frameLen)
    || decide (256 <<< bits p.d1.toNat 23 22 < p.frameLen) || decide (bits p.d1.toNat 23 22 = 3)
    || decide (p.bins = 0) || decide (128 < p.bins) || decide (p.levels = 0) || decide (p.stride < 2)
    || decide (p.norm = 3) || (decide (p.norm = 2) && decide (p.k = 0))
    || decide (p.gapMax = 0) || decide (p.maxSeg = 0) || decide (3072 < p.feBytes)

/-- A data register of a profile. -/
def State.sfeData (s : State) (i : Nat) : Word :=
  s.wreg ([Reg.SFE_PROF_DATA0, Reg.SFE_PROF_DATA1, Reg.SFE_PROF_DATA2, Reg.SFE_PROF_DATA3, Reg.SFE_PROF_DATA4][i]?.getD 0)

/-- SFE_PROF_CMD.write (R130, R153): BAD_PROFILE leaves the profile; an accepted write raises its generation. -/
def State.sfeProfWrite (s : State) : State :=
  s.startCmd Reg.SFE_PROF_STAT_done Reg.SFE_PROF_STAT_status 2 (fun s =>
    let i := s.fld Reg.SFE_PROF_SEL_profile
    let p : SfeProfile := ⟨s.sfeData 0, s.sfeData 1, s.sfeData 2, s.sfeData 3, s.sfeData 4, (s.sfe.profiles.get i).gen + 1⟩
    if p.bad then s.finishCmd Reg.SFE_PROF_STAT_done Reg.SFE_PROF_STAT_status 1
    else (s.updSfe (fun e => { e with profiles := e.profiles.set i p })).finishCmd
      Reg.SFE_PROF_STAT_done Reg.SFE_PROF_STAT_status 0)

/-- SFE_PROFILE_WRITE (R153). -/
def execSfeProfileWrite (s : State) : Out := .next (s.coreWrite (some 2) (fun s => s.sfeProfWrite))

/-- SFE_PROF_CMD.read (R153, R422): the profile with its region size and generation. -/
def State.sfeProfRead (s : State) : State :=
  s.startCmd Reg.SFE_PROF_STAT_done Reg.SFE_PROF_STAT_status 2 (fun s =>
    let p := s.sfe.profiles.get (s.fld Reg.SFE_PROF_SEL_profile)
    let s := s.setReg Reg.SFE_PROF_DATA0 (p.d0.setWidth 64)
    let s := s.setReg Reg.SFE_PROF_DATA1 (p.d1.setWidth 64)
    let s := s.setReg Reg.SFE_PROF_DATA2 (p.d2.setWidth 64)
    let s := s.setReg Reg.SFE_PROF_DATA3 (p.d3.setWidth 64)
    let s := s.setReg Reg.SFE_PROF_DATA4 (p.d4.setWidth 64)
    let s := s.setFld Reg.SFE_PROF_DATA5_fe_bytes p.feBytes
    (s.setFld Reg.SFE_PROF_DATA5_gen p.gen.toNat).finishCmd Reg.SFE_PROF_STAT_done Reg.SFE_PROF_STAT_status 0)

/-- SFE_PROFILE_READ (R422). -/
def execSfeProfileRead (s : State) : Out := .next (s.coreWrite (some 2) (fun s => s.sfeProfRead))

/-! #### Admission -/

/-- Whether a codec is 16-bit PCM. -/
def isPcm (c : Nat) : Bool := decide (c = 1) || decide (c = 2)
/-- Whether a codec carries feature frames. -/
def isRaw (c : Nat) : Bool := decide (c = 0x20) || decide (c = 0x21)
/-- Whether a codec is left to the host (R131). -/
def isHostCodec (c : Nat) : Bool := decide (0x40 ≤ c) && decide (c ≤ 0x7F)

/-- The bit of codec_mask that accepts a codec; none for a reserved code. -/
def codecBit (c : Nat) : Option Nat :=
  if 1 ≤ c ∧ c ≤ 4 then some (c - 1) else if c = 0x20 then some 4 else if c = 0x21 then some 5 else none

/-- Whether a profile accepts a codec (R142). -/
def SfeProfile.codecOk (p : SfeProfile) (c : Nat) : Bool :=
  match codecBit c with
  | none => false
  | some b => bit (bits p.d0.toNat 11 6) b

/-- Whether a profile accepts a rate code; RAW codecs ignore the rate (R131). -/
def SfeProfile.rateOk (p : SfeProfile) (c r : Nat) : Bool :=
  isRaw c || (decide (1 ≤ r) && decide (r ≤ 4) && bit (bits p.d0.toNat 5 2) (r - 1))

/-- Bytes of one raw frame of a codec. -/
def SfeProfile.rawBytes (p : SfeProfile) (c : Nat) : Nat := if c = 0x21 then 2 * p.bins else p.bins

/-- Whether a length is a whole number of samples or raw frames (R142). -/
def SfeProfile.lenOk (p : SfeProfile) (c len : Nat) : Bool :=
  if isPcm c then decide (len % 2 = 0) else if isRaw c then decide (len % p.rawBytes c = 0) else true

/-- The outcome of a staleness test (R144): fresh, stale, or stale by a skewed clock. -/
inductive Age where
  | fresh | stale | skew
deriving DecidableEq, Repr

/-- The staleness test of a class at an instant (R143, R144). -/
def State.age (s : State) (cls : Nat) (t capture : DWord) : Age :=
  if (s.reg (Reg.SFE_STALE_EN (cls / 32))).toNat.testBit (cls % 32) = false then .fresh
  else
    let a := (t - capture).toInt
    if a < -1000000 then .skew
    else if a < 0 then .fresh
    else if (s.fld (Reg.SFE_STALE_LIM_limit_ns cls) : Int) < a then .stale else .fresh

/-- The verdict of the segment reorder rule. -/
inductive Order where
  | accept (missing : Nat) | restart | dup | late
deriving DecidableEq, Repr

/-- The segment reorder rule (R145). -/
def reorder (h : Region) (streamId : Word) (seq : BitVec 16) (start : Bool) (prof : Nat) (gen : BitVec 12) (gapMax : Nat) : Order :=
  if start || !h.valid || h.ended || decide (h.streamId ≠ streamId) || decide (h.prof ≠ prof) || decide (h.gen ≠ gen) then .restart
  else
    let d := (seq - h.lastSeq).toNat
    if d = 0 then .dup else if 0x8000 ≤ d then .late else if gapMax < d then .restart else .accept (d - 1)

/-- stream_start of a segment. -/
def Seg.start (g : Seg) : Bool := bit g.flags 0
/-- stream_end of a segment. -/
def Seg.isEnd (g : Seg) : Bool := bit g.flags 1
/-- The slot a segment's stream uses. -/
def Seg.slot (g : Seg) : Nat := g.entry.slot

/-- The payload of a segment, with the number of its bytes that can be read now. -/
def State.segPayload (s : State) (i : Nat) : List Byte × Nat :=
  let g := s.seg i
  match g.frame with
  | some f =>
    let fr := s.frame f
    let got := min g.len (s.copyBytes f - g.off)
    let have_ := slice fr.bytes g.off got
    if fr.tail = .none && fr.cut.isNone then (have_, got)
    else (have_ ++ (List.range (g.len - got)).map (fun j => Config.lostByte f (g.off + got + j)), g.len)
  | none =>
    let b := (g.desc.map (fun d => (s.desc d).payload)).getD []
    (fit b g.len, g.len)

/-- The header of a segment as the bundle carried it (R75). -/
def Seg.header (g : Seg) : List Byte :=
  toBe 4 g.streamId.toNat ++ toBe 2 g.seq.toNat ++ toBe 2 g.len ++ toBe 1 g.codec ++ toBe 1 g.rate ++ toBe 1 g.flags
    ++ toBe 1 0 ++ toBe 2 g.hint ++ toBe 2 0

/-- The copy of a HOST-codec segment whose payload is whole (R132, R285): its own bucket, then its queue pair. -/
def State.hostCopyOut (s : State) (i : Nat) : State :=
  let g := s.seg i
  let (ok, b) := s.sfe.host.take (s.fld Reg.SFE_HOST_RATE_rate) (s.fld Reg.SFE_HOST_BURST_burst) s.now
  let s := s.updSfe (fun e => { e with host := b })
  let raw := match g.frame with
    | some f => slice (s.frame f).bytes (g.off - 16) 16
    | none => g.header
  let content := wordsLe g.entry.w ++ raw ++ toLe 8 g.capture.toNat ++ toLe 8 g.stamp.toNat ++ (s.segPayload i).1
  let s := if ok then
      let (done, s) := s.deliverCopy (s.fld Reg.SFE_HOST_QP_qp) 0x82 content g.stamp (g.len <<< 16)
      if done then s.bump Reg.SFE_HOST_COPY else s.bump Reg.SFE_HOST_DROP
    else s.bump Reg.SFE_HOST_DROP
  s.segDiscard i 3

/-- A HOST-codec segment leaves the check sequence (R132): its copy goes out once the payload is whole. -/
def State.hostCodec (s : State) (i : Nat) : State :=
  if (s.seg i).len ≤ (s.segPayload i).2 then s.hostCopyOut i else s.updSeg i (fun g => { g with st := .hostWait })

/-- The copies of HOST-codec segments whose payload has become whole go out. -/
def State.hostCopies (s : State) : State :=
  (s.sfe.segs.keys.filter (fun i => decide ((s.seg i).st = .hostWait))).foldl (fun s i => s.hostCodec i) s

/-! #### The front-end region (R135) -/

/-- Signed little-endian numbers of `n` bytes. -/
def leInts (n : Nat) : Nat → List Byte → List Int
  | 0, _ => []
  | k + 1, l => (BitVec.ofNat (8 * n) (leNat (fit l n))).toInt :: leInts n k (l.drop n)

/-- Little-endian bytes of signed numbers. -/
def intsLe (n : Nat) (l : List Int) : List Byte := l.flatMap (fun v => toLe n (BitVec.ofInt (8 * n) v).toNat)

/-- Where the running statistics of a region begin, and where the accumulators do. -/
def SfeProfile.normAt (p : SfeProfile) : Nat := 128 + 2 * p.frameLen
/-- Where the accumulators begin. -/
def SfeProfile.accAt (p : SfeProfile) : Nat := p.normAt + (if p.norm = 2 then 8 * p.bins else 0)

/-- A region as its bytes spell it under a profile (R135). -/
def Region.ofBytes (p : SfeProfile) (b : List Byte) : Region :=
  let w1 := le b 4 4
  let w2 := le b 8 4
  let st := leInts 4 (if p.norm = 2 then 2 * p.bins else 0) (b.drop p.normAt)
  { streamId := BitVec.ofNat 32 (le b 0 4)
    lastSeq := BitVec.ofNat 16 (bits w1 15 0), valid := bit w1 16, ended := bit w1 17, prof := bits w1 29 18
    gen := BitVec.ofNat 12 (bits w2 11 0), pendingN := bits w2 21 12, ph1 := bits w2 23 22, ph2 := bits w2 25 24
    frames := BitVec.ofNat 32 (le b 12 4)
    hist := leInts 2 32 (b.drop 64)
    carry := leInts 2 (p.frameLen - p.hop + bits w2 21 12) (b.drop 128)
    norm := (List.range (st.length / 2)).map (fun k => ((st[2 * k]?).getD 0, (st[2 * k + 1]?).getD 0))
    acc1 := leInts 4 (if 2 ≤ p.levels then p.bins else 0) (b.drop p.accAt)
    acc2 := leInts 4 (if 3 ≤ p.levels then p.bins else 0) (b.drop (p.accAt + 4 * p.bins)) }

/-- The bytes of a region's header (R135). -/
def Region.header (r : Region) : List Byte :=
  toLe 4 r.streamId.toNat
    ++ toLe 4 (r.lastSeq.toNat ||| b2n r.valid <<< 16 ||| b2n r.ended <<< 17 ||| (r.prof % 4096) <<< 18)
    ++ toLe 4 (r.gen.toNat ||| (r.pendingN % 1024) <<< 12 ||| (r.ph1 % 4) <<< 22 ||| (r.ph2 % 4) <<< 24)
    ++ toLe 4 r.frames.toNat

/-- The bytes of a region under a profile (R135). -/
def Region.bytes (p : SfeProfile) (r : Region) : List Byte :=
  fit (r.header ++ zeros 48 ++ fit (intsLe 2 r.hist) 64 ++ fit (intsLe 2 r.carry) (2 * p.frameLen)
    ++ fit (intsLe 4 (r.norm.flatMap (fun e => [e.1, e.2]))) (p.accAt - p.normAt)
    ++ fit (intsLe 4 r.acc1) (if 2 ≤ p.levels then 4 * p.bins else 0)
    ++ fit (intsLe 4 r.acc2) (if 3 ≤ p.levels then 4 * p.bins else 0)) p.feBytes

/-- A stream slot (R228). -/
def State.slotOf (s : State) (slot : Nat) : Slot := s.bay.slots.get slot

/-- Overwrite bytes of a stream slot. -/
def Slot.patchAt (x : Slot) (off : Nat) (b : List Byte) : Slot := { x with state := patch (fit x.state 4096) off b }

/-- Change a stream slot. -/
def State.updSlot (s : State) (slot : Nat) (f : Slot → Slot) : State := s.updBay (fun b => { b with slots := b.slots.upd slot f })

/-- The front-end region of a slot under a profile. -/
def State.region (s : State) (slot : Nat) (p : SfeProfile) : Region := Region.ofBytes p (s.slotOf slot).state

/-- Store the front-end region of a slot. -/
def State.setRegion (s : State) (slot : Nat) (p : SfeProfile) (r : Region) : State :=
  s.updSlot slot (fun x => x.patchAt 0 (r.bytes p))

/-- A region whose content is lost reads as not valid (R371). -/
def Slot.invalid (x : Slot) : Slot := x.patchAt 6 [BitVec.ofNat 8 (byteAt x.state 6 / 2 * 2)]

/-- The header of a region after a segment is admitted (R145 to R147): last_seq, the owner, and whether the stream has ended. -/
def Region.admitted (r : Region) (g : Seg) : Region :=
  { r with streamId := g.streamId, lastSeq := g.seq, valid := true, ended := g.isEnd, prof := g.entry.norm, gen := g.prof.gen }

/-- A segment is admitted: the region's header follows it, and it takes the lease epoch of its slot (R145 to R147, R225). -/
def State.admitHeader (s : State) (i : Nat) (restart : Bool) : State :=
  let g := s.seg i
  (s.updSlot g.slot (fun x => x.patchAt 0 ((s.region g.slot g.prof).admitted g).header)).updSeg i
    (fun h => { h with restart := restart, lease := (s.slotOf g.slot).epoch, st := .alloc })

/-- A segment's access stores its region; one that a revoked lease fences does nothing, and the segment's record takes ABORTED (R225). -/
def State.putRegion (s : State) (i : Nat) (r : Region) : State :=
  let g := s.seg i
  if (s.slotOf g.slot).epoch = g.lease then s.setRegion g.slot g.prof r else s.updSeg i (fun g => { g with aborted := true })

/-- A segment has written its stream's state slot, which a RECALL of its bundle reports (R118; DEDUCED, log 179: the region counts as part of the slot, from the first frame on). -/
def State.touch (s : State) (i : Nat) : State := s.updBundle (s.seg i).bundle (fun b => { b with touched := true })

/-- Admission by the reorder rule (R142, R145). -/
def State.admitOrder (s : State) (i : Nat) : State :=
  let g := s.seg i
  match reorder (s.region g.slot g.prof) g.streamId g.seq g.start g.entry.norm g.prof.gen g.prof.gapMax with
  | .dup => (s.bump Reg.SFE_DUP).segDiscard i 7
  | .late => (s.bump Reg.SFE_LATE_SEQ).segDiscard i 8
  | .restart => (s.bump Reg.SFE_RESTART).admitHeader i true
  | .accept m => (s.addCnt Reg.SFE_SEQ_GAP m).admitHeader i false

/-- The checks before allocation, in order (R142, R147). -/
def State.admitSeg (s : State) (i : Nat) : State :=
  let g := s.seg i
  let p := g.prof
  let s := s.bump Reg.SFE_SEGS
  if g.withdrawn then s.segDiscard i 9
  else if s.flag Reg.SFE_CTRL_enable = false ∨ bit p.d0.toNat 0 = false then (s.bump Reg.SFE_BAD_PROFILE).segDiscard i 2
  else if isHostCodec g.codec then
    if p.hostEn then s.hostCodec i else (s.bump Reg.SFE_BAD_CODEC).segDiscard i 3
  else if p.codecOk g.codec = false then (s.bump Reg.SFE_BAD_CODEC).segDiscard i 3
  else if p.rateOk g.codec g.rate = false then (s.bump Reg.SFE_BAD_RATE).segDiscard i 4
  else if g.len = 0 then
    let t := s.admitOrder i
    t.bumpIf (decide ((t.seg i).st = .alloc) && !g.isEnd) Reg.SFE_EMPTY
  else if p.lenOk g.codec g.len = false then (s.bump Reg.SFE_BAD_LEN).segDiscard i 5
  else if p.maxSeg < g.len then (s.bump Reg.SFE_TOO_LONG).segDiscard i 6
  else match s.age g.entry.staleClass g.stamp g.capture with
    | .skew => ((s.bump Reg.SFE_CLOCK_SKEW).bump Reg.SFE_STALE_PARSE).sendResult i 1 0 false
    | .stale => (s.bump Reg.SFE_STALE_PARSE).sendResult i 1 0 false
    | .fresh => s.admitOrder i

/-! #### State cache and row region -/

/-- Lines of 2,048 bytes a region takes (R136). -/
def SfeProfile.lines (p : SfeProfile) : Nat := if 2048 < p.feBytes then 2 else 1

/-- Lines of the state cache. -/
def State.cacheLines (s : State) : Nat := s.fld Reg.SFE_STATE_CACHE_mib * 512

/-- Lines in use, those on their way from HBM among them. -/
def State.cacheUsed (s : State) : Nat := s.sfe.cache.foldl (fun n c => n + c.2) 0

/-- Lines that a slot has in the state cache. -/
def State.linesOf (s : State) (slot : Nat) : Nat := ((s.sfe.cache.find? (fun c => c.1 == slot)).map (·.2)).getD 0

/-- Whether a slot's region is in the state cache. -/
def State.cached (s : State) (slot : Nat) : Bool := s.sfe.cache.any (fun c => c.1 == slot) && !s.sfe.loading.contains slot

/-- Slots whose lines are in use by segments under way and cannot be written back. -/
def State.slotBusy (s : State) (slot : Nat) : Bool :=
  s.sfe.order.any (fun i => decide ((s.seg i).slot = slot))

/-- Write back lines, least recently used first, until `need` lines are free (R136); those of slot `keep` stay. -/
def State.makeRoom (s : State) (keep need : Nat) : Nat → State
  | 0 => s
  | n + 1 =>
    if s.cacheUsed + need ≤ s.cacheLines then s
    else
      match takeFirst (fun c => !s.slotBusy c.1 && c.1 != keep) s.sfe.cache with
      | none => s
      | some (_, rest) => (s.updSfe (fun e => { e with cache := rest })).makeRoom keep need n

/-- Lines a segment's slot needs beyond those it has. -/
def State.lineNeed (s : State) (i : Nat) : Nat := (s.seg i).prof.lines - s.linesOf (s.seg i).slot

/-- The state after making room for a segment's lines, and whether there is room. -/
def State.lineRoom (s : State) (i : Nat) : State × Bool :=
  let n := s.lineNeed i
  if n = 0 then (s, true)
  else
    let t := s.makeRoom (s.seg i).slot n s.sfe.cache.length
    (t, decide (t.cacheUsed + n ≤ t.cacheLines))

/-- Bytes a row of a model takes when it opens (R137). -/
def rowBytes (hdr : List Byte) (p : SfeProfile) : Nat :=
  let f := hdrRowFrames hdr
  64 + f * p.frameBytes + (if 2 ≤ p.levels then f / p.stride * p.frameBytes else 0)
    + (if 3 ≤ p.levels then f / (p.stride * p.stride) * p.frameBytes else 0) + hdrMaxSpans hdr * 32

/-- Bytes that a row of a segment's key takes. -/
def State.segRowBytes (s : State) (i : Nat) : Nat := rowBytes (s.model (s.seg i).model).hdr (s.seg i).prof

/-- Bytes of the row region in use: by open, closed and running rows, and by segments that have taken space for rows they will open. -/
def State.rowSpace (s : State) : Nat :=
  s.sfe.rows.cells.foldl (fun n c => if c.2.st = .done ∨ c.2.lease ≠ s.sfe.epoch then n else n + c.2.size) 0
    + s.sfe.segs.cells.foldl (fun n c => if c.2.st = .done then n else n + c.2.rowHold) 0

/-- Whether rows can open. -/
def State.rowFits (s : State) (bytes : Nat) : Bool := decide (s.rowSpace + bytes ≤ s.fld Reg.SFE_ROW_REGION_mib * 1048576)

/-- The other segments that hold a place in a row. -/
def State.holders (s : State) (r i : Nat) : List Nat := s.sfe.order.filter (fun j => j != i && (s.seg j).rowIn == some r)

/-- The open row of a segment's key that takes a further span of its slot (R148): one with room beside the places held, and no span of the slot there or to come. -/
def State.openRow (s : State) (i : Nat) : Option Nat :=
  let g := s.seg i
  (s.sfe.rows.cells.find? (fun c => decide (c.2.st = .opened) && decide (c.2.lease = s.sfe.epoch) && decide (c.2.model = g.model) && decide (c.2.epoch = g.epoch)
    && decide (c.2.cls = g.entry.cls) && decide (c.2.spans.length + (s.holders c.1 i).length < c.2.maxSpans)
    && decide (c.2.frames < c.2.rowFrames) && c.2.job.isNone && c.2.spans.all (fun p => p.slot != g.slot)
    && (s.holders c.1 i).all (fun j => (s.seg j).slot != g.slot))).map (·.1)

/-- Whether a segment finds row space for a span: an open row of its key, space it holds, or room for a row. -/
def State.rowReady (s : State) (i : Nat) : Bool :=
  (s.openRow i).isSome || decide ((s.seg i).rowHold ≠ 0) || s.rowFits (s.segRowBytes i)

/-- The segment that waits for its line and its row space. -/
def State.waitingSeg (s : State) : Option Nat := (s.sfe.segs.cells.find? (fun c => decide (c.2.st = .alloc))).map (·.1)

/-! #### The feature pipeline -/

/-- A μ-law byte as its 14-bit linear value shifted left 2 (R133 stage 1). -/
def ulaw (b : Byte) : Int :=
  let u := 255 - b.toNat
  let m : Int := (((2 * (u % 16) + 33) <<< (u / 16 % 8) : Nat) : Int) - 33
  (if 128 ≤ u then -m else m) * 4

/-- An A-law byte as its 13-bit linear value shifted left 3. -/
def alaw (b : Byte) : Int :=
  let a := b.toNat ^^^ 0x55
  let e := a / 16 % 8
  let m : Int := ((if e = 0 then 2 * (a % 16) + 1 else (2 * (a % 16) + 33) <<< (e - 1) : Nat) : Int)
  (if 128 ≤ a then m else -m) * 8

/-- Signed 16-bit numbers of a byte list. -/
def words16 (big : Bool) : Nat → List Byte → List Int
  | 0, _ => []
  | n + 1, l =>
    (BitVec.ofNat 16 (if big then beNat (fit l 2) else leNat (fit l 2))).toInt :: words16 big n (l.drop 2)

/-- The linear samples of a payload (R131, R133 stage 1). -/
def decodeSamples (codec : Nat) (b : List Byte) : List Int :=
  if codec = 1 then words16 true (b.length / 2) b
  else if codec = 2 then words16 false (b.length / 2) b
  else if codec = 3 then b.map ulaw else b.map alaw

/-- The sample rate of a code in Hz. -/
def rateHz (r : Nat) : Nat := if r = 1 then 8000 else if r = 2 then 16000 else if r = 3 then 32000 else 48000

/-- Samples of a payload of `n` bytes. -/
def sampleCount (codec n : Nat) : Nat := if isPcm codec then n / 2 else n

/-- Samples at the working rate (R146). -/
def workCount (rate wr n : Nat) : Nat := n * wr / rateHz rate

/-- A list of numbers brought to a length, with zeros. -/
def fitInts (l : List Int) (n : Nat) : List Int := (l.take n) ++ List.replicate (n - l.length) 0

/-- Division by a power of two, to nearest with ties to even (R133). -/
def rneShift (x : Int) (n : Nat) : Int :=
  if n = 0 then x
  else
    let q := x >>> n
    let r := x - q * 2 ^ n
    let half : Int := 2 ^ (n - 1)
    if half < r ∨ (r = half ∧ q % 2 = 1) then q + 1 else q

/-- Division to nearest with ties to even. -/
def rneDiv (x d : Int) : Int :=
  let q := Int.fdiv x d
  let r := 2 * (x - q * d)
  if d < r ∨ (r = d ∧ q % 2 = 1) then q + 1 else q

/-- An input sample of the resampler: a position of the segment, before it a sample of the history, and before that an older one, which is zero after a restart (R135, R146). -/
def tapSample (hist x : List Int) (k : Int) : Int :=
  if 0 ≤ k then (x[k.toNat]?).getD 0
  else if -(hist.length : Int) ≤ k then (hist[(k + hist.length).toNat]?).getD 0
  else if hist.all (fun v => v == 0) then 0 else Config.olderSample hist (-k - hist.length).toNat

/-- The steps of a conversion: 2, 3, 4 or 6. -/
def firSteps (ir wr : Nat) : Nat := if ir < wr then wr / ir else ir / wr

/-- Taps per phase of the polyphase FIR (R133 stage 2). -/
def firTaps (m : Nat) : Nat := if m = 2 then 32 else if m = 6 then 64 else 48

/-- An output of the polyphase FIR between two rates (R133 stage 2): output `n` of a segment, or the last one before it for -1. Going up, each output takes one phase; going down, an output takes every phase of the samples up to the last of its step. -/
def firOut (ir wr : Nat) (hist x : List Int) (n : Int) : Int :=
  let m := firSteps ir wr
  let taps := List.range (firTaps m)
  let sum : Int := if ir < wr then
      (taps.map (fun j => Config.firCoef ir wr (n % m).toNat j * tapSample hist x (n / m - j))).sum
    else ((List.range m).map (fun (p : Nat) => (taps.map (fun j =>
      Config.firCoef ir wr p j * tapSample hist x ((n + 1) * m - 1 - (j * m + p : Nat)))).sum)).sum
  clamp (-32768) 32767 (rneShift sum (Config.firShift ir wr))

/-- The samples at the working rate (R133 stage 2). -/
def atWorkRate (rate wr : Nat) (hist x : List Int) : List Int :=
  if rateHz rate = wr then x
  else (List.range (workCount rate wr x.length)).map (fun n => firOut (rateHz rate) wr hist x n)

/-- The sample at the working rate just before a segment, which the history gives (R135). -/
def lastSample (rate wr : Nat) (hist : List Int) : Int :=
  if rateHz rate = wr then hist.getLastD 0 else firOut (rateHz rate) wr hist [] (-1)

/-- Saturate to 32 bits. -/
def sat32 (x : Int) : Int := clamp (-2147483648) 2147483647 x

/-- Mean and scale of a bin in a normalisation table (R140). -/
def State.normEntry (s : State) (tbl bin : Nat) : Int × Int :=
  let w := (s.reg (Reg.SFE_NORM (tbl * 128 + bin))).toNat
  ((BitVec.ofNat 16 (bits w 15 0)).toInt, (BitVec.ofNat 16 (bits w 31 16)).toInt)

/-- y = (x − mean) × scale in Q6.10. -/
def normBin (x mean scale : Int) : Int := sat32 (rneShift ((x - mean) * scale) 10)

/-- One step of running normalisation of a bin (R140): its new state and y. -/
def runBin (k : Nat) (st : Int × Int) (x : Int) : (Int × Int) × Int :=
  let mean := sat32 (st.1 + ((x - st.1) >>> k))
  let msq := sat32 (st.2 + ((rneShift (x * x) 10 - st.2) >>> k))
  let var := msq - rneShift (mean * mean) 10
  let var := if var < 1 then 1 else var
  ((mean, msq), normBin x mean (Config.rsqrtScale var))

/-- Running state of a bin at a restart (R140): msq = mean² + 1 / scale². -/
def initBin (e : Int × Int) : Int × Int :=
  (e.1, sat32 (rneShift (e.1 * e.1) 10 + (if e.2 = 0 then Config.invSquareOfZero else rneDiv 1073741824 (e.2 * e.2))))

/-- A region as a restart leaves it (R146). -/
def State.freshRegion (s : State) (p : SfeProfile) (r : Region) : Region :=
  { r with
    pendingN := 0, frames := 0, ph1 := 0, ph2 := 0
    hist := List.replicate 32 0, carry := List.replicate (p.frameLen - p.hop) 0
    norm := if p.norm = 2 then (List.range p.bins).map (fun b => initBin (s.normEntry p.normTbl b)) else []
    acc1 := List.replicate p.bins 0, acc2 := List.replicate p.bins 0 }

/-- The normalised frame and the running state after it (R140). -/
def State.normalise (s : State) (p : SfeProfile) (st : List (Int × Int)) (x : List Int) : List Int × List (Int × Int) :=
  if p.norm = 0 then (x, st)
  else if p.norm = 1 then
    ((List.range x.length).map (fun b =>
      let e := s.normEntry p.normTbl b
      normBin (x[b]?.getD 0) e.1 e.2), st)
  else
    let l := (List.range x.length).map (fun b => runBin p.k (st[b]?.getD (0, 0)) (x[b]?.getD 0))
    (l.map (·.2), l.map (·.1))

/-- Output codes of a frame (R133 stage 11). -/
def SfeProfile.codes (p : SfeProfile) (y : List Int) : List Int :=
  y.map (fun v => if p.q16 then clamp (-32768) 32767 (rneShift v p.outShift) else clamp (-128) 127 (rneShift v p.outShift))

/-- A level's accumulators with one more frame (R141): of each bin the maximum or the sum of the run so far. -/
def SfeProfile.gather (p : SfeProfile) (ph : Nat) (acc f : List Int) : List Int :=
  (List.range p.bins).map (fun b =>
    let v := (f[b]?).getD 0
    let a := (acc[b]?).getD 0
    if ph = 0 then v else if bit p.d0.toNat 13 then max a v else a + v)

/-- Add a frame to a level's accumulators, whose phase counts the run so far; a full run gives a frame of the next level, by mean or by maximum, and empties them (R141). -/
def SfeProfile.pyramid (p : SfeProfile) (ph : Nat) (acc f : List Int) : Option (List Int) × Nat × List Int :=
  let a := p.gather ph acc f
  if ph + 1 = p.stride then (some (if bit p.d0.toNat 13 then a else a.map (fun v => rneDiv v p.stride)), 0, List.replicate p.bins 0)
  else (none, ph + 1, a)

/-- A Q1.15 or Q0.15 number in steps of 2^-15. -/
def q15 (v : Nat) : Int := if v < 0x8000 then v else Config.q15Top v

/-- Pre-emphasis of the samples of a stream, from the sample before them (R133 stage 3). -/
def preEmphasis (a : Nat) : Int → List Int → List Int
  | _, [] => []
  | prev, x :: r =>
    (if a = 0 then x else clamp (-32768) 32767 (rneShift (x * 32768 - q15 a * prev) 15)) :: preEmphasis a x r

/-- The pre-emphasis factor of a profile. -/
def SfeProfile.preemph (p : SfeProfile) : Nat := bits p.d3.toNat 15 0

/-- An entry of the profile's window table (R420). -/
def State.winEntry (s : State) (p : SfeProfile) (n : Nat) : Nat :=
  bits (s.reg (Reg.SFE_WIN (bits p.d1.toNat 27 25 * 512 + n / 2))).toNat (16 * (n % 2) + 15) (16 * (n % 2))

/-- A mel weight (R420). -/
def State.melWeight (s : State) (n : Nat) : Nat :=
  if 16384 ≤ n then Config.pastTable n else bits (s.reg (Reg.SFE_MELW (n / 2))).toNat (16 * (n % 2) + 15) (16 * (n % 2))

/-- A bin of the FFT of a frame, zero-padded to 256, 512 or 1,024 points, by the size's code (R133 stage 6): each part is the sum over the samples with its twiddle factors, scaled and rounded once, and saturated to 32 bits. -/
def fftBin (size : Nat) (x : List Int) (k : Nat) : Int × Int :=
  let n := 256 <<< size
  let w (i : Nat) : Int × Int := Config.twiddle n (i * k % n)
  let part (pick : Int × Int → Int) : Int :=
    sat32 (rneShift ((List.range x.length).map (fun i => (x[i]?).getD 0 * pick (w i))).sum (Config.fftShift n))
  (part (·.1), part (·.2))

/-- The power of a frequency bin (R133 stage 7), of bins 0 to fft / 2. -/
def binPower (size : Nat) (f : List (Int × Int)) (k : Nat) : Nat :=
  if 128 <<< size < k then Config.pastTable k
  else
    let c := (f[k]?).getD (0, 0)
    (c.1 * c.1 + c.2 * c.2).toNat

/-- The sum of a mel bin (R133 stage 8), rounded once; a count of 0 in its six bits stands for 64. -/
def State.melSum (s : State) (p : SfeProfile) (f : List (Int × Int)) (b : Nat) : Nat :=
  let w := (s.reg (Reg.SFE_MEL (bits p.d2.toNat 11 8 * 128 + b))).toNat
  let n := if bits w 14 9 = 0 then 64 else bits w 14 9
  let sum := (List.range n).foldl (fun t j => t + binPower (bits p.d1.toNat 23 22) f (bits w 8 0 + j) * s.melWeight (bits w 29 16 + j)) 0
  min (rneShift sum 16).toNat (2 ^ 64 - 1)

/-- The top 32 bits of a 64-bit mel sum (R133 stage 9 with log_en 0; DEDUCED, log 180). -/
def melTop (m : Nat) : Int := ((m / 2 ^ 32 : Nat) : Int)

/-- The features of a frame of samples before normalisation (R133 stages 5 to 9). -/
def State.frameFeatures (s : State) (p : SfeProfile) (x : List Int) : List Int :=
  let size := bits p.d1.toNat 23 22
  let y := (List.range x.length).map (fun n => clamp (-32768) 32767 (rneShift ((x[n]?).getD 0 * q15 (s.winEntry p n)) 15))
  let f := (List.range ((128 <<< size) + 1)).map (fftBin size y)
  (List.range p.bins).map (fun b =>
    let m := s.melSum p f b
    sat32 (if bit p.d1.toNat 24 then Config.melLog m else melTop m))

/-- The values of one raw frame as they enter at stage 10. -/
def SfeProfile.rawFrame (p : SfeProfile) (codec : Nat) (b : List Byte) : List Int :=
  (if codec = 0x21 then words16 true p.bins b else (fit b p.bins).map (·.toInt)).map (fun v => sat32 (v * 2 ^ p.outShift))

/-- How many frames a segment yields, and whether one more is completed with zeros at the stream's end (R146, R147). -/
def Seg.plan (g : Seg) (r : Region) : Nat × Bool :=
  if isRaw g.codec then (g.len / g.prof.rawBytes g.codec, g.isEnd && decide (r.pendingN ≠ 0))
  else
    let n := r.pendingN + workCount g.rate g.prof.wrate (sampleCount g.codec g.len)
    (n / g.prof.hop, g.isEnd && decide (n % g.prof.hop ≠ 0))

/-- A segment's own samples at the working rate (R133 stages 1 and 2). -/
def Seg.samples (g : Seg) (r : Region) (payload : List Byte) : List Int :=
  if isRaw g.codec then [] else atWorkRate g.rate g.prof.wrate r.hist (decodeSamples g.codec payload)

/-- The samples of the stream a segment works on: the carry, then its own samples after pre-emphasis. -/
def Seg.stream (g : Seg) (r : Region) (payload : List Byte) : List Int :=
  r.carry ++ preEmphasis g.prof.preemph (lastSample g.rate g.prof.wrate r.hist) (g.samples r payload)

/-- Payload bytes that must have arrived for frame `j` of a segment. -/
def Seg.bytesFor (g : Seg) (r : Region) (j : Nat) : Nat :=
  if isRaw g.codec then (j + 1) * g.prof.rawBytes g.codec
  else
    let need := (j + 1) * g.prof.hop - r.pendingN
    min g.len ((need * rateHz g.rate + g.prof.wrate - 1) / g.prof.wrate * (if isPcm g.codec then 2 else 1))

/-- The region after the last frame of a segment: history, carry and pending count (R135, R146). -/
def Seg.leave (g : Seg) (r : Region) (payload : List Byte) : Region :=
  if isRaw g.codec then { r with pendingN := if g.isEnd then 0 else r.pendingN }
  else
    let all := g.stream r payload
    let (own, extra) := g.plan r
    let n := r.pendingN + workCount g.rate g.prof.wrate (sampleCount g.codec g.len)
    let x := decodeSamples g.codec payload
    { r with
      hist := ((r.hist ++ x).drop ((r.hist ++ x).length - 32))
      carry := all.drop (own * g.prof.hop)
      pendingN := if extra then 0 else n % g.prof.hop }

/-- The most rows that a segment's frames can open. -/
def State.rowsWanted (s : State) (i : Nat) : Nat :=
  let g := s.seg i
  let f := hdrRowFrames (s.model g.model).hdr
  let own := if isRaw g.codec then g.len / g.prof.rawBytes g.codec
    else (g.prof.hop - 1 + workCount g.rate g.prof.wrate (sampleCount g.codec g.len)) / g.prof.hop
  (own + b2n g.isEnd + f - 1) / f

/-- The row space a segment takes (R142): a place in an open row of its key where one has room, and space for the other rows it may open. -/
def State.holdRows (s : State) (i : Nat) : State :=
  let n := s.rowsWanted i
  match s.openRow i with
  | some r => if n = 0 then s else s.updSeg i (fun g => { g with rowIn := some r, rowHold := (n - 1) * s.segRowBytes i })
  | none => s.updSeg i (fun g => { g with rowHold := n * s.segRowBytes i })

/-- Whether the row space a segment takes is there. -/
def State.spaceThere (s : State) (i : Nat) : Bool :=
  let n := s.rowsWanted i - b2n (s.openRow i).isSome
  decide (n = 0) || s.rowFits (n * s.segRowBytes i)

/-- Give a segment its row space and its lines; those not in the cache are on their way from HBM (R136, R142). -/
def State.takeLine (s : State) (i : Nat) : State :=
  let g := s.seg i
  let known := s.sfe.cache.any (fun c => c.1 == g.slot)
  let s := s.holdRows i
  let s := (s.updSfe (fun e => { e with
    order := e.order ++ [i]
    cache := e.cache.filter (fun c => c.1 != g.slot) ++ [(g.slot, max g.prof.lines (s.linesOf g.slot))]
    loading := if known then e.loading else e.loading ++ [g.slot] })).segClassified i
  if s.cached g.slot then s.updSeg i (fun g => { g with st := .features })
  else (s.updSeg i (fun g => { g with st := .line })).bumpIf (!known) Reg.SFE_STATE_MISS

/-- SEGMENT_ALLOCATE (R142): the waiting segment takes its state cache line and its row space, or goes on waiting; once the front end is off it is discarded (the edge of 06). -/
def execSegmentAllocate (s : State) : Out :=
  .next (s.whenRuns (some 2) (fun s => match s.waitingSeg with
    | none => s
    | some i =>
      if s.flag Reg.SFE_CTRL_enable = false then ((s.bump Reg.SFE_BAD_PROFILE).segDiscard i 2).segClassified i
      else if s.spaceThere i then
        let (t, ok) := s.lineRoom i
        if ok then t.takeLine i else t
      else s))

/-- STATE_LINE_LOAD (R136): the slot's lines are in the cache, and its segments go on. -/
def execStateLineLoad (slot : Fin 1048576) (s : State) : Out :=
  .next (s.whenRuns (some 2) (fun s => if s.sfe.loading.contains slot.val then
      let s := s.updSfe (fun e => { e with loading := e.loading.filter (fun k => k != slot.val) })
      s.sfe.order.foldl (fun s j => if (s.seg j).slot = slot.val ∧ (s.seg j).st = .line then
        s.updSeg j (fun g => { g with st := .features }) else s) s
    else s))

/-! #### Rows -/

/-- The mark word of R150. -/
def Seg.sampleId (g : Seg) (part : Nat) : DWord :=
  BitVec.ofNat 64 (g.streamId.toNat <<< 32 ||| g.seq.toNat <<< 16 ||| g.idx <<< 11 ||| part)

/-- Whether a row is full (R149). -/
def Row.full (r : Row) : Bool := decide (r.maxSpans ≤ r.spans.length) || decide (r.rowFrames ≤ r.frames)

/-- Close a row. -/
def State.closeIfFull (s : State) (r : Nat) : State :=
  if (s.row r).full then s.updRow r (fun x => { x with st := if x.st = .opened then .closed else x.st }) else s

/-- Open a row of a segment's key (R137, R148, R149): it is offered once its first span is placed. -/
def State.newRow (s : State) (i : Nat) : Nat × State :=
  let g := s.seg i
  let h := (s.model g.model).hdr
  let (id, s) := s.freshId
  (id, ((s.updRow id (fun _ => {
    model := g.model, epoch := g.epoch, cls := g.entry.cls, openAt := s.now, size := rowBytes h g.prof, lease := s.sfe.epoch,
    rowFrames := hdrRowFrames h, maxSpans := hdrMaxSpans h, st := .opened })).updSeg i
      (fun g => { g with rowHold := g.rowHold - s.segRowBytes i })).bump Reg.SFE_ROWS)

/-- Place the rest of a segment's frames as a span (R148 to R150): in the open row of its key, or in a new one; what does not fit continues in the next row. `left` frames remain; `a1` and `a2` are the frames the accumulators of the higher levels hold. -/
def State.placeSpan (s : State) (i left a1 a2 : Nat) : State :=
  let g := s.seg i
  let (r, opened, s) := match s.openRow i with
    | some r => (r, false, s)
    | none => let (r, s) := s.newRow i; (r, true, s)
  let row := s.row r
  let n := min left (row.rowFrames - row.frames)
  let n1 := if 2 ≤ g.prof.levels then (a1 + n) / g.prof.stride else 0
  let n2 := if 3 ≤ g.prof.levels then (a2 + n1) / g.prof.stride else 0
  let sp : Span := {
    seg := i, start := row.frames, len := n, reset := g.restart && decide (g.parts = 0), contIn := decide (g.parts ≠ 0),
    contOut := decide (n < left), final := g.isEnd && decide (n = left), slot := g.slot, sampleId := g.sampleId g.parts,
    l1Start := row.frames1, l1Len := n1, l2Start := row.frames2, l2Len := n2 }
  let s := s.updRow r (fun x => { x with
    spans := x.spans ++ [sp], frames := x.frames + n, frames1 := x.frames1 + n1, frames2 := x.frames2 + n2 })
  let s := (s.updSeg i (fun g => { g with parts := g.parts + 1, rowIn := none })).bump Reg.SFE_SPANS
  let s := s.closeIfFull r
  if opened then s.offerRow r else s

/-- The row and the place of the last span of a segment. -/
def State.lastSpan (s : State) (i : Nat) : Option (Nat × Nat) :=
  s.sfe.rows.cells.foldl (fun acc c =>
    (List.range c.2.spans.length).foldl (fun acc k =>
      if ((c.2.spans[k]?).map (·.seg)) = some i ∧ c.2.job.isNone = true then some (c.1, k) else acc) acc) none

/-- Frames of a segment that its spans placed so far hold room for. -/
def State.placedFrames (s : State) (i : Nat) : Nat :=
  s.sfe.rows.cells.foldl (fun n c => c.2.spans.foldl (fun n p => if p.seg = i ∧ c.2.job.isNone = true then n + p.len else n) n) 0

/-- Put a frame and the higher-level frames it completes into the segment's last span. -/
def State.fillSpan (s : State) (i : Nat) (f : List Int) (f1 f2 : Option (List Int)) : State :=
  match s.lastSpan i with
  | none => s
  | some (r, k) =>
    s.updRow r (fun x => { x with
      spans := modifyAt x.spans k (fun p => { p with
        codes := p.codes ++ [f], codes1 := p.codes1 ++ f1.toList, codes2 := p.codes2 ++ f2.toList }) })

/-- A segment has gone through the pipeline: its region takes its carry, the row space it did not use is free, and the next segment of its slot may go on (R136, R146). -/
def State.leaveSfe (s : State) (i : Nat) (r : Region) : State :=
  let g := s.seg i
  let s := ((s.putRegion i (g.leave r (s.segPayload i).1)).updSfe (fun e => { e with order := e.order.filter (· != i) })).updSeg i
    (fun g => { g with rowIn := none, rowHold := 0 })
  let s := if g.len = 0 ∧ g.isEnd = false then s else s.touch i
  if g.st ≠ .done ∧ g.parts = 0 then s.segDiscard i 9 else s.updSeg i (fun g => { g with st := if g.st = .done then .done else .packed })

/-- The region a segment works on: after a restart it is reinitialised before the segment's first frame (R145, R146). -/
def State.workRegion (s : State) (i : Nat) : Region :=
  let g := s.seg i
  let r := s.region g.slot g.prof
  if g.restart && decide (g.made = 0) then s.freshRegion g.prof r else r

/-- How many frames a segment yields, one completed with zeros at the stream's end included. -/
def State.frameTotal (s : State) (i : Nat) : Nat :=
  let (own, extra) := (s.seg i).plan (s.workRegion i)
  own + b2n extra

/-- Whether the payload for a segment's next frame is there. -/
def State.frameThere (s : State) (i : Nat) : Bool :=
  let g := s.seg i
  let r := s.workRegion i
  decide ((if g.made < (g.plan r).1 then g.bytesFor r g.made else g.len) ≤ (s.segPayload i).2)

/-- One level-0 frame of a segment (R133, R140, R141, R146 to R150). -/
def State.makeFrame (s : State) (i : Nat) : State :=
  let g := s.seg i
  let p := g.prof
  let q := s.workRegion i
  let r := q
  let (payload, got) := s.segPayload i
  let own := (g.plan r).1
  let total := s.frameTotal i
  if total = 0 then
    if got < g.len then s else s.leaveSfe i r
  else if s.frameThere i = false then s
  else if s.placedFrames i ≤ g.made ∧ s.rowReady i = false then s
  else
    let x := if isRaw g.codec && decide (g.made < own) then p.rawFrame g.codec (payload.drop (g.made * p.rawBytes g.codec))
      else s.frameFeatures p (fitInts ((g.stream r payload).drop (g.made * p.hop)) p.frameLen)
    let (y, norm) := s.normalise p r.norm x
    let f := p.codes y
    let (f1, ph1, acc1) := if 2 ≤ p.levels then p.pyramid r.ph1 r.acc1 f else (none, r.ph1, r.acc1)
    let (f2, ph2, acc2) := match f1 with
      | some l => if 3 ≤ p.levels then p.pyramid r.ph2 r.acc2 l else (none, r.ph2, r.acc2)
      | none => (none, r.ph2, r.acc2)
    let r : Region := { r with norm := norm, ph1 := ph1, ph2 := ph2, acc1 := acc1, acc2 := acc2, frames := r.frames + 1 }
    let s := if s.placedFrames i ≤ g.made then s.placeSpan i (total - g.made) q.ph1 q.ph2 else s
    let s := s.fillSpan i f f1 f2
    let s := ((s.putRegion i r).touch i).updSeg i (fun g => { g with made := g.made + 1 })
    if g.made + 1 = total then s.leaveSfe i r else s

/-- A withdrawn segment that has placed nothing is discarded in its turn (R118); a restart that it brought has reinitialised its region (R145). -/
def State.dropWithdrawn (s : State) (i : Nat) : State :=
  let s := if (s.seg i).restart then s.putRegion i (s.workRegion i) else s
  (s.updSfe (fun e => { e with order := e.order.filter (· != i) })).segDiscard i 9

/-- Whether a segment is the one its slot's work goes on with (R136). -/
def State.slotTurn (s : State) (i : Nat) : Bool :=
  (decide ((s.seg i).st = .features) || decide ((s.seg i).st = .done))
    && decide (s.sfe.order.find? (fun j => decide ((s.seg j).slot = (s.seg i).slot)) = some i)

/-- FEATURE_FRAME (R133, R136, R148): the next frame of a segment, in the order in which its slot's segments arrived; a segment whose record has gone out early still runs to its end. -/
def execFeatureFrame (seg : Nat) (s : State) : Out :=
  .next (s.whenRuns (some 2) (fun s =>
    let g := s.seg seg
    if s.slotTurn seg = false then s
    else if g.withdrawn && decide (g.parts = 0) then s.dropWithdrawn seg
    else s.makeFrame seg))

/-- Whether a segment under way waits for a further row: no row space is left beyond what it took (R142). -/
def State.rowStarved (s : State) : Bool :=
  s.sfe.order.any (fun i => s.slotTurn i && !(s.seg i).withdrawn && decide ((s.seg i).made < s.frameTotal i) && s.frameThere i
    && decide (s.placedFrames i ≤ (s.seg i).made) && !s.rowReady i)

/-- SEGMENT_ADMISSION (R142): the record at the head of the queue is checked; while an admitted segment waits for its line or its row space, later records wait. -/
def execSegmentAdmission (s : State) : Out :=
  .next (s.whenRuns (some 2) (fun s => if s.sfe.segs.cells.any (fun c => decide (c.2.st = .alloc)) || s.rowStarved then s else
    match s.sfe.queue with
    | [] => s
    | i :: rest =>
      let s := (s.updSfe (fun e => { e with queue := rest })).admitSeg i
      if (s.seg i).st = .alloc then s else s.segClassified i))

/-- Whether a row may be taken by Bay: closed, or past its pack wait (R149). -/
def State.rowTakable (s : State) (r : Nat) : Bool :=
  let row := s.row r
  decide (row.st = .closed)
    || (decide (row.st = .opened) && (row.full || s.passed row.openAt (s.fld (Reg.SFE_PACK_WAIT_wait_ns row.cls))))

/-- PACK_WAIT_END (R149): at the end of its class's pack wait an open row closes. -/
def execPackWaitEnd (row : Nat) (s : State) : Out :=
  .next (s.whenRuns (some 2) (fun s => if (s.row row).st = .opened ∧ s.rowTakable row = true then s.updRow row (fun x => { x with st := .closed }) else s))

end Sys2Proof.Machine
end

