-- ==== Sys2Proof/Machine/Remote.lean ====
section
/-! DEFINITION. Results and verdicts that cross chips: span notices, the reply chip's records, verdict records, and the records of a row's spans (R125, R139, R293, R309 to R311). -/

namespace Sys2Proof.Machine

/-! #### Control records (R293) -/

/-- A PASS_NOTICE: from the first payload byte on, the pass key, the calibration epoch, the program and its generation (the order is a DESIGN CHOICE, log 187). -/
def passNotice (dst prog gen passKey epoch : Nat) : OslRec :=
  controlRec dst 1 0 (BitVec.ofNat 128 ((passKey % 2 ^ 32) <<< 96 ||| (epoch % 65536) <<< 80 ||| (prog % 16) <<< 76 ||| (gen % 256) <<< 68))

/-- The two records of a SPAN_NOTICE: a result record without its result, with sender_id, reply_profile and ingress_ts. -/
def spanNotice (dst prog gen : Nat) (x : Record) (sender : Word) (profile : Nat) (ts : DWord) : List OslRec :=
  let low (part n : Nat) : Nat := part <<< 36 ||| prog <<< 32 ||| (gen % 16) <<< 28 ||| n
  [controlRec dst 2 (low 0 (bits ts.toNat 27 0))
      (BitVec.ofNat 128 (x.streamId.toNat <<< 96 ||| x.bundleId.toNat <<< 64 ||| x.cookie.toNat)),
   controlRec dst 2 (low 1 (bits ts.toNat 31 28 <<< 12 ||| profile))
      (BitVec.ofNat 128 ((x.seq <<< 16 ||| x.segIndex <<< 11 ||| x.rstat) <<< 96 ||| x.model <<< 80 ||| x.epoch <<< 64
        ||| sender.toNat <<< 32 ||| bits ts.toNat 63 32))]

/-- A VERDICT; `clocked` says that it was raised at the clocked edge, so that it stomps (R119, R125). -/
def verdictNotice (dst : Nat) (b : Bundle) (cause : Cause) (clocked : Bool) (cond first : Nat) : OslRec :=
  controlRec dst 3 (b2n clocked <<< 32 ||| cause.code <<< 24 ||| cond <<< 16 ||| first <<< 8 ||| b.segCount)
    (BitVec.ofNat 128 (b.ingressTs.toNat <<< 64 ||| b.sender.toNat <<< 32 ||| b.bundleId.toNat))

/-- The reply chips of a program (R310). -/
def State.replyChips (s : State) (p : Nat) : List Nat :=
  let e := s.prog p
  ((List.range 2).flatMap (fun i =>
    (if bit (e.word (2 + i)) 15 then [s.progChip e (bits (e.word (2 + i)) 14 0)] else [])
      ++ (if bit (e.word (2 + i)) 31 then [s.progChip e (bits (e.word (2 + i)) 30 16)] else []))).eraseDups

/-- Take an arrived control record of a kind. -/
def State.takeArrived (s : State) (which kind : Nat) : Option (OslRec × State) :=
  match s.osl.arrived[which]? with
  | some r => if r.kind = kind then some (r, s.updOsl (fun o => { o with arrived := o.arrived.eraseIdx which })) else none
  | none => none

/-! #### At a reply chip -/

/-- The bundle of another chip, by its stamp, its sender and its identifier. -/
def State.remoteBundle (s : State) (ts : DWord) (sender id : Word) : Option Nat :=
  (s.erp.bundles.cells.find? (fun c => c.2.remote && decide (c.2.ingressTs = ts) && decide (c.2.sender = sender)
    && decide (c.2.bundleId = id))).map (·.1)

/-- The half of a result flit that is the result (R217). -/
def resultHalf (hdr : List Byte) (f : Flit) : DWord := if hdrOutSel hdr then (f >>> 64).setWidth 64 else f.setWidth 64

/-- Pair notices with result flits, in mark order (R310). -/
def State.pairProg (s : State) (p : Nat) : Nat → State
  | 0 => s
  | n + 1 =>
    match (s.prog p).notices with
    | [] => s
    | x :: rest =>
      if x.whole = false then s
      else if x.rstat ≠ 0 then
        ((s.updProg p (fun e => { e with notices := rest })).sendResult x.seg x.rstat 0 false).pairProg p n
      else match (s.prog p).results with
        | [] => s
        | (f, w) :: fr =>
          ((s.updProg p (fun e => { e with notices := rest, results := fr })).sendResult x.seg 0
            (resultHalf (s.model (s.prog p).handle).hdr f) w).pairProg p n

/-- A whole notice: its bundle and its segment record at this chip. -/
def State.openNotice (s : State) (a b : OslRec) : Nat × State :=
  let ts : DWord := BitVec.ofNat 64 (bits b.data.toNat 31 0 <<< 32 + bits b.hdr.toNat 15 12 <<< 28 + bits a.hdr.toNat 27 0)
  let sender : Word := BitVec.ofNat 32 (bits b.data.toNat 63 32)
  let bid : Word := BitVec.ofNat 32 (bits a.data.toNat 95 64)
  let (k, s) := match s.remoteBundle ts sender bid with
    | some k => (k, s)
    | none =>
      let (k, s) := s.freshId
      (k, s.updBundle k (fun _ => { port := 16, bundleId := bid, sender := sender, ingressTs := ts, remote := true, key := k }))
  let (i, s) := s.freshId
  let cookie := bits a.data.toNat 63 0
  (i, s.updSeg i (fun _ => {
    bundle := k, idx := bits b.data.toNat 111 107, streamId := BitVec.ofNat 32 (bits a.data.toNat 127 96)
    seq := BitVec.ofNat 16 (bits b.data.toNat 127 112), stamp := ts, epoch := bits b.data.toNat 79 64
    model := bits b.data.toNat 95 80, st := .packed
    entry := ⟨[0, 0, 0, BitVec.ofNat 32 (bits b.hdr.toNat 11 0), 0, 0, BitVec.ofNat 32 (bits cookie 31 0), BitVec.ofNat 32 (bits cookie 63 32)]⟩ }))

/-- SPAN_NOTICE (R310): the first record of a pair waits for its second; a whole notice is paired with result flits. -/
def execSpanNotice (which : Nat) (s : State) : Out :=
  .next (match s.takeArrived which 2 with
    | none => s
    | some (r, s) =>
      let p := bits r.hdr.toNat 35 32
      if bit r.hdr.toNat 36 = false then s.updProg p (fun e => { e with notices := e.notices ++ [{ first := r }] })
      else
        match (s.prog p).notices.find? (fun x => !x.whole) with
        | none => s
        | some x =>
          let (i, s) := s.openNotice x.first r
          let k := (s.prog p).notices.findIdx (fun x => !x.whole)
          let s := s.updProg p (fun e => { e with notices := modifyAt e.notices k (fun x =>
            { x with whole := true, rstat := bits r.data.toNat 103 96, seg := i }) })
          s.pairProg p (s.prog p).notices.length)

/-- VERDICT (R125, R126, R310): the verdict is applied to this chip's records of the bundle, and a bad one of the clocked edge stomps at this instant; without any record it is ignored, and after VERDICT_LOST it is counted late. -/
def execVerdict (which : Nat) (s : State) : Out :=
  .next (match s.takeArrived which 3 with
    | none => s
    | some (r, s) =>
      match s.remoteBundle (BitVec.ofNat 64 (bits r.data.toNat 127 64)) (BitVec.ofNat 32 (bits r.data.toNat 63 32))
          (BitVec.ofNat 32 (bits r.data.toNat 31 0)) with
      | none => s
      | some k =>
        match (s.bundle k).verdict with
        | some .verdictLost => s.bump Reg.ERP_VERDICT_LATE
        | some _ => s
        | none =>
          let c : Cause := if bits r.hdr.toNat 31 24 = 1 then .fcsBad else if bits r.hdr.toNat 31 24 = 2 then .truncated else .none
          let s := s.updBundle k (fun b => { b with
            rcond := bits r.hdr.toNat 17 16, touched := bit r.hdr.toNat 19, rfirst := bits r.hdr.toNat 15 8, segCount := bits r.hdr.toNat 7 0 })
          (if c.bad && bit r.hdr.toNat 32 then s.stompBundle k else s).applyVerdict k c)

/-! #### At the home chip -/

/-- Send a bundle's verdict to a chip, with STATE_TOUCHED where a segment of the bundle wrote its state slot (R118, R125, R310). -/
def State.sendVerdictTo (s : State) (bi chip : Nat) : State :=
  let b := s.bundle bi
  match b.verdict with
  | none => s
  | some c =>
    let (cond, fd) := s.bundleCond b
    let clocked := ((b.frame.bind (fun f => (s.frame f).verdict)).map (·.2)).getD false
    s.oslSubmit none (verdictNotice chip b c clocked (cond ||| 8 * b2n b.touched) fd)

/-- The programs of which a bundle has a span in a row (R310). -/
def State.bundleProgs (s : State) (bi : Nat) : List Nat :=
  (s.sfe.rows.cells.flatMap (fun c =>
    if c.2.spans.any (fun sp => (s.seg sp.seg).bundle == bi) then (s.progOf c.2.model).toList else [])).eraseDups

/-- The other chips a bundle's verdict goes to: every reply chip of a program of which the bundle has a span, and every chip that had a notice of one of its spans (R125, R310). -/
def State.verdictChips (s : State) (bi : Nat) : List Nat :=
  ((s.bundle bi).chips ++ ((s.bundleProgs bi).flatMap s.replyChips).filter (fun c => c != s.me)).eraseDups

/-- VERDICT_AT_ERP (R117, R118, R125, R310): the verdict takes effect here and leaves for every reply chip. -/
def execVerdictAtErp (frame : Nat) (s : State) : Out :=
  .next (s.whenRuns (some 3) (fun s =>
    let t := s.verdictAtErp frame
    if (s.bundle frame).verdict = none ∧ (t.bundle frame).verdict ≠ none then
      (t.verdictChips frame).foldl (fun u c => u.sendVerdictTo frame c) t
    else t))

/-- The notices of a span to every reply chip but this one (R310); a verdict already known follows them, since a chip that held no record of the bundle has ignored it. -/
def State.noticeSpan (s : State) (p : Nat) (sp : Span) (rstat : Nat) : State :=
  let g := s.seg sp.seg
  let b := s.bundle g.bundle
  let x := g.record sp.seg b rstat 0 false
  ((s.replyChips p).filter (fun c => c != s.me)).foldl (fun s c =>
    let s := (spanNotice c p (s.prog p).gen x b.sender g.entry.reply b.ingressTs).foldl (fun s r => s.oslSubmit none r) s
    if (s.bundle g.bundle).chips.contains c then s
    else (s.updBundle g.bundle (fun b => { b with chips := b.chips ++ [c] })).sendVerdictTo g.bundle c) s

/-- The record of a span that ran (R139): it leaves with the last span of its segment; a fenced span's is ABORTED. -/
def State.spanResult (s : State) (r k : Nat) (result : DWord) (widened : Bool) : State :=
  match (s.row r).spans[k]? with
  | none => s
  | some sp =>
    if sp.fenced then s.spanFails sp 3
    else if sp.contOut ∨ (s.seg sp.seg).st = .done then s
    else if (s.seg sp.seg).aborted then s.sendResult sp.seg 3 0 widened
    else s.sendResult sp.seg 0 result widened

/-- Mark a span as fenced (R187, R225). -/
def State.fenceSpan (s : State) (r k : Nat) : State :=
  (s.updRow r (fun x => { x with spans := modifyAt x.spans k (fun p => { p with fenced := true }) })).bump Reg.FAB_SLOT_FENCED

end Sys2Proof.Machine
end

