-- ==== Sys2Proof/Machine/Numeric.lean ====
section
/-! DEFINITION. Arithmetic of the fabric and of adaptation: codes, accumulators, requantisation, Sorrel, group shifts (R158, R159, R191 to R203, R213, R247, R254, R255). -/

namespace Sys2Proof.Machine

/-! #### Codes and flits -/

/-- Bits of a code of a format (R191): 0 Q4, 1 Q8, 2 Q16. -/
def fmtBits (fmt : Nat) : Nat := if fmt = 0 then 4 else if fmt = 1 then 8 else 16

/-- Elements of a vector of a format: 32, 16 or 8 (R157). -/
def fmtLen (fmt : Nat) : Nat := if fmt = 0 then 32 else if fmt = 1 then 16 else 8

/-- Element `i` of a flit, as raw bits (R191). -/
def elemRaw (b i : Nat) (f : Flit) : Nat := (f.toNat >>> (b * i)) % 2 ^ b

/-- Raw bits as a two's complement number. -/
def signedOf (b raw : Nat) : Int := if 2 ^ (b - 1) ≤ raw then (raw : Int) - 2 ^ b else raw

/-- A number as raw bits. -/
def rawOf (b : Nat) (x : Int) : Nat := (x % 2 ^ b).toNat

/-- A flit of raw elements. -/
def packFlit (b : Nat) (l : List Nat) : Flit :=
  BitVec.ofNat 128 ((l.take (128 / b)).foldr (fun e a => e % 2 ^ b + 2 ^ b * a) 0)

/-- The flits of raw elements, 128 / b to a flit. -/
def packFlits (b : Nat) : Nat → List Nat → List Flit
  | 0, _ => []
  | n + 1, l => packFlit b l :: packFlits b n (l.drop (128 / b))

/-- The escape code of a format; none for Q16 (R191). -/
def escCode (fmt : Nat) : Nat := if fmt = 0 then 8 else 0x80

/-- Saturate to 16 bits. -/
def sat16 (x : Int) : Int := clamp (-32768) 32767 x

/-- Lanes of a flit as signed 16-bit numbers. -/
def lanesOf (f : Flit) : List Int := (List.range 8).map (fun i => signedOf 16 (elemRaw 16 i f))

/-! #### Accumulators (R194) -/

/-- Accumulator width of a format. -/
def accWidth (fmt : Nat) : Nat := if fmt = 2 then 48 else 40

/-- One addition, saturating at ±(2^(W+7) − 1); the flag records a saturation. -/
def accAdd (fmt : Nat) (a : Int × Bool) (x : Int) : Int × Bool :=
  let lim : Int := 2 ^ (accWidth fmt + 7) - 1
  let v := a.1 + x
  (clamp (-lim) lim v, a.2 || decide (v < -lim) || decide (lim < v))

/-- An accumulator as DRAIN and REQ read it: clamped to W bits. -/
def accRead (fmt : Nat) (a : Int × Bool) : Int × Bool :=
  let lim : Int := 2 ^ (accWidth fmt - 1)
  (clamp (-lim) (lim - 1) a.1, a.2 || decide (a.1 < -lim) || decide (lim - 1 < a.1))

/-- The product sum of operands and one block column. -/
def dot : List Int → List Int → Int
  | a :: r, b :: q => a * b + dot r q
  | _, _ => 0

/-! #### Requantisation (R198 to R200) -/

/-- round_shift (R200): rounding 0 RNE, 1 SR with byte r, 2 SHIFT. -/
def roundShift (p : Int) (s rnd r : Nat) : Int :=
  if s = 0 then p
  else
    let rem := p % 2 ^ s
    let q := p >>> s
    if rnd = 1 then
      let u : Int := ((if 8 ≤ s then r <<< (s - 8) else r >>> (8 - s) : Nat) : Int)
      q + (rem + u) >>> s
    else
      let half : Int := 2 ^ (s - 1)
      if half < rem ∨ (rem = half ∧ q % 2 = 1) then q + 1 else q

/-- The parameters of a requantisation (R198). -/
structure ReqPar where
  fmt : Nat
  rnd : Nat
  zp : Int
  signed : Bool
  relu : Bool
  dyn : Bool
  esc : Bool
deriving DecidableEq, Repr

/-- The lowest code of the range; the escape code is not a value. -/
def ReqPar.lo (p : ReqPar) : Int := (if p.signed then -(2 ^ (fmtBits p.fmt - 1)) else 0) + (if p.esc then 1 else 0)
/-- The highest code. -/
def ReqPar.hi (p : ReqPar) : Int := if p.signed then 2 ^ (fmtBits p.fmt - 1) - 1 else 2 ^ fmtBits p.fmt - 1

/-- One output to requantise: the accumulator read, whether it saturated, its multiplier, its shift and its rounding byte. -/
structure ReqIn where
  acc : Int
  sat : Bool
  m : Int
  s : Nat
  r : Nat
deriving DecidableEq, Repr

/-- The product of an output (R199). -/
def ReqPar.prod (p : ReqPar) (o : ReqIn) : Int := if p.rnd = 2 then o.acc else o.acc * o.m

/-- q of an output at an exponent. -/
def ReqPar.q (p : ReqPar) (e : Nat) (o : ReqIn) : Int := roundShift (p.prod o) (o.s + e) p.rnd o.r

/-- Outputs out of range at an exponent. -/
def ReqPar.outside (p : ReqPar) (e : Nat) (l : List ReqIn) : Nat :=
  (l.filter (fun o => decide (p.hi < p.q e o + p.zp) || decide (p.q e o + p.zp < p.lo))).length

/-- Outputs that may lie outside: three escapes. -/
def ReqPar.allow (p : ReqPar) : Nat := if p.esc then 3 else 0

/-- The exponent of a group (R199): the least that leaves no more than `allow` outside, at most 7. -/
def ReqPar.findE (p : ReqPar) (l : List ReqIn) : Nat → Nat → Nat
  | 0, e => e
  | n + 1, e => if p.allow < p.outside e l then p.findE l n (e + 1) else e

/-- What requantising a group gives: raw codes, escape entries, the saturations by kind, and the error of each output in 2^-8 steps. -/
structure ReqOut where
  e : Nat := 0
  codes : List Nat := []
  entries : List (Nat × Int) := []
  satAcc : Nat := 0
  satOut : Nat := 0
  satExp : Nat := 0
  satEsc : Nat := 0
  errs : List Int := []
deriving DecidableEq, Repr

/-- The error of an output in units of 2^-8 output step (R213). -/
def ReqPar.err (p : ReqPar) (e : Nat) (o : ReqIn) (shown : Int) : Int :=
  let x := p.prod o
  let x8 := if 8 ≤ o.s + e then x >>> (o.s + e - 8) else x * 2 ^ (8 - o.s - e)
  let x8 := if p.relu && decide (x8 < 0) then 0 else x8
  clamp (-2147483647) 2147483647 (x8 - shown * 256)

/-- Whether a code, as a number, is the escape code of its format (R191): the lowest signed code of Q4 and Q8. -/
def ReqPar.isEsc (p : ReqPar) (c : Int) : Bool :=
  p.signed && decide (p.fmt < 2) && decide (c = -(2 ^ (fmtBits p.fmt - 1)))

/-- One output of the second pass (R199): its code, its escape, the one kind it saturates under, its error. -/
def ReqPar.step (p : ReqPar) (e : Nat) (xOver : Bool) (k : Nat) (a : ReqOut) (o : ReqIn) : ReqOut :=
  let q := p.q e o
  let c := q + p.zp
  let b := fmtBits p.fmt
  let out := decide (p.hi < c) || decide (c < p.lo)
  if out && p.esc && decide (a.entries.length < 3) then
    let v := clamp (-8388608) 8388607 q
    let a : ReqOut := { a with codes := a.codes ++ [escCode p.fmt], entries := a.entries ++ [(k, v)], errs := a.errs ++ [p.err e o v] }
    if o.sat then { a with satAcc := a.satAcc + 1 }
    else if v ≠ q then { a with satEsc := a.satEsc + 1 } else a
  else
    let c1 := clamp p.lo p.hi c
    let c2 := if p.relu && !p.isEsc c1 && decide (c1 < p.zp) then p.zp else c1
    let a : ReqOut := { a with codes := a.codes ++ [rawOf b c2], errs := a.errs ++ [p.err e o (c2 - p.zp)] }
    if o.sat then { a with satAcc := a.satAcc + 1 }
    else if out && xOver then { a with satExp := a.satExp + 1 }
    else if out then { a with satOut := a.satOut + 1 } else a

/-- Fold the second pass xOver a group. -/
def ReqPar.run (p : ReqPar) (e : Nat) (xOver : Bool) : Nat → ReqOut → List ReqIn → ReqOut
  | _, a, [] => a
  | k, a, o :: r => p.run e xOver (k + 1) (p.step e xOver k a o) r

/-- Requantise a group (R199). -/
def ReqPar.requant (p : ReqPar) (l : List ReqIn) : ReqOut :=
  let e := if p.dyn then p.findE l 7 0 else 0
  p.run e (p.dyn && decide (e = 7) && decide (p.allow < p.outside 7 l)) 0 { e := e } l

/-- The side flit of a vector (R203): its exponent and its escape entries. -/
def sideFlit (e : Nat) (entries : List (Nat × Int)) : Flit :=
  let word (j : Nat) : Nat := match entries[j]? with
    | none => 0
    | some (k, v) => k % 32 + rawOf 24 v * 256
  BitVec.ofNat 128 (e + entries.length * 16 + word 0 <<< 32 + word 1 <<< 64 + word 2 <<< 96)

/-! #### Operands of a MAC (R192, R203) -/

/-- The operands of a vector: codes less the zero point; with a side flit, its entries stand for their elements and an escape code without an entry is 0. The answer counts such orphans. -/
def macOperands (b n : Nat) (signed : Bool) (zp : Int) (esc : Nat) (side : Option Flit) (raw : List Nat) : List Int × Nat :=
  let entry (i : Nat) : Option Int := match side with
    | none => none
    | some f => ((List.range (bits f.toNat 6 4)).find? (fun j => decide (j < 3) && decide (bits f.toNat (32 * j + 36) (32 * j + 32) = i))).map
        (fun j => signedOf 24 (bits f.toNat (32 * j + 63) (32 * j + 40)))
  let val (i : Nat) : Int × Nat :=
    let c := raw[i]?.getD 0
    match entry i with
    | some v => (v, 0)
    | none => if side.isSome && decide (c = esc) then (0, 1) else ((if signed then signedOf b c else (c : Int)) - zp, 0)
  let l := (List.range n).map val
  (l.map (·.1), l.foldl (fun k x => k + x.2) 0)

/-! #### The vector ALU (R158, R159) -/

/-- One lane of a vector function; none for a reserved function. -/
def vopLane (func imm lane : Nat) (a b : Int) : Option Int :=
  match func with
  | 0x00 => some (sat16 (a + b))
  | 0x01 => some (sat16 (a - b))
  | 0x02 => some (sat16 ((a * b) >>> (imm % 32)))
  | 0x03 => some (min a b)
  | 0x04 => some (max a b)
  | 0x05 => some (signedOf 16 (rawOf 16 a &&& rawOf 16 b))
  | 0x06 => some (signedOf 16 (rawOf 16 a ||| rawOf 16 b))
  | 0x07 => some (signedOf 16 (rawOf 16 a ^^^ rawOf 16 b))
  | 0x08 => some (sat16 (a * 2 ^ (imm % 16)))
  | 0x09 => some (a >>> (imm % 16))
  | 0x0A => some (if a < b then -1 else 0)
  | 0x0B => some (if imm.testBit lane then b else a)
  | _ => none

/-- The function table (R159). -/
def lutLane (entry : Nat → Nat) (v : Int) : Int :=
  let i := ((v >>> 8) + 128).toNat % 256
  let f := v % 256
  let w := entry i
  sat16 (signedOf 16 (bits w 31 16) + (signedOf 16 (bits w 15 0) * f) >>> 8)

/-! #### Sorrel (R247) -/

/-- One round of Sorrel. -/
def sorrelRound (w : Word × Word × Word × Word) : Word × Word × Word × Word :=
  let (a, b, c, d) := w
  let a := a + b
  let d := (d ^^^ a).rotateLeft 16
  let c := c + d
  let b := (b ^^^ c).rotateLeft 12
  let a := a + b
  let d := (d ^^^ a).rotateLeft 8
  let c := c + d
  let b := (b ^^^ c).rotateLeft 4
  (a, b, c, d)

/-- Sorrel: a 64-bit key and a 64-bit counter give four words. -/
def sorrel (key ctr : DWord) : List Word :=
  let cl := ctr.setWidth 32
  let ch := (ctr >>> 32).setWidth 32
  let kl := key.setWidth 32
  let kh := (key >>> 32).setWidth 32
  let w := sorrelRound (sorrelRound (sorrelRound (sorrelRound (cl, ch, kl ^^^ 0x9E3779B9#32, kh ^^^ 0xC2B2AE35#32))))
  [w.1 + cl, w.2.1 + ch, w.2.2.1 + kl, w.2.2.2 + kh]

/-- Byte `k` of a Sorrel result. -/
def sorrelByte (key ctr : DWord) (k : Nat) : Nat :=
  bits (wordAt (sorrel key ctr) (k / 4)).toNat (8 * (k % 4) + 7) (8 * (k % 4))

/-! #### Adaptation arithmetic (R254 to R256) -/

/-- Saturate to 48 bits; the flag records a clamp. -/
def sat48 (x : Int) : Int × Bool := (clamp (-(2 ^ 47)) (2 ^ 47 - 1) x, decide (x < -(2 ^ 47)) || decide (2 ^ 47 - 1 < x))

/-- The OR of magnitudes that gshift reads. -/
def magOr (l : List Int) : Nat := l.foldl (fun m x => m ||| (if x < 0 then -x - 1 else x).toNat) 0

/-- The loop of gshift. -/
def gshiftLoop (m lim : Nat) : Nat → Nat → Nat
  | 0, g => g
  | n + 1, g => if lim < m >>> g then gshiftLoop m lim n (g + 1) else g

/-- The group shift of a code width (R255). -/
def gshift (l : List Int) (b : Nat) : Nat := gshiftLoop (magOr l) (2 ^ (b - 1) - 1) 47 0

/-- Narrow a number to a signed code of `b` bits; the flag records a saturation. -/
def narrowCode (x : Int) (g b rnd r : Nat) : Int × Bool :=
  let q := roundShift x g rnd r
  let lim : Int := 2 ^ (b - 1)
  (clamp (-lim) (lim - 1) q, decide (q < -lim) || decide (lim - 1 < q))

end Sys2Proof.Machine
end

