-- ==== Sys2Proof/Machine/Image.lean ====
section
/-! DEFINITION. Model images: sections, records, link tables, weights, and the checks made on them at registration and at page-in (R171 to R178, R193, R204, R217 to R219, R237). -/

namespace Sys2Proof.Machine

/-! #### Sections -/

/-- A 32-bit word of an image. -/
def imgWord (img : List Byte) (off : Nat) : Nat := le img off 4

/-- Offset in bytes of a section descriptor (R217). -/
def secOff (img : List Byte) (k : Nat) : Nat := bits (imgWord img (le img 24 4 * 16 + 4 * k)) 19 0 * 16

/-- Offset in bytes of the wide variant of the section at an offset; 0 for none (R204). -/
def wideOff (img : List Byte) (o : Nat) : Nat := bits (imgWord img (o - 16 + 8)) 19 0 * 16

/-- The descriptor a plot runs as a section: the section's own, or its wide variant. -/
def descOff (img : List Byte) (k : Nat) (wide : Bool) : Nat := if wide then wideOff img (secOff img k) else secOff img k

/-- trailing of a section descriptor (R175). -/
def secTrailing (img : List Byte) (o : Nat) : Bool := bit (imgWord img o) 9
/-- h. -/
def secH (img : List Byte) (o : Nat) : Nat := bits (imgWord img o) 15 10
/-- w. -/
def secW (img : List Byte) (o : Nat) : Nat := bits (imgWord img o) 21 16
/-- n_loops. -/
def secLoops (img : List Byte) (o : Nat) : Nat := bits (imgWord img o) 28 22
/-- n_regions. -/
def secRegions (img : List Byte) (o : Nat) : Nat := bits (imgWord img (o + 4)) 4 0
/-- n_state. -/
def secStates (img : List Byte) (o : Nat) : Nat := bits (imgWord img (o + 4)) 8 5
/-- state_bytes. -/
def secStateBytes (img : List Byte) (o : Nat) : Nat := bits (imgWord img (o + 4)) 31 16

/-- Offset of the record word of a tile. -/
def recWordOff (img : List Byte) (o px py : Nat) : Nat := o + 8 + 4 * (py * secW img o + px)

/-- Size in 2,048-byte lines of a declared region. -/
def regionLines (img : List Byte) (o slot : Nat) : Nat :=
  if slot < secRegions img o then imgWord img (o + 8 + 4 * (secH img o * secW img o + slot)) else 0

/-- A state channel: tile, inject queue and collect channel (R175). -/
def stateChan (img : List Byte) (o i : Nat) : Nat := imgWord img (o + 8 + 4 * (secH img o * secW img o + secRegions img o + i))

/-- Offset of the loop declarations. -/
def loopsOff (img : List Byte) (o : Nat) : Nat := o + 8 + 4 * (secH img o * secW img o + secRegions img o + secStates img o)

/-- The numeric descriptor's words (R204). -/
def numWord (img : List Byte) (o i : Nat) : Nat := imgWord img (o - 16 + 4 * i)
/-- sat_thresh. -/
def satThresh (img : List Byte) (o : Nat) : Nat := bits (numWord img o 0) 15 0
/-- widen_en. -/
def widenEn (img : List Byte) (o : Nat) : Bool := bit (numWord img o 0) 16
/-- stat_en. -/
def statEn (img : List Byte) (o : Nat) : Bool := bit (numWord img o 0) 17
/-- retain_mask. -/
def retainMask (img : List Byte) (o : Nat) : Nat := bits (numWord img o 1) 15 0
/-- cal_stride. -/
def calStride (img : List Byte) (o : Nat) : Nat := bits (numWord img o 1) 26 16
/-- sr_seed. -/
def srSeed (img : List Byte) (o : Nat) : Nat := numWord img o 3

/-- The flits of a byte string: 16 bytes each, little-endian (R11). -/
def flitsOf (img : List Byte) (off : Nat) : Nat → List Flit
  | 0 => []
  | n + 1 => BitVec.ofNat 128 (le img off 16) :: flitsOf img (off + 16) n

/-- The record of a tile in a section (R173, R175). -/
def recFlits (img : List Byte) (o px py : Nat) : List Flit :=
  let w := imgWord img (recWordOff img o px py)
  flitsOf img (bits w 19 0 * 16) (bits w 28 20)

/-- Whether the channel of a tile is a declared REPLY link (R218). -/
def isReply (img : List Byte) (px py ch : Nat) : Bool :=
  (List.range (le img 19 1)).any (fun i =>
    let e := imgWord img (le img 48 4 * 16 + 4 * i)
    decide (bits e 4 0 = px) && decide (bits e 9 5 = py) && decide (bits e 13 10 = ch) && decide (bits e 15 14 = 0))

/-- The state channel that collects from a channel of a tile in a section (R175). -/
def collectIx (img : List Byte) (o px py ch : Nat) : Option Nat :=
  (List.range (secStates img o)).find? (fun i =>
    let e := stateChan img o i
    decide (bits e 4 0 = px) && decide (bits e 9 5 = py) && decide (bits e 17 14 = ch))

/-- Whether the channel of a tile collects state in a section (R175). -/
def isCollect (img : List Byte) (o px py ch : Nat) : Bool := (collectIx img o px py ch).isSome

/-! #### Contexts (R173) -/

/-- A flit of a context. -/
def Ctx.at (c : Ctx) (i : Nat) : Nat := ((c.flits[i]?).getD 0).toNat
/-- Instruction count. -/
def Ctx.n (c : Ctx) : Nat := bits (c.at 0) 16 9 + 1
/-- TAG mode. -/
def Ctx.tag (c : Ctx) : Bool := bit (c.at 0) 17
/-- Multiplier format. -/
def Ctx.fmt (c : Ctx) : Nat := bits (c.at 0) 20 19
/-- Whether the tile is in a fused array. -/
def Ctx.fused (c : Ctx) : Bool := bit (c.at 0) 21
/-- Row within the array. -/
def Ctx.fRow (c : Ctx) : Nat := bits (c.at 0) 26 22
/-- Column within the array. -/
def Ctx.fCol (c : Ctx) : Nat := bits (c.at 0) 31 27
/-- east_fwd. -/
def Ctx.eastFwd (c : Ctx) : Bool := bit (c.at 0) 32
/-- north_bias. -/
def Ctx.northBias (c : Ctx) : Bool := bit (c.at 0) 33
/-- An instruction. -/
def Ctx.instr (c : Ctx) (k : Nat) : Nat := c.at (1 + k)
/-- An output channel entry. -/
def Ctx.chan (c : Ctx) (k : Nat) : Nat := bits (c.at (1 + c.n + k / 2)) (64 * (k % 2) + 63) (64 * (k % 2))
/-- An input queue entry. -/
def Ctx.queue (c : Ctx) (k : Nat) : Nat := bits (c.at (9 + c.n + k / 4)) (32 * (k % 4) + 31) (32 * (k % 4))
/-- A flow unit. -/
def Ctx.unit (c : Ctx) (u : Nat) : Nat := bits (c.at (13 + c.n)) (32 * u + 31) (32 * u)
/-- An address generator. -/
def Ctx.gen4 (c : Ctx) (k : Nat) : Nat := bits (c.at (14 + c.n + k / 2)) (64 * (k % 2) + 63) (64 * (k % 2))
/-- A function table entry; zero without a table. -/
def Ctx.ftab (c : Ctx) (i : Nat) : Nat :=
  if bit (c.at 0) 18 then bits (c.at (22 + c.n + i / 4)) (32 * (i % 4) + 31) (32 * (i % 4)) else 0

/-- Fields of a channel entry (R160). -/
def chChip (e : Nat) : Nat := bits e 63 49
/-- gx. -/
def chX (e : Nat) : Nat := bits e 48 43
/-- gy. -/
def chY (e : Nat) : Nat := bits e 42 37
/-- queue. -/
def chQueue (e : Nat) : Nat := bits e 36 33
/-- credits. -/
def chCredits (e : Nat) : Nat := bits e 32 25
/-- vc. -/
def chVc (e : Nat) : Nat := bits e 24 24
/-- tagged. -/
def chTagged (e : Nat) : Bool := bit e 23
/-- valid. -/
def chValid (e : Nat) : Bool := bit e 22

/-- Fields of a queue entry (R160). -/
def qDepth (e : Nat) : Nat := bits e 18 11
/-- tagged. -/
def qTagged (e : Nat) : Bool := bit e 19
/-- ordered. -/
def qOrdered (e : Nat) : Bool := bit e 20
/-- valid. -/
def qValid (e : Nat) : Bool := bit e 21

/-- Fields of a microinstruction (R171). -/
def miOp (i : Nat) : Nat := bits i 127 122
/-- dst. -/
def miDst (i : Nat) : Nat := bits i 121 116
/-- dk. -/
def miDk (i : Nat) : Nat := bits i 115 114
/-- sa. -/
def miSa (i : Nat) : Nat := bits i 113 108
/-- ak. -/
def miAk (i : Nat) : Nat := bits i 107 106
/-- sb. -/
def miSb (i : Nat) : Nat := bits i 105 100
/-- bk. -/
def miBk (i : Nat) : Nat := bits i 99 98
/-- imm. -/
def miImm (i : Nat) : Nat := bits i 97 82
/-- ctr. -/
def miCtr (i : Nat) : Nat := bits i 80 78
/-- cop. -/
def miCop (i : Nat) : Nat := bits i 77 76
/-- target. -/
def miTarget (i : Nat) : Nat := bits i 75 68
/-- func. -/
def miFunc (i : Nat) : Nat := bits i 63 56
/-- lanes. -/
def miLanes (i : Nat) : Nat := bits i 55 40
/-- tag_add. -/
def miTagAdd (i : Nat) : Nat := bits i 39 24

/-! #### Load checks (R176, R193) -/

/-- Whether a func selects a requantisation mode that is not reserved (R198). -/
def reqFuncOk (f : Nat) : Bool := decide (0x10 ≤ f) && decide (f ≤ 0x1F) && decide (f % 4 ≠ 3) && decide (f / 4 % 4 ≠ 3)

/-- Whether an 8-bit zero point lies in the range of a code. -/
def zpOk (b : Nat) (signed : Bool) (zp : Nat) : Bool :=
  if signed then decide (-(2 ^ (b - 1) : Int) ≤ signedOf 8 zp) && decide (signedOf 8 zp ≤ 2 ^ (b - 1) - 1)
  else decide (zp < 2 ^ b)

/-- Whether the program loads a codebook (R197). -/
def Ctx.book (c : Ctx) : Bool := (List.range c.n).any (fun k => decide (miOp (c.instr k) = 1) && decide (miFunc (c.instr k) = 1))

/-- An operand field names nothing (R171, R174): an IN source beyond queue 19, a STORE source or destination beyond generator 15, a channel beyond 15. -/
def operandBad (i : Nat) : Bool :=
  let src (kind sel : Nat) : Bool := (decide (kind = 1) && decide (19 < sel)) || (decide (kind = 2) && decide (15 < sel))
  src (miAk i) (miSa i) || src (miBk i) (miSb i) || ((decide (miDk i = 1) || decide (miDk i = 2)) && decide (15 < miDst i))

/-- An opcode's own operand names nothing (R172): the generator of MACW's block or of DRAIN's table, the queue of an LDS, the channel of a CTL. -/
def ownOperandBad (i : Nat) : Bool :=
  (decide (miOp i = 1) && decide (15 < miSa i)) || (decide (miOp i = 3) && decide (15 < miSb i))
    || ((decide (miOp i = 7) || decide (miOp i = 9)) && decide (15 < miDst i))

/-- A microinstruction uses a reserved encoding (R172, R193). -/
def miBad (c : Ctx) (i : Nat) : Bool :=
  let op := miOp i
  let f := miFunc i
  let imm := miImm i
  decide (0x0B < op ∧ op ≠ 0x0D) || decide (c.n ≤ miTarget i) || operandBad i || ownOperandBad i
  || (decide (op = 1) && (decide (1 < f) || (decide (f = 1) && decide (c.fmt ≠ 0))))
  || (decide (op = 2) && (decide (f ≠ 0)
      || (if c.fmt = 2 then decide (bits imm 7 0 ≠ 0) || bit imm 9
          else !zpOk (if c.book then 8 else fmtBits c.fmt) (bit imm 8) (bits imm 7 0))))
  || (decide (op = 3) && (!reqFuncOk f || (bit imm 12 && (!bit imm 8 || decide (f % 4 = 2)))
      || ((bit imm 11 || bit imm 12) && !bit imm 10) || (decide (f % 4 = 2) && decide (bits imm 7 0 ≠ 0))
      || !(decide (f % 4 = 2) || zpOk (fmtBits (f % 4)) (bit imm 8) (bits imm 7 0))))
  || (decide (op = 4) && (if 0x10 ≤ f then !reqFuncOk f
        || (if f % 4 = 2 then decide (bits imm 13 6 ≠ 0) else !zpOk (fmtBits (f % 4)) (bit imm 14) (bits imm 13 6))
      else decide (0x0B < f)))

end Sys2Proof.Machine
end

