-- ==== Sys2Proof/Machine/Load.lean ====
section
/-! DEFINITION. The checks on a model image: those of the load into the configuration store, and those of its registration (R163, R167, R169, R176, R177, R193, R204, R219). -/

namespace Sys2Proof.Machine

/-- The tiles of a section in row-major order, with their contexts. -/
def secTiles (img : List Byte) (o : Nat) : List (Nat × Nat × Ctx) :=
  (List.range (secH img o)).flatMap (fun py => (List.range (secW img o)).map (fun px =>
    (px, py, { flits := recFlits img o px py })))

/-- The bytes of a flit in the configuration store. -/
def flitBytes (f : Flit) : List Byte := toLe 16 f.toNat

/-- Whether a record's CRC holds (R173). -/
def Ctx.crcOk (c : Ctx) : Bool :=
  decide (crc32c (c.flits.dropLast.flatMap flitBytes) = bits (c.at (c.flits.length - 1)) 31 0)

/-- BAD_ENCODING of one record (R173, R176, R193). -/
def Ctx.badEncoding (c : Ctx) : Bool :=
  !c.crcOk || decide (bits (c.at 0) 8 0 ≠ c.flits.length)
    || decide (c.flits.length ≠ 23 + c.n + (if bit (c.at 0) 18 then 64 else 0)) || decide (c.fmt = 3)
    || (List.range 4).any (fun u => decide (6 < bits (c.unit u) 3 0))
    || (List.range c.n).any (fun k => miBad c (c.instr k))

/-- The context of a tile in a list of tiles. -/
def tileAt (l : List (Nat × Nat × Ctx)) (px py : Nat) : Option Ctx :=
  (l.find? (fun t => decide (t.1 = px) && decide (t.2.1 = py))).map (·.2.2)

/-- How far an array extends from its north-west corner in a direction. -/
def arrayReach (l : List (Nat × Nat × Ctx)) (px py dx dy : Nat) : Nat → Nat → Nat
  | 0, k => k
  | n + 1, k =>
    match tileAt l (px + dx * k) (py + dy * k) with
    | some c => if c.fused && decide (c.fCol = dx * k) && decide (c.fRow = dy * k) then arrayReach l px py dx dy n (k + 1) else k
    | none => k

/-- FUSE_SHAPE (R163, R176): every fused tile lies in the rectangle its role gives, whose tiles all hold their roles in one format. -/
def fuseBad (l : List (Nat × Nat × Ctx)) : Bool :=
  l.any (fun t =>
    let (px, py, c) := t
    c.fused && (decide (px < c.fCol) || decide (py < c.fRow) ||
      (let x := px - c.fCol
       let y := py - c.fRow
       let w := arrayReach l x y 1 0 32 0
       let h := arrayReach l x y 0 1 32 0
       decide (w ≤ c.fCol) || decide (h ≤ c.fRow)
        || (List.range h).any (fun r => (List.range w).any (fun q => match tileAt l (x + q) (y + r) with
          | some d => !(d.fused && decide (d.fRow = r) && decide (d.fCol = q) && decide (d.fmt = c.fmt))
          | none => true)))))

/-- A channel between tiles of the plot. -/
structure LocalChan where
  px : Nat
  py : Nat
  ch : Nat
  tx : Nat
  ty : Nat
  queue : Nat
  entry : Nat
  src : Ctx
deriving DecidableEq, Repr

/-- The valid channels that stay in the plot: neither REPLY links nor collect channels nor remote. -/
def localChans (img : List Byte) (o : Nat) (l : List (Nat × Nat × Ctx)) : List LocalChan :=
  l.flatMap (fun t => (List.range 16).filterMap (fun k =>
    let e := t.2.2.chan k
    if chValid e && decide (chChip e = 0x7FFF) && !isReply img t.1 t.2.1 k && !isCollect img o t.1 t.2.1 k then
      some ⟨t.1, t.2.1, k, chX e, chY e, chQueue e, e, t.2.2⟩ else none))

/-- DEST_OUTSIDE (R176, R308): a local channel that leaves the plot, or a remote one outside the program's box or the slice. `box` holds the program coordinates of the handle's spanning program. -/
def destBad (img : List Byte) (o : Nat) (l : List (Nat × Nat × Ctx)) (box : List Nat) : Bool :=
  l.any (fun t => (List.range 16).any (fun k =>
    let e := t.2.2.chan k
    chValid e && !isReply img t.1 t.2.1 k && !isCollect img o t.1 t.2.1 k
      && (decide (secW img o ≤ chX e) || decide (secH img o ≤ chY e)
        || (decide (chChip e ≠ 0x7FFF) && !box.contains (chChip e)))))

/-- QUEUE_OVERCOMMIT: a queue shallower than the credits aimed at it. -/
def queueBad (l : List (Nat × Nat × Ctx)) (cs : List LocalChan) : Bool :=
  l.any (fun t => (List.range 16).any (fun q =>
    let e := t.2.2.queue q
    let sum := cs.foldl (fun n c => if c.tx = t.1 ∧ c.ty = t.2.1 ∧ c.queue = q then n + chCredits c.entry else n) 0
    decide (0 < sum) && (!qValid e || decide (qDepth e < sum))))

/-- The weight loads of a tile: first store word and count (R217). `n` bounds the loads read. -/
def weightLoads (img : List Byte) (px py : Nat) : Nat → Nat → Nat → List (Nat × Nat)
  | 0, _, _ => []
  | n + 1, off, stop =>
    if stop < off + 16 then []
    else
      let w := imgWord img off
      let k := imgWord img (off + 4)
      let rest := weightLoads img px py n (off + 16 + 16 * k) stop
      if bits w 4 0 = px ∧ bits w 9 5 = py then (bits w 20 10, k) :: rest else rest

/-- All weight loads of a tile. -/
def tileWeights (img : List Byte) (px py : Nat) : List (Nat × Nat) :=
  weightLoads img px py (le img 32 4 / 16) (le img 28 4 * 16) (le img 28 4 * 16 + le img 32 4)

/-- Whether two word ranges overlap. -/
def rangesMeet (a b : Nat × Nat) : Bool := decide (a.1 < b.1 + b.2) && decide (b.1 < a.1 + a.2)

/-- An entry of a calibration block: the table word it names, and its value. -/
structure CalEntry where
  name : CalName
  value : Nat
deriving DecidableEq, Repr

/-- The entries of a calibration block (R237). -/
def calEntries (b : List Byte) : List CalEntry :=
  (List.range (le b 8 4)).map (fun i =>
    let w := le b (16 + 8 * i) 4
    ⟨⟨bits w 4 0, bits w 9 5, bits w 13 10, bits w 24 14, bit w 25⟩, le b (20 + 8 * i) 4⟩)

/-- Where a bank holds a table word: beyond word 2,047 there is none (R176, R237). -/
def CalName.place (e : CalName) (img : List Byte) (bank : Nat) : Nat := e.word + bank * calStride img (descOff img e.sec e.wide)

/-- The store word of a table word in a bank. -/
def CalName.at (e : CalName) (img : List Byte) (bank : Nat) : Nat := e.place img bank % 2048

/-- The image's own calibration block. -/
def ownCal (img : List Byte) : List Byte := slice img (le img 40 4 * 16) (le img 44 4)

/-- The data regions of a tile's store that the image declares: its calibration tables, in both banks (R198, R237). -/
def tileData (img : List Byte) (px py : Nat) : List (Nat × Nat) :=
  let mine := (calEntries (ownCal img)).filter (fun e => decide (e.name.px = px) && decide (e.name.py = py))
  (mine.flatMap (fun e => [(e.name.place img 0, 1), (e.name.place img 1, 1)])).eraseDups

/-- STORE_OVERCOMMIT: queues, weights and data regions that overlap or pass word 2,047. A calibration word may lie in a weight load, which gives it its first value. -/
def storeBad (img : List Byte) (l : List (Nat × Nat × Ctx)) : Bool :=
  l.any (fun t =>
    let qs := (List.range 16).filterMap (fun q =>
      let e := t.2.2.queue q
      if qValid e then some (bits e 10 0, qDepth e) else none)
    let all := qs ++ tileWeights img t.1 t.2.1
    let data := tileData img t.1 t.2.1
    (all ++ data).any (fun r => decide (2048 < r.1 + r.2)) || data.any (fun d => qs.any (rangesMeet d))
      || (List.range all.length).any (fun i => (List.range i).any (fun j => match all[i]?, all[j]? with
        | some a, some b => rangesMeet a b
        | _, _ => false)))

/-- Whether a flow between firing modes is one of the table of R169. -/
def flowOk (ptag ctag : Bool) (e q : Nat) : Bool :=
  if !ptag && !ctag then !chTagged e && !qTagged q && !qOrdered q
  else if !ctag then chTagged e && qTagged q && qOrdered q
  else chTagged e && qTagged q && !qOrdered q

/-- Whether a MERGE_ARRIVAL unit of a tile stands on a tagged flow whose consumer runs in TAG mode (R167): both its input queues are tagged, and its output goes to its own TAG program, on a tagged channel to a TAG tile, or on a tagged channel to another chip, whose mode no check here can see. -/
def mergeOk (l : List (Nat × Nat × Ctx)) (cs : List LocalChan) (t : Nat × Nat × Ctx) (f : Nat) : Bool :=
  let c := t.2.2
  let out := bits f 26 22
  qTagged (c.queue (bits f 16 12)) && qTagged (c.queue (bits f 31 27)) &&
    (if 16 ≤ out then c.tag
     else cs.any (fun d => decide (d.px = t.1) && decide (d.py = t.2.1) && decide (d.ch = out) && chTagged d.entry
        && ((tileAt l d.tx d.ty).map Ctx.tag).getD false)
      || (chValid (c.chan out) && decide (chChip (c.chan out) ≠ 0x7FFF) && chTagged (c.chan out)))

/-- MODE_MIX (R167, R169). -/
def modeBad (l : List (Nat × Nat × Ctx)) (cs : List LocalChan) : Bool :=
  cs.any (fun c => match tileAt l c.tx c.ty with
    | some d => !flowOk c.src.tag d.tag c.entry (d.queue c.queue)
    | none => false)
  || l.any (fun t => (List.range 4).any (fun u =>
    let f := t.2.2.unit u
    decide (bits f 3 0 = 3) && !mergeOk l cs t f))

/-- A loop declaration (R177): max_live and its channels (tile x, tile y, channel). -/
structure LoopDecl where
  live : Nat
  chans : List (Nat × Nat × Nat)
deriving DecidableEq, Repr

/-- The loop declarations of a section. -/
def loopDecls (img : List Byte) : Nat → Nat → List LoopDecl
  | 0, _ => []
  | n + 1, off =>
    let h := imgWord img off
    let k := bits h 13 8
    ⟨bits h 7 0, (List.range k).map (fun i =>
      let w := imgWord img (off + 4 + 4 * i)
      (bits w 4 0, bits w 9 5, bits w 13 10))⟩ :: loopDecls img n (off + 4 + 4 * k)

/-- An edge of the channel graph: from a tile to a tile, by a channel or by an array link. -/
abbrev Edge := (Nat × Nat) × (Nat × Nat) × Option (Nat × Nat × Nat)

/-- The channel graph: channels and the array links of fused tiles. -/
def edgesOf (l : List (Nat × Nat × Ctx)) (cs : List LocalChan) : List Edge :=
  cs.map (fun c => ((c.px, c.py), (c.tx, c.ty), some (c.px, c.py, c.ch)))
    ++ l.flatMap (fun t =>
      let link (dx dy : Nat) : List Edge := match tileAt l (t.1 + dx) (t.2.1 + dy) with
        | some d => if t.2.2.fused && d.fused && decide (d.fCol = t.2.2.fCol + dx) && decide (d.fRow = t.2.2.fRow + dy)
            then [((t.1, t.2.1), (t.1 + dx, t.2.1 + dy), none)] else []
        | none => []
      link 1 0 ++ link 0 1)

/-- Every simple cycle that continues a path is covered by one declaration: the channels on it all stand in that declaration. -/
def cyclesCovered (es : List Edge) (ds : List LoopDecl) (start : Nat × Nat) : Nat → Nat × Nat → List (Nat × Nat) → List (Nat × Nat × Nat) → Bool
  | 0, _, _, _ => true
  | n + 1, pos, seen, chans =>
    es.all (fun e =>
      if e.1 ≠ pos then true
      else
        let cs := e.2.2.toList ++ chans
        if e.2.1 = start then ds.any (fun d => cs.all d.chans.contains)
        else if seen.contains e.2.1 then true
        else cyclesCovered es ds start n e.2.1 (e.2.1 :: seen) cs)

/-- LOOP_UNDECLARED. -/
def loopBad (l : List (Nat × Nat × Ctx)) (es : List Edge) (ds : List LoopDecl) : Bool :=
  l.any (fun t => !cyclesCovered es ds (t.1, t.2.1) (l.length + 1) (t.1, t.2.1) [] [])

/-- LOOP_CREDIT (R177). -/
def creditBad (l : List (Nat × Nat × Ctx)) (ds : List LoopDecl) : Bool :=
  ds.any (fun d =>
    let cr := d.chans.map (fun c => match tileAt l c.1 c.2.1 with
      | some x => if chValid (x.chan c.2.2) then chCredits (x.chan c.2.2) else 0
      | none => 0)
    cr.any (· == 0) || decide (cr.foldl (· + ·) 0 < d.live + 1))

/-- The load check of one section (R176): 0, or the code of the first check that fails. -/
def secCheck (img : List Byte) (box : List Nat) (o : Nat) : Nat :=
  let l := secTiles img o
  let cs := localChans img o l
  let ds := loopDecls img (secLoops img o) (loopsOff img o)
  if l.any (fun t => t.2.2.badEncoding) then 1
  else if fuseBad l then 2
  else if destBad img o l box then 3
  else if queueBad l cs then 4
  else if storeBad img l then 5
  else if modeBad l cs then 6
  else if loopBad l (edgesOf l cs) ds then 7
  else if creditBad l ds then 8 else 0

/-- The section descriptors of an image, each with its section number: the sections, then their wide variants. -/
def allDescs (img : List Byte) : List (Nat × Nat) :=
  (List.range (hdrSections img)).flatMap (fun k =>
    let o := secOff img k
    (k, o) :: (if wideOff img o = 0 then [] else [(k, wideOff img o)]))

/-- The load check of an image (R176): the code and the section of the first refusal. The checks are made in order, each over every section. -/
def loadCheck (img : List Byte) (box : List Nat) : Option (Nat × Nat) :=
  let l := (allDescs img).map (fun d => (secCheck img box d.2, d.1))
  (List.range 8).findSome? (fun i => l.find? (fun c => c.1 == i + 1))

/-! #### Registration (R204, R219) -/

/-- Whether a range of bytes lies in an image. -/
def inImage (img : List Byte) (off len : Nat) : Bool := decide (off + len ≤ img.length)

/-- Whether a section descriptor and everything it names lie in the image and agree with the header (R175, R219). -/
def descOk (img : List Byte) (k o : Nat) : Bool :=
  decide (16 ≤ o) && inImage img o 8 && decide (bits (imgWord img o) 3 0 = k) && decide (bits (imgWord img o) 8 4 = hdrSections img)
    && decide (secH img o = hdrH img) && decide (secW img o = hdrW img) && decide (secStateBytes img o = hdrStateBytes img)
    && decide (secRegions img o ≤ 16) && decide (secStates img o ≤ 8) && decide (secLoops img o ≤ 64)
    && decide (bits (numWord img o 0) 19 18 ≠ 3) && inImage img o (loopsOff img o - o)
    && (List.range (hdrH img * hdrW img)).all (fun i =>
      let w := imgWord img (o + 8 + 4 * i)
      decide (24 ≤ bits w 28 20) && decide (bits w 28 20 ≤ 343) && inImage img (bits w 19 0 * 16) (bits w 28 20 * 16))
    && (loopDecls img (secLoops img o) (loopsOff img o)).all (fun d =>
      decide (1 ≤ d.live) && decide (1 ≤ d.chans.length) && decide (d.chans.length ≤ 32))
    && inImage img o (loopsOff img o - o + (loopDecls img (secLoops img o) (loopsOff img o)).foldl (fun n d => n + 4 + 4 * d.chans.length) 0)

/-- The multiplier format of a tile's record. -/
def recFmt (img : List Byte) (o px py : Nat) : Nat := ({ flits := recFlits img o px py } : Ctx).fmt

/-- A wide variant agrees with its section and uses a wider format (R204): no record narrower, some record wider. -/
def wideOk (img : List Byte) (k : Nat) : Bool :=
  let o := secOff img k
  let v := wideOff img o
  decide (v = 0) || (descOk img k v && decide (wideOff img v = 0) && decide (secRegions img v = secRegions img o)
    && (List.range (secRegions img o)).all (fun i => decide (regionLines img v i = regionLines img o i))
    && decide (secStates img v = secStates img o)
    && (List.range (secStates img o)).all (fun i => decide (stateChan img v i = stateChan img o i))
    && (List.range (hdrH img)).all (fun py => (List.range (hdrW img)).all (fun px => decide (recFmt img o px py ≤ recFmt img v px py)))
    && (List.range (hdrH img)).any (fun py => (List.range (hdrW img)).any (fun px => decide (recFmt img o px py < recFmt img v px py))))

/-- Whether the weight image is a list of store loads (R217, R219): each of 1 to 2,048 words, all within wt_len. `n` bounds the loads read. -/
def weightsOk (img : List Byte) : Nat → Nat → Nat → Bool
  | 0, off, stop => decide (off = stop)
  | n + 1, off, stop =>
    let k := imgWord img (off + 4)
    decide (off = stop) || (decide (1 ≤ k) && decide (k ≤ 2048) && decide (off + 16 + 16 * k ≤ stop) && weightsOk img n (off + 16 + 16 * k) stop)

/-- Check 6 of R219. -/
def imageOk (img : List Byte) : Bool :=
  decide (le img 0 2 = 0xC7A4) && decide (le img 2 1 = 1) && decide (1 ≤ hdrH img) && decide (hdrH img ≤ 32)
    && decide (1 ≤ hdrW img) && decide (hdrW img ≤ 32) && decide (1 ≤ hdrSections img) && decide (hdrSections img ≤ 16)
    && decide (16 ≤ hdrRowFrames img) && decide (hdrRowFrames img ≤ 1024) && decide (1 ≤ hdrMaxSpans img)
    && decide (hdrMaxSpans img ≤ 64) && decide (hdrStateBytes img % 64 = 0) && decide (hdrStateBytes img ≤ 65472)
    && decide (le img 19 1 ≤ 32) && inImage img (le img 24 4 * 16) (4 * hdrSections img)
    && inImage img (le img 28 4 * 16) (le img 32 4)
    && weightsOk img (le img 32 4 / 16) (le img 28 4 * 16) (le img 28 4 * 16 + le img 32 4) && inImage img (le img 36 4 * 16) (hdrStateBytes img)
    && inImage img (le img 40 4 * 16) (le img 44 4) && inImage img (le img 48 4 * 16) (4 * le img 19 1)
    && (List.range (le img 19 1)).all (fun i => decide (bits (imgWord img (le img 48 4 * 16 + 4 * i)) 15 14 = 0))
    && (List.range (hdrSections img)).all (fun k => descOk img k (secOff img k) && wideOk img k)

/-- Check 8 of R219. -/
def tier0Ok (img : List Byte) : Bool :=
  !hdrTier0 img || (decide (le img 18 1 ≤ 8) && decide (le img 20 4 ≤ 262144)
    && (allDescs img).all (fun d => (secTiles img d.2).all (fun t => !t.2.2.tag)))

/-- Whether a calibration block keeps the format of R237 for a handle. -/
def calBlockOk (b : List Byte) (h : Nat) : Bool :=
  decide (le b 0 2 = 0xC7A5) && decide (le b 2 1 = 1) && decide (le b 4 2 = h) && decide (16 + 8 * le b 8 4 ≤ b.length)

end Sys2Proof.Machine
end

