-- ==== Sys2Proof/Machine/Tiles.lean ====
section
/-! DEFINITION. Tiles: their resources, firing, and the meaning of every microinstruction but SECEND (R157 to R174, R179, R180, R192 to R203). -/

namespace Sys2Proof.Machine

/-! #### Access -/

/-- Change the fabric. -/
def State.updFab (s : State) (f : FabSt → FabSt) : State := { s with fab := f s.fab }

/-- A tile by its index, y × 64 + x. -/
def State.tile (s : State) (t : Nat) : Tile := s.fab.tiles.get t

/-- Change a tile. -/
def State.updTile (s : State) (t : Nat) (f : Tile → Tile) : State := s.updFab (fun b => { b with tiles := b.tiles.upd t f })

/-- A plot. -/
def State.plot (s : State) (p : Nat) : PlotSt := s.fab.plots.get p

/-- Change a plot. -/
def State.updPlot (s : State) (p : Nat) (f : PlotSt → PlotSt) : State := s.updFab (fun b => { b with plots := b.plots.upd p f })

/-- A field. -/
def State.field (s : State) (f : Nat) : FieldSt := s.fab.fields.get f

/-- Change a field. -/
def State.updField (s : State) (f : Nat) (g : FieldSt → FieldSt) : State := s.updFab (fun b => { b with fields := b.fields.upd f g })

/-- The field of a logical coordinate (R154). -/
def fieldOf (x y : Nat) : Nat := x / 32 + 2 * (y / 32)

/-- The tile at a coordinate. -/
def tileIx (x y : Nat) : Nat := y * 64 + x

/-- x of a tile. -/
def tileX (t : Nat) : Nat := t % 64
/-- y of a tile. -/
def tileY (t : Nat) : Nat := t / 64

/-- The tiles of a plot in row-major order. -/
def PlotSt.tiles (p : PlotSt) : List Nat :=
  (List.range p.h).flatMap (fun j => (List.range p.w).map (fun i => tileIx (p.x0 + i) (p.y0 + j)))

/-- The descriptor of the section a tile's context runs. -/
def PlotSt.desc (p : PlotSt) (c : Ctx) : Nat := descOff p.image c.sec c.wide

/-! #### Counters, addresses, registers (R158, R171, R174) -/

/-- The iteration index of a loop counter: reload value less current value (R171). -/
def Tile.iter (t : Tile) (c : Nat) : Nat := let r := (t.ctrs[c]?).getD (0, 0); (r.1 + 65536 - r.2) % 65536

/-- The address an address generator yields (R174). -/
def Tile.addr (t : Tile) (k : Nat) : Nat :=
  let g := t.ctx.gen4 (k % 16)
  let part (hi lo c : Nat) : Int := signedOf 12 (bits g hi lo) * ((t.iter c : Nat) : Int)
  ((((bits g 10 0 : Nat) : Int) + part 27 16 0 + part 39 28 1 + part 51 40 2 + part 63 52 3) % 2048).toNat

/-- The flit in a register pair (R158): low 64 bits in the even register. -/
def Tile.pair (t : Tile) (r : Nat) : Flit :=
  let k := r % 64 / 2 * 2
  BitVec.ofNat 128 ((t.regs.get k).toNat + (t.regs.get (k + 1)).toNat <<< 64)

/-- Write a register pair. -/
def Tile.setPair (t : Tile) (r : Nat) (f : Flit) : Tile :=
  let k := r % 64 / 2 * 2
  { t with regs := (t.regs.set k (f.setWidth 64)).set (k + 1) ((f >>> 64).setWidth 64) }

/-- The two flits of a register quad. -/
def Tile.quad (t : Tile) (k : Nat) : List Flit := [t.pair (4 * (k % 16)), t.pair (4 * (k % 16) + 2)]

/-! #### Queues and credits (R160, R162, R168, R170) -/

/-- The flits of a queue an instruction may take: the oldest, in an ordered queue those of the next tags, in TAG mode those of a tag. -/
def Tile.avail (t : Tile) (q : Nat) (tag : Option Nat) (n : Nat) : Option (List Tok) :=
  let l := t.queues.get q
  match tag with
  | some g =>
    let m := (l.filter (fun k => k.tag == g)).take n
    if m.length = n then some m else none
  | none =>
    if q < 16 ∧ qOrdered (t.ctx.queue q) = true then
      let m := (List.range n).filterMap (fun i => l.find? (fun k => k.tag == (t.nextTag.get q + i) % 65536))
      if m.length = n then some m else none
    else if n ≤ l.length then some (l.take n) else none

/-- Remove the first occurrence of each flit from a list. -/
def dropToks (l : List Tok) : List Tok → List Tok
  | [] => l
  | k :: r => dropToks (l.erase k) r

/-- The flits a tile's matching store holds (R168). -/
def Tile.matchedCount (t : Tile) : Nat :=
  t.queues.cells.foldl (fun n c => n + (c.2.filter (·.matched)).length) 0

/-- Return the credit of a flit to its producer (R162). The records of Oslink do not name a flit's producer, so a credit for another chip goes where free values say. -/
def State.returnCredit (s : State) (k : Tok) : State :=
  match k.src with
  | none => s
  | some c =>
    if c.chip < 0x8000 then s.updFab (fun b => { b with credits := b.credits ++ [c] })
    else
      let p := c.chip - 0x8000
      let (a, s) := s.free
      s.oslSubmit none (creditRec (bits a.toNat 14 0) (bits a.toNat 20 15) (bits a.toNat 26 21) (bits a.toNat 30 27) 1 p (s.prog p).gen)

/-- Let the matching store take the oldest flits that wait in tagged queues, while it has room; their credits return (R168). -/
def State.matchMore (s : State) (t : Nat) : Nat → State
  | 0 => s
  | n + 1 =>
    let x := s.tile t
    if x.ctx.tag = false ∨ 32 ≤ x.matchedCount then s
    else
      match x.queues.cells.find? (fun c => c.2.any (fun k => !k.matched)) with
      | none => s
      | some (q, l) =>
        match takeFirst (fun k => !k.matched) l with
        | none => s
        | some (k, _) =>
          let i := l.findIdx (fun k => !k.matched)
          ((s.updTile t (fun x => { x with queues := x.queues.set q (modifyAt l i (fun k => { k with matched := true })) })).returnCredit
            k).matchMore t n

/-- Take flits out of a queue: their credits return unless the matching store returned them already. -/
def State.dequeue (s : State) (t q : Nat) (ks : List Tok) : State :=
  let s := s.updTile t (fun x => { x with
    queues := x.queues.upd q (fun l => dropToks l ks)
    nextTag := if q < 16 && qOrdered (x.ctx.queue q) then x.nextTag.upd q (fun e => (e + ks.length) % 65536) else x.nextTag })
  let s := ks.foldl (fun s k => if k.matched then s else s.returnCredit k) s
  s.matchMore t ks.length

/-- Where a channel of a tile leads, by its relocated record (R218, R308): this chip's address names a tile here. -/
def State.chanDest (s : State) (t k : Nat) : Dest :=
  let x := s.tile t
  let p := s.plot (x.plot.getD 0)
  let px := tileX t - p.x0
  let py := tileY t - p.y0
  let e := x.ctx.chan k
  if isReply p.image px py k then .reply
  else match collectIx p.image (p.desc x.ctx) px py k with
  | some c => .collect c
  | none =>
    match p.prog with
    | none => .tile (chX e) (chY e) (chQueue e)
    | some i => if chChip e = s.me then .tile (chX e) (chY e) (chQueue e) else .remote (chChip e) (chX e) (chY e) (chQueue e) i (s.prog i).gen

/-- Whether a channel may send `n` flits (R162, R182): it is valid, holds the credits, and its consumer in the plot has flipped to the same section. -/
def State.canSend (s : State) (t k n : Nat) : Bool :=
  let x := s.tile t
  let e := x.ctx.chan (k % 16)
  chValid e && decide (x.spent.get (k % 16) + n ≤ chCredits e)
    && (match s.chanDest t (k % 16) with
      | .tile gx gy _ => decide ((s.tile (tileIx gx gy)).inst = x.inst) && decide ((s.tile (tileIx gx gy)).plot = x.plot)
      | _ => true)

/-- The tag a flit is sent with (R168, R169): in SEQ mode the iteration index of the counter tag_add names, in TAG mode the source tag plus tag_add. -/
def Tile.outTag (t : Tile) (i : Nat) (tag : Option Nat) : Nat :=
  match tag with
  | some g => (g + miTagAdd i) % 65536
  | none => t.iter (miTagAdd i % 8)

/-- Whether widen_mode of a pass is FORCE (R206); there is no widening in adaptation. -/
def PlotSt.force (p : PlotSt) : Bool := p.job.isNone && decide (bits p.ctrl.toNat 1 0 = 2)

/-- Whether a section runs only its wide variant: FORCE, and it has one. -/
def PlotSt.forced (p : PlotSt) (sec : Nat) : Bool := p.force && decide (wideOff p.image (secOff p.image sec) ≠ 0)

/-- Whether a record that a context produces counts as made at or after a widened section of its pass (R209). -/
def PlotSt.widenedAt (p : PlotSt) (c : Ctx) : Bool :=
  p.widened || c.wide || (List.range (c.sec + 1)).any p.forced

/-- Flits in a buffer (R161). -/
def bufferLoad (l : List Packet) (x y port vc : Nat) : Nat :=
  (l.filter (fun j => decide (j.x = x) && decide (j.y = y) && decide (j.port = port) && decide (j.vc = vc))).length

/-- Where a tile's flit goes first: into the local buffer of its router, which holds 4 of a virtual channel, or to wait at the tile's output (R161). -/
def localPort (l : List Packet) (x y vc : Nat) : Nat := if bufferLoad l x y 4 vc < 4 then 4 else 5

/-- Flits that wait at a tile's output enter its router's local buffer as places come free, oldest first; `done` are the packets already looked at. -/
def refillLocal : List Packet → List Packet → List Packet
  | done, [] => done
  | done, k :: r => refillLocal (done ++ [if k.port = 5 then { k with port := localPort done k.x k.y k.vc } else k]) r

/-- Put a flit on a channel and spend its credit. -/
def State.sendFlit (s : State) (t k : Nat) (kind : PktKind) (tag : Nat) (f : Flit) : State :=
  let x := s.tile t
  let c := k % 16
  let e := x.ctx.chan c
  let vc := if kind = .data then chVc e else 1
  let p : Packet := {
    x := tileX t, y := tileY t, port := localPort s.fab.packets (tileX t) (tileY t) vc, vc := vc, kind := kind, dest := s.chanDest t c,
    tagged := chTagged e, tok := ⟨f, tag, if kind = .sectionEnd then none else some ⟨0x7FFF, t, c, x.inst⟩, false, 0⟩,
    plot := x.plot.getD 0, inst := x.inst, widened := (s.plot (x.plot.getD 0)).widenedAt x.ctx }
  let s := s.updFab (fun b => { b with packets := b.packets ++ [p] })
  if kind = .sectionEnd then s else s.updTile t (fun x => { x with spent := x.spent.upd c (· + 1) })

/-! #### Sources and destinations (R168, R171) -/

/-- The IN queues an instruction reads, each with how many flits: what its opcode takes of a source, and one flit of an IN source that it has no use for (R168). -/
def inNeeds (c : Tile) (i : Nat) : List (Nat × Nat) :=
  let a (n : Nat) := if miAk i = 1 then [(miSa i, n)] else []
  let b (n : Nat) := if miBk i = 1 then [(miSb i, n)] else []
  let merge (l : List (Nat × Nat)) : List (Nat × Nat) := match l with
    | [(p, n), (q, m)] => if p = q then [(p, n + m)] else l
    | _ => l
  merge (match miOp i with
  | 0x02 => a ((if c.codebook then 2 else 1) + b2n (bit (miImm i) 9)) ++ b 1
  | 0x04 => a 2 ++ b 2
  | 0x05 => a 2 ++ b 1
  | _ => a 1 ++ b 1)

/-- Whether every IN source of an instruction holds its flits. -/
def Tile.sourcesReady (t : Tile) (i : Nat) (tag : Option Nat) : Bool :=
  (inNeeds t i).all (fun n => (t.avail n.1 tag n.2).isSome)

/-- `n` flits of a source: from registers, a queue, consecutive store words, or the immediate in every lane. The queue's flits stay where they are. -/
def Tile.read (t : Tile) (kind sel n imm : Nat) (tag : Option Nat) (skip : Nat) : List Flit :=
  if kind = 0 then (List.range n).map (fun j => t.pair (sel + 2 * j))
  else if kind = 1 then (((t.avail sel tag (n + skip)).getD []).drop skip).map (·.flit)
  else if kind = 2 then (List.range n).map (fun j => t.store.get ((t.addr sel + j) % 2048))
  else List.replicate n (packFlit 16 (List.replicate 8 imm))

/-- The two flits of a quad source (R158): quad sel of the registers, or two flits of another source. -/
def Tile.readQuad (t : Tile) (kind sel imm : Nat) (tag : Option Nat) (skip : Nat) : List Flit :=
  if kind = 0 then t.quad sel else t.read kind sel 2 imm tag skip

/-- Take an instruction's IN flits out of their queues. -/
def State.takeSources (s : State) (t i : Nat) (tag : Option Nat) : State :=
  (inNeeds (s.tile t) i).foldl (fun s n => s.dequeue t n.1 (((s.tile t).avail n.1 tag n.2).getD [])) s

/-- Write flits to a destination: registers (from pair or quad dst), a channel, consecutive store words, or nowhere. -/
def State.writeDst (s : State) (t i : Nat) (tag : Option Nat) (quad : Bool) (fs : List Flit) : State :=
  let x := s.tile t
  if miDk i = 0 then
    let base := if quad then 4 * (miDst i % 16) else miDst i
    s.updTile t (fun x => (List.range fs.length).foldl (fun x j => x.setPair (base + 2 * j) (fs[j]?.getD 0)) x)
  else if miDk i = 1 then fs.foldl (fun s f => s.sendFlit t (miDst i) .data (x.outTag i tag) f) s
  else if miDk i = 2 then
    let a := x.addr (miDst i)
    s.updTile t (fun x => (List.range fs.length).foldl (fun x j => { x with store := x.store.set ((a + j) % 2048) (fs[j]?.getD 0) }) x)
  else s

/-- Whether an instruction may write `n` flits to its destination now. -/
def State.dstReady (s : State) (t i n : Nat) : Bool := miDk i != 1 || s.canSend t (miDst i) n

/-! #### The multiplier block (R157, R195 to R197) -/

/-- Signed weight of output `k` for input `i`. -/
def Tile.weight (t : Tile) (k i : Nat) : Int :=
  let b := fmtBits t.ctx.fmt
  let w := (t.wblock[k]?).getD 0
  if t.codebook then signedOf 8 (elemRaw 8 (elemRaw 4 i w) ((t.book[k]?).getD 0)) else signedOf b (elemRaw b i w)

/-- Reduction length of a tile, and its outputs: 32, 16 or 8. -/
def Tile.width (t : Tile) : Nat := fmtLen t.ctx.fmt

/-- Group shift of an output; a nibble of 8 to 15 is taken as its low three bits, and Q16 has none (R196). -/
def Tile.gShift (t : Tile) (k : Nat) : Nat := if t.ctx.fmt = 2 then 0 else elemRaw 4 k t.wshift % 8

/-- Add a vector's product sums to accumulators (R196). -/
def Tile.addVec (t : Tile) (v : List Int) (e : Nat) (acc : List (Int × Bool)) : List (Int × Bool) :=
  (List.range t.width).map (fun k =>
    accAdd t.ctx.fmt ((acc[k]?).getD (0, false)) (dot v ((List.range v.length).map (t.weight k)) * 2 ^ (t.gShift k + e)))

/-- MACW (R195): a weight block, a shift flit for Q4 and Q8, and 32 codebook flits for CODEBOOK, from consecutive store words. -/
def State.macw (s : State) (t i : Nat) : State :=
  let x := s.tile t
  let a := x.addr (miSa i)
  let word (j : Nat) : Flit := x.store.get ((a + j) % 2048)
  let n := x.width
  let sh := if x.ctx.fmt = 2 then 0 else word n
  let bad := if x.ctx.fmt = 2 then 0 else ((List.range n).filter (fun k => decide (8 ≤ elemRaw 4 k sh))).length
  (s.addCnt Reg.NUM_BAD_SHIFT bad).updTile t (fun x => { x with
    wblock := (List.range n).map word, wshift := sh, codebook := decide (miFunc i = 1)
    book := if miFunc i = 1 then (List.range 32).map (fun j => word (n + 1 + j)) else [] })

/-- The operands of a MAC and its vector's exponent, and the orphan escapes (R192, R203). -/
def Tile.vector (t : Tile) (i : Nat) (fs : List Flit) : List Int × Nat × Nat :=
  let vf := if t.codebook then 2 else 1
  let b := if t.codebook then 8 else fmtBits t.ctx.fmt
  let raw := (fs.take vf).flatMap (fun f => (List.range (128 / b)).map (fun j => elemRaw b j f))
  let side := if bit (miImm i) 9 then some ((fs[vf]?).getD 0) else none
  let signed := bit (miImm i) 8
  let zp : Int := if signed then signedOf 8 (bits (miImm i) 7 0) else bits (miImm i) 7 0
  let (v, orphans) := macOperands b t.width signed zp (escCode (if b = 4 then 0 else 1)) side raw
  (v, (side.map (fun f => bits f.toNat 2 0)).getD 0, orphans)

/-- The north-west corner of a tile's array and its size. -/
def State.array (s : State) (t : Nat) : Nat × Nat × Nat × Nat :=
  let c := (s.tile t).ctx
  let x := tileX t - c.fCol
  let y := tileY t - c.fRow
  let p := (s.tile t).plot
  let ok (i j : Nat) : Bool :=
    let d := s.tile (tileIx (x + i) (y + j))
    decide (d.plot = p) && d.ctx.fused && decide (d.ctx.fCol = i) && decide (d.ctx.fRow = j)
  let w := ((List.range 32).takeWhile (fun i => ok i 0)).length
  let h := ((List.range 32).takeWhile (fun j => ok 0 j)).length
  (x, y, h, w)

/-- The bias a north-row tile starts its outputs from (R164). -/
def Tile.bias (t : Tile) : List (Int × Bool) :=
  if t.ctx.northBias then
    let ws := (List.range 16).map (fun j => t.store.get ((t.addr 15 + j) % 2048))
    (List.range t.width).map (fun k => (Config.biasValue t.ctx.fmt ws k, false))
  else []

/-- When every row of an array has fed a vector, the set is taken: its sums, in ascending reduction index, go to the south edge (R164, R165, R194). -/
def State.runSet (s : State) (t : Nat) : State :=
  let (x, y, h, w) := s.array t
  let west := (List.range h).map (fun j => tileIx x (y + j))
  if west.all (fun i => !(s.tile i).west.isEmpty) then
    let vs := west.map (fun i => ((s.tile i).west.headD ([], 0)))
    let s := west.foldl (fun s i => s.updTile i (fun q => { q with west := q.west.drop 1 })) s
    (List.range w).foldl (fun s i =>
      let sums := (List.range h).foldl (fun acc j =>
        let v := (vs[j]?).getD ([], 0)
        (s.tile (tileIx (x + i) (y + j))).addVec v.1 v.2 acc) (s.tile (tileIx (x + i) y)).bias
      s.updTile (tileIx (x + i) (y + h - 1)) (fun q => { q with sets := q.sets ++ [sums] })) s
  else s

/-- Whether the east column of a tile's array forwards activations, and can (R164). -/
def State.eastTile (s : State) (t : Nat) : Option Nat :=
  let (x, _, _, w) := s.array t
  let e := tileIx (x + w - 1) (tileY t)
  if (s.tile e).ctx.eastFwd && chValid ((s.tile e).ctx.chan (Config.eastChannel % 16)) then some e else none

/-- MAC (R157, R164, R165, R192, R196, R197): one activation vector into an unfused tile's accumulators, or into the row of a fused array at its west column. In any other fused tile it feeds nothing. -/
def State.feedVec (s : State) (t i : Nat) (tag : Option Nat) : Option State :=
  let x := s.tile t
  let vf := if x.codebook then 2 else 1
  let fs := x.read (miAk i) (miSa i) (vf + b2n (bit (miImm i) 9)) (miImm i) tag 0
  let (v, e, orphans) := x.vector i fs
  let fwd := if x.ctx.fused && decide (x.ctx.fCol = 0) then s.eastTile t else none
  if (fwd.map (fun q => s.canSend q Config.eastChannel vf)).getD true then
    let s := (s.takeSources t i tag).addCnt Reg.NUM_ESC_ORPHAN orphans
    if x.ctx.fused = false then some (s.updTile t (fun q => { q with acc := q.addVec v e q.acc }))
    else if x.ctx.fCol = 0 then
      let s := (s.updTile t (fun q => { q with west := q.west ++ [(v, e)] })).runSet t
      some (match fwd with
        | some q => (fs.take vf).foldl (fun s f => s.sendFlit q Config.eastChannel .data ((s.tile q).outTag i tag) f) s
        | none => s)
    else some s
  else none

/-! #### Requantisation (R198 to R203, R213) -/

/-- The bank of a plot's pass: live epochs map to banks by epoch mod 2 (R211, R309). -/
def PlotSt.bank (p : PlotSt) : Nat := p.epoch % 2

/-- The key of stochastic rounding (R202). -/
def PlotSt.srKey (p : PlotSt) (c : Ctx) (t instr : Nat) : DWord :=
  BitVec.ofNat 64 (srSeed p.image (p.desc c) <<< 32 ||| (c.sec % 16) <<< 28 ||| (instr % 256) <<< 20
    ||| ((tileY t - p.y0) % 32) <<< 15 ||| ((tileX t - p.x0) % 32) <<< 10)

/-- The key of an instruction among those of a tile's pass: its section, whether of the wide variant, and its index (R202). -/
def Ctx.instrKey (c : Ctx) (instr : Nat) : Nat := (2 * c.sec + b2n c.wide) * 256 + instr

/-- The rounding byte of output `k` of a firing (R202): `tag` is the result's tag in TAG mode, and `before` counts the groups this instruction has rounded since the pass started. -/
def PlotSt.srByte (p : PlotSt) (c : Ctx) (t instr : Nat) (tag : Option Nat) (before k : Nat) : Nat :=
  let low := match tag with
    | some g => (g <<< 8) + k / 16
    | none => before + k / 16
  sorrelByte (p.srKey c t instr) (BitVec.ofNat 64 (p.passKey <<< 32 ||| low % 2 ^ 32)) (k % 16)

/-- Add what a requantisation counted to the tile's part (R206, R213). -/
def Tile.count (t : Tile) (o : ReqOut) (sample : Bool) (shift : Nat) : Tile :=
  let picked := if sample then (List.range o.errs.length).filterMap (fun k =>
    if (t.outIdx + k) % 2 ^ shift = 0 then (o.errs[k]?).map Int.natAbs else none) else []
  let sse := picked.foldl (fun a e => a + e * e) t.stat.sse
  { t with
    outIdx := t.outIdx + o.errs.length
    stat := { t.stat with
      outputs := t.stat.outputs + o.errs.length, samples := t.stat.samples + picked.length
      sse := min sse (2 ^ 64 - 1), sseSat := t.stat.sseSat || decide (2 ^ 64 ≤ sse), maxE := picked.foldl max t.stat.maxE
      satAcc := t.stat.satAcc + o.satAcc, satOut := t.stat.satOut + o.satOut
      satExp := t.stat.satExp + o.satExp, satEsc := t.stat.satEsc + o.satEsc } }

/-- Whether a tile samples conversion errors, and how thinly (R213). -/
def State.sampling (s : State) (t : Nat) : Bool × Nat :=
  let x := s.tile t
  let p := s.plot (x.plot.getD 0)
  (statEn p.image (p.desc x.ctx) && bit p.ctrl.toNat 3, bits p.ctrl.toNat 8 4)

/-- The rounding mode in force: SR is RNE while sr_en is 0 (R200). -/
def PlotSt.rnd (p : PlotSt) (func : Nat) : Nat := let r := func / 4 % 4; if r = 1 ∧ bit p.ctrl.toNat 2 = false then 0 else r

/-- The output flits of a DRAIN: codes, each flit followed by its side flit (R198, R203). -/
def drainFlits (fmt : Nat) (o : ReqOut) (side : Bool) : List Flit :=
  let b := fmtBits fmt
  let n := 128 / b
  (List.range ((o.codes.length + n - 1) / n)).flatMap (fun j =>
    packFlit b ((o.codes.drop (j * n)).take n) ::
      (if side then [sideFlit o.e ((o.entries.filter (fun x => decide (x.1 / n = j))).map (fun x => (x.1 % n, x.2)))] else []))

/-- Flits a DRAIN writes. -/
def drainCount (fmt n : Nat) (side : Bool) : Nat := (n * fmtBits fmt + 127) / 128 * (if side then 2 else 1)

/-- DRAIN (R164, R194, R198, R199, R202, R203): an unfused tile requantises its accumulators and clears them; a south-row tile takes the oldest finished set. A group narrower than a flit leaves the rest of the flit to a free value. -/
def State.drain (s : State) (t instr i : Nat) (tag : Option Nat) : Option State :=
  let x := s.tile t
  let p := s.plot (x.plot.getD 0)
  let fmt := miFunc i % 4
  let imm := miImm i
  let (_, _, h, _) := s.array t
  let south := x.ctx.fused && decide (x.ctx.fRow + 1 = h)
  if s.dstReady t i (drainCount fmt x.width (bit imm 10)) && !(south && x.sets.isEmpty) then
    let acc := if south then x.sets.headD [] else x.acc
    let signed := bit imm 8
    let par : ReqPar := {
      fmt := fmt, rnd := p.rnd (miFunc i), zp := if signed then signedOf 8 (bits imm 7 0) else bits imm 7 0,
      signed := signed, relu := bit imm 9, dyn := bit imm 11, esc := bit imm 12 }
    let base := x.addr (miSb i) + p.bank * calStride p.image (p.desc x.ctx)
    let word (k : Nat) : Nat := (x.store.get ((base + k) % 2048)).toNat
    let before := x.groups.get (x.ctx.instrKey instr)
    let ins := (List.range x.width).map (fun k =>
      let a := accRead x.ctx.fmt ((acc[k]?).getD (0, false))
      ({ acc := a.1, sat := a.2, m := signedOf 16 (bits (word k) 15 0), s := min 55 (bits (word k) 21 16),
         r := p.srByte x.ctx t instr (tag.map (fun _ => x.outTag i tag)) before k } : ReqIn))
    let bad := ((List.range x.width).filter (fun k => decide (56 ≤ bits (word k) 21 16))).length
    let o := par.requant ins
    let (smp, sh) := s.sampling t
    let s := (s.takeSources t i tag).addCnt Reg.NUM_BAD_SHIFT bad
    let s := s.updTile t (fun q => { (q.count o smp sh) with
      acc := if south then q.acc else [], sets := if south then q.sets.drop 1 else q.sets
      groups := q.groups.upd (x.ctx.instrKey instr) (· + (x.width + 15) / 16) })
    let fs := drainFlits fmt o (bit imm 10)
    let used := x.width * fmtBits fmt
    if used < 128 then
      let (lo, s) := s.free
      let (hi, s) := s.free
      let fill := BitVec.ofNat 128 (((lo.toNat + hi.toNat <<< 64) >>> used) <<< used)
      some (s.writeDst t i tag false (match fs with
        | f :: r => (f ||| fill) :: r
        | [] => []))
    else some (s.writeDst t i tag false fs)
  else none

/-! #### The vector ALU (R158, R159, R198) -/

/-- The 16 lanes of two flits. -/
def quadLanes (fs : List Flit) : List Int := fs.flatMap lanesOf

/-- The two flits of 16 lanes. -/
def laneFlits (l : List Int) : List Flit := packFlits 16 2 (l.map (rawOf 16))

/-- The lanes a masked-off lane keeps: those of the destination (R158); a channel has none, so a free value stands there. -/
def State.oldLanes (s : State) (t i : Nat) : List Int × State :=
  let x := s.tile t
  if miDk i = 0 then (quadLanes (x.quad (miDst i)), s)
  else if miDk i = 2 then (quadLanes ((List.range 2).map (fun j => x.store.get ((x.addr (miDst i) + j) % 2048))), s)
  else if miLanes i = 0xFFFF then ([], s)
  else
    let (a, s) := s.free
    let (b, s) := s.free
    let (c, s) := s.free
    let (d, s) := s.free
    (quadLanes [BitVec.ofNat 128 (a.toNat + b.toNat <<< 64), BitVec.ofNat 128 (c.toNat + d.toNat <<< 64)], s)

/-- VOP (R158, R198): a vector function or a requantisation of 16 lanes; lanes masked off keep their value. -/
def State.vop (s : State) (t instr i : Nat) (tag : Option Nat) : Option State :=
  let x := s.tile t
  let p := s.plot (x.plot.getD 0)
  if s.dstReady t i 2 then
    let imm := miImm i
    let same := miAk i = 1 ∧ miBk i = 1 ∧ miSa i = miSb i
    let a := quadLanes (x.readQuad (miAk i) (miSa i) imm tag 0)
    let b := quadLanes (x.readQuad (miBk i) (miSb i) imm tag (if same then 2 else 0))
    let on (k : Nat) : Bool := bit (miLanes i) k
    let (old, s) := s.oldLanes t i
    let s := s.takeSources t i tag
    if 0x10 ≤ miFunc i then
      let signed := bit imm 14
      let fmt := miFunc i % 4
      let par : ReqPar := {
        fmt := fmt, rnd := p.rnd (miFunc i), zp := if signed then signedOf 8 (bits imm 13 6) else bits imm 13 6,
        signed := signed, relu := bit imm 15, dyn := false, esc := false }
      let before := x.groups.get (x.ctx.instrKey instr)
      let lanes := (List.range 16).filter on
      let o := par.requant (lanes.map (fun k => {
        acc := (a[k]?).getD 0, sat := false, m := (b[k]?).getD 0, s := min 55 (bits imm 5 0), r := p.srByte x.ctx t instr (tag.map (fun _ => x.outTag i tag)) before k }))
      let code (k : Nat) : Int :=
        let c := (o.codes[(lanes.takeWhile (· != k)).length]?).getD 0
        if signed then signedOf (fmtBits fmt) c else c
      let (smp, sh) := s.sampling t
      let s := if 56 ≤ bits imm 5 0 then s.bump Reg.NUM_BAD_SHIFT else s
      let s := s.updTile t (fun q => { (q.count o smp sh) with groups := q.groups.upd (x.ctx.instrKey instr) (· + 1) })
      some (s.writeDst t i tag true (laneFlits ((List.range 16).map (fun k => if on k then code k else (old[k]?).getD 0))))
    else
      some (s.writeDst t i tag true (laneFlits ((List.range 16).map (fun k =>
        if on k then (vopLane (miFunc i) imm k ((a[k]?).getD 0) ((b[k]?).getD 0)).getD 0 else (old[k]?).getD 0))))
  else none

/-- LUT (R159): the function table on the 16 lanes of quad sa. -/
def State.lut (s : State) (t i : Nat) (tag : Option Nat) : Option State :=
  let x := s.tile t
  if s.dstReady t i 2 then
    let a := quadLanes (x.readQuad (miAk i) (miSa i) (miImm i) tag 0)
    let (old, s) := s.oldLanes t i
    some ((s.takeSources t i tag).writeDst t i tag true (laneFlits ((List.range 16).map (fun k =>
      if bit (miLanes i) k then lutLane x.ctx.ftab ((a[k]?).getD 0) else (old[k]?).getD 0))))
  else none

/-- MOV (R172): a flit moves as a register pair. -/
def State.mov (s : State) (t i : Nat) (tag : Option Nat) : Option State :=
  let x := s.tile t
  if s.dstReady t i 1 then
    let f := if miAk i = 3 then BitVec.ofNat 128 (miImm i) else ((x.read (miAk i) (miSa i) 1 (miImm i) tag 0).headD 0)
    some ((s.takeSources t i tag).writeDst t i tag false [f])
  else none

/-! #### The section store (R179, R180, R207) -/

/-- Key of a word of a region slot of a plot. -/
def regionKey (plot slot off : Nat) : Nat := (plot * 16 + slot) * 2 ^ 64 + off

/-- An access of a tile to a region slot sets out on the data virtual channel for the field edge, carrying the lease epoch of the plot's regions (R179). -/
def State.sendReq (s : State) (t i : Nat) (tag : Option Nat) (write : Option Flit) : State :=
  let x := s.tile t
  let p := x.plot.getD 0
  let r : SecReq := {
    tile := t, queue := miDst i % 16, plot := p, slot := miImm i % 16, off := (x.regs.get (miSb i % 64)).toNat,
    lease := (s.plot p).lease, tag := x.outTag i tag, write := write, inst := x.inst }
  s.updFab (fun b => { b with packets := b.packets ++ [{
    x := tileX t, y := tileY t, port := localPort b.packets (tileX t) (tileY t) 0, vc := 0, kind := .data, dest := .store r, tagged := false
    tok := {}, plot := p, inst := x.inst }] })

/-- LDS (R172, R179): a read of a region slot. -/
def State.lds (s : State) (t i : Nat) (tag : Option Nat) : State := (s.takeSources t i tag).sendReq t i tag none

/-- Bytes that fall beyond the leased lines of a region (R180). -/
def State.spillCount (s : State) (p slot off : Nat) : State :=
  if ((s.plot p).leased[slot]?).getD 0 * 128 ≤ off then s.addCnt Reg.FAB_SPILL_BYTES 16 else s

/-- STS (R172, R179, R207): a write of the flit in sa to a region slot; one to a retained slot of a section that may widen is discarded and counted. A word beyond the declared region does not exist. -/
def State.sts (s : State) (t i : Nat) (tag : Option Nat) : State :=
  let x := s.tile t
  let pi := x.plot.getD 0
  let p := s.plot pi
  let o := p.desc x.ctx
  let slot := miImm i % 16
  let off := (x.regs.get (miSb i % 64)).toNat
  let f := (x.read (miAk i) (miSa i) 1 (miImm i) tag 0).headD 0
  let s := s.takeSources t i tag
  if widenEn p.image (descOff p.image x.ctx.sec false) && bit (retainMask p.image (descOff p.image x.ctx.sec false)) slot then
    s.bump Reg.NUM_RETAIN_VIOL
  else if regionLines p.image o slot * 128 ≤ off then s
  else s.sendReq t i tag (some f)

/-! #### Firing (R168, R171) -/

/-- The program counter and the counter after an instruction of a SEQ program (R171). -/
def Tile.advance (t : Tile) (i : Nat) : Tile :=
  let c := miCtr i
  let (rl, cur) := (t.ctrs[c]?).getD (0, 0)
  let next := if miOp i = 0x0A then miTarget i else t.pc + 1
  match miCop i with
  | 1 =>
    let n := (cur + 65535) % 65536
    { t with ctrs := modifyAt t.ctrs c (fun _ => (rl, n)), pc := if n ≠ 0 then miTarget i else next }
  | 2 => { t with ctrs := modifyAt t.ctrs c (fun _ => (rl, rl)), pc := next }
  | 3 => { t with ctrs := modifyAt t.ctrs c (fun _ => (rl, (cur + 65535) % 65536)), pc := next }
  | _ => { t with pc := next }

/-- What an instruction does once its sources are there; none while its destination holds no credit. -/
def State.fire (s : State) (t instr i : Nat) (tag : Option Nat) : Option State :=
  match miOp i with
  | 0x00 => some (s.takeSources t i tag)
  | 0x01 => some ((s.macw t i).takeSources t i tag)
  | 0x02 => s.feedVec t i tag
  | 0x03 => s.drain t instr i tag
  | 0x04 => s.vop t instr i tag
  | 0x05 => s.lut t i tag
  | 0x06 => s.mov t i tag
  | 0x07 => some (s.lds t i tag)
  | 0x08 => some (s.sts t i tag)
  | 0x09 => if s.canSend t (miDst i) 1 then
      some ((s.takeSources t i tag).sendFlit t (miDst i) .control ((s.tile t).outTag i tag) (BitVec.ofNat 128 (miImm i % 2))) else none
  | 0x0A => some (s.takeSources t i tag)
  | 0x0B => some ((s.takeSources t i tag).updTile t (fun x => { x with ctrs := modifyAt x.ctrs (miCtr i) (fun _ => (miImm i, miImm i)) }))
  | _ => none

/-- Tokens an instruction takes (R195, R205). -/
def Tile.cost (t : Tile) (i : Nat) : Nat :=
  let imm := miImm i
  let quant (n : Nat) (dyn side : Bool) : Nat := (n + 15) / 16 + (if miFunc i / 4 % 4 = 2 then 0 else 1) + b2n dyn + b2n side
  match miOp i with
  | 0x01 => (t.width + (if t.ctx.fmt = 2 then 0 else 1) + (if miFunc i = 1 then 32 else 0) + 1) / 2
  | 0x02 => (if t.codebook then 2 else 1) + b2n (bit imm 9)
  | 0x03 => quant t.width (bit imm 11) (bit imm 10)
  | 0x04 => if 0x10 ≤ miFunc i then quant 16 false false else 1
  | _ => 1

/-- A handshake at a tile's ports: the measure of its progress begins again (R366). -/
def State.handshake (s : State) (t : Nat) : State := s.updTile t (fun x => { x with readyNs := 0 })

/-- Count tokens of a tile: its field's sum, and the selection's while it names the tile or its plot (R188). -/
def State.countTokens (s : State) (t n : Nat) : State :=
  let f := fieldOf (tileX t) (tileY t)
  let p := s.plot ((s.tile t).plot.getD 0)
  let sel := (s.fld Reg.FAB_STALL_SEL_kind = 2 ∧ s.fld Reg.FAB_STALL_SEL_x = tileX t ∧ s.fld Reg.FAB_STALL_SEL_y = tileY t)
    ∨ (s.fld Reg.FAB_STALL_SEL_kind = 1 ∧ s.fld Reg.FAB_STALL_SEL_field = p.field ∧ s.fld Reg.FAB_STALL_SEL_plot = p.index
      ∧ (s.tile t).plot.isSome = true)
  let s := (s.handshake t).addCnt (Reg.FAB_FLD_TOKENS f) n
  if sel then s.addCnt Reg.FAB_SEL_TOKENS n else s

/-- The tags an instruction of a TAG program could fire with: those for which every IN source holds its flits. An instruction without an IN source never becomes ready. -/
def Tile.readyTags (t : Tile) (i : Nat) : List Nat :=
  match inNeeds t i with
  | [] => []
  | n :: _ => ((t.queues.get n.1).map (·.tag)).eraseDups.filter (fun g => t.sourcesReady i (some g))

/-- The lowest-indexed ready instruction of a TAG program, with its tags (R168). -/
def Tile.readyInstr (t : Tile) : Option (Nat × List Nat) :=
  (List.range t.ctx.n).findSome? (fun k => match t.readyTags (t.ctx.instr k) with
    | [] => none
    | l => some (k, l))

/-- A microinstruction of a given opcode fires in a tile, if it is the one to fire next (R168): in SEQ mode the instruction at the program counter, in TAG mode the lowest-indexed ready one. Which of several matching tags a TAG program takes first is left open. -/
def State.fireOp (s : State) (t op : Nat) : State :=
  let x := s.tile t
  if x.phase ≠ .running then s
  else if x.ctx.tag then
    match x.readyInstr with
    | none => s
    | some (k, tags) =>
      let i := x.ctx.instr k
      if miOp i ≠ op then s
      else
        let (v, s1) := if tags.length = 1 then ((0 : DWord), s) else s.free
        let g := (tags[v.toNat % tags.length]?).getD 0
        match s1.fire t k i (some g) with
        | none => s
        | some u => u.countTokens t (x.cost i)
  else
    let i := x.ctx.instr x.pc
    if x.pc < x.ctx.n ∧ miOp i = op ∧ x.sourcesReady i none = true then
      match s.fire t x.pc i none with
      | none => s
      | some u => (u.updTile t (fun q => q.advance i)).countTokens t (x.cost i)
    else s

/-- TILE_NOP (R172). -/
def execTileNop (t : Fin 4096) (s : State) : Out := .next (s.fireOp t.val 0x00)
/-- MACW (R195). -/
def execMacw (t : Fin 4096) (s : State) : Out := .next (s.fireOp t.val 0x01)
/-- MAC (R196). -/
def execTileMac (t : Fin 4096) (s : State) : Out := .next (s.fireOp t.val 0x02)
/-- DRAIN (R199). -/
def execDrain (t : Fin 4096) (s : State) : Out := .next (s.fireOp t.val 0x03)
/-- VOP (R158). -/
def execVop (t : Fin 4096) (s : State) : Out := .next (s.fireOp t.val 0x04)
/-- LUT (R159). -/
def execLut (t : Fin 4096) (s : State) : Out := .next (s.fireOp t.val 0x05)
/-- MOV (R172). -/
def execTileMov (t : Fin 4096) (s : State) : Out := .next (s.fireOp t.val 0x06)
/-- LDS (R179). -/
def execLds (t : Fin 4096) (s : State) : Out := .next (s.fireOp t.val 0x07)
/-- STS (R179). -/
def execSts (t : Fin 4096) (s : State) : Out := .next (s.fireOp t.val 0x08)
/-- CTL (R172). -/
def execCtl (t : Fin 4096) (s : State) : Out := .next (s.fireOp t.val 0x09)
/-- TILE_JMP (R172). -/
def execTileJmp (t : Fin 4096) (s : State) : Out := .next (s.fireOp t.val 0x0A)
/-- CSET (R172). -/
def execCset (t : Fin 4096) (s : State) : Out := .next (s.fireOp t.val 0x0B)

end Sys2Proof.Machine
end

