-- ==== Sys2Proof/Machine/Resources.lean ====
section
/-! DEFINITION. What Bay leases: tiles, plots, configuration-store lines, section-store lines, HBM image space; the changes it issues; the writing of weights and calibration banks (R155, R179, R180, R185, R211, R217, R222 to R224, R232 to R234, R237, R363). -/

namespace Sys2Proof.Machine

/-! #### Repair maps and free tiles -/

/-- The repair state of a field. -/
def State.repField (s : State) (f : Nat) : RepField := s.rep.fields.get f

/-- Change the repair unit. -/
def State.updRep (s : State) (f : RepSt → RepSt) : State := { s with rep := f s.rep }

/-- Change a field's repair state. -/
def State.updRepField (s : State) (f : Nat) (g : RepField → RepField) : State :=
  s.updRep (fun r => { r with fields := r.fields.upd f g })

/-- The physical row of a field-local logical row (R155). -/
def RepMap.prow (m : RepMap) (y : Nat) : Nat := (((List.range 34).filter (fun r => !m.rows.contains r))[y]?).getD 0

/-- The physical tile (row, column) of a field-local logical tile. -/
def RepMap.phys (m : RepMap) (x y : Nat) : Nat × Nat :=
  let r := m.prow y
  (r, if x < m.cols.get r then x else x + 1)

/-- The index of a field-local tile. -/
def fieldTile (f x y : Nat) : Nat := tileIx (32 * (f % 2) + x) (32 * (f / 2) + y)

/-- The tiles of a field in row-major order. -/
def fieldTiles (f : Nat) : List Nat := (List.range 32).flatMap (fun y => (List.range 32).map (fun x => fieldTile f x y))

/-- The field of a tile index. -/
def tileField (t : Nat) : Nat := fieldOf (tileX t) (tileY t)

/-- The logical tiles whose physical tile differs between two maps (R363). -/
def RepMap.affected (a b : RepMap) (f : Nat) : List Nat :=
  (List.range 32).flatMap (fun y => (List.range 32).filterMap (fun x =>
    if a.phys x y = b.phys x y then none else some (fieldTile f x y)))

/-- The tiles of a field that remaps accepted affect (R367). -/
def State.affectedTiles (s : State) (f : Nat) : List Nat :=
  let r := s.repField f
  ((r.running.map (fun m => r.map.affected m f)).getD []) ++ ((r.pending.map (fun m => r.map.affected m f)).getD [])

/-- The tiles of a field on which no plot may be placed, because they are retired or a remap affects them (R365, R367). -/
def State.blockedTiles (s : State) (f : Nat) : List Nat := (s.repField f).retired ++ s.affectedTiles f

/-- Whether a tile is free for placement. -/
def State.tileFree (s : State) (blocked : List Nat) (t : Nat) : Bool := (s.tile t).plot.isNone && !blocked.contains t

/-! #### Plots placed -/

/-- The plots in use. -/
def State.plotIds (s : State) : List Nat := s.fab.plots.keys.filter (fun p => (s.plot p).used)

/-- The plots placed in a field. -/
def State.fieldPlots (s : State) (f : Nat) : List Nat := s.plotIds.filter (fun p => decide ((s.plot p).field = f))

/-- The handles of registered models. -/
def State.handles (s : State) : List Nat := s.bay.models.keys.filter (fun h => decide ((s.model h).st ≠ .free))

/-- Whether a model is resident: EVICTING still counts, until its REMOVE applies (R214, R221, R241). -/
def Model.resident (m : Model) : Bool := decide (m.st = .resident) || decide (m.st = .evicting)

/-- The resident models. -/
def State.residents (s : State) : List Nat := s.handles.filter (fun h => (s.model h).resident)

/-- Models with a plot: resident, or paged in onto it (R223). -/
def State.placedModels (s : State) : List Nat := s.handles.filter (fun h => (s.model h).plot.isSome)

/-- Whether a field serves and is not being vacated. -/
def State.placeable (s : State) (f : Nat) : Bool := !(s.field f).adaptation && decide ((s.field f).leaving = none)

/-! #### Configuration commits that run (R185, R186) -/

/-- Mark a change of the running commit as applied; at a boundary the code is NEXT when the boundary ended the section, or the pass, that ran when the commit was accepted (R185). -/
def State.markApplied (s : State) (f : Nat) (c : Change) (atBoundary : Option (Nat × Bool)) : State :=
  s.updField f (fun x => match x.running with
    | none => x
    | some k =>
      let code := match atBoundary with
        | none => k.applied
        | some (pi, isPass) =>
          match k.snap.find? (fun e => e.1 == pi) with
          | some e => if (if isPass then (s.plot pi).passCount = e.2.2 + 1 else (s.plot pi).secCount = e.2.1 + 1) then 1 else 2
          | none => k.applied
      { x with running := some { k with changes := k.changes.map (fun e => if e.1 = c then (e.1, true) else e), applied := code } })

/-- The role change of a running commit applies once no plot of the field is left (R185). -/
def State.applyRole (s : State) (f : Nat) : State :=
  match (s.field f).running with
  | none => s
  | some k =>
    match k.changes.find? (fun e => !e.2 && (match e.1 with | .role _ => true | _ => false)) with
    | some (.role a, _) =>
      if (s.fieldPlots f).isEmpty then
        (s.updField f (fun x => { x with adaptation := a, leaving := none, roleSent := false })).markApplied f (.role a) none
      else s
    | _ => s

/-- A running commit completes when every change in it has applied, and the pending one comes next (R186). -/
def State.commitProgress (s : State) (f : Nat) : State :=
  let s := (s.applyRole f).applyRole f
  match (s.field f).running with
  | none => s
  | some k =>
    if k.changes.all (·.2) then
      (s.updField f (fun x => { x with
        running := none, accepted := x.pending, pending := none, seq := x.seq + 1, applied := k.applied })).bump Reg.FAB_COMMITS
    else s

/-! #### Victims (R233, R234) -/

/-- Issue a change to a field's sequencer; it is carried by the next commit (R185, R186). -/
def State.issue (s : State) (f : Nat) (c : Change) : State := s.updField f (fun x => { x with waiting := x.waiting ++ [c] })

/-- Rows queued at a model. -/
def Model.queued (m : Model) : List Nat := m.q.cells.flatMap (·.2)

/-- Whether a pin, tier 0 or an enabled program keeps Bay from evicting a model (R234, R307). -/
def State.locked (s : State) (h : Nat) : Bool :=
  (s.model h).tier0 || (s.model h).pinned || (s.progOf h).isSome

/-- A REPLACE of a plot that is being evicted applies to nothing: its new image is the model's once the plot is gone (R236; DEDUCED, log 194). -/
def Commit.noReplace (p : Nat) (k : Commit) : Commit :=
  { k with changes := k.changes.map (fun e => if e.1 = .replaceBy p then (e.1, true) else e) }

/-- Decide to evict a resident model down to a level (R221, R233). -/
def State.evictTo (s : State) (h level : Nat) : State :=
  match (s.model h).plot with
  | none => s
  | some p =>
    let f := (s.plot p).field
    let waits := ((s.field f).running.map (fun k => k.changes.any (fun e => decide (e = (.replaceBy p, false))))).getD false
    let s := if waits then (s.updField f (fun x => { x with running := x.running.map (Commit.noReplace p) })).commitProgress f else s
    (s.updModel h (fun m => { m with st := .evicting, level := level })).issue (s.plot p).field (.remove p)

/-- Whether a model can be taken as a victim (R223, R233): resident, not locked, not running a pass, not paging, and not the model that asks. -/
def State.victimOk (s : State) (asks h : Nat) : Bool :=
  let m := s.model h
  decide (m.st = .resident) && decide (h ≠ asks) && !s.locked h
    && ((m.plot.map (fun p => !(s.plot p).pass && (s.plot p).job.isNone)).getD false)

/-- The least number a function takes on a list, with its place. -/
def leastBy (f : Nat → Nat) : List Nat → Option Nat
  | [] => none
  | a :: r => match leastBy f r with
    | none => some a
    | some b => if f b < f a then some b else some a

/-- The victim among candidates: those with no queued row first, then the earliest last pass boundary. -/
def State.pickVictim (s : State) (l : List Nat) : Option Nat :=
  let idle := l.filter (fun h => (s.model h).queued.isEmpty)
  leastBy (fun h => (s.model h).lastPass) (if idle.isEmpty then l else idle)

/-- Take a victim out of the models placed in the fields given; the answer says whether one was found. -/
def State.takeVictim (s : State) (asks : Nat) (fields : List Nat) (cnt : Nat) : Bool × State :=
  match s.pickVictim (s.handles.filter (fun h => s.victimOk asks h
      && ((s.model h).plot.map (fun p => fields.contains (s.plot p).field)).getD false)) with
  | none => (false, s)
  | some h => (true, (s.evictTo h 3).bump cnt)

/-- Whether an eviction is under way in some of the fields. -/
def State.evictingIn (s : State) (fields : List Nat) : Bool :=
  s.handles.any (fun h => decide ((s.model h).st = .evicting)
    && ((s.model h).plot.map (fun p => fields.contains (s.plot p).field)).getD false)

/-! #### Configuration-store lines and HBM image space -/

/-- Configuration-store lines of 2,048 bytes that an image's records take. -/
def imageLines (img : List Byte) : Nat :=
  ((allDescs img).foldl (fun n d => (List.range (secH img d.2)).foldl (fun n py => (List.range (secW img d.2)).foldl (fun n px =>
    n + 16 * bits (imgWord img (recWordOff img d.2 px py)) 28 20) n) n) 0 + 2047) / 2048

/-- The lines that each section of an image, and each wide variant, declares for region slots 0 to 15 (R175). -/
def imageDecl (img : List Byte) : List (List Nat) := (allDescs img).map (fun d => (List.range 16).map (regionLines img d.2))

/-- HBM pages of 64 KiB that a byte count takes. -/
def pagesOf (n : Nat) : Nat := (n + 65535) / 65536

/-- Whether a model holds configuration-store lines. -/
def Model.holdsLines (m : Model) : Bool :=
  decide (m.st = .staged) || decide (m.st = .resident) || decide (m.st = .evicting)
    || (decide (m.st = .paging) && (decide (m.prev = .staged) || (decide (m.page ≠ .queued) && decide (m.page ≠ .none))))

/-- Whether a model holds an image copy in HBM. -/
def Model.holdsImage (m : Model) : Bool := !m.image.isEmpty || (decide (m.st = .paging) && decide (m.page ≠ .queued))

/-- Configuration-store lines: 24 MiB less the lines that failed. -/
def State.cfgTotal (s : State) : Nat := 12288 - s.rep.cfgLines

/-- Lines in use, the new lines of replacements under way among them. -/
def State.cfgUsed (s : State) : Nat :=
  s.handles.foldl (fun n h =>
    let m := s.model h
    n + (if m.holdsLines || s.plotIds.any (fun p => (s.plot p).job.isSome && decide ((s.plot p).handle = h)) then m.lines else 0)
      + ((m.replacing.map (fun r => if !r.move && (r.inPlace || (decide (r.page ≠ .none) && decide (r.page ≠ .queued))) then imageLines r.image else 0)).getD 0)) 0

/-- HBM pages for images. -/
def State.hbmTotal (s : State) : Nat := s.fld Reg.BAY_HBM_IMG_gib * 16384 - s.rep.hbmPages

/-- Pages that open jobs lease for their areas of 4 bytes an element and their noise clips (R261). -/
def State.jobPages (s : State) : Nat :=
  s.adp.jobs.cells.foldl (fun n j => if j.2.st = 0 then n
    else n + pagesOf (4 * j.2.wCode.length) + pagesOf (j.2.clips.foldl (fun k c => k + 2 * c.length) 0)) 0

/-- Pages in use. -/
def State.hbmUsed (s : State) : Nat :=
  s.jobPages + s.handles.foldl (fun n h =>
    let m := s.model h
    n + (if m.holdsImage then pagesOf m.len else 0)
      + ((m.replacing.map (fun r => if r.move then 0 else pagesOf r.image.length)).getD 0)
      + ((m.nextImage.map (fun r => pagesOf r.image.length)).getD 0)) 0

/-- The guard of a model's configuration-store lines, by the image's generation (R225). -/
def lineGuard (h gen : Nat) : Nat := 2 * (256 * h + gen % 256)

/-- The guard of a model's image space in HBM (R225). -/
def imageGuard (h gen : Nat) : Nat := 2 * (256 * h + gen % 256) + 1

/-- Revoke the lease at a guard (R226): its epoch rises, and accesses that carry the epoch before are fenced. -/
def State.revokeGuard (s : State) (k : Nat) : State := s.updBay (fun b => { b with guards := b.guards.upd k (· + 1) })

/-- A model gives its configuration-store lines back (R224, R226). -/
def State.revokeLines (s : State) (h : Nat) : State := s.revokeGuard (lineGuard h (s.model h).gen)

/-- A model gives its image space back. -/
def State.revokeImage (s : State) (h : Nat) : State := s.revokeGuard (imageGuard h (s.model h).gen)

/-- A model gives back both (R224, R230, R236). -/
def State.revokeBoth (s : State) (h : Nat) : State := (s.revokeLines h).revokeImage h

/-- The least recently used model that can be demoted: STAGED or HBM, not pinned, not tier 0. -/
def State.demotable (s : State) (asks : Nat) (onlyImages : Bool) : Option Nat :=
  leastBy (fun h => (s.model h).lastPass) (s.handles.filter (fun h => decide (h ≠ asks) && !s.locked h
    && (decide ((s.model h).st = .staged) || (onlyImages && decide ((s.model h).st = .hbm)))))

/-- One demotion (R234): STAGED to HBM, HBM to HOST. -/
def State.demote (s : State) (h : Nat) : State :=
  if (s.model h).st = .staged then (s.revokeLines h).updModel h (fun m => { m with st := .hbm })
  else if (s.model h).st = .hbm then (s.revokeImage h).updModel h (fun m => { m with st := .host, image := [] }) else s

/-- Demote until `need` configuration-store lines are free. -/
def State.freeLines (s : State) (asks need : Nat) : Nat → Bool × State
  | 0 => (decide (s.cfgUsed + need ≤ s.cfgTotal), s)
  | n + 1 =>
    if s.cfgUsed + need ≤ s.cfgTotal then (true, s)
    else match s.demotable asks false with
      | none => (false, s)
      | some h => (s.demote h).freeLines asks need n

/-- Demote until `need` HBM pages are free. -/
def State.freePages (s : State) (asks need : Nat) : Nat → Bool × State
  | 0 => (decide (s.hbmUsed + need ≤ s.hbmTotal), s)
  | n + 1 =>
    if s.hbmUsed + need ≤ s.hbmTotal then (true, s)
    else match s.demotable asks true with
      | none => (false, s)
      | some h => (s.demote h).freePages asks need n

/-! #### Placement (R222, R307) -/

/-- Whether every tile of a rectangle of a field is free. -/
def State.rectFree (s : State) (blocked : List Nat) (f x y h w : Nat) : Bool :=
  (List.range h).all (fun j => (List.range w).all (fun i => s.tileFree blocked (fieldTile f (x + i) (y + j))))

/-- The first free rectangle of a field: by y, then by x, from its north-west corner. -/
def State.findRect (s : State) (f h w : Nat) : Option (Nat × Nat) :=
  let blocked := s.blockedTiles f
  (List.range (33 - h)).findSome? (fun y => ((List.range (33 - w)).find? (fun x => s.rectFree blocked f x y h w)).map (fun x => (x, y)))

/-- The tiles of a field that are free. -/
def State.freeTiles (s : State) (f : Nat) : Nat :=
  let blocked := s.blockedTiles f
  ((fieldTiles f).filter (s.tileFree blocked)).length

/-- The program entry that places a handle's slice on this chip (R307). -/
def State.sliceOf (s : State) (h : Nat) : Option Nat :=
  (List.range 16).find? (fun i => bit ((s.prog i).word 0) 30 && decide ((s.prog i).handle = h) && s.inBox (s.prog i) s.me)

/-- What a search for a place answers: a field and origin in the field; a wait for tiles that are being freed; a wait for anything at all; or the NO_ROOM of a slice. -/
inductive Placed where
  | place (f x y : Nat)
  | freeing
  | blocked
  | noRoom
deriving DecidableEq, Repr

/-- Power up a field that is OFF (R332, R335); the answer says whether it is powered. -/
def State.powerFor (s : State) (f : Nat) : Bool × State :=
  if ((s.pow.fields.get f).st = 3) then
    (false, { s with pow := { s.pow with fields := s.pow.fields.upd f (fun p => { p with waking := some (p.waking.getD s.now) }) } })
  else (true, s)

/-- The place of a spanning program's slice (R307, R332): the declared rectangle, once unpinned occupants are evicted and its field is powered. -/
def State.placeSlice (s : State) (hd p h w : Nat) : Placed × State :=
  let wd := (s.prog p).word 0
  let f := bits wd 17 16
  let x := bits wd 23 18 % 32
  let y := bits wd 29 24 % 32
  let blocked := s.blockedTiles f
  let tiles := (List.range h).flatMap (fun j => (List.range w).map (fun i => fieldTile f (x + i) (y + j)))
  if 32 < x + w ∨ 32 < y + h then (.noRoom, s)
  else if tiles.all (s.tileFree blocked) then
    let (on, s) := s.powerFor f
    (if on then .place f x y else .freeing, s)
  else if (s.repField f).degraded && tiles.any (fun t => (s.repField f).retired.contains t) then (.noRoom, s)
  else
    let owners := (tiles.filterMap (fun t => (s.tile t).plot)).eraseDups
    if owners.any (fun q => s.locked (s.plot q).handle && decide ((s.plot q).handle ≠ hd)) then (.noRoom, s)
    else
      let hs := (owners.map (fun q => (s.plot q).handle)).filter (s.victimOk hd)
      (.freeing, hs.foldl (fun s v => (s.evictTo v 3).bump Reg.BAY_EVICT) s)

/-- Take a victim in some fields for a placement that a limit stands against, or wait (R223, R232, R233). -/
def State.overLimit (s : State) (hd : Nat) (fields : List Nat) : Placed × State :=
  if s.evictingIn fields then (.freeing, s)
  else
    let (ok, s) := s.takeVictim hd fields Reg.BAY_EVICT
    (if ok then .freeing else .blocked, s)

/-- Search for the plot of a model among the fields given (R222, R223, R233), taking victims where nothing is free, or where the first field with a free rectangle holds 128 plots. -/
def State.searchPlace (s : State) (hd : Nat) (fields : List Nat) (h w : Nat) : Placed × State :=
  match fields.find? (fun f => (s.findRect f h w).isSome) with
  | some f =>
    if 128 ≤ (s.fieldPlots f).length then s.overLimit hd [f]
    else
      let (x, y) := (s.findRect f h w).getD (0, 0)
      let (on, s) := s.powerFor f
      (if on then .place f x y else .freeing, s)
  | none =>
    if s.evictingIn fields then (.freeing, s)
    else
      let first := fields.headD 0
      let frag := decide (h * w ≤ s.freeTiles first) && !fields.isEmpty
      let (ok, s) := if frag then s.takeVictim hd [first] Reg.BAY_EVICT_FRAG else s.takeVictim hd fields Reg.BAY_EVICT
      if ok then (.freeing, if frag then s.bump Reg.BAY_EVICT else s)
      else if frag then
        let (ok, s) := s.takeVictim hd fields Reg.BAY_EVICT
        (if ok then .freeing else .blocked, s)
      else (.blocked, s)

/-- The fields in which an image may be placed: set in field_mask and serving, in ascending order. -/
def State.imageFields (s : State) (hdr : List Byte) : List Nat :=
  (List.range 4).filter (fun f => (hdrMask hdr).testBit f && s.placeable f)

/-- Find a place for a model's image (R222, R223, R307). -/
def State.findPlace (s : State) (hd : Nat) (hdr : List Byte) : Placed × State :=
  match s.sliceOf hd with
  | some p => s.placeSlice hd p (hdrH hdr) (hdrW hdr)
  | none =>
    if 256 ≤ s.placedModels.length ∧ (s.model hd).plot.isNone = true then s.overLimit hd [0, 1, 2, 3]
    else
      let avoid := ((s.model hd).replacing.map (·.avoid)).getD []
      s.searchPlace hd ((s.imageFields hdr).filter (fun f => !avoid.contains f)) (hdrH hdr) (hdrW hdr)

/-- The lowest plot index that is free in a field. -/
def State.plotIndex (s : State) (f : Nat) : Nat :=
  ((List.range 128).find? (fun i => (s.fieldPlots f).all (fun p => (s.plot p).index != i))).getD 0

/-- Lease a rectangle to a handle: a plot that is not ready yet, on tiles at rest. The epoch it is granted under is open (R225). -/
def State.leasePlot (s : State) (hd f x y : Nat) (img hdr : List Byte) (gen : Nat) : Nat × State :=
  let idx := s.plotIndex f
  let (id, s) := s.freshId
  let (e, s) := s.free
  let p : PlotSt := {
    used := true, handle := hd, gen := gen, field := f, index := idx, lease := e.setWidth 16, x0 := 32 * (f % 2) + x, y0 := 32 * (f / 2) + y
    h := hdrH hdr, w := hdrW hdr, image := img, prog := s.sliceOf hd
    lineLease := s.bay.guards.get (lineGuard hd gen), imgLease := s.bay.guards.get (imageGuard hd gen) }
  let s := s.updPlot id (fun _ => p)
  (id, p.tiles.foldl (fun s t => s.updTile t (fun _ => { plot := some id })) s)

/-! #### Section-store lines (R179, R180, R207) -/

/-- The banks of a field's section store that are in service, of 12 (R179, R369). -/
def State.ssBanksOf (s : State) (f : Nat) : List Nat := ((List.range 12).map (fun b => 12 * f + b)).filter (fun b => !s.rep.ssBanks.contains b)

/-- Lines of the section store of a field: 12 banks of 1,024, less the banks and lines retired. -/
def State.ssTotal (s : State) (f : Nat) : Nat :=
  (List.range 12).foldl (fun n b => n + (if s.rep.ssBanks.contains (12 * f + b) then 0 else 1024 - s.rep.ssLines.get (12 * f + b))) 0

/-- Lines of a field that the sample front end holds, a quarter of its row region and state cache while it is enabled, and that adaptation accumulators hold. -/
def State.ssShared (s : State) : Nat :=
  (if s.flag Reg.SFE_CTRL_enable then (s.fld Reg.SFE_ROW_REGION_mib + s.fld Reg.SFE_STATE_CACHE_mib) * 128 else 0)
    + (s.adp.jobs.cells.foldl (fun n j => if j.2.st = 0 then n else n + 8 * j.2.wCode.length) 0 + 8191) / 8192

/-- Lines free in a field. -/
def State.ssFree (s : State) (f : Nat) : Nat :=
  s.ssTotal f - s.ssShared - (s.fieldPlots f).foldl (fun n p => n + (s.plot p).leased.foldl (· + ·) 0 + (s.plot p).holdLines) 0

/-- Declared lines of a region slot: the largest any section declares. -/
def slotLines (img : List Byte) (slot : Nat) : Nat := (allDescs img).foldl (fun n d => max n (regionLines img d.2 slot)) 0

/-- Lines of the hold area: max_spans × (32 + state_bytes) bytes, where some section may widen (R207). -/
def holdNeed (img : List Byte) : Nat :=
  if (allDescs img).any (fun d => widenEn img d.2) then (hdrMaxSpans img * (32 + hdrStateBytes img) + 2047) / 2048 else 0

/-- Lease lines to region slots in ascending order while lines are free; what is not leased spills (R180). -/
def leaseSlots (img : List Byte) : Nat → Nat → Nat → List Nat
  | 0, _, _ => []
  | n + 1, slot, free =>
    let k := min free (slotLines img slot)
    k :: leaseSlots img n (slot + 1) (free - k)

/-- Lease a plot's hold area and regions. -/
def State.leaseRegions (s : State) (p : Nat) (img : List Byte) : State :=
  let f := s.ssFree (s.plot p).field
  s.updPlot p (fun q => { q with holdLines := holdNeed img, leased := leaseSlots img 16 0 (f - holdNeed img) })

/-! #### Weights and calibration banks (R211, R217, R237) -/

/-- Write words into a tile's store. -/
def State.writeStore (s : State) (t w : Nat) (fs : List Flit) : State :=
  let put (st : Tab Flit) : Tab Flit :=
    (List.range fs.length).foldl (fun st i => if w + i < 2048 then st.set (w + i) (fs[i]?.getD 0) else st) st
  s.updTile t (fun x => { x with store := put x.store })

/-- Write the weight image into a plot's tiles, load by load. -/
def State.writeWeights (s : State) (x0 y0 : Nat) (img : List Byte) : Nat → Nat → Nat → State
  | 0, _, _ => s
  | n + 1, off, stop =>
    if stop < off + 16 then s
    else
      let w := imgWord img off
      let k := min (imgWord img (off + 4)) 2048
      let s := s.writeStore (tileIx (x0 + bits w 4 0) (y0 + bits w 9 5)) (bits w 20 10) (flitsOf img (off + 16) k)
      s.writeWeights x0 y0 img n (off + 16 + 16 * k) stop

/-- Load the weights of an image into a plot. -/
def State.loadWeights (s : State) (p : Nat) (img : List Byte) : State :=
  let q := s.plot p
  s.writeWeights q.x0 q.y0 img (le img 32 4 / 16) (le img 28 4 * 16) (le img 28 4 * 16 + le img 32 4)

/-- Write a calibration block into a bank of a plot. -/
def State.writeCal (s : State) (p : Nat) (img b : List Byte) (bank : Nat) : State :=
  let q := s.plot p
  let names := (calEntries b).map CalEntry.name
  (calEntries b).foldl (fun s e =>
    s.writeStore (tileIx (q.x0 + e.name.px) (q.y0 + e.name.py)) (e.name.at img bank) [BitVec.ofNat 128 e.value])
    (s.updPlot p (fun q => { q with cal := (q.cal ++ names).eraseDups }))

/-- Copy one bank of a plot into the other: every table word that a block has written since the plot's page-in (R211). -/
def State.copyCal (s : State) (p : Nat) (img : List Byte) (src dst : Nat) : State :=
  let q := s.plot p
  q.cal.foldl (fun s e =>
    let t := tileIx (q.x0 + e.px) (q.y0 + e.py)
    s.writeStore t (e.at img dst) [(s.tile t).store.get (e.at img src)]) s

/-- Write both banks at a page-in (R211): each from the image's block, then from the model's block of the live epoch that maps to it; a bank that no live epoch maps to takes the current epoch's. -/
def State.writeBanks (s : State) (p h : Nat) (img : List Byte) : State :=
  [0, 1].foldl (fun s bank =>
    let e := if s.num.current % 2 = bank then s.num.current
      else match s.num.draining with
        | some d => if d % 2 = bank then d else s.num.current
        | none => s.num.current
    let s := s.writeCal p img (ownCal img) bank
    s.writeCal p img ((s.model h).blocks.get e) bank) s

/-! #### Completion of Bay commands (R240, R282, R286) -/

/-- A Bay command completes with a status. -/
def State.bayDone (s : State) (src : CmdSrc) (status : Nat) : State :=
  let s := s.updBay (fun b => { b with busy := if b.busy = some src then none else b.busy })
  match src with
  | .reg => s.finishCmd Reg.BAY_CMD_STAT_done Reg.BAY_CMD_STAT_status status
  | .desc d => s.completeDesc d (if status = 0 then 0 else status + 0x10) 0 0
      (if status = 10 then s.fld Reg.FAB_LOAD_STAT_code else 0)

/-- The commands that joined a page-in complete with its status (R231). -/
def State.endJoin (s : State) (h status : Nat) : State :=
  let l := (s.model h).joined
  l.foldl (fun s c => s.bayDone c status) (s.updModel h (fun m => { m with joined := [], lastErr := if status = 0 then m.lastErr else status }))

end Sys2Proof.Machine
end

