-- ==== Sys2Proof/Machine/Plots.lean ====
section
/-! DEFINITION. Plots in service: contexts and flips, section and pass boundaries, widening, abandoned passes, plots freed, configuration commits, page-ins and replacements as the field sequencer's orderings drive them (R178, R181 to R187, R206 to R209, R214, R221, R226, R230 to R238). -/

namespace Sys2Proof.Machine

/-! #### Contexts and flips (R181 to R183) -/

/-- A context: a tile's record in a section. -/
def ctxOf (img : List Byte) (gen px py sec : Nat) (wide : Bool) : Ctx :=
  { flits := recFlits img (descOff img sec wide) px py, sec := sec, wide := wide, gen := gen }

/-- A channel entry with another chip and tile. -/
def chAim (e chip gx gy : Nat) : Nat := e % 2 ^ 37 ||| (gy % 64) <<< 37 ||| (gx % 64) <<< 43 ||| (chip % 2 ^ 15) <<< 49

/-- A valid output channel as Bay rewrites it for a plot (R218): a REPLY link is aimed at the field edge in its tile's row (log 189), a local channel at its tile on this chip, and a remote one at the chip and tile its program names (R308). -/
def State.relocChan (s : State) (p : PlotSt) (img : List Byte) (px py k e : Nat) : Nat :=
  if chValid e = false then e
  else if isReply img px py k then chAim e s.me (edgeX (p.x0 + px)) (p.y0 + py)
  else match p.prog with
    | some i =>
      if chChip e = 0x7FFF then chAim e s.me (p.x0 + chX e) (p.y0 + chY e)
      else
        let w := (s.prog i).word 0
        chAim e (s.progChip (s.prog i) (chChip e)) (bits w 23 18 + chX e) (bits w 29 24 + chY e)
    | none => chAim e s.me (p.x0 + chX e) (p.y0 + chY e)

/-- A record with its channels rewritten and a new CRC (R218). -/
def Ctx.rewrite (c : Ctx) (f : Nat → Nat → Nat) : Ctx :=
  let entry (k : Nat) : Nat := f k (c.chan k)
  let body := (List.range (c.flits.length - 1)).map (fun i =>
    if 1 + c.n ≤ i ∧ i < 9 + c.n then
      BitVec.ofNat 128 (entry (2 * (i - 1 - c.n)) ||| entry (2 * (i - 1 - c.n) + 1) <<< 64)
    else (c.flits[i]?).getD 0)
  { c with flits := body ++ (c.flits.getLast?.map (fun (x : Flit) =>
      (x >>> 32 <<< 32) ||| BitVec.ofNat 128 (crc32c (body.flatMap flitBytes)))).toList }

/-- The record of a plot's tile as it stands in the configuration store (R218). -/
def State.storedCtx (s : State) (p : PlotSt) (img : List Byte) (c : Ctx) (px py : Nat) : Ctx := c.rewrite (s.relocChan p img px py)

/-- Whether a plot's accesses to the configuration store are fenced (R225). -/
def State.linesFenced (s : State) (p : PlotSt) : Bool := p.job.isNone && decide (s.bay.guards.get (lineGuard p.handle p.gen) ≠ p.lineLease)

/-- Whether NUM_CTRL has a section run only its wide variant (R206). -/
def forcedIn (ctrl : Nat) (img : List Byte) (sec : Nat) : Bool :=
  decide (bits ctrl 1 0 = 2) && decide (wideOff img (secOff img sec) ≠ 0)

/-- NUM_CTRL as the passes of a plot read it: an adaptation pass is never widened. -/
def State.ctrlOf (s : State) (p : PlotSt) : Nat := if p.job.isSome then 0 else (s.reg Reg.NUM_CTRL).toNat

/-- What a tile runs after its active context: an image with its generation, the section, and whether that is the wide variant. A REPLACE that is ordered takes over at the boundary of the pass that runs, or of the next one where none runs (R181, R185). `ctrl` is NUM_CTRL as it stands, which the next pass will take. -/
def PlotSt.follow (p : PlotSt) (ctrl : Nat) (x : Tile) : List Byte × Nat × Nat × Bool :=
  let first : List Byte × Nat × Nat × Bool :=
    let (img, gen) := if p.pass then p.newImage.getD (p.image, p.gen) else (p.image, p.gen)
    (img, gen, 0, forcedIn ctrl img 0)
  if x.phase = .off ∨ x.inst < p.inst then
    if p.pass then (p.image, p.gen, p.sec, p.wide) else first
  else
    let k := p.sec + (x.inst + 1 - p.inst)
    if p.pass ∧ k < hdrSections p.image then (p.image, p.gen, k, p.forced k) else first

/-- Whether a context is what follows. -/
def Ctx.isFor (c : Ctx) (f : List Byte × Nat × Nat × Bool) : Bool :=
  decide (c.gen = f.2.1) && decide (c.sec = f.2.2.1) && decide (c.wide = f.2.2.2)

/-- What follows in a tile of a plot. -/
def State.followOf (s : State) (p t : Nat) : List Byte × Nat × Nat × Bool :=
  (s.plot p).follow (s.ctrlOf (s.plot p)) (s.tile t)

/-- Whether reconfiguration into a section is trailing (R183). -/
def State.trailing (s : State) (img : List Byte) (sec : Nat) (wide : Bool) : Bool :=
  s.flag Reg.FAB_CTRL_trail_en && secTrailing img (descOff img sec wide)

/-- Whether a run of a section may be widened (R206). -/
def PlotSt.mayWiden (p : PlotSt) (sec : Nat) (wide : Bool) : Bool :=
  !wide && p.job.isNone && widenEn p.image (secOff p.image sec) && decide (wideOff p.image (secOff p.image sec) ≠ 0) && decide (bits p.ctrl.toNat 1 0 = 1)

/-- Whether a tile flips by itself now (R183): its next context is loaded, its section has ended, and the reconfiguration that follows is trailing and not held back by a widening decision. -/
def State.canFlip (s : State) (t : Nat) : Bool :=
  let x := s.tile t
  match x.plot with
  | none => false
  | some pi =>
    let p := s.plot pi
    let f := s.followOf pi t
    p.pass && !p.flipAll && !p.fault && decide (x.phase ≠ .running) && (x.nxt.map (fun c => c.isFor f)).getD false
      && (if x.phase = .off ∨ x.inst < p.inst then s.trailing p.image p.sec p.wide
          else
            let k := p.sec + (x.inst + 1 - p.inst)
            decide (k < hdrSections p.image) && s.trailing p.image k f.2.2.2 && !p.deciding
              && (List.range (k - p.sec)).all (fun i => !p.mayWiden (p.sec + i) (if i = 0 then p.wide else p.forced (p.sec + i))))

/-- Flip a tile into its next context (R181, R182): the new section starts at instruction 0 with empty queues and full credits. What a tile counts from the pass start begins again with section 0, but not with its wide run (R202, R213). -/
def State.flipTile (s : State) (t : Nat) : State :=
  let x := s.tile t
  match x.nxt with
  | none => s
  | some c =>
    let pi := x.plot.getD 0
    let p := s.plot pi
    let inst := if x.phase = .off ∨ x.inst < p.inst then p.inst else x.inst + 1
    let begins := decide (c.sec = 0) && (!c.wide || p.forced 0)
    let y : Tile := { x with
      phase := .running, ctx := c, nxt := none, side := !x.side, inst := inst, pc := 0, queues := x.queues.clear
      nextTag := x.nextTag.clear, spent := x.spent.clear, ends := x.ends.filter (fun e => e.1 == inst), units := x.units.clear, west := [], sets := []
      groups := if begins then x.groups.clear else x.groups, outIdx := if begins then 0 else x.outIdx }
    let y := if x.ctx.isFor (p.follow (s.ctrlOf p) y) && decide (x.phase ≠ .off) then { y with nxt := some x.ctx } else y
    s.updTile t (fun _ => y)

/-- Flip every tile of a plot that can. -/
def State.tryFlips (s : State) (p : Nat) : State :=
  (s.plot p).tiles.foldl (fun s t => if s.canFlip t then s.flipTile t else s) s

/-- Load the contexts of a plot that are missing; a record whose CRC fails is not loaded and faults the plot (R181, R190). -/
def State.loadContexts (s : State) (pi : Nat) : State :=
  let p := s.plot pi
  p.tiles.foldl (fun s t =>
    let f := s.followOf pi t
    if ((s.tile t).nxt.map (fun c => c.isFor f)).getD false then s
    else
      let c := ctxOf f.1 f.2.1 (tileX t - p.x0) (tileY t - p.y0) f.2.2.1 f.2.2.2
      if c.crcOk then s.updTile t (fun x => { x with nxt := some (s.storedCtx p f.1 c (tileX t - p.x0) (tileY t - p.y0)) })
      else
        let s := s.bump Reg.FAB_CFG_CRC
        let s := s.setReg Reg.FAB_FAULT_STAT (BitVec.ofNat 64 (p.field ||| tileX t <<< 2 ||| tileY t <<< 8 ||| 1 <<< 14))
        s.updPlot pi (fun q => { q with fault := true })) s

/-- Whether every tile of a plot holds the context that follows. -/
def State.contextsReady (s : State) (pi : Nat) : Bool :=
  (s.plot pi).tiles.all (fun t => ((s.tile t).nxt.map (fun c => c.isFor (s.followOf pi t))).getD false)

/-- Start a section of a pass (R181, R183): its instance, its reports and its state loads. -/
def State.startSection (s : State) (pi sec : Nat) (wide : Bool) : State :=
  let p := s.plot pi
  let s := s.updPlot pi (fun q => { q with
    sec := sec, wide := wide, inst := q.inst + 1, done := [], sats := 0, deciding := false, spanLoad := 0
    expect0 := q.expect, backs0 := q.backs, kept := [], held := [], flipAll := !s.trailing p.image sec wide })
  s.tryFlips pi

/-! #### State write-backs and held items (R187, R207, R229) -/

/-- Write a span's state back to its slot under the lease epoch of its access; a fenced write does nothing (R187, R225, R229). -/
def State.writeSlot (s : State) (pi : Nat) (b : Back) (fs : List Flit) : State :=
  let sl := s.bay.slots.get b.slot
  if sl.epoch ≠ b.epoch then s.fenceSpan b.row b.span
  else
    let p := s.plot pi
    let s := s.updSlot b.slot (fun x => { x.patchAt b.off (fs.flatMap flitBytes) with tag := p.handle, tagGen := p.gen })
    match (s.row b.row).spans[b.span]? with
    | some sp => if (s.row b.row).job.isSome then s else s.touch sp.seg
    | none => s

/-- Release what a section held (R207). -/
def State.releaseHeld (s : State) (pi : Nat) : State :=
  let l := (s.plot pi).held
  l.foldl (fun s h => match h with
    | .record r k v w => s.spanResult r k v w
    | .state b fs => s.writeSlot pi b fs) (s.updPlot pi (fun q => { q with held := [], kept := [] }))

/-! #### Rows at the end of a pass -/

/-- A segment whose record leaves from another chip has completed here (R125, R310). -/
def State.silentEnd (s : State) (sp : Span) : State :=
  if sp.contOut ∨ (s.seg sp.seg).st = .done then s else s.segDiscard sp.seg 9

/-- Whether this chip sends the records of a program's spans: it is one of its reply chips. -/
def State.repliesHere (s : State) (p : Nat) : Bool := (s.replyChips p).contains s.me

/-- The gradient records of a row, span by span (R249, R254). -/
def State.rowGrads (s : State) (pi : Nat) (j : Job) (n : Nat) : List (List Flit) :=
  let per := (j.groups.length * (j.gLen + 16) + 15) / 16
  (List.range n).map (fun k => (List.range per).map (fun i => s.fab.regions.get (regionKey pi j.gradSlot (k * per + i))))

/-- A row has been evaluated: its records are out or awaited; an adaptation row keeps its gradients for the reduction. -/
def State.rowDone (s : State) (pi : Nat) : State :=
  let p := s.plot pi
  match p.row with
  | none => s
  | some r =>
    let row := s.row r
    let s := match p.prog with
      | some g => if s.repliesHere g then s else row.spans.foldl (fun s sp => s.silentEnd sp) s
      | none => s
    let s := match row.job with
      | none => s
      | some (j, k) =>
        let job := s.adp.jobs.get j
        let gs := s.rowGrads pi job row.spans.length
        { s with adp := { s.adp with jobs := s.adp.jobs.set j { job with
          rows := modifyAt job.rows k (fun x => { x with complete := true, grads := gs }) } } }
    s.updRow r (fun x => { x with st := .done })

/-- The records of an abandoned pass (R225, R226, R310): ABORTED from here, or, for the spans of a spanning program whose notices have gone out, from its reply chips alone. -/
def State.abortPass (s : State) (prog : Option Nat) (r : Nat) : State :=
  if (prog.map s.repliesHere).getD true then s.abortRow r
  else ((s.row r).spans.foldl (fun s sp => s.silentEnd sp) s).updRow r (fun x => { x with st := .done })

/-- Abandon the pass of a plot (R225, R226): its spans' records are ABORTED, no state is written back, and everything of the plot in the network is discarded. -/
def State.abandonPass (s : State) (pi : Nat) : State :=
  let p := s.plot pi
  let s := match p.row with
    | some r => if p.pass then s.abortPass p.prog r else s
    | none => s
  let here := p.tiles
  let s := (p.expect.map (·.1)).eraseDups.foldl (fun s r => s.abortRow r) s
  let s := s.updFab (fun b => { b with
    packets := refillLocal [] (b.packets.filter (fun k => k.plot != pi)), reqs := b.reqs.filter (fun k => k.plot != pi)
    credits := b.credits.filter (fun c => !here.contains c.tile)
    fields := b.fields.upd p.field (fun f => { f with reports := f.reports.filter (fun r => r.plot != pi) }) })
  let s := here.foldl (fun s t => s.updTile t (fun x => { x with
    phase := .off, nxt := none, pc := 0, queues := x.queues.clear, nextTag := x.nextTag.clear, spent := x.spent.clear
    ends := [], units := x.units.clear, west := [], sets := [], acc := [], stat := {}, readyNs := 0 })) s
  s.updPlot pi (fun q => { q with
    pass := false, row := none, done := [], sats := 0, flipAll := false, deciding := false, expect := [], expect0 := []
    backs := [], backs0 := [], collected := [], kept := [], held := [], fault := false })

/-! #### Statistics (R206, R213, R214) -/

/-- The key of a statistics entry. -/
def statKey (epoch handle sec : Nat) : Nat := epoch * 2 ^ 20 + handle * 16 + sec

/-- Change the numeric unit. -/
def State.updNum (s : State) (f : NumSt → NumSt) : State := { s with num := f s.num }

/-- Add a tile's part of a section to the kind counters and, but for a wide re-run, to the statistics of its epoch. -/
def State.countReport (s : State) (p : PlotSt) (r : TileStat) : State :=
  let s := s.addCnt Reg.NUM_SAT_ACC r.satAcc
  let s := s.addCnt Reg.NUM_SAT_OUT r.satOut
  let s := s.addCnt Reg.NUM_SAT_EXP r.satExp
  let s := s.addCnt Reg.NUM_SAT_ESC r.satEsc
  if p.wide && !p.forced p.sec then s
  else s.updNum (fun n => { n with stats := n.stats.upd (statKey p.epoch p.handle p.sec) (fun e =>
    let sse := e.sse + r.sse
    { e with
      live := true, outputs := e.outputs + r.outputs, samples := e.samples + r.samples, sse := min sse (2 ^ 64 - 1)
      sseSat := e.sseSat || r.sseSat || decide (2 ^ 64 ≤ sse), sats := e.sats + (r.satAcc + r.satOut + r.satExp + r.satEsc)
      maxE := max e.maxE r.maxE }) })

/-- Count a pass of a section, or a widening of one. -/
def State.countPass (s : State) (p : PlotSt) (widened : Bool) : State :=
  s.updNum (fun n => { n with stats := n.stats.upd (statKey p.epoch p.handle p.sec) (fun e =>
    if widened then { e with live := true, widened := e.widened + 1 } else { e with live := true, passes := e.passes + 1 }) })

/-- The 64 bytes of a statistics record. -/
def statRecord (epoch handle sec : Nat) (e : NumStat) (final : Bool) : List Byte :=
  toLe 2 handle ++ toLe 1 sec ++ toLe 1 (b2n e.sseSat ||| 2 * b2n final) ++ toLe 2 epoch ++ zeros 2 ++ toLe 8 e.outputs
    ++ toLe 8 e.samples ++ toLe 8 e.sse ++ toLe 8 e.sats ++ toLe 8 e.passes ++ toLe 8 e.widened ++ toLe 4 e.maxE ++ zeros 4

/-- Send a statistics record for each section a model has under an epoch, and free the entries (R214). -/
def State.sendStats (s : State) (epoch handle n : Nat) (final : Bool) : State :=
  (List.range n).foldl (fun s sec =>
    let e := s.num.stats.get (statKey epoch handle sec)
    let (ok, s) := s.deliverCopy (s.fld Reg.NUM_STAT_QP_qp) 0x83 (statRecord epoch handle sec e final) 0 0
    (s.bumpIf (!ok) Reg.NUM_STAT_DROP).updNum (fun m => { m with stats := m.stats.set (statKey epoch handle sec) {} })) s

/-- The epochs that are live (R212). -/
def State.liveEpochs (s : State) : List Nat := s.num.current :: s.num.draining.toList

/-! #### Revocation and removal (R226, R367) -/

/-- A plot that faulted is revoked (R226): Bay decides it here, and the fence comes into force with REVOCATION_FENCE. -/
def State.revokePlot (s : State) (pi : Nat) : State :=
  if s.bay.revokes.contains (.plot pi) then s
  else (s.updBay (fun b => { b with revokes := b.revokes ++ [.plot pi] })).bump Reg.BAY_REVOKE

/-- Remove a plot that holds a tile a remap affects, once no pass runs on it (R367): a serving plot by a REMOVE change, its model to STAGED; an adaptation replica by revocation. -/
def State.remapRemove (s : State) (pi : Nat) : State :=
  let p := s.plot pi
  let l := s.affectedTiles p.field
  if p.used && !p.pass && !p.removing && p.tiles.any (fun t => l.contains t) && !s.bay.revokes.contains (.plot pi) then
    if p.job.isSome then (s.revokePlot pi).bump Reg.REP_REMAP_REMOVE
    else if (s.model p.handle).plot = some pi ∧ (s.model p.handle).st = .resident then (s.evictTo p.handle 3).bump Reg.REP_REMAP_REMOVE
    else s
  else s

/-! #### Page-ins (R230 to R232) -/

/-- Discard every row queued at a model, its records ABORTED. -/
def State.abortQueue (s : State) (h : Nat) : State :=
  let l := (s.model h).queued
  l.foldl (fun s r => s.abortRow r) (s.updModel h (fun m => { m with q := m.q.clear }))

/-- A page-in ends without residence: the model returns to a state, and joined commands complete. -/
def State.pageEnds (s : State) (h : Nat) (st : CatSt) (status : Nat) : State :=
  let s := s.updBay (fun b => { b with queue := b.queue.filter (· != h) })
  (s.updModel h (fun m => { m with st := st, page := .none, copied := [], placeSince := none, spaceWait := false })).endJoin h status

/-- Read an image of a model from the host (R230, R263, R282): as the function whose queue pair registered it, and only inside the domain's windows. -/
def State.readImage (s : State) (h : Nat) : State :=
  let m := s.model h
  if (s.domRights m.domain).inWindow m.addr m.len false then s.hostReads m.func [(m.addr, m.len)] else s

/-- Place the model of a page-in that has started (R222, R230, R232). -/
def State.attemptPlace (s : State) (h : Nat) : State :=
  let m := s.model h
  match s.findPlace h m.hdr with
  | (.place f x y, s) =>
    let (id, s) := s.leasePlot h f x y m.image m.hdr m.gen
    let s := s.updModel h (fun m => { m with plot := some id, page := if m.prev = .host then .copying else .loading, placeSince := none })
    let s := s.updBay (fun b => { b with queue := b.queue.filter (· != h) })
    if m.prev = .host then s.readImage h else s
  | (.freeing, s) => s.updModel h (fun m => { m with page := .placing })
  | (.blocked, s) => s.updModel h (fun m => { m with page := .queued, placeSince := some s.now })
  | (.noRoom, s) => s.pageEnds h m.prev 7

/-- Place the new image of a model, or its old one in another field, on a second plot (R236, R238). -/
def State.attemptShadow (s : State) (h : Nat) : State :=
  match (s.model h).replacing with
  | none => s
  | some r =>
    match s.findPlace h (r.image.take 64) with
    | (.place f x y, s) =>
      let gen := if r.move then (s.model h).gen else ((s.model h).gen + 1) % 256
      let (id, s) := s.leasePlot h f x y r.image (r.image.take 64) gen
      (s.updModel h (fun m => { m with replacing := some { r with plot := some id, page := .loading, placeSince := none } })).updBay
        (fun b => { b with queue := b.queue.filter (· != h) })
    | (.freeing, s) => s.updModel h (fun m => { m with replacing := some { r with page := .placing } })
    | (.blocked, s) => s.updModel h (fun m => { m with replacing := some { r with page := .queued, placeSince := some s.now } })
    | (.noRoom, s) => (s.updModel h (fun m => { m with replacing := none, lastErr := 7 })).updBay
        (fun b => { b with queue := b.queue.filter (· != h) })

/-- Retry placements at a plot removal or when a remap completes (R232, R367): page-ins that wait for tiles being freed search again, and those that found nothing are in line again. -/
def State.retryPlaces (s : State) : State :=
  s.handles.foldl (fun s h =>
    let m := s.model h
    if m.st = .paging ∧ m.page = .placing then s.attemptPlace h
    else if m.st = .paging ∧ m.page = .queued then s.updModel h (fun m => { m with placeSince := none, spaceWait := false })
    else match m.replacing with
      | some r =>
        if r.page = .placing then s.attemptShadow h
        else if r.page = .queued then s.updModel h (fun m => { m with replacing := some { r with placeSince := none, spaceWait := false } }) else s
      | none => s) s

/-! #### Replacements (R236) -/

/-- A replacement completes (R224, R236): the leases of the old image are revoked, the generation rises, and staged calibration blocks are discarded. A re-placement in another field changes none of it. -/
def State.completeReplace (s : State) (h : Nat) : State :=
  match (s.model h).replacing with
  | none => s
  | some r =>
    if r.move then s.updModel h (fun m => { m with replacing := none })
    else (s.revokeBoth h).updModel h (fun m => { m with
      replacing := none, gen := (m.gen + 1) % 256, hdr := r.image.take 64, image := if m.st = .host then [] else r.image
      digest := r.digest, addr := r.addr, func := r.func, len := r.image.length, lines := imageLines r.image, decl := imageDecl r.image, domain := r.domain, tier0 := hdrTier0 r.image, stagedCal := [] })

/-- What is left of a plot that is gone: its lease epoch, one higher, at which the guard holds off accesses still in flight (R225, R226). -/
def PlotSt.gone (p : PlotSt) : PlotSt := { lease := p.lease + 1 }

/-- Give back the tiles of a plot. -/
def State.clearPlot (s : State) (p : Nat) : State :=
  (s.plot p).tiles.foldl (fun s t => s.updTile t (fun _ => {})) (s.updPlot p PlotSt.gone)

/-- Whether an image can take a model's place in its plot (R236). -/
def State.fitsInPlace (s : State) (h : Nat) (r : NewImage) : Bool :=
  let m := s.model h
  decide (m.st = .resident) && m.plot.isSome && hdrInplace m.image && hdrInplace r.image && decide (hdrH m.image = hdrH r.image)
    && decide (hdrW m.image = hdrW r.image)

/-- Free the configuration-store lines that a new image's records take at once (R236): beside the old ones for a plot that goes on running, in their place for a STAGED model. -/
def State.replaceLines (s : State) (h : Nat) (r : NewImage) : Bool × State :=
  let m := s.model h
  if s.fitsInPlace h r then s.freeLines h (imageLines r.image) s.handles.length
  else if m.st = .staged then s.freeLines h (imageLines r.image - m.lines) s.handles.length
  else (true, s)

/-- Install a new image according to the model's state (R236). In a page-in, the tiles leased for the old image return and the page-in starts over. -/
def State.installImage (s : State) (h : Nat) (r : NewImage) : State :=
  let m := s.model h
  let s := s.updModel h (fun m => { m with replacing := some r })
  match m.st, m.plot with
  | .resident, some p =>
    if s.fitsInPlace h r then
      ((s.updModel h (fun m => { m with replacing := some { r with inPlace := true } })).loadWeights p r.image).issue (s.plot p).field (.replaceBy p)
    else
      (s.updModel h (fun m => { m with replacing := some { r with page := .queued } })).updBay (fun b => { b with queue := b.queue ++ [h] })
  | .faulted, _ => (s.updModel h (fun m => { m with st := .hbm })).completeReplace h
  | .paging, some p =>
    let s := s.clearPlot p
    let s := (s.updModel h (fun m => { m with plot := none, page := .queued, prev := if m.prev = .host then .hbm else m.prev })).completeReplace h
    s.updBay (fun b => { b with queue := b.queue ++ [h] })
  | _, _ => s.completeReplace h

/-- Start the replacement that waits, once none runs and the lines its records take at once are free. -/
def State.nextReplace (s : State) (h : Nat) : State :=
  match (s.model h).replacing, (s.model h).nextImage with
  | none, some r =>
    let (ok, s) := s.replaceLines h r
    if ok then (s.updModel h (fun m => { m with nextImage := none })).installImage h r else s
  | _, _ => s

/-! #### Plots freed (R185, R226) -/

/-- Bring a model down to a level after its plot is gone (R221, R233): what it no longer holds is revoked (R224). -/
def State.settleLevel (s : State) (h level : Nat) : State :=
  let s := if level = 3 then s else if level = 2 then s.revokeLines h else s.revokeBoth h
  s.updModel h (fun m => { m with
    st := if level = 3 then .staged else if level = 2 then .hbm else .host
    image := if level = 1 then [] else m.image, level := 3 })

/-- The commands that waited for a model's plot to go complete. -/
def State.endLeavers (s : State) (h : Nat) : State :=
  let l := (s.model h).leavers
  l.foldl (fun s c => s.bayDone c 0) (s.updModel h (fun m => { m with leavers := [] }))

/-- A model whose plot is gone settles at a level; rows still queued, and PREFETCHes that came meanwhile, start a page-in. -/
def State.settle (s : State) (h level : Nat) : State :=
  let s := (s.settleLevel h level).endLeavers h
  if (s.model h).queued.isEmpty && (s.model h).joined.isEmpty then s else s.startPage h

/-- A model is evicted: a statistics record per section goes out for each live epoch, and the entries are free (R214). -/
def State.evictStats (s : State) (h n : Nat) : State := s.liveEpochs.foldl (fun s e => s.sendStats e h n false) s

/-- The model of a plot that is gone: to STAGED or lower, or FREE when it is being unregistered, or on its second plot; a page-in that lost its place searches again. -/
def State.modelLeaves (s : State) (h pi n : Nat) : State :=
  let m := s.model h
  if m.plot = some pi then
    let s := s.updModel h (fun m => { m with plot := none })
    match m.replacing with
    | some r =>
      match r.plot with
      | some q =>
        if (s.plot q).ready then
          ((((s.updModel h (fun m => { m with plot := some q, st := .resident })).completeReplace h).endLeavers h).nextReplace h).remapRemove q
        else ((((s.evictStats h n).clearPlot q).completeReplace h).settle h 3).nextReplace h
      | none =>
        let s := (s.evictStats h n).updBay (fun b => { b with queue := b.queue.filter (· != h) })
        ((s.completeReplace h).settle h m.level).nextReplace h
    | none =>
      if m.st = .paging then
        (s.updModel h (fun m => { m with page := .queued, copied := [], placeSince := none })).updBay (fun b => { b with queue := b.queue ++ [h] })
      else
      let s := s.evictStats h n
      if m.dropping then ((((s.revokeBoth h).abortQueue h).endJoin h 0).endLeavers h).updModel h (fun _ => {})
      else s.settle h m.level
  else match m.replacing with
    | some r =>
      if r.plot = some pi then
        (s.updModel h (fun m => { m with replacing := some { r with plot := none, page := .queued } })).updBay (fun b => { b with queue := b.queue ++ [h] })
      else s
    | none => s

/-- Free a plot's tiles and regions (R185, R226), and retry the placements and replacements that wait. -/
def State.freePlot (s : State) (pi : Nat) : State :=
  let p := s.plot pi
  if p.used = false then s
  else
    let s := s.abandonPass pi
    let s := p.tiles.foldl (fun s t => s.updTile t (fun _ => {})) s
    let s := s.updFab (fun b => { b with
      plots := b.plots.set pi p.gone
      regions := ⟨b.regions.dflt, b.regions.cells.filter (fun c => c.1 / 2 ^ 68 != pi)⟩ })
    let s := (s.modelLeaves p.handle pi (hdrSections p.image)).retryPlaces
    s.handles.foldl (fun s h => s.nextReplace h) s

/-! #### Configuration commits (R184 to R186) -/

/-- Whether two changes are the same. -/
def Change.is (a b : Change) : Bool := decide (a = b)

/-- A plot of a field was freed: changes of the running commit that name it apply to nothing more (R185, the edge of R226). -/
def State.dropChanges (s : State) (f pi : Nat) : State :=
  (s.updField f (fun x => match x.running with
    | none => x
    | some k => { x with running := some { k with changes := k.changes.map (fun e =>
        if e.1 = .remove pi ∨ e.1 = .replaceBy pi ∨ e.1 = .add pi then (e.1, true) else e) } })).commitProgress f

/-- An ADD applies (R185, R230, R236): the plot is ready and its model is RESIDENT, or runs its new image from the next row on, and its old plot is removed once the pass it runs has ended; either way a page-in is complete. A plot on a tile that a remap took meanwhile is removed (R367). -/
def State.addApplied (s : State) (pi : Nat) : State :=
  let p := s.plot pi
  let s := s.updPlot pi (fun q => { q with ready := true })
  let m := s.model p.handle
  if p.job.isSome then s.remapRemove pi
  else match m.replacing with
    | some r =>
      if r.plot = some pi then
        let s := (s.updModel p.handle (fun m => { m with pageIns := m.pageIns + 1 })).bump Reg.BAY_PAGE_INS
        match m.plot with
        | some old => if (s.plot old).pass then s.updPlot old (fun q => { q with retire := true }) else s.issue (s.plot old).field (.remove old)
        | none => (((s.updModel p.handle (fun m => { m with plot := some pi })).completeReplace p.handle).nextReplace p.handle).remapRemove pi
      else s
    | none =>
      if m.plot = some pi then
        let s := s.updModel p.handle (fun m => { m with st := .resident, page := .none, pageIns := m.pageIns + 1 })
        (((s.bump Reg.BAY_PAGE_INS).endJoin p.handle 0).nextReplace p.handle).remapRemove pi
      else s

/-- Whether the commit that a field runs removes every plot the field still has (R185). -/
def State.removesAll (s : State) (f : Nat) : Bool :=
  (s.fieldPlots f).all (fun p => ((s.field f).running.map (fun k => k.changes.any (fun e => decide (e.1 = .remove p)))).getD false)

/-- Order one change (R185). A ROLE change that would leave plots is refused with PLOTS_PRESENT: the role stays, and Bay issues the change again. -/
def State.orderChange (s : State) (f : Nat) (c : Change) : State :=
  match c with
  | .add p => if (s.plot p).used then (s.addApplied p).markApplied f c none else s.markApplied f c none
  | .remove p =>
    if (s.plot p).used = false then s.markApplied f c none
    else if (s.plot p).pass then s.updPlot p (fun q => { q with removing := true })
    else (s.freePlot p).markApplied f c none
  | .replaceBy p =>
    if (s.plot p).used = false then s.markApplied f c none
    else match (s.model (s.plot p).handle).replacing with
      | some r =>
        if (s.model (s.plot p).handle).st = .evicting then s.markApplied f c none
        else s.updPlot p (fun q => { q with newImage := some (r.image, (q.gen + 1) % 256) })
      | none => s.markApplied f c none
  | .role a =>
    if s.removesAll f then s
    else
      (s.updField f (fun x => { x with roleSent := false, waiting := if a then x.waiting else x.waiting ++ [c] })).markApplied f c none

/-- Order the accepted commit of a field (R184, R185). -/
def State.orderCommit (s : State) (f : Nat) : State :=
  match (s.field f).accepted with
  | none => s
  | some k =>
    let s := s.updField f (fun x => { x with accepted := none, running := some k })
    (k.changes.foldl (fun s e => s.orderChange f e.1) s).commitProgress f

/-! #### Boundaries (R178, R185, R206 to R208) -/

/-- The pass boundary (R178, R185, R235, R236): the row is done, a REPLACE applies, the old plot of a shadow replacement is to be removed, and the plot may take its next row. -/
def State.passEnd (s : State) (pi : Nat) : State :=
  let p := s.plot pi
  let s := (s.bump Reg.FAB_PASSES).rowDone pi
  let s := s.updPlot pi (fun q => { q with passCount := q.passCount + 1, pass := false, row := none, kept := [] })
  let s := if p.job.isNone then s.updModel p.handle (fun m => { m with lastPass := s.now, lastUse := s.thyme }) else s
  let s := if p.retire then (s.updPlot pi (fun q => { q with retire := false })).issue p.field (.remove pi) else s
  match p.newImage with
  | none => s.remapRemove pi
  | some (img, gen) =>
    let s := s.updPlot pi (fun q => { q with
      image := img, gen := gen, newImage := none, lineLease := s.bay.guards.get (lineGuard q.handle gen)
      imgLease := s.bay.guards.get (imageGuard q.handle gen) })
    let s := ((s.completeReplace p.handle).markApplied p.field (.replaceBy pi) (some (pi, true))).commitProgress p.field
    (s.nextReplace p.handle).remapRemove pi

/-- Go on from a boundary whose outputs stand: into the following section, or to the pass boundary. -/
def State.advancePass (s : State) (pi : Nat) : State :=
  let p := s.plot pi
  if p.sec + 1 < hdrSections p.image then s.startSection pi (p.sec + 1) (p.forced (p.sec + 1)) else s.passEnd pi

/-- The saturations of the section so far exceed its threshold (R204, R206). -/
def PlotSt.overThresh (p : PlotSt) : Bool :=
  let t := satThresh p.image (secOff p.image p.sec)
  decide (t ≠ 0xFFFF) && decide (t < p.sats)

/-- A section's outputs stand: count what could not be widened or saturated again, release what was held, and go on. -/
def State.standSection (s : State) (pi : Nat) : State :=
  let p := s.plot pi
  let s := s.bumpIf (p.overThresh && !p.wide) Reg.NUM_WIDEN_NONE
  let s := s.bumpIf (p.overThresh && p.wide) Reg.NUM_WIDEN_SAT
  (s.releaseHeld pi).advancePass pi

/-- The section boundary of a plot (R178, R185, R206, R207). -/
def State.secBoundary (s : State) (pi : Nat) : State :=
  let p := s.plot pi
  let s := s.bump Reg.FAB_SECTIONS
  let s := if p.wide && !p.forced p.sec then s else s.countPass p false
  let s := if p.wide && p.forced p.sec then (s.countPass p true).bump Reg.NUM_WIDEN_RUNS else s
  let s := s.updPlot pi (fun q => { q with secCount := q.secCount + 1, since := s.now, widened := q.widened || q.wide })
  if p.removing then
    let last := decide (p.sec + 1 = hdrSections p.image)
    let s := if last && !p.mayWiden p.sec p.wide then s.standSection pi else s
    let s := (s.markApplied p.field (.remove pi) (some (pi, false))).freePlot pi
    s.commitProgress p.field
  else if widenEn p.image (secOff p.image p.sec) && !p.wide then s.updPlot pi (fun q => { q with deciding := true })
  else s.standSection pi

/-- Widen the section (R208): what it held is discarded, and the wide variant runs on the retained inputs. -/
def State.widen (s : State) (pi : Nat) : State :=
  let p := s.plot pi
  let s := (s.bump Reg.NUM_WIDEN_RUNS).countPass p true
  let gone (k : Packet) : Bool := decide (k.plot = pi) && decide (k.inst = p.inst)
    && (match k.dest with | .reply => true | .collect _ => true | .store _ => true | _ => false)
  let s := s.updFab (fun b => { b with
    packets := refillLocal [] (b.packets.filter (fun k => !gone k))
    reqs := b.reqs.filter (fun r => !(decide (r.plot = pi) && decide (r.inst = p.inst))) })
  let s := p.tiles.foldl (fun s t => s.updTile t (fun x => { x with nxt := none })) s
  s.updPlot pi (fun q => { q with
    wide := true, widened := true, inst := q.inst + 1, done := [], sats := 0, deciding := false, flipAll := true, spanLoad := 0
    expect := q.expect0, backs := q.backs0, held := [], collected := q.collected.filter (fun c => c.2.1 != p.inst) })

/-- WIDEN_DECISION (R206 to R208). -/
def execWidenDecision (plot : Nat) (s : State) : Out :=
  .next (
    let p := s.plot plot
    if p.deciding then
      if p.overThresh && p.mayWiden p.sec p.wide then s.widen plot
      else (s.updPlot plot (fun q => { q with deciding := false })).standSection plot
    else s)

/-- The report of a field that can be ordered: one of the section instance its plot's boundary waits for. -/
def State.nextReport (s : State) (f : Nat) : Option (Report × List Report) :=
  takeFirst (fun r => (s.plot r.plot).pass && decide (r.inst = (s.plot r.plot).inst)) (s.field f).reports

/-- SECTION_END_REPORT (R178, R184, R206): the sequencer orders a report; the last one of a section is its boundary. -/
def execSectionEndReport (field : Fin 4) (s : State) : Out :=
  .next (match s.nextReport field.val with
    | none => s
    | some (r, rest) =>
      let p := s.plot r.plot
      let s := (s.updField field.val (fun x => { x with reports := rest })).countReport p r.stat
      let s := s.updPlot r.plot (fun q => { q with
        done := q.done ++ [r.tile], sats := q.sats + (r.stat.satAcc + r.stat.satOut + r.stat.satExp + r.stat.satEsc) })
      if (s.plot r.plot).done.length = p.tiles.length then s.secBoundary r.plot else s)

/-- CONTEXT_LOADED (R181, R183): the missing contexts of a plot are loaded, and tiles that waited for them flip. Reads under a lease that is no longer current are fenced, and the pass is abandoned (R225). -/
def execContextLoaded (plot : Nat) (s : State) : Out :=
  .next (
    let p := s.plot plot
    if p.used && p.ready && !p.fault then
      if s.linesFenced p then s.abandonPass plot
      else
      let s := s.loadContexts plot
      if (s.plot plot).fault then s.revokePlot plot else s.tryFlips plot
    else s)

/-- BLOCK_FLIP (R183): every tile of the plot flips together. -/
def execBlockFlip (plot : Nat) (s : State) : Out :=
  .next (
    let p := s.plot plot
    if p.pass && p.flipAll && s.contextsReady plot then
      p.tiles.foldl (fun s t => s.flipTile t) (s.updPlot plot (fun q => { q with flipAll := false }))
    else s)

/-- Start to re-place a model in the serving fields other than those given (R238). -/
def State.moveModel (s : State) (fields : List Nat) (h : Nat) : State :=
  let m := s.model h
  if m.replacing.isSome then s
  else
    let r : NewImage := {
      image := m.image, digest := m.digest, addr := m.addr, domain := m.domain, move := true, avoid := fields, page := .queued }
    (s.updModel h (fun m => { m with replacing := some r })).updBay
      (fun b => { b with queue := b.queue ++ [h] })

/-- Whether a plot can wait for its next section boundary (R226, R244; DEDUCED, log 195): it has no fault, and the program it is a slice of runs. -/
def State.canWait (s : State) (pi : Nat) : Bool :=
  let p := s.plot pi
  !p.pass || (!p.fault && (match p.prog with
    | some g => decide ((s.prog g).st = 1)
    | none => true))

/-- Whether a plot of a field that is being vacated is still to be moved: its model is on its way to another field, or one that may not be evicted waits for a replacement to end (R234, R238). -/
def State.movingPlot (s : State) (p : Nat) : Bool :=
  let h := (s.plot p).handle
  ((((s.model h).replacing).map (fun r => r.move || s.locked h)).getD false)

/-- A field that is leaving serving (R185, R226, R238): once every model that moves has moved, the rest is evicted and the role change is issued. A plot that cannot wait for its section boundary is revoked. -/
def State.vacateStep (s : State) (f : Nat) : State :=
  let x := s.field f
  let late := (s.fieldPlots f).filter (fun p => s.locked (s.plot p).handle && ((s.model (s.plot p).handle).replacing).isNone
    && decide ((s.model (s.plot p).handle).st = .resident))
  if x.leaving.isNone || x.roleSent || (s.fieldPlots f).any s.movingPlot then s
  else if late.isEmpty = false then late.foldl (fun s p => s.moveModel [f] (s.plot p).handle) s
  else
    let s := (s.fieldPlots f).foldl (fun s p =>
      let h := (s.plot p).handle
      if s.canWait p = false then s.revokePlot p
      else if (s.model h).st = .resident ∧ (s.model h).plot = some p then s.evictTo h 3
      else if (s.model h).st = .evicting ∧ (s.model h).plot = some p then s
      else s.issue f (.remove p)) s
    (s.updField f (fun x => { x with roleSent := true })).issue f (.role true)

/-- CONFIG_COMMIT (R185, R186): Bay carries up to 16 waiting changes to the field sequencer, which runs the commit, keeps it pending, or refuses it with BUSY. -/
def execConfigCommit (field : Fin 4) (s : State) : Out :=
  .next (s.whenRuns none (fun s =>
    let s := s.vacateStep field.val
    let f := s.field field.val
    if f.waiting.isEmpty then s
    else if s.flag Reg.FAB_CTRL_enable = false ∨ ((f.running.isSome ∨ f.accepted.isSome) ∧ f.pending.isSome) then
      (s.stick (Reg.FAB_COMMIT_STAT_busy field.val)).bump Reg.FAB_COMMIT_BUSY
    else
      let k : Commit := {
        changes := (f.waiting.take 16).map (fun c => (c, false))
        snap := s.plotIds.map (fun p => (p, (s.plot p).secCount, (s.plot p).passCount)) }
      s.updField field.val (fun x =>
        if x.running.isNone ∧ x.accepted.isNone then { x with waiting := x.waiting.drop 16, accepted := some k }
        else { x with waiting := x.waiting.drop 16, pending := some k })))

/-- COMMIT_ORDERED (R184, R185): a section-end report that waits is ordered first, and a field that sleeps wakes first (R335). -/
def execCommitOrdered (field : Fin 4) (s : State) : Out :=
  .next (if (s.field field.val).running.isSome ∨ (s.nextReport field.val).isSome = true ∨ (s.pow.fields.get field.val).st ≠ 0 then s else s.orderCommit field.val)

end Sys2Proof.Machine
end

