-- ==== Sys2Proof/Machine/Epochs.lean ====
section
/-! DEFINITION. Calibration epochs and the statistics entries (R210 to R212, R214, R237). -/

namespace Sys2Proof.Machine

/-- A request for an epoch commit (R212): it starts, waits as pending, or is refused with BUSY. -/
def State.requestEpoch (s : State) : State :=
  if s.num.installing ∨ s.num.draining.isSome then
    if s.num.pending then (s.stick Reg.NUM_EPOCH_STAT_busy).bump Reg.NUM_EPOCH_BUSY
    else s.updNum (fun n => { n with pending := true })
  else s.updNum (fun n => { n with installing := true })

/-- EPOCH_COMMIT (R212): a write of 1 to NUM_EPOCH_CTRL.commit. -/
def execEpochCommit (s : State) : Out := .next (s.coreWrite (some 4) (fun s => s.requestEpoch))

/-- Whether a plot is the second plot of a shadow replacement. -/
def State.isShadow (s : State) (pi : Nat) : Bool :=
  match (s.model (s.plot pi).handle).replacing with
  | some r => decide (r.plot = some pi) && !r.move
  | none => false

/-- Install a new epoch in a plot (R211, R212, R237): the staged block, or a copy of the active bank. -/
def State.installPlot (s : State) (pi new : Nat) : State :=
  let p := s.plot pi
  let m := s.model p.handle
  if m.stagedCal.isEmpty = false ∧ s.isShadow pi = false then s.writeCal pi p.image m.stagedCal (new % 2)
  else
    s.copyCal pi p.image ((new + 1) % 2) (new % 2)

/-- EPOCH_ADVANCE (R212): the install completes in every resident plot, the staged blocks become those of the new epoch, and the old epoch drains. -/
def execEpochAdvance (s : State) : Out :=
  .next (
    if s.num.installing = false then s
    else
      let old := s.num.current
      let new := (old + 1) % 65536
      let s := s.plotIds.foldl (fun s p => s.installPlot p new) s
      let s := s.handles.foldl (fun s h => s.updModel h (fun m => { m with
        blocks := m.blocks.set new (if m.stagedCal.isEmpty then m.blocks.get old else m.stagedCal), stagedCal := [] })) s
      s.updNum (fun n => { n with installing := false, current := new, draining := some old }))

/-- Whether an epoch is held (R210): by a bundle whose segments are still being handed on, by a segment, by a row that has not completed its pass, by an INFER descriptor, or by an adaptation batch. -/
def State.epochHeld (s : State) (e : Nat) : Bool :=
  s.mac.frames.cells.any (fun c => c.2.holdsEpoch && decide (c.2.epoch = e) && !c.2.walkDone)
    || s.sfe.segs.cells.any (fun c => decide (c.2.epoch = e) && decide (c.2.st ≠ .done))
    || s.sfe.rows.cells.any (fun c => decide (c.2.epoch = e) && decide (c.2.st ≠ .done))
    || s.hif.descs.cells.any (fun c => decide (c.2.calEpoch = e) && decide (c.2.op = 1) && decide (c.2.st ≠ .done))
    || s.adp.jobs.cells.any (fun c => decide (c.2.calEpoch = e) && !c.2.rows.isEmpty)

/-- EPOCH_RETIRE (R210, R212, R214): the draining epoch is held by nothing: its statistics leave, its blocks go, the commit completes and a pending one starts. -/
def execEpochRetire (s : State) : Out :=
  .next (match s.num.draining with
    | none => s
    | some e =>
      if s.epochHeld e then s
      else
        let s := s.residents.foldl (fun s h => s.sendStats e h (hdrSections (s.model h).image) true) s
        let s := s.handles.foldl (fun s h => s.updModel h (fun m => { m with blocks := m.blocks.set e [] })) s
        (s.updNum (fun n => { n with draining := none, installing := n.pending, pending := false })).bump Reg.NUM_EPOCH_COMMITS)

/-- The entry NUM_STAT_SEL selects: its epoch and its key, where it is live. -/
def State.statSel (s : State) : Option (Nat × Nat) :=
  let h := s.fld Reg.NUM_STAT_SEL_handle
  let k := s.fld Reg.NUM_STAT_SEL_section
  let e := if s.flag Reg.NUM_STAT_SEL_slot then s.num.draining else some s.num.current
  match e with
  | some e => if (s.model h).resident = true ∧ k < hdrSections (s.model h).image then some (e, statKey e h k) else none
  | none => none

/-- Put free values in a list of registers. -/
def State.freeRegs (s : State) (l : List Nat) : State :=
  l.foldl (fun s a => let (v, s) := s.free; s.setReg a v) s

/-- NUM_STAT_CMD.read (R214): every field of the selected entry at one instant; of an entry that is not live only valid is told. -/
def State.statRead (s : State) : State :=
  match s.statSel with
  | none =>
    let s := s.freeRegs [Reg.NUM_STAT_OUTPUTS, Reg.NUM_STAT_SAMPLES, Reg.NUM_STAT_SSE, Reg.NUM_STAT_SAT, Reg.NUM_STAT_PASSES, Reg.NUM_STAT_WIDENED]
    let (m, s) := s.free
    let (e, s) := s.free
    let s := s.setFld Reg.NUM_STAT_MAXERR_max_e8 m.toNat
    let s := s.setFld Reg.NUM_STAT_STAT_epoch e.toNat
    let s := s.setFld Reg.NUM_STAT_STAT_sse_sat (bits e.toNat 16 16)
    s.setFld Reg.NUM_STAT_STAT_valid 0
  | some (e, k) =>
    let x := s.num.stats.get k
    let s := s.setReg Reg.NUM_STAT_OUTPUTS (BitVec.ofNat 64 x.outputs)
    let s := s.setReg Reg.NUM_STAT_SAMPLES (BitVec.ofNat 64 x.samples)
    let s := s.setReg Reg.NUM_STAT_SSE (BitVec.ofNat 64 x.sse)
    let s := s.setReg Reg.NUM_STAT_SAT (BitVec.ofNat 64 x.sats)
    let s := s.setReg Reg.NUM_STAT_PASSES (BitVec.ofNat 64 x.passes)
    let s := s.setReg Reg.NUM_STAT_WIDENED (BitVec.ofNat 64 x.widened)
    let s := s.setFld Reg.NUM_STAT_MAXERR_max_e8 x.maxE
    let s := s.setFld Reg.NUM_STAT_STAT_epoch e
    let s := s.setFld Reg.NUM_STAT_STAT_sse_sat (b2n x.sseSat)
    s.setFld Reg.NUM_STAT_STAT_valid 1

/-- STAT_READ (R214). -/
def execStatRead (s : State) : Out := .next (s.coreWrite (some 4) (fun s => s.statRead))

/-- NUM_STAT_CMD.clear (R214): the selected entry is zero at one instant. -/
def State.statClear (s : State) : State :=
  match s.statSel with
  | none => s
  | some (_, k) => s.updNum (fun n => { n with stats := n.stats.upd k (fun e => { live := e.live }) })

/-- STAT_CLEAR (R214). -/
def execStatClear (s : State) : Out := .next (s.coreWrite (some 4) (fun s => s.statClear))

end Sys2Proof.Machine
end

