-- ==== Sys2Proof/Machine/Jobs.lean ====
section
/-! DEFINITION. Adaptation jobs as Bay and the adaptation unit share them: parameters, serving codes in replicas, batches begun, abandoned and run again, fields given back (R31, R242 to R253, R260). -/

namespace Sys2Proof.Machine

/-! #### Parameters (R249, R260) -/

/-- A job slot. -/
def State.job (s : State) (n : Nat) : Job := s.adp.jobs.get n

/-- Change the adaptation unit. -/
def State.updAdp (s : State) (f : AdpSt → AdpSt) : State := { s with adp := f s.adp }

/-- Change a job slot. -/
def State.updJob (s : State) (n : Nat) (f : Job → Job) : State := s.updAdp (fun a => { a with jobs := a.jobs.upd n f })

/-- A flag of aug: 0 shuffle, 1 speed, 2 gain, 3 noise, 4 time mask, 5 frequency mask. -/
def Job.aug (j : Job) (i : Nat) : Bool := bit (byteAt j.block 5) i
/-- The normalisation profile's index. -/
def Job.profile (j : Job) : Nat := le j.block 6 2 % 4096
/-- ckpt_addr. -/
def Job.ckptAddr (j : Job) : Nat := le j.block 16 8
/-- seed. -/
def Job.seed (j : Job) : DWord := BitVec.ofNat 64 (le j.block 24 8)
/-- batch_rows. -/
def Job.batchRows (j : Job) : Nat := byteAt j.block 44
/-- domain. -/
def Job.domain (j : Job) : Nat := byteAt j.block 53
/-- qp. -/
def Job.qpNo (j : Job) : Nat := le j.block 54 2 % 16384
/-- Adapter elements. -/
def Job.elems (j : Job) : Nat := j.groups.length * j.gLen

/-! #### Serving codes in a replica (R249, R256) -/

/-- A flit with one nibble replaced. -/
def setNibble (f : Flit) (k n : Nat) : Flit :=
  (f &&& ~~~ (BitVec.ofNat 128 (15 <<< (4 * k)))) ||| BitVec.ofNat 128 ((n % 16) <<< (4 * k))

/-- Write the serving codes of a group into a plot's tile. -/
def State.writeGroup (s : State) (pi : Nat) (j : Job) (g : Nat) (e : AdpGroup) : State :=
  let t := tileIx ((s.plot pi).x0 + e.px) ((s.plot pi).y0 + e.py)
  (List.range (j.gLen / 16)).foldl (fun s q =>
    let codes := ((j.sCode.drop (g * j.gLen + 16 * q)).take 16).map (rawOf 8)
    let s := s.writeStore t (e.w0 + q * e.stride) [packFlit 8 codes]
    let a := e.sw0 + q * e.stride
    s.writeStore t a [setNibble ((s.tile t).store.get a) e.k ((j.sNib[g]?).getD 0)]) s

/-- Write a job's serving codes into a replica. -/
def State.writeServing (s : State) (pi : Nat) (j : Job) : State :=
  (List.range j.groups.length).foldl (fun s g => match j.groups[g]? with
    | none => s
    | some e => s.writeGroup pi j g e) s

/-! #### Samples (R245, R246) -/

/-- A sample of a job's set. -/
def Job.sample (j : Job) (i : Nat) : AdpSample := (j.samples[i]?).getD {}

/-- The decoded samples of a sample, cached or read for this batch. -/
def Job.decoded (j : Job) (i : Nat) : Option (List Int) := ((j.cache ++ j.fresh).find? (fun c => c.1 == i)).map (·.2)

/-- Whether a sample is skipped in every epoch (R246): a codec Umauk does not decode, no audio, half a PCM sample, or too long. -/
def sampleSkipped (wr : Nat) (x : AdpSample) : Bool :=
  decide (x.codec < 1) || decide (4 < x.codec) || decide (x.rate < 1) || decide (4 < x.rate) || decide (x.len = 0)
    || (isPcm x.codec && decide (x.len % 2 = 1)) || decide (65536 * 16 < workCount x.rate wr (sampleCount x.codec x.len))

/-- Bytes the decoded-sample cache holds, of all jobs. -/
def State.cacheBytes (s : State) : Nat :=
  s.adp.jobs.cells.foldl (fun n j => j.2.cache.foldl (fun n c => n + 2 * c.2.length) n) 0

/-! #### Augmentation (R248, R253) -/

/-- The augmentation draw of an operation for a sample. -/
def Job.draw (j : Job) (i op : Nat) : List Word := sorrel j.seed (BitVec.ofNat 64 (j.tEpoch <<< 40 ||| i <<< 8 ||| op))

/-- A word of a draw. -/
def drawn (w : List Word) (k : Nat) : Nat := (wordAt w k).toNat

/-- The largest number below 2^bits whose k-th power is at most t; `c` is what the bits above give. -/
def rootFloor (k t : Nat) : Nat → Nat → Nat
  | 0, c => c
  | n + 1, c => rootFloor k t n (if (c + 2 ^ n) ^ k ≤ t then c + 2 ^ n else c)

/-- 10^(g / 40) in Q2.14, for g from -24 to 24 (R253): exactly 1 for g of 0, else rounded down or up. -/
def gainCoef (g : Int) : Int :=
  let t := if 0 ≤ g then 2 ^ 560 * 10 ^ g.toNat else 2 ^ 560 / 10 ^ (-g).toNat
  ((rootFloor 40 t 16 0 + b2n (decide (g ≠ 0) && Config.gainUp g) : Nat) : Int)

/-- 10^(-SNR / 20) in Q1.15 (R253). -/
def noiseCoef (snr : Nat) : Int :=
  ((rootFloor 20 (2 ^ 300 / 10 ^ snr) 16 0 + b2n (decide (snr ≠ 0) && Config.snrUp snr) : Nat) : Int)

/-- Speed, gain and noise, in this order (R253); a product is rounded to nearest, ties to even (DEDUCED, log 104). -/
def Job.augment (j : Job) (i : Nat) (x : List Int) : List Int :=
  let d0 := j.draw i 0
  let d1 := j.draw i 1
  let x := if j.aug 1 && decide (drawn d0 0 % 3 ≠ 1) then Config.speed (drawn d0 0 % 3) x else x
  let gm := byteAt j.block 45
  let g : Int := ((drawn d0 1 % (2 * gm + 1) : Nat) : Int) - gm
  let x := if j.aug 2 then x.map (fun v => sat16 (rneShift (v * gainCoef g) 14)) else x
  if j.aug 3 then
    let clip := (j.clips[drawn d0 2 % le j.block 40 2]?).getD []
    let off := drawn d0 3 % clip.length
    let lo := byteAt j.block 46
    let snr := lo + drawn d1 0 % (byteAt j.block 47 - lo + 1)
    (List.range x.length).map (fun k =>
      let c := if clip.isEmpty then Config.emptyClip k else (clip[(off + k) % clip.length]?).getD 0
      sat16 ((x[k]?).getD 0 + rneShift (c * noiseCoef snr) 15))
  else x

/-- The frames of a sample's stream, one by one. -/
def State.adpLoop (s : State) (p : SfeProfile) (stream : List Int) : Nat → Nat → List (Int × Int) → List (List Int)
  | 0, _, _ => []
  | m + 1, k, st =>
    let y := s.normalise p st (s.frameFeatures p (fitInts (stream.drop (k * p.hop)) p.frameLen))
    p.codes y.1 :: s.adpLoop p stream m (k + 1) y.2

/-- The level-0 frames of a sample as a whole stream (R133, R146): it starts with a restart and its last frame is completed with zeros. -/
def State.sampleFrames (s : State) (p : SfeProfile) (x : List Int) : List (List Int) :=
  s.adpLoop p (List.replicate (p.frameLen - p.hop) 0 ++ preEmphasis p.preemph 0 x) ((x.length + p.hop - 1) / p.hop) 0 (s.freshRegion p {}).norm

/-- The frames of the next level (R141). -/
def SfeProfile.levelUp (p : SfeProfile) : Nat → List Int → List (List Int) → List (List Int)
  | _, _, [] => []
  | ph, acc, f :: r => match p.pyramid ph acc f with
    | (some g, h, a) => g :: p.levelUp h a r
    | (none, h, a) => p.levelUp h a r

/-- The time mask: level-0 frames set to code 0. -/
def Job.timeMask (j : Job) (i : Nat) (f : List (List Int)) : List (List Int) :=
  let d := j.draw i 2
  let w := drawn d 0 % (byteAt j.block 48 + 1)
  let start := drawn d 1 % (f.length - w + 1)
  if j.aug 4 && decide (w ≤ f.length) then
    (List.range f.length).map (fun k => if start ≤ k ∧ k < start + w then ((f[k]?).getD []).map (fun _ => 0) else (f[k]?).getD [])
  else f

/-- The frequency mask: bins set to code 0 in every frame. -/
def Job.freqMask (j : Job) (i bins : Nat) (f : List (List Int)) : List (List Int) :=
  let d := j.draw i 2
  let w := drawn d 2 % (byteAt j.block 49 + 1)
  let start := drawn d 3 % (bins - w + 1)
  let hit (b : Nat) : Bool := if bins < w then Config.wideMask w bins (drawn d 3) b else decide (start ≤ b) && decide (b < start + w)
  if j.aug 5 then f.map (fun x => (List.range x.length).map (fun b => if hit b then 0 else (x[b]?).getD 0)) else f

/-! #### Rows of a batch (R250 to R252) -/

/-- The identifier of an adaptation span (R251). -/
def Job.sampleId (j : Job) (n i : Nat) : DWord := BitVec.ofNat 64 (n <<< 48 ||| j.tEpoch <<< 32 ||| i <<< 11)

/-- The span of a sample at a position of a row (R250), and whether it was cut (R253). -/
def State.sampleSpan (s : State) (n seg pos i : Nat) : Span × Bool :=
  let j := s.job n
  let p := s.sfe.profiles.get j.profile
  let f0 := s.sampleFrames p (j.augment i ((j.decoded i).getD []))
  let f1 := if 2 ≤ p.levels then p.levelUp 0 [] f0 else []
  let f2 := if 3 ≤ p.levels then p.levelUp 0 [] f1 else []
  let sf := j.sampleFrames
  let c0 := j.freqMask i p.bins (j.timeMask i (f0.take sf))
  let c1 := j.freqMask i p.bins (f1.take (sf / p.stride))
  let c2 := j.freqMask i p.bins (f2.take (sf / (p.stride * p.stride)))
  ({ seg := seg, start := pos * sf, len := c0.length, reset := true, final := true, sampleId := j.sampleId n i
     l1Start := pos * sf / p.stride, l1Len := c1.length, l2Start := pos * sf / (p.stride * p.stride), l2Len := c2.length
     codes := c0, codes1 := c1, codes2 := c2 }, decide (sf < f0.length))

/-- Whether everything a row needs has been read. -/
def Job.rowReady (j : Job) (r : AdpRow) : Bool :=
  r.samples.all (fun o => match o with
    | some i => j.skip.contains i || (j.decoded i).isSome
    | none => true)

/-- Add the span of a position to a row under construction: a sample, or a void span for a skipped sample or for padding, whose identifier is open. -/
def State.addPosition (s : State) (n row seg pos : Nat) (o : Option Nat) : State :=
  let j := s.job n
  let void : Span := { seg := seg, start := pos * j.sampleFrames, len := 1, reset := true, void := true }
  match o with
  | some i =>
    if j.skip.contains i then s.updRow row (fun x => { x with spans := x.spans ++ [{ void with sampleId := j.sampleId n i }] })
    else
      let (sp, cut) := s.sampleSpan n seg pos i
      (s.updRow row (fun x => { x with spans := x.spans ++ [sp] })).bumpIf cut Reg.ADP_TRUNC
  | none =>
    let (v, s) := s.free
    s.updRow row (fun x => { x with spans := x.spans ++ [{ void with sampleId := v }] })

/-- Build a row of the batch (R137, R138, R250). Its spans refer to a segment record that carries the job's profile and nothing else. -/
def State.buildRow (s : State) (n k : Nat) (r : AdpRow) : State :=
  let j := s.job n
  let h := (s.model j.handle).hdr
  let (seg, s) := s.freshId
  let (id, s) := s.freshId
  let prof := s.sfe.profiles.get j.profile
  let s := s.updSeg seg (fun _ => { prof := prof, model := j.handle, epoch := j.calEpoch })
  let s := s.updRow id (fun _ => {
    model := j.handle, epoch := j.calEpoch, openAt := s.now, frames := hdrRowFrames h, rowFrames := hdrRowFrames h
    maxSpans := hdrMaxSpans h, st := .closed, job := some (n, k) })
  let s := (List.range r.samples.length).foldl (fun s pos => s.addPosition n id seg pos ((r.samples[pos]?).getD none)) s
  s.updJob n (fun j => { j with rows := modifyAt j.rows k (fun x => { x with row := some id }) })

/-- Build the rows of the batch whose samples are at hand. -/
def State.buildRows (s : State) (n : Nat) : State :=
  (List.range (s.job n).rows.length).foldl (fun s k => match (s.job n).rows[k]? with
    | none => s
    | some r => if r.row.isNone && (s.job n).rowReady r then s.buildRow n k r else s) s

/-- Split positions into rows of `m`. -/
def rowsOf (m : Nat) (l : List (Option Nat)) : Nat → List AdpRow
  | 0 => []
  | n + 1 => { samples := l.take m } :: rowsOf m (l.drop m) n

/-- Ask the host for a sample and its label (R246, R250, R263): as the function of the job's queue pair, and only inside the domain's windows (R282). -/
def State.askSample (s : State) (j : Job) (i : Nat) : State :=
  let x := j.sample i
  let want := (x.audio, x.len) :: (if j.labelBytes = 0 then [] else [(x.label, j.labelBytes)])
  s.hostReads (s.qp j.qpNo).func (want.filter (fun p => (s.domRights j.domain).inWindow p.1 p.2 false))

/-- Begin the batch that is next (R252): its positions in ascending index, its accumulators zero, its rows stamped with the calibration epoch; samples that are not at hand are read. -/
def State.beginBatch (s : State) (n : Nat) : State :=
  let j := s.job n
  let m := hdrMaxSpans (s.model j.handle).hdr
  let size := j.batchRows * m
  let own := ((j.order.drop (j.batch * size)).take size).insertionSort (· ≤ ·)
  let pos := own.map some ++ List.replicate (size - own.length) none
  let s := s.bumpIf j.again Reg.ADP_BATCH_RERUN
  let s := if j.again then s else s.addCnt Reg.ADP_SKIP (own.filter j.skip.contains).length
  let s := s.updJob n (fun j => { j with
    rows := rowsOf m pos j.batchRows, acc := List.replicate j.elems 0, calEpoch := s.num.current, nextReduce := 0
    again := false })
  let s := (own.filter (fun i => !j.skip.contains i && (j.decoded i).isNone)).foldl (fun s i => s.askSample j i) s
  s.buildRows n

/-- Abandon the batch in progress (R258, the edges of 10): its passes, its held gradients and its accumulators go. -/
def State.dropBatch (s : State) (n : Nat) : State :=
  let j := s.job n
  let s := j.replicas.foldl (fun s r => if (s.plot r.2).pass then s.abandonPass r.2 else s) s
  let s := j.rows.foldl (fun s r => match r.row with
    | some k => s.updRow k (fun _ => {})
    | none => s) s
  s.updJob n (fun j => { j with rows := [], acc := [], nextReduce := 0, again := j.again || !j.rows.isEmpty })

/-! #### Fields given back (R31, R185, R244) -/

/-- Decide to revoke a field's grant (R244). -/
def State.revokeGrant (s : State) (f cause : Nat) : State :=
  if s.bay.revokes.any (fun r => match r with
    | .grant g _ => g == f
    | .plot _ => false) then s
  else s.updBay (fun b => { b with revokes := b.revokes ++ [.grant f cause] })

/-- Revoke every grant of a job at STOP. -/
def State.revokeAll (s : State) (n : Nat) : State := (s.job n).grants.foldl (fun s g => s.revokeGrant g.1 2) s

/-- The batch in progress is abandoned by a revocation: it runs again from its first row on the fields kept; of a job that waited to stop at its boundary, the fields are released (R242, R244). -/
def State.rerunBatch (s : State) (n : Nat) : State :=
  let live := decide ((s.job n).st = 2) && !(s.job n).rows.isEmpty
  let s := s.dropBatch n
  if live then s.beginBatch n
  else if (s.job n).stopping then (s.updJob n (fun j => { j with stopping := false })).revokeAll n else s

/-- A field leaves a job (R226, R244): its replica is removed, or revoked where it cannot wait for its section boundary, and the field returns to serving; one that had not begun to change its role just stays. -/
def State.releaseField (s : State) (n f : Nat) : State :=
  let own := (s.job n).replicas.filter (fun r => r.1 == f)
  let s := own.foldl (fun s r => if s.canWait r.2 then s.issue f (.remove r.2) else s.revokePlot r.2) s
  let s := if (s.field f).leaving.isSome && !(s.field f).roleSent then s.updField f (fun x => { x with leaving := none })
    else s.issue f (.role false)
  let s := s.updBay (fun b => { b with revokes := b.revokes.filter (fun r => match r with
    | .grant g _ => g != f
    | .plot _ => true) })
  s.updJob n (fun j => { j with grants := j.grants.filter (fun g => g.1 != f), replicas := j.replicas.filter (fun r => r.1 != f) })

/-- A run ends (R242): the batch in progress is abandoned, the fields go back, the job is READY. -/
def State.endRun (s : State) (n cause : Nat) : State :=
  let s := s.dropBatch n
  let s := (s.job n).grants.foldl (fun s g => s.releaseField n g.1) s
  s.updJob n (fun j => { j with st := 1, cause := cause, ordering := false, stopping := false })

/-- The training image of running jobs became FAULTED. -/
def State.jobFaults (s : State) (h : Nat) : State :=
  (List.range 4).foldl (fun s n => if (s.job n).handle = h ∧ ((s.job n).st = 2 ∨ (s.job n).st = 3) then s.endRun n 6 else s) s

end Sys2Proof.Machine
end

