-- ==== Sys2Proof/Machine/Bay.lean ====
section
/-! DEFINITION. Bay: the scheduler and the dispatch of rows, page-ins, its commands, pins and plot stalls (R143, R144, R217 to R238, R240, R241, R282, R309, R328). -/

namespace Sys2Proof.Machine

/-! #### The scheduler (R235, R328) -/

/-- Whether a class is strict. -/
def State.strict (s : State) (c : Nat) : Bool := s.flag (Reg.BAY_CLASS_strict c)

/-- Quantum of a class in frames. -/
def State.classQuantum (s : State) (c : Nat) : Nat := s.fld (Reg.BAY_CLASS_quantum c)

/-- The rows of a class that Bay may take: closed, full, or past their pack wait (R149), and of one key, which the calibration epoch tells apart in a class of a model, none that opened after one it may not take (R148). -/
def State.classRows (s : State) (m : Model) (c : Nat) : List Nat :=
  let l := m.q.get c
  l.filter (fun r => s.rowTakable r
    && (l.takeWhile (fun q => q != r)).all (fun q => decide ((s.row q).epoch ≠ (s.row r).epoch) || s.rowTakable q))

/-- Take a row out of its queue. -/
def Model.pop (m : Model) (c r : Nat) : Model := { m with q := m.q.upd c (fun l => l.erase r) }

/-- The round over the classes that are not strict. -/
def State.pickRound (s : State) : Nat → Model → Option (Nat × Model)
  | 0, _ => none
  | n + 1, m =>
    let c := m.cur
    let next (m : Model) : Model :=
      let d := (c + 1) % 8
      let m := { m with cur := d }
      if !s.strict d && !(s.classRows m d).isEmpty then { m with credit := m.credit.upd d (· + s.classQuantum d) } else m
    if s.strict c then s.pickRound n (next { m with credit := m.credit.set c 0 })
    else match s.classRows m c with
      | [] => s.pickRound n (next { m with credit := m.credit.set c 0 })
      | r :: _ =>
        let f := (s.row r).frames
        if f ≤ m.credit.get c then some (r, ({ m with credit := m.credit.upd c (· - f) }).pop c r) else s.pickRound n (next m)

/-- The pick rule (R235); `open_` says whether rows of classes that are not strict may be taken. -/
def State.pickRow (s : State) (m : Model) (open_ : Bool) : Option (Nat × Model) :=
  match (List.range 8).find? (fun c => s.strict c && !(s.classRows m c).isEmpty) with
  | some c =>
    match s.classRows m c with
    | r :: _ => some (r, m.pop c r)
    | [] => none
  | none =>
    if open_ && (List.range 8).any (fun c => !s.strict c && !(s.classRows m c).isEmpty) then s.pickRound 1024 m else none

/-- Whether the dispatch gate lets a field take a gated row now (R328). -/
def State.gateOpen (s : State) (f : Nat) : Bool :=
  decide (s.pow.gate = 0) || (((s.pow.fields.get f).lastPop).map (fun t => s.passed t s.pow.gate)).getD true

/-- Whether strict classes are gated too (R328). -/
def State.strictGated (s : State) : Bool := decide (1000 ≤ s.pow.gateTop)

/-- Note a gated pop of a field. -/
def State.notePop (s : State) (f : Nat) : State :=
  { s with pow := { s.pow with fields := s.pow.fields.upd f (fun p => { p with lastPop := some s.now }) } }

/-! #### Dispatch (R143, R144, R187, R228, R309, R310) -/

/-- Bytes of a slot. -/
def State.slotSize (s : State) : Nat := 512 <<< s.fld Reg.BAY_SLOT_SIZE_size

/-- Change a span of a row. -/
def State.updSpan (s : State) (r k : Nat) (f : Span → Span) : State :=
  s.updRow r (fun x => { x with spans := modifyAt x.spans k f })

/-- Whether a segment's first span was found stale when its row was dispatched. -/
def State.staleSeg (s : State) (i : Nat) : Bool :=
  s.sfe.rows.cells.any (fun c => c.2.spans.any (fun sp => decide (sp.seg = i) && !sp.contIn && sp.void))

/-- The record of a span that is not evaluated: it leaves here, or is left to the reply chips of a spanning program. -/
def State.deadSpan (s : State) (prog : Option Nat) (sp : Span) (rstat : Nat) : State :=
  match prog with
  | none => s.spanFails sp rstat
  | some p =>
    let s := if sp.contOut ∨ (s.seg sp.seg).st = .done then s else s.noticeSpan p sp rstat
    if s.repliesHere p then s.spanFails sp rstat else s.silentEnd sp

/-- The STALE record of a void span at this chip: every void span has one (R139). The first completes the segment. -/
def State.voidHere (s : State) (sp : Span) : State :=
  let g := s.seg sp.seg
  if g.st ≠ .done then s.sendResult sp.seg 1 0 false
  else if g.desc.isSome then s
  else s.updErp (fun e => { e with results := e.results ++ [g.record sp.seg (s.bundle g.bundle) 1 0 false] })

/-- The STALE record of a void span: it leaves here, or from the reply chips of a spanning program (R139, R310). -/
def State.voidSpan (s : State) (prog : Option Nat) (sp : Span) : State :=
  match prog with
  | none => s.voidHere sp
  | some p =>
    let s := s.noticeSpan p sp 1
    if s.repliesHere p then s.voidHere sp else if (s.seg sp.seg).st = .done then s else s.segDiscard sp.seg 9

/-- The dispatch checks of a span (R118, R144, R228): whether its bundle has failed before the segment was scheduled, staleness, owner and size of its slot; a span that passes takes its slot's lease epoch. -/
def State.checkSpan (s : State) (pi r k : Nat) : State :=
  match (s.row r).spans[k]? with
  | none => s
  | some sp =>
    let g := s.seg sp.seg
    let p := s.plot pi
    let age := if sp.contIn then (if s.staleSeg sp.seg then Age.stale else .fresh) else s.age g.entry.staleClass s.thyme g.capture
    let sl := s.bay.slots.get sp.slot
    if g.withdrawn && !g.scheduled then (s.updSpan r k (fun x => { x with denied := true })).silentEnd sp
    else if age ≠ .fresh then
      let s := s.bumpIf (decide (age = .skew)) Reg.SFE_CLOCK_SKEW
      let s := s.bumpIf (!sp.contIn) Reg.SFE_STALE_DISPATCH
      (s.updSpan r k (fun x => { x with void := true })).voidSpan p.prog sp
    else if sl.domain ≠ g.entry.domain then
      ((s.bump Reg.BAY_SLOT_DENIED).updSpan r k (fun x => { x with denied := true })).deadSpan p.prog sp 3
    else if s.slotSize < g.prof.feBytes + hdrStateBytes (p.image.take 64) then
      ((s.bump Reg.BAY_SLOT_OVERSIZE).updSpan r k (fun x => { x with denied := true })).deadSpan p.prog sp 3
    else
      let s := (s.updSpan r k (fun x => { x with slotEpoch := sl.epoch })).updSeg sp.seg (fun g => { g with scheduled := true })
      match p.prog with
      | some g => if sp.contOut then s else s.noticeSpan g sp 0
      | none => s

/-- Send the pass notice of a program to every other chip of its box (R309). -/
def State.sendPassNotices (s : State) (p passKey epoch : Nat) : State :=
  let e := s.prog p
  ((e.box.map (s.progChip e)).eraseDups.filter (fun c => c != s.me)).foldl (fun s c =>
    s.oslSubmit none (passNotice c p e.gen passKey epoch)) s

/-- Start a pass of a row on a plot. -/
def State.beginPass (s : State) (pi : Nat) (row : Option Nat) (epoch passKey : Nat) (expect : List (Nat × Nat)) : State :=
  let n := s.fab.orderNext
  let s := s.updFab (fun b => { b with orderNext := n + 1 })
  let s := s.updPlot pi (fun q => { q with
    pass := true, row := row, order := n, epoch := epoch, passKey := passKey, ctrl := BitVec.ofNat 32 (s.reg Reg.NUM_CTRL).toNat
    widened := false, since := s.now, expect := q.expect ++ expect })
  s.startSection pi 0 ((s.plot pi).forced 0)

/-- Dispatch a row onto a plot. -/
def State.dispatch (s : State) (pi r : Nat) : State :=
  let n := (s.row r).spans.length
  let s := s.updRow r (fun x => { x with st := .taken })
  let s := (List.range n).foldl (fun s k => s.checkSpan pi r k) s
  let row := s.row r
  let s := s.bump Reg.BAY_ROWS
  let live := ((List.range n).filter (fun k => ((row.spans[k]?).map (fun sp => !sp.contOut && !sp.void && !sp.denied)).getD false)).map
    (fun k => (r, k))
  match (s.plot pi).prog with
  | none => s.beginPass pi (some r) row.epoch 0 live
  | some p =>
    let s := s.sendPassNotices p 0 row.epoch
    s.beginPass pi (some r) row.epoch 0 (if s.repliesHere p then live else [])

/-- Whether a plot may take a row (R185, R226, R325, R367). -/
def State.plotFree (s : State) (pi : Nat) : Bool :=
  let p := s.plot pi
  p.used && p.ready && !p.pass && !p.removing && !p.fault && !s.bay.revokes.contains (.plot pi)
    && decide ((s.pow.fields.get p.field).st = 0) && ((s.pow.fields.get p.field).waking).isNone && !s.pow.idle
    && (let l := s.affectedTiles p.field
        p.tiles.all (fun t => !l.contains t))
    && (match p.prog with
      | some g => decide ((s.prog g).st = 1) && decide (s.homeChip (s.prog g) = s.me)
      | none => true)

/-- The plot that takes a model's next row: its second plot once that is ready (R236). -/
def State.servingPlot (s : State) (h : Nat) : Option Nat :=
  match (s.model h).replacing with
  | some r =>
    match r.plot with
    | some q => if (s.plot q).ready then some q else (s.model h).plot
    | none => (s.model h).plot
  | none => (s.model h).plot

/-- Pop a serving row of a model, if one may go now. -/
def State.popServing (s : State) (h : Nat) : Option State :=
  match s.servingPlot h with
  | none => none
  | some pi =>
    let f := (s.plot pi).field
    let m := s.model h
    if m.st = .resident ∧ s.plotFree pi = true ∧ (s.strictGated = false ∨ s.gateOpen f = true) then
      match s.pickRow m (s.gateOpen f) with
      | none => none
      | some (r, m2) =>
        let strict := s.strict (s.row r).cls
        let s := s.updModel h (fun _ => m2)
        let s := if strict && !s.strictGated then s else s.notePop f
        some (s.dispatch pi r)
    else none

/-! #### Adaptation passes (R249 to R251) -/

/-- Write the labels of a row into its plot's label slot (R250). -/
def State.writeLabels (s : State) (pi : Nat) (j : Job) (samples : List (Option Nat)) : State :=
  let bytes := samples.flatMap (fun o => match o with
    | some i => fit (((j.labels.find? (fun l => l.1 == i)).map (·.2)).getD []) j.labelBytes
    | none => zeros j.labelBytes)
  (List.range ((bytes.length + 15) / 16)).foldl (fun s i =>
    s.updFab (fun b => { b with regions := b.regions.set (regionKey pi j.labelSlot i) (BitVec.ofNat 128 (leNat (slice bytes (16 * i) 16))) })) s

/-- An idle replica of a job. -/
def State.idleReplica (s : State) (j : Job) : Option Nat :=
  (j.replicas.find? (fun r => s.plotFree r.2 && s.gateOpen (s.plot r.2).field)).map (·.2)

/-- Pop an adaptation row of a training image for an idle replica. -/
def State.popJob (s : State) (h : Nat) : Option State :=
  (List.range 4).findSome? (fun n =>
    let j := s.adp.jobs.get n
    if j.st = 2 ∧ j.handle = h then
      match (List.range j.rows.length).find? (fun k => ((j.rows[k]?).bind (·.row)).any (fun r => decide ((s.row r).st = .closed))),
        s.idleReplica j with
      | some k, some pi =>
        match (j.rows[k]?).bind (·.row) with
        | none => none
        | some r =>
          let s := s.writeLabels pi j (((j.rows[k]?).map (·.samples)).getD [])
          let s := (s.updRow r (fun x => { x with st := .taken })).notePop (s.plot pi).field
          some ((s.bump Reg.BAY_ROWS).beginPass pi (some r) (s.row r).epoch (((j.step + 1) * 64 + k) % 2 ^ 32) [])
      | _, _ => none
    else none)

/-- ROW_POP (R235): at a pass boundary or on an idle plot, the model's next row is popped and dispatched. -/
def execRowPop (handle : Nat) (s : State) : Out :=
  .next (s.whenRuns none (fun s =>
    if s.flag Reg.BAY_CTRL_enable && s.flag Reg.FAB_CTRL_enable then
      match s.popServing handle with
      | some t => t
      | none => (s.popJob handle).getD s
    else s))

/-! #### Page-ins (R220, R230 to R234) -/

/-- Program coordinates a handle's slice may name (R308). -/
def State.sliceBox (s : State) (h : Nat) : List Nat := ((s.sliceOf h).map (fun p => (s.prog p).box)).getD []

/-- Whether a page state counts among the page-ins that run. -/
def PageSt.runs : PageSt → Bool
  | .none => false
  | .queued => false
  | _ => true

/-- Page-ins that run. -/
def State.pagesRunning (s : State) : Nat :=
  (s.handles.filter (fun h => (decide ((s.model h).st = .paging) && (s.model h).page.runs)
    || (((s.model h).replacing).map (fun r => r.page.runs)).getD false)).length

/-- Whether a model has a queued row of a strict class. -/
def State.strictQueued (s : State) (h : Nat) : Bool :=
  (List.range 8).any (fun c => s.strict c && !((s.model h).q.get c).isEmpty)

/-- Whether the lines and the image space that a model's page-in needs are still short, with nothing that Bay may demote. -/
def State.spaceShort (s : State) (h : Nat) : Bool :=
  let m := s.model h
  let short := match m.replacing with
    | some r => decide (s.cfgTotal < s.cfgUsed + imageLines r.image)
    | none => (decide (m.prev ≠ .staged) && decide (s.cfgTotal < s.cfgUsed + m.lines))
        || (decide (m.prev = .host) && decide (s.hbmTotal < s.hbmUsed + pagesOf m.len))
  short && (s.demotable h true).isNone

/-- Whether a queued page-in waits for a placement that was not found, or for lines or image space. -/
def State.pageBlocked (s : State) (h : Nat) : Bool :=
  match (s.model h).replacing with
  | some r => r.placeSince.isSome || (r.spaceWait && s.spaceShort h)
  | none => (s.model h).placeSince.isSome || ((s.model h).spaceWait && s.spaceShort h)

/-- The page-in that starts next (R232): those for models with a strict row first, then by first miss. -/
def State.nextPage (s : State) : Option Nat :=
  let l := s.bay.queue.filter (fun h => !s.pageBlocked h && (decide ((s.model h).page = .queued)
    || (((s.model h).replacing).map (fun r => decide (r.page = .queued))).getD false))
  match l.find? s.strictQueued with
  | some h => some h
  | none => l.head?

/-- A page-in or replacement found no lines or image space: Bay takes a victim where there is one, and the page-in waits (R233); that is no wait for a placement, and BAY_PLACE_WAIT_NS does not count it (R232). -/
def State.pageWaits (s : State) (h : Nat) : State :=
  let (_, s) := s.takeVictim h [0, 1, 2, 3] Reg.BAY_EVICT
  match (s.model h).replacing with
  | some r => s.updModel h (fun m => { m with replacing := some { r with spaceWait := true } })
  | none => s.updModel h (fun m => { m with spaceWait := true })

/-- Start a model's page-in: image space and lines, then a place (R230). -/
def State.beginPage (s : State) (h : Nat) : State :=
  let m := s.model h
  let n := s.handles.length
  let (a, s) := if m.prev = .host then s.freePages h (pagesOf m.len) (2 * n) else (true, s)
  let (b, s) := if m.prev = .staged then (true, s) else s.freeLines h m.lines n
  if a && b then s.attemptPlace h else s.pageWaits h

/-- Start the page-in of a second plot (R236, R238). A move that finds no place gives way to eviction, unless the model is locked. -/
def State.beginShadow (s : State) (h : Nat) (r : NewImage) : State :=
  let (ok, s) := if r.move then (true, s) else s.freeLines h (imageLines r.image) s.handles.length
  if ok = false then s.pageWaits h
  else
    let s := s.attemptShadow h
    match (s.model h).replacing with
    | some x =>
      if x.move && x.placeSince.isSome && !s.locked h then
        ((s.updModel h (fun m => { m with replacing := none })).updBay (fun b => { b with queue := b.queue.filter (· != h) })).evictTo h 3
      else s
    | none => s

/-- Place a job's training image on the next field it was granted (R243); an image held only by the host is copied first, and a field that is OFF is woken first (R332). -/
def State.beginReplica (s : State) (h : Nat) : State :=
  let want := (List.range 4).findSome? (fun n =>
    let j := s.adp.jobs.get n
    if j.st = 2 ∧ j.handle = h then
      (j.grants.find? (fun g => (s.field g.1).adaptation && !(j.replicas.any (fun r => decide (r.1 = g.1))))).map (fun g => (n, g.1))
    else none)
  match want with
  | none => s
  | some (n, f) =>
    let m := s.model h
    if m.image.isEmpty then
      if m.st = .host ∧ m.page = .none then
        let (ok, s) := s.freePages h (pagesOf m.len) (2 * s.handles.length)
        if ok then (s.updModel h (fun m => { m with page := .copying })).readImage h else s
      else s
    else match s.findRect f (hdrH m.hdr) (hdrW m.hdr) with
      | none => s
      | some (x, y) =>
        let (on, s) := s.powerFor f
        if on then
          let (id, s) := s.leasePlot h f x y m.image m.hdr m.gen
          let s := s.updPlot id (fun p => { p with job := some n })
          { s with adp := { s.adp with jobs := s.adp.jobs.upd n (fun j => { j with replicas := j.replicas ++ [(f, id)] }) } }
        else s

/-- PAGE_IN_START (R230, R232): a queued page-in starts once a place among the running ones is free. -/
def execPageInStart (handle : Nat) (s : State) : Out :=
  .next (s.whenRuns none (fun s =>
    if s.flag Reg.BAY_CTRL_enable = false then s
    else if s.nextPage = some handle ∧ s.pagesRunning < s.fld Reg.BAY_PAGE_MAX_n then
      match (s.model handle).replacing with
      | some r => s.beginShadow handle r
      | none => s.beginPage handle
    else s.beginReplica handle))

/-- A model becomes FAULTED (R230): it keeps no lease, a pin among them (R224), and its queued rows are discarded. -/
def State.faultModel (s : State) (h code : Nat) : State :=
  let s := match (s.model h).plot with
    | some p => s.clearPlot p
    | none => s
  let s := s.abortQueue h
  let s := (s.revokeBoth h).updModel h (fun m => { m with plot := none, fault := code, image := [], pinned := false, pinUntil := none })
  ((s.pageEnds h .faulted code).retryPlaces).jobFaults h

/-- A page-in whose copy failed (R230): the model returns to HOST without a lease, and its queued rows are discarded. -/
def State.copyFails (s : State) (h : Nat) : State :=
  let s := match (s.model h).plot with
    | some p => s.clearPlot p
    | none => s
  (((((s.abortQueue h).bumpFld Reg.BAY_PAGE_FAIL_count).revokeBoth h).updModel h (fun m => { m with plot := none })).pageEnds h .host 11).retryPlaces

/-- IMAGE_COPY_DONE (R220, R230): the host copy of an image completes; a copy that fails returns the model to HOST and aborts its rows. -/
def execImageCopyDone (handle : Nat) (image : HostData) (s : State) : Out :=
  .next (s.whenRuns none (fun s =>
    let m := s.model handle
    if m.st = .paging ∧ m.page = .copying then
      let inWin := (s.domRights m.domain).inWindow m.addr m.len false
      match image with
      | some b =>
        if inWin && decide (m.len ≤ b.length) then s.updModel handle (fun m => { m with copied := b.take m.len, page := .copied })
        else s.copyFails handle
      | none => s.copyFails handle
    else if m.st = .host ∧ m.page = .copying then
      let good := (s.domRights m.domain).inWindow m.addr m.len false && decide (m.len ≤ (image.getD []).length) && image.isSome
      if good then s.updModel handle (fun m => { m with copied := (image.getD []).take m.len, page := .copied })
      else (s.bumpFld Reg.BAY_PAGE_FAIL_count).updModel handle (fun m => { m with page := .none })
    else s))

/-- DIGEST_VERDICT (R220, R230). -/
def execDigestVerdict (handle : Nat) (s : State) : Out :=
  .next (s.whenRuns none (fun s =>
    let m := s.model handle
    if m.st = .paging ∧ m.page = .copied then
      if sha384 m.copied = m.digest then
        let s := match m.plot with
          | some p => s.updPlot p (fun q => { q with image := m.copied })
          | none => s
        s.updModel handle (fun m => { m with image := m.copied, copied := [], page := .loading })
      else (s.bump Reg.BAY_DIGEST_FAIL).faultModel handle 5
    else if m.st = .host ∧ m.page = .copied then
      if sha384 m.copied = m.digest then
        s.updModel handle (fun m => { m with image := m.copied, copied := [], page := .none, st := .hbm })
      else (s.bump Reg.BAY_DIGEST_FAIL).faultModel handle 5
    else s))

/-- Report a load refusal (R176). -/
def State.loadRefused (s : State) (h : Nat) (e : Nat × Nat) : State :=
  (s.setReg Reg.FAB_LOAD_STAT (BitVec.ofNat 64 (e.1 ||| e.2 <<< 4 ||| h <<< 16))).bump Reg.FAB_LOAD_REFUSED

/-- The loads of a plot: weights, regions, calibration banks; then its ADD (R230). -/
def State.finishLoads (s : State) (p h : Nat) (img : List Byte) : State :=
  (((s.loadWeights p img).leaseRegions p img).writeBanks p h img).issue (s.plot p).field (.add p)

/-- The replica of a job that waits for its loads. -/
def State.loadingReplica (s : State) (h : Nat) : Option Nat :=
  s.plotIds.find? (fun p => (s.plot p).job.isSome && decide ((s.plot p).handle = h) && !(s.plot p).ready && (s.plot p).leased.isEmpty)

/-- Whether a plot's reads of the image in HBM are fenced (R225). -/
def State.imageFenced (s : State) (p : Nat) : Bool :=
  let q := s.plot p
  decide (s.bay.guards.get (imageGuard q.handle q.gen) ≠ q.imgLease) || s.linesFenced q

/-- A page-in under a lease that is no longer current is abandoned, and the model is in line again (R225). -/
def State.pageFenced (s : State) (h p : Nat) : State :=
  ((s.clearPlot p).updModel h (fun m => { m with plot := none, page := .queued })).updBay (fun b => { b with queue := b.queue ++ [h] })

/-- The load of a training replica is refused (R176, R230, R242): a model that holds no serving plot becomes FAULTED; in either case its jobs end with cause FAULTED. -/
def State.replicaRefused (s : State) (h p : Nat) (e : Nat × Nat) : State :=
  let s := (((s.loadRefused h e).bumpFld Reg.BAY_LOAD_FAIL_count).clearPlot p)
  if (s.model h).plot.isSome then s.jobFaults h else s.faultModel h 10

/-- PAGE_IN_LOADS_DONE (R230): records, weights and calibration banks are written and the ADD is issued; a LOAD refusal faults the model, or ends the replacement or the job. -/
def execPageInLoadsDone (handle : Nat) (s : State) : Out :=
  .next (s.whenRuns none (fun s =>
    let m := s.model handle
    match m.st, m.page, m.plot with
    | .paging, .loading, some p =>
      if s.imageFenced p then s.pageFenced handle p
      else match (if m.prev = .staged then none else loadCheck m.image (s.sliceBox handle)) with
      | some e => (((s.loadRefused handle e).bumpFld Reg.BAY_LOAD_FAIL_count)).faultModel handle 10
      | none => (s.finishLoads p handle m.image).updModel handle (fun m => { m with page := .adding })
    | _, _, _ =>
      match m.replacing with
      | some r =>
        match r.page, r.plot with
        | .loading, some p =>
          match (if r.move then none else loadCheck r.image (s.sliceBox handle)) with
          | some e => ((s.loadRefused handle e).clearPlot p).updModel handle (fun m => { m with replacing := none, lastErr := 10 })
          | none => (s.finishLoads p handle r.image).updModel handle (fun m => { m with replacing := some { r with page := .adding } })
        | _, _ => s
      | none =>
        match s.loadingReplica handle with
        | some p =>
          match loadCheck (s.plot p).image (s.sliceBox handle) with
          | some e => s.replicaRefused handle p e
          | none => (s.finishLoads p handle (s.plot p).image).writeServing p (s.job ((s.plot p).job.getD 0))
        | none => s))

/-! #### Commands (R219, R226 to R228, R231, R233, R236, R237, R240, R282) -/

/-- The command block as the registers hold it. -/
def State.bayRegs (s : State) : List Byte := (List.range 16).flatMap (fun i => toLe 4 (s.reg (Reg.BAY_CMD_DATA i)).toNat)

/-- Fields of a command block. -/
def cmdHandle (b : List Byte) : Nat := le b 2 2
/-- domain. -/
def cmdDomain (b : List Byte) : Nat := byteAt b 4
/-- addr. -/
def cmdAddr (b : List Byte) : Nat := le b 8 8
/-- len. -/
def cmdLen (b : List Byte) : Nat := le b 16 4
/-- digest_addr. -/
def cmdDigest (b : List Byte) : Nat := le b 24 8

/-- Commands that run or wait. -/
def State.bayLoad (s : State) : Nat := b2n s.bay.busy.isSome + b2n s.bay.latched.isSome + s.bay.cmds.length

/-- Whether a command is a PREFETCH of a model that is PAGING (R231): it joins, whatever runs or waits. -/
def State.bayJoins (s : State) (op : Nat) (b : List Byte) : Bool := decide (op = 3) && decide ((s.model (cmdHandle b)).st = .paging)

/-- A PREFETCH joins a page-in (R231). -/
def State.bayJoin (s : State) (h : Nat) (src : CmdSrc) : State := (s.updModel h (fun m => { m with joined := m.joined ++ [src] })).startPage h

/-- A write of 1 to BAY_CMD.go (R240): the block is taken, or refused with BUSY. A reserved op does nothing, and what status it leaves is open. -/
def State.bayGo (s : State) : State :=
  if s.flag Reg.BAY_CTRL_enable = false ∨ s.flag Reg.BAY_CMD_STAT_done = false then s.setFld Reg.BAY_CMD_STAT_status 1
  else if s.bayJoins (byteAt s.bayRegs 0) s.bayRegs = true then (s.setFld Reg.BAY_CMD_STAT_done 0).bayJoin (cmdHandle s.bayRegs) .reg
  else if 0 < s.bayLoad then s.setFld Reg.BAY_CMD_STAT_status 1
  else
    let op := byteAt s.bayRegs 0
    if op = 0 ∨ 11 < op then
      let (v, s) := s.free
      s.setFld Reg.BAY_CMD_STAT_status v.toNat
    else (s.setFld Reg.BAY_CMD_STAT_done 0).updBay (fun b => { b with latched := some s.bayRegs })

/-- Run a command: one that a write of BAY_CMD gave (the write is part of the command unless it came before), or the descriptor that is next, once its function may use the bus (R264). -/
def State.bayRun (s : State) (src : CmdSrc) (op : Nat) (k : List Byte → Rights → State → State) : State :=
  match src with
  | .reg =>
    if s.bay.latched.isNone && decide (byteAt s.bayRegs 0 ≠ op) then s
    else
      let s1 := if s.bay.latched.isSome then s else s.coreWrite none State.bayGo
      match s1.bay.latched with
      | none => s1
      | some b =>
        if byteAt b 0 = op ∧ s1.bay.busy.isNone = true ∧ s1.runs none = true then
          k b (s1.domRights (byteAt b 4)) (s1.updBay (fun x => { x with latched := none, busy := some .reg }))
        else if byteAt b 0 = op ∧ s1.runs none = false then s1
        else s
  | .desc d =>
    if s.runs none = true ∧ s.bay.cmds.head? = some d ∧ s.bay.busy.isNone = true ∧ s.bay.latched.isNone = true ∧ (s.desc d).op = op + 0x10 ∧ s.dmaOk d = true then
      let s := s.updBay (fun x => { x with cmds := x.cmds.drop 1, busy := some (.desc d) })
      if s.descLive d = false then s.updBay (fun x => { x with busy := none })
      else if s.flag Reg.BAY_CTRL_enable = false then s.bayDone (.desc d) 1
      else k (s.desc d).bytes (s.rightsOf (s.desc d)) s
    else s

/-- A command that must wait goes back to where it came from. -/
def State.bayWait (s : State) (src : CmdSrc) (b : List Byte) : State :=
  s.updBay (fun x => match src with
    | .reg => { x with busy := none, latched := some b }
    | .desc d => { x with busy := none, cmds := d :: x.cmds })

/-- HBM pages that models Bay may not demote hold. -/
def State.lockedPages (s : State) : Nat :=
  s.handles.foldl (fun n h => if s.locked h && (s.model h).holdsImage then n + pagesOf (s.model h).len else n) 0

/-- Whether a plot could be placed now, evicting unpinned models if needed (R219 check 9). -/
def State.placeable9 (s : State) (hdr : List Byte) : Bool :=
  (s.imageFields hdr).any (fun f =>
    let blocked := s.blockedTiles f
    let ok (t : Nat) : Bool := !blocked.contains t && (match (s.tile t).plot with
      | none => true
      | some p => !s.locked (s.plot p).handle && (s.plot p).job.isNone)
    (List.range (33 - hdrH hdr)).any (fun y => (List.range (33 - hdrW hdr)).any (fun x =>
      (List.range (hdrH hdr)).all (fun j => (List.range (hdrW hdr)).all (fun i => ok (fieldTile f (x + i) (y + j)))))))

/-- The checks of R219 from the third on: 0, or the status of the first that fails. -/
def State.imageChecks (s : State) (b : List Byte) (r : Rights) (image digest : HostData) : Nat :=
  let len := cmdLen b
  if len < 4096 ∨ 16777216 < len ∨ len % 16 ≠ 0 ∨ r.inWindow (cmdAddr b) len false = false then 4
  else if s.hbmTotal < s.jobPages + s.lockedPages + pagesOf len then 6
  else match image, digest with
    | some i, some d =>
      let img := i.take len
      if i.length < len ∨ d.length < 48 ∨ r.inWindow (cmdDigest b) 48 false = false then 11
      else if sha384 img ≠ d.take 48 then 5
      else if le img 4 4 ≠ len ∨ imageOk img = false then 4
      else if s.slotSize < hdrStateBytes (img.take 64) then 6
      else if tier0Ok img = false then 4
      else if hdrTier0 (img.take 64) && !s.placeable9 (img.take 64) then 7
      else 0
    | _, _ => 11

/-- The host reads of a registration (R219, R282): the image once its length and its window are right and it can fit, then its digest; none outside the domain's windows. -/
def State.imageReads (s : State) (b : List Byte) (r : Rights) : List (Nat × Nat) :=
  let len := cmdLen b
  if len < 4096 ∨ 16777216 < len ∨ len % 16 ≠ 0 ∨ r.inWindow (cmdAddr b) len false = false then []
  else if s.hbmTotal < s.jobPages + s.lockedPages + pagesOf len then []
  else (cmdAddr b, len) :: (if r.inWindow (cmdDigest b) 48 false then [(cmdDigest b, 48)] else [])

/-- REGISTER (R219, R220): the image is read, checked and held in HBM; a Tier-0 image is paged in and pinned, and the command completes when it is RESIDENT. While image space is short the command waits for a victim. -/
def execBayRegister (src : CmdSrc) (image digest : HostData) (s : State) : Out :=
  .next (s.bayRun src 1 (fun b r s =>
    let h := cmdHandle b
    if h = 0 then s.bayDone src 2
    else if (s.model h).st ≠ .free then s.bayDone src 3
    else
      let s := s.hostReads (s.srcFunc src) (s.imageReads b r)
      match s.imageChecks b r image digest with
      | 0 =>
        let img := (image.getD []).take (cmdLen b)
        let (ok, s) := s.freePages h (pagesOf img.length) (2 * s.handles.length)
        if ok = false then ((s.takeVictim h [0, 1, 2, 3] Reg.BAY_EVICT).2).bayWait src b
        else
          let hdr := img.take 64
          let m : Model := {
            st := .hbm, domain := cmdDomain b, hdr := hdr, image := img, digest := (digest.getD []).take 48, addr := cmdAddr b
            func := s.srcFunc src, len := img.length, lines := imageLines img, decl := imageDecl img, tier0 := hdrTier0 hdr }
          let s := s.updModel h (fun _ => m)
          if hdrTier0 hdr then
            let term := s.fld Reg.BAY_PIN_TERM_ns
            (s.updModel h (fun m => { m with
              pinned := true, pinDomain := cmdDomain b, pinUntil := if term = 0 then none else some (s.now + term), joined := [src] })).startPage h
          else s.bayDone src 0
      | c => s.bayDone src c))

/-- UNREGISTER (R221). -/
def execBayUnregister (src : CmdSrc) (s : State) : Out :=
  .next (s.bayRun src 2 (fun b _ s =>
    let h := cmdHandle b
    let m := s.model h
    if m.st = .free then s.bayDone src 2
    else if m.tier0 ∨ m.pinned then s.bayDone src 8
    else if m.st = .paging ∨ m.st = .evicting ∨ m.replacing.isSome then s.bayDone src 1
    else if m.st = .resident then
      (s.updModel h (fun m => { m with dropping := true, leavers := m.leavers ++ [src] })).evictTo h 1
    else ((((s.revokeBoth h).abortQueue h).updModel h (fun _ => {})).bayDone src 0)))

/-- PREFETCH (R231): it keeps Bay until the page-in it starts ends; one that joins leaves Bay to the next command and completes with that page-in; of a FAULTED model, with its failure. -/
def execBayPrefetch (src : CmdSrc) (s : State) : Out :=
  .next (s.bayRun src 3 (fun b _ s =>
    let h := cmdHandle b
    let m := s.model h
    if m.st = .free then s.bayDone src 2
    else if m.st = .resident then s.bayDone src 0
    else if m.st = .faulted then s.bayDone src m.fault
    else
      let s := s.updModel h (fun m => { m with joined := m.joined ++ [src] })
      if m.st = .evicting then s
      else if m.st = .paging then (s.startPage h).updBay (fun b => { b with busy := none })
      else s.startPage h))

/-- EVICT (R233, R307): it completes when the model's plot is gone. A level outside 1 to 3 is taken as 3. -/
def execBayEvict (src : CmdSrc) (s : State) : Out :=
  .next (s.bayRun src 4 (fun b _ s =>
    let h := cmdHandle b
    let m := s.model h
    let l := byteAt b 1
    let level := if l = 1 ∨ l = 2 then l else 3
    if m.st = .free then s.bayDone src 2
    else if s.locked h then s.bayDone src 8
    else if m.st = .paging ∨ m.st = .evicting ∨ m.replacing.isSome then s.bayDone src 1
    else if m.st = .resident then
      (s.updModel h (fun m => { m with leavers := m.leavers ++ [src] })).evictTo h level
    else
      let s := if m.st = .staged ∧ level ≤ 2 then s.demote h else s
      let s := if (s.model h).st = .hbm ∧ level = 1 then s.demote h else s
      s.bayDone src 0))

/-- A pin of a model by a domain from now (R227). -/
def State.pinModel (s : State) (h domain : Nat) : State :=
  let term := s.fld Reg.BAY_PIN_TERM_ns
  s.updModel h (fun m => { m with pinned := true, pinDomain := domain, pinUntil := if term = 0 then none else some (s.now + term) })

/-- PIN (R227). -/
def execBayPin (src : CmdSrc) (s : State) : Out :=
  .next (s.bayRun src 5 (fun b _ s =>
    if (s.model (cmdHandle b)).st = .free then s.bayDone src 2 else (s.pinModel (cmdHandle b) (cmdDomain b)).bayDone src 0))

/-- UNPIN (R227, R307). -/
def execBayUnpin (src : CmdSrc) (s : State) : Out :=
  .next (s.bayRun src 6 (fun b _ s =>
    let h := cmdHandle b
    if (s.model h).st = .free then s.bayDone src 2
    else if (s.progOf h).isSome then s.bayDone src 8
    else (s.updModel h (fun m => { m with pinned := false, pinUntil := none })).bayDone src 0))

/-- RENEW (R227): a live pin is extended; of a model that is not pinned nothing is renewed. -/
def execBayRenew (src : CmdSrc) (s : State) : Out :=
  .next (s.bayRun src 7 (fun b _ s =>
    let h := cmdHandle b
    let m := s.model h
    if m.st = .free then s.bayDone src 2
    else if m.pinned then (s.pinModel h m.pinDomain).bayDone src 0
    else s.bayDone src 0))

/-- REPLACE (R236, R307): the new image is read and checked; it is installed at once or waits for the replacement that runs. -/
def execBayReplace (src : CmdSrc) (image digest : HostData) (s : State) : Out :=
  .next (s.bayRun src 8 (fun b r s =>
    let h := cmdHandle b
    let m := s.model h
    if h = 0 ∨ m.st = .free then s.bayDone src 2
    else if (s.progOf h).isSome then s.bayDone src 8
    else if m.replacing.isSome ∧ m.nextImage.isSome then s.bayDone src 1
    else
      let s := s.hostReads (s.srcFunc src) (s.imageReads b r)
      match s.imageChecks b r image digest with
      | 0 =>
        let img := (image.getD []).take (cmdLen b)
        let (ok, s) := s.freePages h (pagesOf img.length) (2 * s.handles.length)
        if ok = false then ((s.takeVictim h [0, 1, 2, 3] Reg.BAY_EVICT).2).bayWait src b
        else match (if m.st = .resident ∨ m.st = .staged then loadCheck img (s.sliceBox h) else none) with
          | some e => ((s.loadRefused h e).updModel h (fun m => { m with lastErr := 10 })).bayDone src 10
          | none =>
            let n : NewImage := { image := img, digest := (digest.getD []).take 48, addr := cmdAddr b, func := s.srcFunc src, domain := cmdDomain b }
            if m.replacing.isSome then (s.updModel h (fun m => { m with nextImage := some n })).bayDone src 0
            else
              let (ok, s) := s.replaceLines h n
              if ok then (s.installImage h n).bayDone src 0
              else ((s.takeVictim h [0, 1, 2, 3] Reg.BAY_EVICT).2).bayWait src b
      | c => (s.updModel h (fun m => { m with lastErr := c })).bayDone src c))

/-- CAL_STAGE (R237). -/
def execBayCalStage (src : CmdSrc) (block : HostData) (s : State) : Out :=
  .next (s.bayRun src 9 (fun b r s =>
    let h := cmdHandle b
    if (s.model h).st = .free then s.bayDone src 2
    else if s.num.installing ∨ s.num.pending then s.bayDone src 9
    else if r.inWindow (cmdAddr b) (cmdLen b) false = false then s.bayDone src 11
    else
      let s := s.hostReads (s.srcFunc src) [(cmdAddr b, cmdLen b)]
      match block with
      | none => s.bayDone src 11
      | some d =>
        let c := d.take (cmdLen b)
        if calBlockOk c h then (s.updModel h (fun m => { m with stagedCal := c })).bayDone src 0 else s.bayDone src 4))

/-- Change every slot of a run. -/
def State.updSlots (s : State) (first count : Nat) (f : Slot → Slot) : State :=
  s.updBay (fun b => { b with slots := (List.range count).foldl (fun t i => t.upd (first + i) f) b.slots })

/-- The run of slots a command names; none where it passes the last slot. -/
def slotRange (b : List Byte) : Option (Nat × Nat) :=
  let first := cmdAddr b % 2 ^ 20
  let n := cmdLen b
  if 1 ≤ n ∧ first + n ≤ 1048576 then some (first, n) else none

/-- SLOT_GRANT (R225, R228): the slots go to a domain under a new lease epoch. -/
def execBaySlotGrant (src : CmdSrc) (s : State) : Out :=
  .next (s.bayRun src 10 (fun b _ s => match slotRange b with
    | none => s.bayDone src 2
    | some (f, n) => (s.updSlots f n (fun x => { x with domain := cmdDomain b, epoch := x.epoch + 1 })).bayDone src 0))

/-- SLOT_RESET (R226): the lease epochs rise and the tags become handle 0. -/
def execBaySlotReset (src : CmdSrc) (s : State) : Out :=
  .next (s.bayRun src 11 (fun b _ s => match slotRange b with
    | none => s.bayDone src 2
    | some (f, n) => (s.updSlots f n (fun x => { x with epoch := x.epoch + 1, tag := 0, tagGen := 0 })).bayDone src 0))

/-! #### Stalls, pins, the catalogue (R226, R227, R241) -/

/-- PLOT_STALL (R226): a row dispatched to a plot has reported no section boundary within BAY_PLOT_STALL ns. -/
def execPlotStall (plot : Nat) (s : State) : Out :=
  .next (s.whenRuns none (fun s =>
    let p := s.plot plot
    if p.used && p.pass && s.exceeded p.since (s.fld Reg.BAY_PLOT_STALL_ns) && !s.bay.revokes.contains (.plot plot) then
      (s.bump Reg.BAY_STALL_REVOKE).revokePlot plot
    else s))

/-- PIN_EXPIRY (R227): a pin that no RENEW reached in time, the instant of expiry included, ends. -/
def execPinExpiry (handle : Nat) (s : State) : Out :=
  .next (s.whenRuns none (fun s =>
    let m := s.model handle
    match m.pinUntil with
    | some t =>
      if m.pinned = true ∧ t < s.now then
        (s.updModel handle (fun m => { m with pinned := false, pinUntil := none })).bump Reg.BAY_PIN_EXPIRED
      else s
    | none => s))

/-- Code of a catalogue state (R221). -/
def CatSt.code : CatSt → Nat
  | .free => 0 | .host => 1 | .hbm => 2 | .staged => 3 | .paging => 4 | .resident => 5 | .evicting => 6 | .faulted => 7

/-- BAY_CAT_CMD.read (R241): the entry is latched at one instant. Fields of a plot or a pin that the model does not have are open. -/
def State.catRead (s : State) : State :=
  let m := s.model (s.fld Reg.BAY_CAT_SEL_handle)
  let put (s : State) (i n : Nat) : State := s.setFld (Reg.BAY_CAT_DATA_word i) n
  let (a, s) := s.free
  let (b, s) := s.free
  let p := s.plot (m.plot.getD 0)
  let (field, place, epoch) := if m.plot.isSome then (p.field, (p.x0 ||| p.y0 <<< 6 ||| p.h <<< 12 ||| p.w <<< 18), p.lease.toNat)
    else (bits a.toNat 1 0, bits a.toNat 25 2, bits a.toNat 41 26)
  let left := if m.pinned then (match m.pinUntil with
    | some t => t - s.now
    | none => 0xFFFFFFFF) else bits b.toNat 31 0
  let s := put s 0 (m.st.code ||| b2n m.pinned <<< 3 ||| b2n m.tier0 <<< 4 ||| field <<< 5 ||| m.domain <<< 8 ||| m.gen <<< 16)
  let s := put s 1 place
  let s := put s 2 (epoch ||| m.lastErr <<< 16)
  let s := put s 3 left
  let s := put s 4 (bits m.lastUse.toNat 31 0)
  let s := put s 5 (bits m.lastUse.toNat 63 32)
  let s := put s 6 m.misses.toNat
  put s 7 m.pageIns.toNat

/-- BAY_CAT_READ (R241). -/
def execBayCatRead (s : State) : Out := .next (s.coreWrite none (fun s => s.catRead))

end Sys2Proof.Machine
end

