-- ==== Sys2Proof/Machine/Adapt.lean ====
section
/-! DEFINITION. Revocation of leases in force (R226, R244), and the adaptation unit: its commands, samples, batches, reduction, optimiser and checkpoints (R242 to R261). -/

namespace Sys2Proof.Machine

/-! #### Revocation (R226, R244) -/

/-- A plot's fence comes into force: its tiles are free, changes that name it apply to nothing, and an adaptation batch on it runs again. A spanning program's slice is paged in again. -/
def State.fencePlot (s : State) (p : Nat) : State :=
  let q := s.plot p
  if q.used = false then s
  else
    match q.job with
    | none =>
      let s := (s.freePlot p).dropChanges q.field p
      let st := (s.model q.handle).st
      if q.prog.isSome ∧ (st = .staged ∨ st = .hbm ∨ st = .host) then s.startPage q.handle else s
    | some n =>
      let s := s.updJob n (fun j => { j with replicas := j.replicas.filter (fun r => r.2 != p) })
      ((s.freePlot p).dropChanges q.field p).rerunBatch n

/-- The job that holds a field. -/
def State.grantee (s : State) (f : Nat) : Option Nat := (List.range 4).find? (fun n => (s.job n).grants.any (fun g => g.1 == f))

/-- A field grant's fence comes into force: the field goes back, and the batch is abandoned; a job that keeps no field stops. -/
def State.fenceGrant (s : State) (f cause : Nat) : State :=
  match s.grantee f with
  | none => s
  | some n =>
    let s := (s.releaseField n f).bump Reg.ADP_REVOKE
    if (s.job n).grants.isEmpty then
      let stopped := decide ((s.job n).st = 3)
      s.endRun n (if stopped then 2 else cause)
    else s.rerunBatch n

/-- REVOCATION_FENCE (R226): the revocation decided first comes into force. -/
def execRevocationFence (s : State) : Out :=
  .next (s.whenRuns none (fun s => match s.bay.revokes with
    | [] => s
    | r :: rest =>
      let s := s.updBay (fun b => { b with revokes := rest })
      match r with
      | .plot p => s.fencePlot p
      | .grant f cause => s.fenceGrant f cause))

/-- Serving fields (R30). -/
def State.servingFields (s : State) : List Nat := (List.range 4).filter s.placeable

/-- Whether a field's grant is being revoked. -/
def State.grantGoing (s : State) (f : Nat) : Bool :=
  s.bay.revokes.any (fun r => match r with
    | .grant g _ => g == f
    | .plot _ => false)

/-- Fields on their way back to serving: their grant is being revoked, or is revoked and the role still to change. -/
def State.returning (s : State) : List Nat :=
  (List.range 4).filter (fun f => !s.placeable f && ((s.grantee f).isNone || s.grantGoing f))

/-- A write of BAY_SERVE_RESERVE (R244): a value above 4 is refused. Where the write raises the reserve above the serving fields, grants are revoked in descending field number until the fields that serve or are on their way back meet it. -/
def State.reserveWrite (s : State) (n : Nat) : State :=
  if 4 < n % 8 then s
  else
    let old := s.fld Reg.BAY_SERVE_RESERVE_fields
    let s := s.setFld Reg.BAY_SERVE_RESERVE_fields n
    let new := s.fld Reg.BAY_SERVE_RESERVE_fields
    let need := if old < new then new - (s.servingFields.length + s.returning.length) else 0
    (([3, 2, 1, 0].filter (fun f => (s.grantee f).isSome && !s.grantGoing f)).take need).foldl (fun s f => s.revokeGrant f 3) s

/-- SERVE_RESERVE_WRITE (R244). -/
def execServeReserveWrite (value : Word) (s : State) : Out := .next (s.coreWrite none (fun s => s.reserveWrite value.toNat))

/-- GRANT_EXPIRY (R244): a grant that no RENEW reached in time, the instant of expiry included, is revoked. -/
def execGrantExpiry (field : Fin 4) (s : State) : Out :=
  .next (match s.grantee field.val with
    | none => s
    | some n =>
      match (s.job n).grants.find? (fun g => g.1 == field.val) with
      | some (_, some t) => if t < s.now then s.revokeGrant field.val 4 else s
      | _ => s)

/-! #### Commands (R260, R261) -/

/-- The command block as the registers hold it. -/
def State.adpRegs (s : State) : List Byte := (List.range 16).flatMap (fun i => toLe 4 (s.reg (Reg.ADP_CMD_DATA i)).toNat)

/-- A write of 1 to ADP_CMD.go: the block is taken, or refused with BUSY. A reserved op does nothing, and what status it leaves is open. -/
def State.adpGo (s : State) : State :=
  if s.flag Reg.ADP_CMD_STAT_done = false ∨ s.adp.latched.isSome ∨ s.adp.cmds ≠ [] then s.setFld Reg.ADP_CMD_STAT_status 1
  else
    let op := byteAt s.adpRegs 0
    if op = 0 ∨ 5 < op then
      let (v, s) := s.free
      s.setFld Reg.ADP_CMD_STAT_status v.toNat
    else (s.setFld Reg.ADP_CMD_STAT_done 0).updAdp (fun a => { a with latched := some s.adpRegs })

/-- An adaptation command completes with a status; the record of a descriptor tells the job's state. -/
def State.adpDone (s : State) (src : CmdSrc) (job status : Nat) : State :=
  match src with
  | .reg => s.finishCmd Reg.ADP_CMD_STAT_done Reg.ADP_CMD_STAT_status status
  | .desc d => s.completeDesc d (if status = 0 then 0 else status + 0x20) 0 0 (s.job job).st

/-- Run an adaptation command: one that a write of ADP_CMD gave (the write is part of the command unless it came before), or the descriptor that is next, once its function may use the bus (R264). -/
def State.adpCmd (s : State) (src : CmdSrc) (op : Nat) (k : List Byte → Rights → State → State) : State :=
  match src with
  | .reg =>
    if s.adp.latched.isNone && decide (byteAt s.adpRegs 0 ≠ op) then s
    else
      let s1 := if s.adp.latched.isSome then s else s.coreWrite (some 5) State.adpGo
      match s1.adp.latched with
      | none => s1
      | some b =>
        if byteAt b 0 = op then k b (s1.domRights (byteAt b 53)) (s1.updAdp (fun a => { a with latched := none })) else s
  | .desc d =>
    if s.adp.cmds.head? = some d ∧ s.adp.latched.isNone = true ∧ (s.desc d).op = op + 0x20 ∧ s.dmaOk d = true then
      let s := s.updAdp (fun a => { a with cmds := a.cmds.drop 1 })
      if s.descLive d then k (s.desc d).bytes (s.rightsOf (s.desc d)) s else s
    else s

/-- Every parameter within its range (R260). -/
def adpRangesOk (b : List Byte) : Bool :=
  let wd := byteAt b 52
  decide (byteAt b 1 ≤ 3) && decide (le b 40 2 ≤ 4096) && decide (1 ≤ byteAt b 44) && decide (byteAt b 44 ≤ 64)
    && decide (byteAt b 45 ≤ 24) && decide (byteAt b 46 ≤ byteAt b 47) && decide (byteAt b 47 ≤ 60)
    && decide (byteAt b 48 ≤ 64) && decide (byteAt b 49 ≤ 32) && decide (1 ≤ byteAt b 50) && decide (byteAt b 50 ≤ 15)
    && decide (byteAt b 51 ≤ 31) && (decide (wd = 0) || (decide (8 ≤ wd) && decide (wd ≤ 40)))

/-- Every parameter within its range, and clips where the noise flag is set (R261 check 3). -/
def adpParamsOk (b : List Byte) : Bool := adpRangesOk b && !(bit (byteAt b 5) 3 && decide (le b 40 2 = 0))

/-- A sample set that is valid (R245). -/
def setOk (d : List Byte) : Bool :=
  let n := le d 4 4
  decide (le d 0 2 = 0xC7A6) && decide (byteAt d 2 = 1) && decide (1 ≤ n) && decide (n ≤ 2097151)
    && decide (16 ≤ le d 8 2) && decide (le d 8 2 ≤ 1024) && decide (le d 10 2 ≤ 4096)

/-- The samples of a set. -/
def setSamples (d : List Byte) : List AdpSample :=
  (List.range (le d 4 4)).map (fun k =>
    let o := 32 + 32 * k
    { audio := le d o 8, len := le d (o + 8) 4, codec := byteAt d (o + 12), rate := byteAt d (o + 13), label := le d (o + 16) 8 })

/-- G of an adapter map; 0 for a reserved code. -/
def mapG (d : List Byte) : Nat := if byteAt d 3 = 0 then 32 else if byteAt d 3 = 1 then 64 else if byteAt d 3 = 2 then 128 else 0

/-- Bytes of an adapter map. -/
def mapBytes (d : List Byte) : Nat := 16 + le d 4 4 * (16 + 2 * mapG d)

/-- The group entries of a map (R249). -/
def mapGroups (d : List Byte) : List AdpGroup :=
  (List.range (le d 4 4)).map (fun i =>
    let o := 16 + 16 * i
    { px := byteAt d o, py := byteAt d (o + 1), w0 := le d (o + 2) 2, sw0 := le d (o + 4) 2, stride := le d (o + 6) 2
      k := byteAt d (o + 8), initG := byteAt d (o + 9) })

/-- The initial master codes of a map. -/
def mapCodes (d : List Byte) : List Int :=
  (List.range (le d 4 4 * mapG d)).map (fun i => (BitVec.ofNat 16 (le d (16 + 16 * le d 4 4 + 2 * i) 2)).toInt)

/-- A map that is valid for a plot of `h` rows and `w` columns (R249, R261 check 5). -/
def mapOk (d : List Byte) (h w : Nat) : Bool :=
  let g := mapG d
  decide (le d 0 2 = 0xC7A7) && decide (byteAt d 2 = 1) && decide (g ≠ 0) && decide (le d 4 4 * g ≤ 262144)
    && decide (byteAt d 8 < 16) && decide (byteAt d 9 < 16) && decide (byteAt d 10 ≤ 24)
    && (mapGroups d).all (fun e => decide (e.px < w) && decide (e.py < h) && decide (e.w0 + (g / 16 - 1) * e.stride < 2048)
      && decide (e.sw0 + (g / 16 - 1) * e.stride < 2048) && decide (e.k < 32) && decide (e.initG ≤ 40))

/-- GEOMETRY (R261 check 6), of a training image's header and the region lines that each of its sections declares. -/
def geometryOk (hdr : List Byte) (decl : List (List Nat)) (set map : List Byte) : Bool :=
  let per := le map 4 4 * (mapG map + 16)
  decide (hdrMaxSpans hdr * le set 8 2 ≤ hdrRowFrames hdr) && decl.all (fun d =>
    let lines (slot : Nat) : Nat := (d[slot]?).getD 0
    decide (0 < lines (byteAt map 8)) && decide (0 < lines (byteAt map 9))
      && decide (hdrMaxSpans hdr * per ≤ 2048 * lines (byteAt map 8))
      && decide (hdrMaxSpans hdr * le set 10 2 ≤ 2048 * lines (byteAt map 9)))

/-- The noise clips, read after their table: each clip's samples follow the table in order, 16 bits each. -/
def noiseClips (d : List Byte) (table : Nat) : Nat → Nat → List (List Int)
  | 0, _ => []
  | n + 1, off =>
    let len := le d (table - 16 * (n + 1) + 8) 4
    words16 false len (slice d off (2 * len)) :: noiseClips d table n (off + 2 * len)

/-- Bytes of the noise clips of a table. -/
def noiseBytes (d : List Byte) (n : Nat) : Nat := (List.range n).foldl (fun t i => t + 2 * le d (16 * i + 8) 4) 0

/-- Whether the clip table and every clip lie in readable windows. -/
def noiseReadable (r : Rights) (b d : List Byte) : Bool :=
  let n := le b 40 2
  decide (16 * n + noiseBytes d n ≤ d.length) && r.inWindow (le b 32 8) (16 * n) false
    && (List.range n).all (fun i => r.inWindow (le d (16 * i) 8) (2 * le d (16 * i + 8) 4) false)

/-- Whether a job's areas can be leased (R261 check 7): the noise clips within 256 MiB, the job area in HBM image space, the accumulators in the section store. -/
def State.jobFits (s : State) (e noise : Nat) : Bool :=
  decide (noise ≤ 268435456) && decide (s.hbmUsed + pagesOf (4 * e) + pagesOf noise ≤ s.hbmTotal)
    && (List.range 4).all (fun f => decide ((8 * e + 8191) / 8192 ≤ s.ssFree f))

/-- Narrow a group: its codes, its shift and how many saturate (R255). -/
def narrowGroup (l : List Int) (g b rnd : Nat) (r : Nat → Nat) : List Int × Nat :=
  let c := (List.range l.length).map (fun i => narrowCode ((l[i]?).getD 0) g b rnd (r i))
  (c.map (·.1), (c.filter (·.2)).length)

/-- The shift of serving codes (R256): held within b0 to b0 + 7. -/
def serveShift (l : List Int) (b0 : Nat) : Nat := min (max (gshift l 8) b0) (b0 + 7)

/-- The job an OPEN makes: momentum zero, master weights from the map. -/
def openJob (b set map : List Byte) (clips : List (List Int)) (wr handle : Nat) : Job :=
  let g := mapG map
  let gs := mapGroups map
  let codes := mapCodes map
  let smp := setSamples set
  let b0 := byteAt map 10
  let group (i : Nat) : List Int := ((codes.drop (i * g)).take g).map (fun c => c * 2 ^ ((gs[i]?).map (·.initG)).getD 0)
  { st := 1, handle := handle, block := b, sampleFrames := le set 8 2, labelBytes := le set 10 2, samples := smp, clips := clips, gLen := g
    groups := gs, gradSlot := byteAt map 8, labelSlot := byteAt map 9, b0 := b0, wCode := codes, wG := gs.map (·.initG)
    mCode := List.replicate codes.length 0, mG := List.replicate gs.length 0
    sCode := (List.range gs.length).flatMap (fun i => (narrowGroup (group i) (serveShift (group i) b0) 8 0 (fun _ => 0)).1)
    sNib := (List.range gs.length).map (fun i => serveShift (group i) b0 - b0)
    skip := (List.range smp.length).filter (fun i => ((smp[i]?).map (sampleSkipped wr)).getD true) }

/-- The checks of OPEN (R261), from the second on, with the data its host reads returned: 0, or the status of the first that fails. -/
def State.openChecks (s : State) (b : List Byte) (r : Rights) (set map noise : HostData) : Nat :=
  let m := s.model (le b 2 2)
  let d := set.getD []
  let mp := map.getD []
  let nz := noise.getD []
  if m.st = .free ∨ m.st = .faulted then 3
  else if adpParamsOk b = false then 4
  else if set.isNone ∨ d.length < 32 ∨ r.inWindow (le b 8 8) 32 false = false then 9
  else if setOk d = false then 5
  else if d.length < 32 + 32 * le d 4 4 ∨ r.inWindow (le b 8 8) (32 + 32 * le d 4 4) false = false then 9
  else if (s.sfe.profiles.get (le b 6 2 % 4096)).bad || !bit (s.sfe.profiles.get (le b 6 2 % 4096)).d0.toNat 0 then 5
  else if map.isNone ∨ mp.length < 16 ∨ mp.length < mapBytes mp ∨ r.inWindow (le b 56 8) (mapBytes mp) false = false then 9
  else if mapOk mp (hdrH m.hdr) (hdrW m.hdr) = false then 10
  else if geometryOk m.hdr m.decl d mp = false then 6
  else if bit (byteAt b 5) 3 ∧ (noise.isNone ∨ noiseReadable r b nz = false) then 9
  else if s.jobFits (le mp 4 4 * mapG mp) (if bit (byteAt b 5) 3 then noiseBytes nz (le b 40 2) else 0) = false then 7
  else 0

/-- The host reads of OPEN (R261, R263, R282): each is issued once the checks before it have passed, and only inside the domain's windows. -/
def State.openReads (s : State) (b : List Byte) (r : Rights) (set map noise : HostData) : List (Nat × Nat) :=
  let m := s.model (le b 2 2)
  let d := set.getD []
  let mp := map.getD []
  let nz := noise.getD []
  let prof := s.sfe.profiles.get (le b 6 2 % 4096)
  let setAt := le b 8 8
  let mapAt := le b 56 8
  let win (p : Nat × Nat) : Bool := r.inWindow p.1 p.2 false
  let setLen := 32 + 32 * le d 4 4
  let table := (le b 32 8, 16 * le b 40 2)
  let clips := (List.range (le b 40 2)).map (fun i => (le nz (16 * i) 8, 2 * le nz (16 * i + 8) 4))
  let steps : List (Bool × List (Nat × Nat)) := [
    (decide (m.st ≠ .free) && decide (m.st ≠ .faulted) && adpParamsOk b && win (setAt, 32), [(setAt, 32)]),
    (set.isSome && decide (32 ≤ d.length) && setOk d && win (setAt, setLen), [(setAt, setLen)]),
    (decide (setLen ≤ d.length) && !prof.bad && bit prof.d0.toNat 0 && win (mapAt, 16), [(mapAt, 16)]),
    (map.isSome && decide (16 ≤ mp.length) && win (mapAt, mapBytes mp), [(mapAt, mapBytes mp)]),
    (decide (mapBytes mp ≤ mp.length) && mapOk mp (hdrH m.hdr) (hdrW m.hdr) && geometryOk m.hdr m.decl d mp && bit (byteAt b 5) 3 && win table,
      [table]),
    (noise.isSome && clips.all win, clips)]
  (steps.takeWhile (·.1)).flatMap (·.2)

/-- OPEN (R242, R261). -/
def execAdpOpen (src : CmdSrc) (set map noise : HostData) (s : State) : Out :=
  .next (s.adpCmd src 1 (fun b r s =>
    let n := byteAt b 1
    if s.flag Reg.ADP_CTRL_enable = false then s.adpDone src n 1
    else if 3 < n then s.adpDone src n 4
    else if (s.job n).st ≠ 0 then s.adpDone src n 2
    else
      let s := s.hostReads (s.srcFunc src) (s.openReads b r set map noise)
      match s.openChecks b r set map noise with
      | 0 =>
        let clips := if bit (byteAt b 5) 3 then noiseClips (noise.getD []) (16 * le b 40 2) (le b 40 2) (16 * le b 40 2) else []
        let wr := (s.sfe.profiles.get (le b 6 2 % 4096)).wrate
        (s.updJob n (fun _ => openJob b (set.getD []) (map.getD []) clips wr (le b 2 2))).adpDone src n 0
      | c => s.adpDone src n c))

/-! #### RUN (R30, R31, R238, R243) -/

/-- Whether a rectangle at a place could take a model once unlocked models leave it. -/
def State.rectSpare (s : State) (blocked claimed : List Nat) (f x y h w : Nat) : Bool :=
  (List.range h).all (fun j => (List.range w).all (fun i =>
    let t := fieldTile f (x + i) (y + j)
    !blocked.contains t && !claimed.contains t && (match (s.tile t).plot with
      | none => true
      | some p => !s.locked (s.plot p).handle && (s.plot p).job.isNone)))

/-- The first rectangle of a field that could take a model. -/
def State.spareRect (s : State) (claimed : List Nat) (f h w : Nat) : Option (Nat × Nat × Nat) :=
  let blocked := s.blockedTiles f
  (List.range (33 - h)).findSome? (fun y => ((List.range (33 - w)).find? (fun x => s.rectSpare blocked claimed f x y h w)).map (fun x => (f, x, y)))

/-- The locked models of the fields to be taken that find places in the rest, one after the other, up to the first that finds none (R238). -/
def State.lockedFit (s : State) (taken : List Nat) : List Nat → List Nat → List Nat
  | [], _ => []
  | h :: rest, claimed =>
    let hdr := (s.model h).hdr
    if (s.sliceOf h).isSome then []
    else match ((s.imageFields hdr).filter (fun f => !taken.contains f)).findSome? (fun f => s.spareRect claimed f (hdrH hdr) (hdrW hdr)) with
      | none => []
      | some (f, x, y) =>
        h :: s.lockedFit taken rest (claimed ++ (List.range (hdrH hdr)).flatMap (fun j => (List.range (hdrW hdr)).map (fun i => fieldTile f (x + i) (y + j))))

/-- The models resident in some fields, most recently used first. -/
def State.residentIn (s : State) (fields : List Nat) : List Nat :=
  (s.handles.filter (fun h => decide ((s.model h).st = .resident)
    && ((s.model h).plot.map (fun p => fields.contains (s.plot p).field)).getD false)).insertionSort
      (fun a b => decide ((s.model b).lastPass ≤ (s.model a).lastPass))

/-- Take fields for a job: pinned models move first, then those with queued rows. -/
def State.takeFields (s : State) (n : Nat) (fields : List Nat) : State :=
  let l := s.residentIn fields
  let s := fields.foldl (fun s f => s.updField f (fun x => { x with leaving := some n })) s
  let s := (l.filter s.locked).foldl (fun s h => s.moveModel fields h) s
  (l.filter (fun h => !s.locked h && !(s.model h).queued.isEmpty)).foldl (fun s h => s.moveModel fields h) s

/-- The expiry of a grant made or renewed now. -/
def State.grantEnd (s : State) : Option Nat :=
  let t := s.fld Reg.ADP_GRANT_TERM_ns
  if t = 0 then none else some (s.now + t)

/-- RUN (R238, R243): all the fields or none; where a pinned model finds no place, the moves of those before it stand (log 196). A run resumes at the batch that is next. -/
def execAdpRun (src : CmdSrc) (s : State) : Out :=
  .next (s.adpCmd src 2 (fun b _ s =>
    let n := byteAt b 1
    let j := s.job n
    let k := byteAt b 4
    let mask := (List.range 4).filter (fun f => (hdrMask (s.model j.handle).hdr).testBit f)
    let fields := (([3, 2, 1, 0].filter mask.contains).filter s.placeable).take k
    if s.flag Reg.ADP_CTRL_enable = false then s.adpDone src n 1
    else if 3 < n then s.adpDone src n 4
    else if j.st ≠ 1 then s.adpDone src n 2
    else if k < 1 ∨ 4 < k ∨ le b 42 2 = 0 then s.adpDone src n 4
    else if s.servingFields.length < k + s.fld Reg.BAY_SERVE_RESERVE_fields then s.adpDone src n 8
    else if fields.length < k then s.adpDone src n 7
    else if (s.lockedFit fields ((s.residentIn fields).filter s.locked) []).length < ((s.residentIn fields).filter s.locked).length then
      ((s.lockedFit fields ((s.residentIn fields).filter s.locked) []).foldl (fun s h => s.moveModel fields h) s).adpDone src n 8
    else
      let s := s.updJob n (fun j => { j with
        st := 2, toRun := le b 42 2, grants := fields.map (fun f => (f, s.grantEnd)), ordering := j.order.isEmpty })
      let s := s.takeFields n fields
      let s := if (s.job n).ordering then s else s.beginBatch n
      s.adpDone src n 0))

/-- Whether a batch has been reduced and awaits its update. -/
def Job.reduced (j : Job) : Bool := !j.rows.isEmpty && decide (j.nextReduce = j.rows.length)

/-- STOP (R242): at a batch boundary the update completes first; otherwise the batch in progress is abandoned. -/
def execAdpStop (src : CmdSrc) (s : State) : Out :=
  .next (s.adpCmd src 3 (fun b _ s =>
    let n := byteAt b 1
    if 3 < n then s.adpDone src n 4
    else if (s.job n).st ≠ 2 then s.adpDone src n 2
    else
      let s := if (s.job n).reduced then s.updJob n (fun j => { j with st := 3, stopping := true })
        else ((s.updJob n (fun j => { j with st := 3, ordering := false })).dropBatch n).revokeAll n
      s.adpDone src n 0))

/-- CLOSE (R242). -/
def execAdpClose (src : CmdSrc) (s : State) : Out :=
  .next (s.adpCmd src 4 (fun b _ s =>
    let n := byteAt b 1
    if 3 < n then s.adpDone src n 4
    else if (s.job n).st ≠ 1 then s.adpDone src n 2
    else (s.updJob n (fun _ => {})).adpDone src n 0))

/-- A grant renewed now, unless its expiry instant has passed (R227). -/
def State.renewed (s : State) (g : Nat × Option Nat) : Nat × Option Nat :=
  if (g.2.map (fun t => decide (t < s.now))).getD false then g else (g.1, s.grantEnd)

/-- RENEW (R227, R244): every grant of the job that has not expired is renewed. -/
def execAdpRenew (src : CmdSrc) (s : State) : Out :=
  .next (s.adpCmd src 5 (fun b _ s =>
    let n := byteAt b 1
    if 3 < n then s.adpDone src n 4
    else (s.updJob n (fun j => { j with grants := j.grants.map s.renewed })).adpDone src n 0))

/-! #### A run (R246, R252 to R257) -/

/-- EPOCH_ORDER_READY (R252): the sample order of a training epoch is computed and its first batch begins. -/
def execEpochOrderReady (job : Fin 4) (s : State) : Out :=
  .next (
    let n := job.val
    let j := s.job n
    if j.st = 2 ∧ j.ordering = true ∧ j.ckptDue = false then
      let key (i : Nat) : Nat :=
        if j.aug 0 then (wordAt (sorrel j.seed (BitVec.ofNat 64 (0x80 <<< 56 ||| j.tEpoch <<< 32 ||| i))) 0).toNat else 0
      let order := (((List.range j.samples.length).map (fun i => (key i, i))).insertionSort
        (fun a b => decide (a.1 < b.1) || (decide (a.1 = b.1) && decide (a.2 ≤ b.2)))).map (·.2)
      (s.updJob n (fun j => { j with order := order, ordering := false, batch := 0 })).beginBatch n
    else s)

/-- Whether the batch in progress needs a sample read. -/
def Job.wants (j : Job) (i : Nat) : Bool :=
  j.rows.any (fun r => r.samples.contains (some i)) && !j.skip.contains i && (j.decoded i).isNone

/-- SAMPLE_DECODE (R246): the reads of a sample and its label complete; the sample is decoded and kept in the cache if it fits. A failed read ends the run. -/
def execSampleDecode (job : Fin 4) (index : Nat) (audio label : HostData) (s : State) : Out :=
  .next (
    let n := job.val
    let j := s.job n
    if j.st ≠ 2 ∨ j.wants index = false then s
    else
      let x := j.sample index
      let r := s.domRights j.domain
      let a := audio.getD []
      let l := label.getD []
      let aOk := audio.isSome && decide (x.len ≤ a.length) && r.inWindow x.audio x.len false
      let lOk := decide (j.labelBytes = 0) || (label.isSome && decide (j.labelBytes ≤ l.length) && r.inWindow x.label j.labelBytes false)
      if aOk && lOk then
        let y := atWorkRate x.rate (s.sfe.profiles.get j.profile).wrate (List.replicate 32 0) (decodeSamples x.codec (a.take x.len))
        let fits := decide (s.cacheBytes + 2 * y.length ≤ s.fld Reg.ADP_CACHE_GIB_gib * 2 ^ 30)
        let s := s.bumpIf (decide (0 < j.tEpoch)) Reg.ADP_CACHE_MISS
        let s := s.updJob n (fun j => { j with
          labels := j.labels ++ [(index, l.take j.labelBytes)]
          cache := if fits then j.cache ++ [(index, y)] else j.cache
          fresh := if fits then j.fresh else j.fresh ++ [(index, y)] })
        s.buildRows n
      else s.endRun n 5)

/-- The code and shift of element `i` in a gradient record (R249). -/
def gradAt (g : Nat) (rec : List Flit) (i : Nat) : Int :=
  let block := (g / 16 + 1) * (i / g)
  let code := signedOf 8 (elemRaw 8 (i % 16) ((rec[block + i % g / 16]?).getD 0))
  code * 2 ^ bits (((rec[block + g / 16]?).getD 0).toNat) 4 0

/-- Add a gradient record into the accumulators (R254); the answer counts clamps. -/
def addGrad (g : Nat) (acc : List Int) (rec : List Flit) : List Int × Nat :=
  let c := (List.range acc.length).map (fun i => sat48 ((acc[i]?).getD 0 + gradAt g rec i))
  (c.map (·.1), (c.filter (·.2)).length)

/-- GRADIENT_REDUCE (R254): the gradients of the next row in ascending sample identifier are added, void spans skipped. -/
def execGradientReduce (job : Fin 4) (row : Nat) (s : State) : Out :=
  .next (
    let n := job.val
    let j := s.job n
    match j.rows[row]? with
    | none => s
    | some r =>
      if j.st = 2 ∧ row = j.nextReduce ∧ r.complete = true then
        let void (k : Nat) : Bool := match (r.samples[k]?).getD none with
          | some i => j.skip.contains i
          | none => true
        let (acc, sats) := (List.range r.samples.length).foldl (fun (a : List Int × Nat) k =>
          if void k then a
          else
            let b := addGrad j.gLen a.1 ((r.grads[k]?).getD [])
            (b.1, a.2 + b.2)) (j.acc, 0)
        (s.addCnt Reg.ADP_SAT_RED sats).updJob n (fun j => { j with
          acc := acc, nextReduce := row + 1, rows := modifyAt j.rows row (fun x => { x with reduced := true, grads := [] }) })
      else s)

/-- What an update gives for one group: master, momentum and serving codes, their shifts, and the saturations. -/
structure GroupOut where
  w : List Int
  m : List Int
  s : List Int
  wg : Nat
  mg : Nat
  nib : Nat
  sats : Nat
deriving DecidableEq, Repr

/-- The update of a group (R255, R256). -/
def Job.updateGroup (j : Job) (g : Nat) : GroupOut :=
  let base := g * j.gLen
  let idx := List.range j.gLen
  let mu := byteAt j.block 50
  let lr := byteAt j.block 51
  let wd := byteAt j.block 52
  let mg := (j.mG[g]?).getD 0
  let wg := (j.wG[g]?).getD 0
  let ms := idx.map (fun i =>
    let v := ((j.mCode[base + i]?).getD 0) * 2 ^ mg
    v - (v >>> mu) + (j.acc[base + i]?).getD 0)
  let ws := idx.map (fun i =>
    let v := ((j.wCode[base + i]?).getD 0) * 2 ^ wg
    v - (((ms[i]?).getD 0) >>> lr) - (if wd = 0 then 0 else v >>> wd))
  let step := j.step + 1
  let r (top i : Nat) : Nat := sorrelByte j.seed (BitVec.ofNat 64 (top <<< 56 ||| step <<< 32 ||| (base + i) >>> 4)) ((base + i) % 16)
  let mg' := gshift ms 16
  let wg' := gshift ws 16
  let sg := serveShift ws j.b0
  let m := narrowGroup ms mg' 16 1 (r 0xC1)
  let w := narrowGroup ws wg' 16 1 (r 0xC0)
  let q := narrowGroup ws sg 8 0 (fun _ => 0)
  { w := w.1, m := m.1, s := q.1, wg := wg', mg := mg', nib := sg - j.b0, sats := m.2 + w.2 + q.2 }

/-- OPTIMISER_UPDATE (R256): after reduction, momentum, master and serving codes are updated and written into every replica; then the next batch begins, or the epoch ends. -/
def execOptimiserUpdate (job : Fin 4) (s : State) : Out :=
  .next (
    let n := job.val
    let j := s.job n
    if j.reduced = false ∨ (j.st ≠ 2 ∧ j.stopping = false) then s
    else
      let l := (List.range j.groups.length).map j.updateGroup
      let used := j.rows.foldl (fun k r => k + (r.samples.filter (fun o => match o with
        | some i => !j.skip.contains i
        | none => false)).length) 0
      let s := j.rows.foldl (fun s r => match r.row with
        | some k => s.updRow k (fun _ => {})
        | none => s) s
      let size := j.batchRows * hdrMaxSpans (s.model j.handle).hdr
      let last := decide (j.samples.length ≤ (j.batch + 1) * size)
      let s := s.updJob n (fun j => { j with
        wCode := l.flatMap (·.w), mCode := l.flatMap (·.m), sCode := l.flatMap (·.s), wG := l.map (·.wg), mG := l.map (·.mg)
        sNib := l.map (·.nib), step := j.step + 1, rows := [], acc := [], nextReduce := 0, fresh := []
        labels := j.labels.filter (fun x => j.cache.any (fun c => c.1 == x.1))
        batch := if last then 0 else j.batch + 1, tEpoch := if last then j.tEpoch + 1 else j.tEpoch
        order := if last then [] else j.order, ckptDue := j.ckptDue || last, toRun := if last then j.toRun - 1 else j.toRun })
      let s := (s.addCnt Reg.ADP_SAT_OPT (l.foldl (fun k g => k + g.sats) 0)).bump Reg.ADP_BATCHES
      let s := s.addCnt Reg.ADP_SAMPLES used
      let s := (s.job n).replicas.foldl (fun s r => s.writeServing r.2 (s.job n)) s
      if j.stopping then (s.updJob n (fun j => { j with stopping := false })).revokeAll n
      else if last then s
      else s.beginBatch n)

/-- A checkpoint (R257). -/
def Job.checkpoint (j : Job) (n seq : Nat) : List Byte :=
  toLe 2 0xC7A8 ++ toLe 1 1 ++ toLe 1 n ++ toLe 4 seq ++ toLe 2 (j.tEpoch - 1) ++ zeros 2 ++ toLe 4 j.step ++ toLe 4 j.elems ++ zeros 44
    ++ j.wCode.flatMap (fun c => toLe 2 (rawOf 16 c)) ++ j.mCode.flatMap (fun c => toLe 2 (rawOf 16 c))
    ++ j.sCode.flatMap (fun c => toLe 1 (rawOf 8 c))
    ++ (List.range j.groups.length).flatMap (fun g =>
      toLe 1 ((j.wG[g]?).getD 0) ++ toLe 1 ((j.mG[g]?).getD 0) ++ toLe 1 ((j.sNib[g]?).getD 0))

/-- CHECKPOINT_WRITE (R257, R263): the buffer is written as the function of the job's queue pair, its first 8 bytes last and in order after the rest (DEDUCED, log 201), and the record is sent; then the run ends or its next epoch starts. A buffer outside the domain's windows is not written. -/
def execCheckpointWrite (job : Fin 4) (s : State) : Out :=
  .next (
    let n := job.val
    let j := s.job n
    if j.ckptDue = false then s
    else
      let seq := j.ckpt + 1
      let c := j.checkpoint n seq
      let inB := decide (seq % 2 = 0)
      let a := j.ckptAddr + (if inB then c.length else 0)
      let s := if (s.domRights j.domain).inWindow a c.length true then
          let f := (s.qp j.qpNo).func
          (s.hostOut f (.hostWrite f (a + 8) (c.drop 8) true)).hostOut f (.hostWrite f a (c.take 8) false) else s
      let s := (s.deliverRecord j.qpNo 0x84 (BitVec.ofNat 64 seq) s.thyme (n ||| b2n inB <<< 2)).bump Reg.ADP_CKPT
      let s := s.updJob n (fun j => { j with ckpt := seq, ckptDue := false })
      if j.st ≠ 2 then s
      else if j.toRun = 0 then s.endRun n 1
      else s.updJob n (fun j => { j with ordering := true }))

end Sys2Proof.Machine
end

