-- ==== Sys2Proof/Machine/HostIf.lean ====
section
/-! DEFINITION. The host interface: doorbells, descriptor fetch, checks and opcodes, queue pairs, protection domains, functions (R262 to R286, R290, R424). -/

namespace Sys2Proof.Machine

/-- Change the host interface. -/
def State.updHif (s : State) (f : HifSt → HifSt) : State := { s with hif := f s.hif }

/-- Change a protection domain. -/
def State.updDom (s : State) (d : Nat) (f : Dom → Dom) : State := s.updHif (fun h => { h with doms := h.doms.upd d f })

/-! #### Doorbells and moderation (R268, R278) -/

/-- The ACTIVE queue pair of a function with a local index, its lease in force. -/
def State.localQp (s : State) (func loc : Nat) : Option Nat :=
  s.hif.qps.keys.find? (fun q => let p := s.qp q
    decide (p.st = .active) && !p.fenced && decide (p.func = func) && decide (p.loc = loc))

/-- The SQ half of a doorbell. -/
def State.sqDoorbell (s : State) (q v : Nat) : State :=
  if (s.qp q).sqSize ≤ v % 65536 then s.bump Reg.HIF_DB_BAD else s.updQp q (fun p => { p with sqTail := v % 65536 })

/-- The CQ half of a doorbell: entries up to cq_head are free again; an arm with records beyond it sends the interrupt at once. -/
def State.cqDoorbell (s : State) (q v : Nat) : State :=
  let h := v % 65536
  if (s.qp q).cqSize ≤ h then s.bump Reg.HIF_DB_BAD
  else
    let s := s.updQp q (fun p => { p with cqUsed := p.cqUsed - (h + p.cqSize - p.cqHead) % p.cqSize, cqHead := h })
    if bit v 16 then
      let s := s.updQp q (fun p => { p with armed := true, sinceArm := 0, firstAt := none })
      if 0 < (s.qp q).cqUsed then s.interrupt q else s
    else s

/-- DOORBELL (R262, R268, R383): a 32-bit write updates one half, a 64-bit write both, the SQ half first. For a function in D3hot it is an unsupported request (R373); before the core is ready no write is taken; a write of another size or place is ignored and counted. -/
def execDoorbell (func : Fin 128) (offset size : Nat) (value : DWord) (s : State) : Out :=
  .next (
    if s.reachable = false ∨ 4096 ≤ offset then s
    else if (s.func func.val).d3hot then s.emit (.aer func.val .unsupported)
    else if s.rst.coreReady = false then s
    else if ¬ ((size = 8 ∧ offset % 8 = 0) ∨ (size = 4 ∧ offset % 4 = 0)) then s.bump Reg.HIF_DB_BAD
    else match s.localQp func.val (offset / 8) with
      | none => s.bump Reg.HIF_DB_IGNORED
      | some q =>
        let v := value.toNat
        if size = 8 then (s.sqDoorbell q (v % 2 ^ 32)).cqDoorbell q (v / 2 ^ 32)
        else if offset % 8 = 0 then s.sqDoorbell q (v % 2 ^ 32)
        else s.cqDoorbell q (v % 2 ^ 32))

/-- MOD_TIMER_EXPIRY (R278): mod_ns has passed since the first record written while armed, the instant of expiry included. -/
def execModTimerExpiry (qp : Fin 16384) (s : State) : Out :=
  .next (
    let p := s.qp qp.val
    match p.firstAt with
    | some t => if p.armed ∧ s.passed t p.modNs then s.interrupt qp.val else s
    | none => s)

/-! #### Fetch (R269) -/

/-- How many descriptors the next read of a queue pair would fetch: at most 8, in ring order up to its end, each with a CQ entry to reserve. -/
def State.fetchCount (s : State) (q : Nat) : Nat :=
  let p := s.qp q
  if decide (p.st = .active) && !p.fenced && decide (p.inflight = 0) && s.flag Reg.HIF_CTRL_enable
      && (s.func p.func).busMaster && !(s.func p.func).d3hot && !s.pow.idle && s.pow.devWaking.isNone then
    min (min 8 ((p.sqTail + p.sqSize - p.sqHead) % p.sqSize)) (min (p.sqSize - p.sqHead) (p.cqSize - p.cqUsed - p.reserved))
  else 0

/-- The queue pair served next, in round-robin order after the one served last. -/
def State.nextFetch (s : State) : Option Nat :=
  let l := s.hif.qps.keys.filter (fun q => decide (0 < s.fetchCount q))
  match l.find? (fun q => decide (s.hif.rrQp < q)) with
  | some q => some q
  | none => l.head?

/-- DESCRIPTOR_FETCH (R269): the read of the queue pair that is next is issued, and its CQ entries are reserved. -/
def execDescriptorFetch (qp : Fin 16384) (s : State) : Out :=
  .next (if s.nextFetch = some qp.val then
      let q := qp.val
      let p := s.qp q
      let n := s.fetchCount q
      let s := s.updQp q (fun p => { p with inflight := n, readEpoch := p.epoch, reserved := p.reserved + n })
      (s.hostOut p.func (.hostRead p.func (p.sqBase + 64 * p.sqHead) (64 * n))).updHif (fun h => { h with rrQp := q })
    else s)

/-- A ring access of a queue pair failed: it is in ERROR, and an event tells (R266, R283). -/
def State.qpError (s : State) (q : Nat) : State := (s.updQp q (fun p => { p with st := .error })).event 2 (q <<< 8)

/-- A ring access fails: a queue pair that is ACTIVE or DRAINING is then in ERROR; any other stays as it is (R266, R283). -/
def State.ringFailed (s : State) (q : Nat) : State :=
  if (s.qp q).st = .active ∨ (s.qp q).st = .draining then s.qpError q else s

/-! #### Checks (R282, R283) -/

/-- Whether an opcode is defined (R280). -/
def opKnown (op : Nat) : Bool := decide (op ≤ 6) || cmdBlockOp op

/-- The right an opcode needs (R280): bit of the rights flags. -/
def opRight (op : Nat) : Option Nat :=
  if op = 2 then some 3 else if 4 ≤ op ∧ op ≤ 6 then some 0 else if 0x21 ≤ op ∧ op ≤ 0x25 then some 2 else none

/-- The buffer of an opcode: whether it is written, its least and its greatest length; none where the opcode names no buffer. -/
def opBuffer (b : List Byte) : Option (Bool × Nat × Nat) :=
  match byteAt b 0 with
  | 1 => some (false, 1, 65535)
  | 2 => some (false, 1, 9212)
  | 3 => some (true, 256, 65536)
  | 4 => some (true, 8 * le b 28 4, 2 ^ 32)
  | 6 => some (true, 1048576, 2 ^ 32)
  | _ => none

/-- addr of a general descriptor. -/
def descAddr (b : List Byte) : Nat := le b 16 8
/-- length. -/
def descLen (b : List Byte) : Nat := le b 4 4

/-- R282 for a command block in a domain. -/
def blockDenied (r : Rights) (domain : Nat) (b : List Byte) : Bool :=
  let op := byteAt b 0
  let h := le b 2 2
  if 0x21 ≤ op then decide (byteAt b 53 ≠ domain)
  else if 0x11 ≤ op then
    decide (byteAt b 4 ≠ domain) || (
      if op = 0x11 ∨ op = 0x18 then !(bit r.flags 1 && r.hasHandle h)
      else if op = 0x1A ∨ op = 0x1B then !bit r.flags 0
      else !r.hasHandle h)
  else false

/-- A field of a command block outside its range, or a reserved encoding (R240, R260, R283 check 3): the level of an EVICT, the count of a slot command, the parameters of an adaptation command. -/
def blockBad (b : List Byte) : Bool :=
  let op := byteAt b 0
  if op = 0x14 then decide (byteAt b 1 < 1) || decide (3 < byteAt b 1)
  else if op = 0x1A ∨ op = 0x1B then decide (le b 16 4 < 1) || decide (1048576 < le b 16 4)
  else if op = 0x21 then !adpRangesOk b
  else if op = 0x22 then decide (3 < byteAt b 1) || decide (byteAt b 4 < 1) || decide (4 < byteAt b 4) || decide (le b 42 2 = 0)
  else if 0x23 ≤ op ∧ op ≤ 0x25 then decide (3 < byteAt b 1)
  else false

/-- The checks of R283 in order: 0, or the status of the first that fails. -/
def descCheck (r : Rights) (domain : Nat) (b : List Byte) : Nat :=
  let op := byteAt b 0
  let denied := match opRight op with
    | some k => !bit r.flags k
    | none => false
  if opKnown op = false then 0x07
  else if denied then 0x05
  else if (op = 4 ∧ (le b 28 4 = 0 ∨ 1048576 < le b 24 4 + le b 28 4)) ∨ blockBad b = true then 0x08
  else match opBuffer b with
    | some (wr, lo, hi) =>
      let n := descLen b
      if n = 0 then 0x02
      else if r.inWindow (descAddr b) 1 wr = false then 0x04
      else if r.inWindow (descAddr b) n wr = false ∨ n < lo ∨ hi < n then 0x03
      else 0
    | none => if blockDenied r domain b then 0x05 else 0

/-- Count a refusal under its own kind (R290). -/
def State.countRefusal (s : State) (status : Nat) : State :=
  let s := s.bumpIf (decide (status = 0x02) || decide (status = 0x03)) Reg.HIF_LEN_REFUSED
  let s := s.bumpIf (decide (status = 0x04)) Reg.HIF_WINDOW_REFUSED
  s.bumpIf (decide (status = 0x05)) Reg.HIF_DENIED

/-- Commands of Bay that run or wait, whichever way they came. -/
def State.bayFull (s : State) : Bool := decide (2 ≤ s.bayLoad)

/-- A Bay command block from a descriptor: it runs, waits as pending, or completes BUSY (R282); a PREFETCH of a model that is PAGING joins (R231). -/
def State.bayDescriptor (s : State) (d : Nat) : State :=
  let s := s.updDesc d (fun x => { x with st := .running })
  if s.flag Reg.BAY_CTRL_enable = false then s.completeDesc d 0x11 0 0 0
  else if s.bayJoins ((s.desc d).op - 0x10) (s.desc d).bytes = true then s.bayJoin (cmdHandle (s.desc d).bytes) (.desc d)
  else if s.bayFull = true then s.completeDesc d 0x11 0 0 0
  else s.updBay (fun b => { b with cmds := b.cmds ++ [d] })

/-- A descriptor of a queue pair arrives: its content is copied, it takes the epochs in force, and it is checked before any DMA (R269, R274, R281, R283). -/
def State.takeDesc (s : State) (q : Nat) (b : List Byte) : State :=
  let p := s.qp q
  let m := s.hif.doms.get p.domain
  let (id, s) := s.freshId
  let s := s.updDesc id (fun _ => {
    qp := q, sqIndex := p.sqHead, bytes := b, lease := p.epoch, domain := p.domain, domEpoch := m.ver, fetchTs := s.thyme
    calEpoch := s.num.current, order := id, st := .waiting })
  let s := s.updQp q (fun p => { p with sqHead := (p.sqHead + 1) % p.sqSize })
  let s := s.bump Reg.HIF_DESC
  let status := descCheck m.rights p.domain b
  if status ≠ 0 then (s.countRefusal status).completeDesc id status 0 0 0
  else if 0x11 ≤ byteAt b 0 ∧ byteAt b 0 ≤ 0x1B then s.bayDescriptor id
  else s

/-- DESCRIPTOR_ARRIVAL (R267, R271, R283): the data of a ring read return; a read that failed puts the queue pair in ERROR. What comes back after a DESTROY is not started, and what comes back under a revoked lease is not taken. -/
def execDescriptorArrival (qp : Fin 16384) (blocks : HostData) (s : State) : Out :=
  .next (
    let q := qp.val
    let n := (s.qp q).inflight
    if n = 0 then s
    else
      let fenced := decide ((s.qp q).readEpoch ≠ (s.qp q).epoch) || (s.qp q).fenced
      let s := s.updQp q (fun p => { p with inflight := 0 })
      if fenced then s.updQp q (fun p => { p with reserved := p.reserved - n })
      else match blocks with
        | none => (s.updQp q (fun p => { p with reserved := p.reserved - n })).ringFailed q
        | some b =>
          if (s.qp q).st ≠ .active then (s.updQp q (fun p => { p with reserved := p.reserved - n })).drainQp q
          else (List.range n).foldl (fun s i => s.takeDesc q (slice b (64 * i) 64)) s)

/-! #### Opcodes (R280 to R282) -/

/-- Whether a descriptor may start (R270): it waits, it is alive, its function's DMA is allowed, and a fence finds every earlier descriptor of its SQ complete. -/
def State.mayStart (s : State) (d op : Nat) : Bool :=
  let x := s.desc d
  decide (x.st = .waiting) && decide (x.op = op) && s.descLive d && (s.func (s.qp x.qp).func).busMaster
    && (cmdBlockOp op || !bit (byteAt x.bytes 1) 1 || (s.openDescs x.qp).all (fun e => decide (x.order ≤ (s.desc e).order)))

/-- DESC_NOP (R280). -/
def execDescNop (desc : Nat) (s : State) : Out := .next (if s.mayStart desc 0 then s.completeDesc desc 0 0 0 0 else s)

/-- Issue the payload read of a descriptor. -/
def State.payloadRead (s : State) (d : Nat) : State :=
  let x := s.desc d
  let f := (s.qp x.qp).func
  (s.updDesc d (fun x => { x with st := .reading s.now })).hostOut f (.hostRead f (descAddr x.bytes) (descLen x.bytes))

/-- INFER (R281): the payload read is issued; the segment is submitted when its data return. -/
def execInfer (desc : Nat) (s : State) : Out := .next (if s.mayStart desc 1 then s.payloadRead desc else s)

/-- TX_FRAME (R280): the frame's read is issued. -/
def execTxFrame (desc : Nat) (s : State) : Out := .next (if s.mayStart desc 2 then s.payloadRead desc else s)

/-- RX_BUF (R280, R283): the buffer is posted, and keeps its CQ entry; it writes no record of its own. -/
def execRxBuf (desc : Nat) (s : State) : Out :=
  .next (if s.mayStart desc 3 then
      let x := s.desc desc
      let s := s.updDesc desc (fun x => { x with st := .done })
      (s.updQp x.qp (fun p => { p with rx := p.rx ++ [{
        sqIndex := x.sqIndex, cookie := BitVec.ofNat 64 (le x.bytes 8 8), addr := descAddr x.bytes, len := descLen x.bytes
        domEpoch := x.domEpoch }] })).drainQp x.qp
    else s)

/-- COUNTER_DUMP (R100, R280): counters of the latest complete generation are written. -/
def execCounterDump (desc : Nat) (s : State) : Out :=
  .next (if s.mayStart desc 4 then
      let x := s.desc desc
      let n := le x.bytes 28 4
      let data := (List.range n).flatMap (fun i => toLe 8 (s.rul.images.get (le x.bytes 24 4 + i)).toNat)
      (s.qpWrite x.qp (descAddr x.bytes) data true).completeDesc desc 0 (8 * n) (s.reg Reg.RUL_CNT_GEN_TS) (s.fld Reg.RUL_CNT_GEN_gen)
    else s)

/-- COMMIT_RULES (R88). -/
def execCommitRules (desc : Nat) (s : State) : Out :=
  .next (if s.mayStart desc 5 then (s.updDesc desc (fun x => { x with st := .running })).requestCommit (.desc desc) else s)

/-- ADAPT_BATCH (R282): the adaptation command runs, waits as pending, or completes BUSY. -/
def execAdaptBatch (desc : Nat) (s : State) : Out :=
  .next (
    let op := (s.desc desc).op
    if decide (0x21 ≤ op) && decide (op ≤ 0x25) && s.mayStart desc op then
      let s := s.updDesc desc (fun x => { x with st := .running })
      if 2 ≤ b2n s.adp.latched.isSome + s.adp.cmds.length then s.completeDesc desc 0x21 0 0 (s.job (byteAt (s.desc desc).bytes 1)).st
      else s.updAdp (fun a => { a with cmds := a.cmds ++ [desc] })
    else s)

/-- Submit the segment of an INFER descriptor (R281): a bundle of its own, whose verdict is good and known, and a lookup that bypasses the rule tables. -/
def State.submitInfer (s : State) (d : Nat) : State :=
  let x := s.desc d
  let b := x.bytes
  let h := slice b 32 16
  let capture : DWord := if bit (byteAt b 1) 3 then BitVec.ofNat 64 (le b 24 8) else x.fetchTs
  let (bid, s) := s.freshId
  let (sid, s) := s.freshId
  let s := s.updBundle bid (fun _ => {
    port := 16, bundleId := BitVec.ofNat 32 (le b 56 4), sender := BitVec.ofNat 32 (le b 52 4), ingressTs := x.fetchTs, segCount := 1 })
  let s := s.updSeg sid (fun _ => {
    desc := some d, bundle := bid, streamId := BitVec.ofNat 32 (be h 0 4), seq := BitVec.ofNat 16 (be h 4 2), len := descLen b
    codec := byteAt h 8, rate := byteAt h 9, flags := byteAt h 10, hint := be h 12 2, ns := byteAt b 48, stamp := x.fetchTs
    capture := capture, epoch := x.calEpoch, st := .lookup })
  (s.updDesc d (fun x => { x with st := .running })).updRul (fun r => { r with lookups := r.lookups ++ [sid] })

/-- Queue the frame of a TX_FRAME descriptor at rank 5, padded to 60 bytes (R280). -/
def State.submitFrame (s : State) (d : Nat) : State :=
  let x := s.desc d
  let port := le x.bytes 2 2 % 16
  if s.portUp port then
    let f := fit x.payload (max 60 x.payload.length)
    (s.updDesc d (fun x => { x with st := .running })).enqueue port ⟨.host d f, 5, prioOf f, s.now, false⟩
  else s.completeDesc d 0x0B 0 0 0

/-- DMA_READ_COMPLETION (R283, R424): the data of a payload read return; an error or poisoned completion fails the descriptor with HOST_READ. -/
def execDmaReadCompletion (desc : Nat) (payload : HostData) (s : State) : Out :=
  .next (match (s.desc desc).st with
    | .reading _ =>
      if s.descLive desc = false then s
      else match payload with
        | none => s.completeDesc desc 0x09 0 0 0
        | some b =>
          let s := s.updDesc desc (fun x => { x with payload := fit b (descLen x.bytes) })
          if (s.desc desc).op = 1 then s.submitInfer desc else s.submitFrame desc
    | _ => s)

/-- COMPLETION_TIMEOUT (R373, R424): a read without a completion for 50 ms completes HOST_READ, and the timeout is reported through AER on the function. -/
def execCompletionTimeout (desc : Nat) (s : State) : Out :=
  .next (match (s.desc desc).st with
    | .reading t =>
      if s.passed t 50000000 then (s.emit (.completionTimeout (s.qp (s.desc desc).qp).func)).completeDesc desc 0x09 0 0 0 else s
    | _ => s)

/-! #### Queue-pair commands (R265 to R271, R277, R286, R290) -/

/-- A word of the queue-pair command data. -/
def State.qpData (s : State) (j : Nat) : Nat := (s.reg (Reg.HIF_QP_DATA0 + 4 * j)).toNat

/-- Whether a ring size is a power of two from 16 to 65,536. -/
def ringSizeOk (n : Nat) : Bool := (List.range 13).any (fun k => n == 16 <<< k)

/-- The bases in the command data. -/
def State.qpBases (s : State) : Nat × Nat := (s.qpData 1 + s.qpData 2 * 2 ^ 32, s.qpData 3 + s.qpData 4 * 2 ^ 32)

/-- Whether both bases are aligned to 4 KiB. -/
def State.basesOk (s : State) : Bool := decide (s.qpBases.1 % 4096 = 0) && decide (s.qpBases.2 % 4096 = 0)

/-- Whether the vector and the burst in the command data may be taken for a function (R277, R286). -/
def State.modOk (s : State) (func : Nat) : Bool :=
  (decide (func = 0) || decide (bits (s.qpData 7) 10 0 < 64)) && decide (bits (s.qpData 10) 15 0 ≠ 0)

/-- The vector, the moderation and the copy limits of the command data; the bucket is full. -/
def State.withMod (s : State) (p : Qp) : Qp :=
  { p with
    vector := bits (s.qpData 7) 10 0, modCount := bits (s.qpData 7) 23 16, modNs := s.qpData 8 % 2 ^ 32
    rate := bits (s.qpData 9) 23 0, burst := bits (s.qpData 10) 15 0, bucket := Bucket.fill (bits (s.qpData 10) 15 0) s.now }

/-- CREATE: the status, or the queue pair ACTIVE. -/
def State.qpCreate (s : State) (q : Nat) : Nat × State :=
  let d0 := s.qpData 0
  let func := bits d0 6 0
  let loc := bits d0 15 7
  let sq := bits (s.qpData 5) 16 0
  let cq := bits (s.qpData 6) 16 0
  if decide ((s.qp q).st ≠ .free) || s.hif.qps.cells.any (fun c => decide (c.2.st ≠ .free) && decide (c.2.func = func) && decide (c.2.loc = loc)) then (4, s)
  else if (ringSizeOk sq && ringSizeOk cq) = false then (2, s)
  else if s.basesOk = false then (3, s)
  else if s.modOk func = false then (6, s)
  else
    let p : Qp := {
      st := .active, func := func, loc := loc, domain := bits d0 23 16, sqBase := s.qpBases.1, cqBase := s.qpBases.2
      sqSize := sq, cqSize := cq, epoch := (s.qp q).epoch }
    (0, s.updQp q (fun _ => s.withMod p))

/-- A queue pair is FREE, whatever it held: its descriptors are abandoned without any completion. -/
def State.qpFree (s : State) (q : Nat) : State :=
  let s := (s.openDescs q).foldl (fun s d => s.updDesc d (fun x => { x with st := .done })) s
  s.updQp q (fun p => { p with st := .free, rx := [], inflight := 0, reserved := 0, fenced := false, armed := false, sinceArm := 0, firstAt := none })

/-- DESTROY: an ACTIVE queue pair drains, one in ERROR is FREE. -/
def State.qpDestroy (s : State) (q : Nat) : Nat × State :=
  match (s.qp q).st with
  | .free => (5, s)
  | .active => (0, (s.updQp q (fun p => { p with st := .draining })).drainQp q)
  | .draining => (0, s)
  | .error => (0, s.qpFree q)

/-- Start the fence of a queue pair (R271): its lease epoch rises at once. -/
def State.fenceQp (s : State) (q : Nat) : State := s.updQp q (fun p => { p with epoch := p.epoch + 1, fenced := true })

/-- REVOKE. -/
def State.qpRevoke (s : State) (q : Nat) : Nat × State := if (s.qp q).st = .free then (5, s) else (0, s.fenceQp q)

/-- SET_BASE: taken at the ring's next fetch or write. -/
def State.qpSetBase (s : State) (q : Nat) : Nat × State :=
  if (s.qp q).st = .free then (5, s)
  else if s.basesOk = false then (3, s)
  else (0, s.updQp q (fun p => { p with sqBase := s.qpBases.1, cqBase := s.qpBases.2 }))

/-- SET_MOD. -/
def State.qpSetMod (s : State) (q : Nat) : Nat × State :=
  if (s.qp q).st = .free then (5, s)
  else if s.modOk (s.qp q).func = false then (6, s)
  else (0, s.updQp q s.withMod)

/-- Code of a queue-pair state (R266). -/
def QpPhase.code : QpPhase → Nat
  | .free => 0 | .active => 1 | .draining => 2 | .error => 3

/-- READ. -/
def State.qpRead (s : State) (q : Nat) : Nat × State :=
  let p := s.qp q
  let put (s : State) (j n : Nat) : State := s.setReg (Reg.HIF_QP_DATA0 + 4 * j) (BitVec.ofNat 64 n)
  let s := put s 0 (p.func ||| p.loc <<< 7 ||| p.domain <<< 16 ||| p.st.code <<< 24)
  let s := put s 1 (p.sqBase % 2 ^ 32)
  let s := put s 2 (p.sqBase / 2 ^ 32)
  let s := put s 3 (p.cqBase % 2 ^ 32)
  let s := put s 4 (p.cqBase / 2 ^ 32)
  let s := put s 5 p.sqSize
  let s := put s 6 p.cqSize
  let s := put s 7 (p.vector ||| p.modCount <<< 16)
  let s := put s 8 p.modNs
  let s := put s 9 p.rate
  let s := put s 10 p.burst
  (0, put s 11 (p.sqHead ||| p.epoch.toNat <<< 16))

/-- A queue-pair command (R290, R422): refused with BUSY while one runs. Ops 6 and 7 are reserved: nothing happens but a status that is open. -/
def State.qpCommand (s : State) (q op : Nat) : State :=
  s.startCmd Reg.HIF_QP_STAT_done Reg.HIF_QP_STAT_status 1 (fun s =>
    let (st, s) := match op with
      | 0 => s.qpCreate q
      | 1 => s.qpDestroy q
      | 2 => s.qpRevoke q
      | 3 => s.qpSetBase q
      | 4 => s.qpSetMod q
      | 5 => s.qpRead q
      | _ => let (v, s) := s.free; (v.toNat % 8, s)
    s.finishCmd Reg.HIF_QP_STAT_done Reg.HIF_QP_STAT_status st)

/-- CREATE (R266). -/
def execQpCreate (qp : Fin 16384) (s : State) : Out := .next (s.coreWrite none (fun s => s.qpCommand qp.val 0))
/-- DESTROY (R266). -/
def execQpDestroy (qp : Fin 16384) (s : State) : Out := .next (s.coreWrite none (fun s => s.qpCommand qp.val 1))
/-- REVOKE (R271). -/
def execQpRevoke (qp : Fin 16384) (s : State) : Out := .next (s.coreWrite none (fun s => s.qpCommand qp.val 2))
/-- SET_BASE (R269). -/
def execQpSetBase (qp : Fin 16384) (s : State) : Out := .next (s.coreWrite none (fun s => s.qpCommand qp.val 3))
/-- SET_MOD (R286). -/
def execQpSetMod (qp : Fin 16384) (s : State) : Out := .next (s.coreWrite none (fun s => s.qpCommand qp.val 4))
/-- QP_READ (R290). -/
def execQpRead (qp : Fin 16384) (s : State) : Out := .next (s.coreWrite none (fun s => s.qpCommand qp.val 5))

/-- QP_FENCE_DRAINED (R271): the fenced accesses have drained; the queue pair is FREE and an event tells. -/
def execQpFenceDrained (qp : Fin 16384) (s : State) : Out :=
  .next (if (s.qp qp.val).fenced then (s.qpFree qp.val).event 3 (qp.val <<< 8) else s)

/-! #### Protection domains (R272 to R275) -/

/-- Whether an epoch write of a domain runs. -/
def Dom.running (d : Dom) : Bool := d.starting.isSome || d.draining

/-- The queue pairs of a domain. -/
def State.domQps (s : State) (d : Nat) : List Nat :=
  s.hif.qps.keys.filter (fun q => decide ((s.qp q).domain = d) && decide ((s.qp q).st ≠ .free))

/-- Return a posted buffer REVOKED (R274); nothing of a fenced queue pair reaches host memory (R271). -/
def State.returnRx (s : State) (q : Nat) (r : RxBuf) : State :=
  let s := s.updQp q (fun p => { p with reserved := p.reserved - 1 })
  if (s.qp q).fenced then s else (s.bump Reg.HIF_REVOKED).writeRecord q r.sqIndex 3 0x06 0 r.cookie 0 0

/-- Complete REVOKED everything of a domain fetched under an older epoch (R274): descriptors, and posted buffers. -/
def State.abortOlder (s : State) (d : Nat) : State :=
  let v := (s.hif.doms.get d).ver
  let ds := s.hif.descs.keys.filter (fun i => decide ((s.desc i).domain = d) && decide ((s.desc i).domEpoch ≠ v) && s.descLive i)
  let s := ds.foldl (fun s i => ((s.bump Reg.HIF_REVOKED).completeDesc i 0x06 0 0 0).updDesc i (fun x => { x with aborted := true })) s
  (s.domQps d).foldl (fun s q =>
    let old := (s.qp q).rx.filter (fun r => r.domEpoch != v)
    let s := s.updQp q (fun p => { p with rx := p.rx.filter (fun r => r.domEpoch == v) })
    old.foldl (fun s r => s.returnRx q r) s) s

/-- A write of HIF_DOM_EPOCH (R274, R275) to the domain selected: it starts, waits as pending, or is refused with BUSY. A drain_abort on a pending write also aborts the running write's older descriptors. -/
def State.domEpochWrite (s : State) (v : Nat) : State :=
  let i := s.fld Reg.HIF_DOM_SEL_domain
  let d := s.hif.doms.get i
  let w : EpochWrite := ⟨v % 65536, bit v 16, d.staged⟩
  if d.pending.isSome then s.updDom i (fun d => { d with busy := true })
  else if d.running then
    let s := s.updDom i (fun d => { d with pending := some w })
    if w.abort = false then s
    else match d.starting with
      | some x => s.updDom i (fun d => { d with starting := some { x with abort := true } })
      | none => s.abortOlder i
  else s.updDom i (fun d => { d with starting := some w })

/-- DOMAIN_EPOCH_WRITE (R275). -/
def execDomainEpochWrite (value : Word) (s : State) : Out := .next (s.coreWrite none (fun s => s.domEpochWrite value.toNat))

/-- Revoke the stream slots of a domain (R224, R226): their lease epochs rise, so that accesses in flight are fenced. -/
def State.revokeSlots (s : State) (d : Nat) : State :=
  s.updBay (fun b => { b with slots := b.slots.mapAll (fun x => if x.domain = d then { x with epoch := x.epoch + 1 } else x) })

/-- EPOCH_IN_FORCE (R274): the rights change at one instant; descriptors fetched before keep theirs, or complete REVOKED; with drain_abort the domain is revoked, and its stream slots' leases with it (R224; DEDUCED, log 91). -/
def execEpochInForce (domain : Fin 256) (s : State) : Out :=
  .next (
    let i := domain.val
    let d := s.hif.doms.get i
    match d.starting with
    | none => s
    | some w =>
      let s := s.updDom i (fun d => { d with
        rights := w.rights, epoch := w.epoch, ver := d.ver + 1, old := (d.ver, d.rights) :: d.old, starting := none, draining := true })
      let s := if w.abort then (s.abortOlder i).revokeSlots i else s
      s.event 5 (i <<< 8 ||| (w.epoch % 256) <<< 16))

/-- Whether anything fetched under an older epoch of a domain remains. -/
def State.domHeld (s : State) (i : Nat) : Bool :=
  let v := (s.hif.doms.get i).ver
  s.hif.descs.cells.any (fun c => decide (c.2.domain = i) && decide (c.2.domEpoch ≠ v) && decide (c.2.st ≠ .done))
    || (s.domQps i).any (fun q => (s.qp q).rx.any (fun r => r.domEpoch != v))

/-- DOMAIN_DRAINED (R275): nothing fetched under the replaced epoch remains; a pending write starts. -/
def execDomainDrained (domain : Fin 256) (s : State) : Out :=
  .next (if (s.hif.doms.get domain.val).draining ∧ s.domHeld domain.val = false then
      s.updDom domain.val (fun d => { d with draining := false, old := [], starting := d.pending, pending := none })
    else s)

/-! #### Functions (R262, R264) -/

/-- VF_FLR (R264): the VF's queue pairs are revoked and its interrupts that wait are gone; the PF has no FLR. -/
def execVfFlr (vf : Fin 128) (s : State) : Out :=
  .next (if vf.val = 0 then s
    else
      let l := s.hif.qps.keys.filter (fun q => decide ((s.qp q).func = vf.val) && decide ((s.qp q).st ≠ .free) && !(s.qp q).fenced)
      let s := l.foldl (fun s q => s.fenceQp q) s
      let s := s.updHif (fun h => { h with blocked := h.blocked.filter (fun b => match b.out with
        | .msix f _ => f != vf.val
        | _ => true) })
      s.event 4 (vf.val <<< 8))

/-- BUS_MASTER_CHANGE (R264): setting the bit lets the DMA that waits go, but not that of a queue pair whose lease was revoked since (R267, R271). -/
def execBusMasterChange (func : Fin 128) (enable : Bool) (s : State) : Out :=
  .next (
    let s := s.updHif (fun h => { h with funcs := h.funcs.upd func.val (fun f => { f with busMaster := enable }) })
    if enable then
      let go := s.hif.blocked.filter (fun b => b.func == func.val && s.heldLive b)
      let s := s.updHif (fun h => { h with blocked := h.blocked.filter (fun b => b.func != func.val) })
      go.foldl (fun s b => s.emit b.out) s
    else s)

/-- D3HOT_TRANSITION (R262). -/
def execD3hotTransition (func : Fin 128) (toD3 : Bool) (s : State) : Out :=
  .next (s.updHif (fun h => { h with funcs := h.funcs.upd func.val (fun f => { f with d3hot := toD3 }) }))

end Sys2Proof.Machine
end

