-- ==== Sys2Proof/Machine/Links.lean ====
section
/-! DEFINITION. Oslink in operation: link frames, training and failure of links, floods, spanning programs, link bypass pins, remote reset sent (R291 to R318). -/

namespace Sys2Proof.Machine

/-! #### Link frames (R293 to R295) -/

/-- The bytes of a retained frame as it is sent again: its number, records and credits, under the present acknowledgement. -/
def State.resend (s : State) (l : Nat) : State :=
  if (s.link l).retry.isEmpty then s
  else ((s.link l).retry.foldl (fun s t => s.emit (.linkFrame l (linkFrame t.seq (s.link l).rxSeq (s.link l).nak t.freed t.recs))) s).updLink l
    (fun k => { k with nak := false })

/-- A link starts to retrain (R298). -/
def State.startRetrain (s : State) (l : Nat) : State :=
  (s.updLink l (fun k => { k with st := 3, replays := 0 })).bump (Reg.OSL_RETRAIN l)

/-- Replay from ack_seq + 1 (R294); the sixteenth replay in succession without progress retrains the link. -/
def State.replay (s : State) (l : Nat) : State :=
  let s := (s.bump (Reg.OSL_REPLAY l)).updLink l (fun k => { k with replays := k.replays + 1, progress := s.now })
  if 16 ≤ (s.link l).replays then s.startRetrain l else s.resend l

/-- Take an acknowledgement: frames up to it leave the retry buffer. -/
def LinkSt.ack (k : LinkSt) (a : Word) (now : Nat) : LinkSt :=
  if k.retry.any (fun t => t.seq == a) then
    { k with retry := (k.retry.dropWhile (fun t => t.seq != a)).drop 1, replays := 0, progress := now }
  else k

/-- A discarded frame is answered with nak set (R294): by a frame of its own, or, while 64 frames are unacknowledged and no new frame may be sent, by the next frame that is sent at all (DEDUCED, log 208). -/
def State.answerNak (s : State) (l : Nat) : State :=
  let s := s.updLink l (fun k => { k with nak := true })
  if (s.link l).retry.length < 64 then s.sendFrame l [] else s

/-- A record that arrived on a link is in its landing pool (R295): a flood leaves it for its step, others are routed, and one that goes on keeps its place until it leaves. -/
def State.takeRec (s : State) (l : Nat) (r : OslRec) : State :=
  let c : Carried := ⟨r, some (l, (s.link l).era, r.pool)⟩
  if r.type = 4 ∧ (r.kind = 4 ∨ r.kind = 5) then (s.leavePool c).updOsl (fun o => { o with arrived := o.arrived ++ [r] })
  else if r.type = 1 ∨ r.type = 2 ∨ r.type = 4 then s.oslCarry (some (pairDim s.oslMode (l / 2))) c
  else s.leavePool c

/-- An intact frame in order (R293 to R295). -/
def State.acceptFrame (s : State) (l : Nat) (b : List Byte) : State :=
  let n := min (byteAt b 8) 20
  let s := (s.bump (Reg.OSL_FRAMES_RX l)).updLink l (fun k =>
    let k := k.ack (BitVec.ofNat 32 (be b 4 4)) s.now
    { k with
      rxSeq := k.rxSeq + 1
      credits := (List.range 4).map (fun i => min 512 ((k.credits[i]?).getD 0 + byteAt b (12 + i))) })
  let s := if bit (byteAt b 9) 0 then s.replay l else s
  let s := (List.range n).foldl (fun s i => s.takeRec l (recOfBytes (slice b (16 + 24 * i) 24))) s
  (s.drainLink l).returnCredits

/-- LINK_FRAME_RX (R294): a frame that fails FEC or CRC, or is out of order, is discarded and answered with nak. -/
def execLinkFrameRx (link : Fin 16) (corrected : Nat) (fecOk : Bool) (bytes : List Byte) (s : State) : Out :=
  .next (
    let l := link.val
    let b := fit bytes 512
    if (s.link l).st ≠ 2 ∨ s.pow.devWaking.isSome then s
    else
      let s := s.addCnt (Reg.OSL_FEC_CORR l) corrected
      if fecOk = false then (s.bump (Reg.OSL_FEC_UNCORR l)).answerNak l
      else if be b 496 4 ≠ crc32c (b.take 496) then (s.bump (Reg.OSL_CRC_ERR l)).answerNak l
      else if be b 0 4 ≠ ((s.link l).rxSeq + 1).toNat then s.answerNak l
      else s.acceptFrame l b)

/-- REPLAY_TIMEOUT (R294): 2,000 ns have passed without acknowledgement progress. -/
def execReplayTimeout (link : Fin 16) (s : State) : Out :=
  .next (
    let k := s.link link.val
    if k.st = 2 ∧ k.retry.isEmpty = false ∧ s.passed k.progress 2000 then s.replay link.val else s)

/-! #### Link states (R296 to R298, R305) -/

/-- A link leaves service: its retry buffer and its landing pools are lost, and what waited for it, and then what was held for its direction, is routed again (R304, R305). -/
def State.dropLink (s : State) (l st fail : Nat) : State :=
  let k := s.link l
  let dim := pairDim s.oslMode (l / 2)
  let d := dirIndex dim (l % 2 == 0)
  let held := (s.osl.dirs.get d).heldBack
  let s := s.updLink l (fun k => { st := st, fail := fail, failedAt := s.now, era := k.era + 1 })
  let s := if held.isEmpty then s else s.updOsl (fun o => { o with dirs := o.dirs.upd d (fun x => { x with heldBack := [] }) })
  (k.waiting ++ held).foldl (fun s c => s.oslCarry (some dim) c) s

/-- A link enters FAILED; programs with unacknowledged records on it are aborted (R313). -/
def State.failLink (s : State) (l reason : Nat) : State :=
  let progs := ((s.link l).retry.flatMap (fun t => t.recs.flatMap OslRec.progs)).eraseDups
  let up := decide ((s.link l).st = 2) || decide ((s.link l).st = 3)
  let s := (s.dropLink l 4 reason).bumpIf up (Reg.OSL_DOWN l)
  progs.foldl (fun s p => s.raiseAbort p) s

/-- The width and the lanes a link trains at with its good lanes (R298). -/
def lanesFor (good : BitVec 4) : Nat × BitVec 4 :=
  if good = 15#4 then (3, 15#4)
  else if good &&& 3#4 = 3#4 then (2, 3#4)
  else if good &&& 12#4 = 12#4 then (2, 12#4)
  else match (List.range 4).find? (fun i => good.getLsbD i) with
    | some i => (1, BitVec.ofNat 4 (1 <<< i))
    | none => (0, 0#4)

/-- The neighbour a link faces (R300). -/
def State.neighbour (s : State) (l : Nat) : Nat :=
  let d := pairDim s.oslMode (l / 2)
  let n := (s.dims[d]?).getD 1
  let c := (chipCoord s.me d + (if l % 2 = 1 then 1 else n - 1)) % n
  chipOf (if d = 0 then c else chipX s.me) (if d = 1 then c else chipY s.me) (if d = 2 then c else chipZ s.me)

/-- Whether a peer is accepted (R297, R303). -/
def State.peerOk (s : State) (l : Nat) (p : PeerIdent) : Bool :=
  decide (p.sysId.toNat = s.fld Reg.OSL_SYS_ID_id) && decide (p.mode.toNat = s.oslMode)
    && decide (p.dims.toNat = (s.reg Reg.OSL_TOPO).toNat % 32768) && decide (p.link.toNat = l ^^^ 1)
    && (decide (s.oslMode = 1) || decide (p.addr.toNat = s.neighbour l))

/-- Whether a link pair's links are both enabled. -/
def State.pairEnabled (s : State) (k : Nat) : Bool := s.flag (Reg.OSL_LINK_CTRL_enable (2 * k)) && s.flag (Reg.OSL_LINK_CTRL_enable (2 * k + 1))

/-- Start a flood that declares a chip absent (R314). -/
def State.raiseAbsent (s : State) (chip : Nat) : State :=
  s.updOsl (fun o => { o with
    flood := o.flood + 1
    arrived := o.arrived ++ [controlRec 0 5 0 (BitVec.ofNat 128 (chip <<< 112 ||| o.flood.toNat <<< 80))] })

/-- A ring chip that sees its plus peer at a distance declares the chips between absent (R303). -/
def State.ringGap (s : State) (l : Nat) (peer : Nat) : State :=
  let n := (s.dims[0]?).getD 1
  let d := (chipX peer + n - chipX s.me) % n
  if s.oslMode = 1 ∧ l % 2 = 1 ∧ 2 ≤ d then
    (List.range (d - 1)).foldl (fun s i => s.raiseAbsent (chipOf ((chipX s.me + 1 + i) % n) (chipY s.me) (chipZ s.me))) s
  else s

/-- The directions whose neighbour is a chip: one, or both of a dimension of two chips. -/
def State.dirsTo (s : State) (dim chip : Nat) : List Nat :=
  [true, false].filterMap (fun m => if s.neighbour ((dirLinks s.oslMode dim m).headD 0) = chip then some (dirIndex dim m) else none)

/-- Note whether the chip that a position of a dimension holds has been declared absent. -/
def State.noteAbsent (s : State) (dim chip : Nat) (v : Bool) : State :=
  (s.dirsTo dim chip).foldl (fun s d => s.updOsl (fun o => { o with dirs := o.dirs.upd d (fun x => { x with absent := v }) })) s

/-- A direction has a link in service again. -/
def State.dirBack (s : State) (l : Nat) : State := s.noteAbsent (pairDim s.oslMode (l / 2)) (s.neighbour l) false

/-- LINK_TRAINED (R297, R298): the identity exchange completes; the link is ACTIVE, or FAILED. -/
def execLinkTrained (link : Fin 16) (lanes : BitVec 4) (peer : PeerIdent) (s : State) : Out :=
  .next (
    let l := link.val
    let (w, used) := lanesFor (lanes &&& peer.lanes)
    if (s.link l).st ≠ 1 then s
    else if w = 0 then s.failLink l 1
    else if s.peerOk l peer = false then s.failLink l 2
    else
      let s := s.updLink l (fun k => {
        st := 2, width := w, lanes := used, good := lanes, era := k.era, peer := some peer.addr, progress := s.now })
      ((s.dirBack l).ringGap l peer.addr.toNat).drainLink l)

/-- LANE_BAD (R298): a good lane goes bad; the link retrains without it. -/
def execLaneBad (link : Fin 16) (lane : Fin 4) (s : State) : Out :=
  .next (
    let l := link.val
    let rest := (s.link l).good &&& ~~~ (BitVec.ofNat 4 (1 <<< lane.val))
    if (s.link l).good.getLsbD lane.val = false then s
    else if (s.link l).st = 2 then (s.updLink l (fun k => { k with good := rest })).startRetrain l
    else if (s.link l).st = 3 then s.updLink l (fun k => { k with good := rest })
    else s)

/-- LINK_RETRAINED (R298): at the width the lanes good at both ends allow, with both retry buffers replayed; no lane left fails the link. -/
def execLinkRetrained (link : Fin 16) (peerLanes : BitVec 4) (s : State) : Out :=
  .next (
    let l := link.val
    let (w, used) := lanesFor ((s.link l).good &&& peerLanes)
    if (s.link l).st ≠ 3 then s
    else if w = 0 then s.failLink l 4
    else
      let s := s.updLink l (fun k => { k with st := 2, width := w, lanes := used, progress := s.now })
      (((s.dirBack l).resend l).drainLink l).returnCredits)

/-- LINK_SIGNAL_LOSS (R296): the signal is lost on every lane. -/
def execLinkSignalLoss (link : Fin 16) (s : State) : Out :=
  .next (if (s.link link.val).st = 2 ∨ (s.link link.val).st = 3 then s.failLink link.val 1 else s)

/-- LINK_RETRY (R296): a FAILED link trains again every OSL_RETRY_NS. -/
def execLinkRetry (link : Fin 16) (s : State) : Out :=
  .next (if (s.link link.val).st = 4 ∧ s.passed (s.link link.val).failedAt (s.fld Reg.OSL_RETRY_NS_ns) then
      s.updLink link.val (fun k => { k with st := 1 })
    else s)

/-- A write of 1 to OSL_LINK_CTRL.retrain (R298): an ACTIVE link retrains, with every lane tried again. -/
def State.retrainLink (s : State) (l : Nat) : State :=
  if (s.link l).st = 2 then (s.updLink l (fun k => { k with good := 15#4 })).startRetrain l else s

/-- LINK_RETRAIN_REQUEST (R298). -/
def execLinkRetrainRequest (link : Fin 16) (s : State) : Out := .next (s.coreWrite (some 6) (fun s => s.retrainLink link.val))

/-- LINK_SET_SWITCH (R305): every record sent on a direction's old links has been acknowledged; held records use the new set, or another way where it is empty. -/
def execLinkSetSwitch (dim : Fin 3) (plus : Bool) (s : State) : Out :=
  .next (
    let x := s.osl.dirs.get (dirIndex dim.val (!plus))
    if (x.links ≠ s.activeLinks dim.val (!plus) ∨ x.heldBack.isEmpty = false) ∧ s.dirQuiet (dirIndex dim.val (!plus)) then
      (s.settleDir dim.val (!plus)).returnCredits
    else s)

/-- The links that face a position next to this chip: those of one sign of a dimension, and of both where it has two chips (R300, R314). -/
def State.facing (s : State) (dim chip : Nat) : List Nat :=
  (dirLinks s.oslMode dim true ++ dirLinks s.oslMode dim false).filter (fun l => s.neighbour l == chip)

/-- ABSENT_TIMEOUT (R314): every enabled link toward a neighbour has been FAILED for OSL_ABSENT_NS. -/
def execAbsentTimeout (dim : Fin 3) (plus : Bool) (s : State) : Out :=
  .next (
    let d := dirIndex dim.val (!plus)
    let chip := s.neighbour ((dirLinks s.oslMode dim.val (!plus)).headD 0)
    let l := (s.facing dim.val chip).filter (fun l => s.flag (Reg.OSL_LINK_CTRL_enable l))
    if s.flag Reg.OSL_CTRL_enable ∧ l.isEmpty = false ∧ (s.osl.dirs.get d).absent = false
        ∧ l.all (fun l => decide ((s.link l).st = 4) && s.passed (s.link l).failedAt (s.fld Reg.OSL_ABSENT_NS_ns)) = true then
      (s.noteAbsent dim.val chip true).raiseAbsent chip
    else s)

/-! #### Floods and notices (R309, R312 to R314) -/

/-- Notices that wait at a reply chip end, their records ABORTED. -/
def State.dropNotices (s : State) (p : Nat) : State :=
  let l := (s.prog p).notices
  l.foldl (fun s x => if x.whole then s.sendResult x.seg 3 0 false else s) (s.updProg p (fun e => { e with notices := [], results := [] }))

/-- The plot of a program's slice on this chip. -/
def State.slicePlot (s : State) (p : Nat) : Option Nat := s.plotIds.find? (fun q => decide ((s.plot q).prog = some p))

/-- PROG_ABORT (R312, R313): the first copy is forwarded; at a chip that holds the program the generation rises, the slice's plot is revoked and the abort is counted; a program that runs or recovers is in RECOVER, a HALTED one stays HALTED. -/
def execProgAbort (which : Nat) (s : State) : Out :=
  .next (match s.takeArrived which 4 with
    | none => s
    | some (r, s) =>
      let p := bits r.data.toNat 123 120
      let g := bits r.data.toNat 119 112
      if s.osl.abortsSeen.contains (p, g) then s
      else
        let s := (s.updOsl (fun o => { o with abortsSeen := o.abortsSeen ++ [(p, g)] })).floodOut r
        let e := s.prog p
        if e.st ≠ 0 ∧ e.gen = g then
          let s := s.updProg p (fun e => { e with
            gen := (e.gen + 1) % 256, st := if e.st = 3 then 3 else 2, since := if e.st = 3 then e.since else s.now })
          let s := ((s.bump Reg.OSL_PROG_ABORT).dropNotices p)
          let s := s.updOsl (fun o => { o with abortsSeen := o.abortsSeen.filter (fun a => a != (p, (g + 1) % 256)) })
          match s.slicePlot p with
          | some q => s.revokePlot q
          | none => s
        else s)

/-- CHIP_ABSENT (R314): the first copy is forwarded, and programs whose box holds the chip are HALTED; at a home chip the rows queued for one are discarded. -/
def execChipAbsent (which : Nat) (s : State) : Out :=
  .next (match s.takeArrived which 5 with
    | none => s
    | some (r, s) =>
      let chip := bits r.data.toNat 126 112
      let q := bits r.data.toNat 111 80
      if s.osl.absentSeen.contains (chip, q) then s
      else
        let s := (s.updOsl (fun o => { o with absentSeen := o.absentSeen ++ [(chip, q)] })).floodOut r
        (List.range 16).foldl (fun s p =>
          let e := s.prog p
          if (e.st = 1 ∨ e.st = 2) ∧ s.inBox e chip = true then
            let s := s.updProg p (fun e => { e with st := 3 })
            if s.homeChip e = s.me then
              (s.addCnt Reg.OSL_HALT_DROP (s.model e.handle).queued.length).abortQueue e.handle
            else s
          else s) s)

/-- RECOVER_END (R312): 2 × OSL_ABSENT_NS after the abort the program runs again. -/
def execRecoverEnd (prog : Fin 16) (s : State) : Out :=
  .next (if (s.prog prog.val).st = 2 ∧ s.passed (s.prog prog.val).since (2 * s.fld Reg.OSL_ABSENT_NS_ns) then
      s.updProg prog.val (fun e => { e with st := 1 })
    else s)

/-- Whether a slice's plot can start the pass of a notice. -/
def State.sliceFree (s : State) (q : Nat) : Bool :=
  let p := s.plot q
  p.ready && !p.pass && !p.removing && !p.fault && !s.bay.revokes.contains (.plot q)
    && decide ((s.pow.fields.get p.field).st = 0) && ((s.pow.fields.get p.field).waking).isNone

/-- PASS_NOTICE (R309): the slice starts its pass under the notice's epoch, or abandons it where that epoch is not live; a notice waits while the slice's plot is busy or not there. -/
def execPassNotice (which : Nat) (s : State) : Out :=
  .next (match s.takeArrived which 1 with
    | none => s
    | some (r, t) =>
      let p := bits r.data.toNat 79 76
      let epoch := bits r.data.toNat 95 80
      if t.stale p r.gen then t.bump Reg.OSL_STALE_GEN
      else if t.liveEpochs.contains epoch = false then (t.bump Reg.OSL_EPOCH_MISS).raiseAbort p
      else match t.slicePlot p with
        | some q => if t.sliceFree q then t.beginPass q none epoch (bits r.data.toNat 127 96) [] else s
        | none => s)

/-! #### Program commands (R307, R309, R312, R315, R318) -/

/-- The data words of OSL_PROG_DATA. -/
def State.progData (s : State) : List Word := (List.range 8).map (fun i => s.wreg (Reg.OSL_PROG_DATA0 + 4 * i))

/-- The checks of R309 for this chip's place in the box: 0, or the status of the first that fails. -/
def State.sliceCheck (s : State) (e : ProgSt) : Nat :=
  if s.inBox e s.me = false then 0
  else
    let m := s.model e.handle
    let w := e.word 0
    let place := match m.plot with
      | some q => decide ((s.plot q).field = bits w 17 16) && decide ((s.plot q).x0 % 32 = bits w 23 18 % 32)
          && decide ((s.plot q).y0 % 32 = bits w 29 24 % 32)
      | none => false
    if m.st ≠ .resident ∨ m.pinned = false ∨ place = false then 3
    else if (allDescs m.image).any (fun d => widenEn m.image d.2) then 4
    else if s.homeChip e ≠ s.me ∧ hdrStateBytes m.hdr ≠ 0 then 5 else 0

/-- Whether a box passes the topology, or the handle is 0 (R318); without Oslink no program can be enabled. -/
def State.progBad (s : State) (e : ProgSt) : Bool :=
  let d := s.dims
  decide (e.handle = 0) || !s.flag Reg.OSL_CTRL_enable || decide ((d[0]?).getD 1 < bits (e.word 1) 19 15 + 1)
    || decide ((d[1]?).getD 1 < bits (e.word 1) 24 20 + 1) || decide ((d[2]?).getD 1 < bits (e.word 1) 29 25 + 1)

/-- A program command: 0 WRITE, 1 ENABLE, 2 DISABLE, 3 RESUME, 4 REMAP (R318). Of a reserved op only an open status is left. -/
def State.progCommand (s : State) (op : Nat) : State :=
  s.startCmd Reg.OSL_PROG_STAT_done Reg.OSL_PROG_STAT_status 1 (fun s =>
    let p := s.fld Reg.OSL_PROG_SEL_prog
    let e := s.prog p
    let fin (s : State) (c : Nat) : State := s.finishCmd Reg.OSL_PROG_STAT_done Reg.OSL_PROG_STAT_status c
    match op with
    | 0 => if e.st ≠ 0 then fin s 6 else fin (s.updProg p (fun e => { e with words := s.progData })) 0
    | 1 =>
      if e.st ≠ 0 then fin s 6
      else if s.progBad e then fin s 2
      else match s.sliceCheck e with
        | 0 => fin (s.updProg p (fun e => { e with st := 1 })) 0
        | c => fin s c
    | 2 => fin ((s.dropNotices p).updProg p (fun e => { e with st := 0 })) 0
    | 3 =>
      if e.st ≠ 3 then fin s 6
      else match s.sliceCheck e with
        | 0 => fin (s.updProg p (fun e => { e with gen := (e.gen + 1) % 256, st := 1 })) 0
        | c => fin s c
    | 4 => if e.st = 0 ∨ e.st = 3 then fin (s.updProg p (fun e => { e with words := e.words.take 4 ++ s.progData.drop 4 })) 0 else fin s 6
    | _ => let (v, s) := s.free; fin s (v.toNat % 8))

/-- PROG_WRITE (R318). -/
def execProgWrite (s : State) : Out := .next (s.coreWrite (some 6) (fun s => s.progCommand 0))
/-- PROG_ENABLE (R309). -/
def execProgEnable (s : State) : Out := .next (s.coreWrite (some 6) (fun s => s.progCommand 1))
/-- PROG_DISABLE (R312). -/
def execProgDisable (s : State) : Out := .next (s.coreWrite (some 6) (fun s => s.progCommand 2))
/-- RESUME (R315). -/
def execProgResume (s : State) : Out := .next (s.coreWrite (some 6) (fun s => s.progCommand 3))
/-- REMAP (R318). -/
def execProgRemap (s : State) : Out := .next (s.coreWrite (some 6) (fun s => s.progCommand 4))

/-! #### Link bypass pins, enables, remote reset (R301, R316) -/

/-- Whether a pair's bypass may stay open: not in torus modes, and with both links enabled (R301). -/
def State.lbypMay (s : State) (k : Nat) : Bool := decide (s.oslMode < 2) && s.flag Reg.OSL_CTRL_enable && s.pairEnabled k

/-- Whether a write that opens a pair's bypass is accepted (R301). -/
def State.lbypAllowed (s : State) (k : Nat) : Bool := decide (s.oslMode = 1) && s.coreReadyBit && s.flag Reg.OSL_CTRL_enable && s.pairEnabled k

/-- Drive low the pins of pairs that may not stay open (R301). -/
def State.lbypSettle (s : State) : State :=
  s.updOsl (fun o => { o with pins := BitVec.ofNat 8 ((setBits o.pins.toNat 8).foldl (fun n k => if s.lbypMay k then n + 2 ^ k else n) 0) })

/-- The pairs among those a write opens whose opening is refused. -/
def State.lbypRefused (s : State) (opens : Nat) : List Nat := (setBits opens 8).filter (fun k => !s.lbypAllowed k)

/-- A write of OSL_LBYP_CTRL (R301): the opens and then the closes, or, where an open is refused, neither (R418). -/
def State.lbypWrite (s : State) (opens closes : Nat) : State :=
  match s.lbypRefused opens with
  | [] => s.updOsl (fun o => { o with pins := (o.pins ||| BitVec.ofNat 8 opens) &&& ~~~ (BitVec.ofNat 8 closes) })
  | l => s.setFld Reg.OSL_LBYP_STAT_open_refused (l.foldl (fun n k => n ||| 1 <<< k) (s.fld Reg.OSL_LBYP_STAT_open_refused))

/-- LBYP_OPEN (R301). -/
def execLbypOpen (mask : BitVec 8) (s : State) : Out := .next (s.coreWrite (some 6) (fun s => s.lbypWrite mask.toNat 0))
/-- LBYP_CLOSE (R301). -/
def execLbypClose (mask : BitVec 8) (s : State) : Out := .next (s.coreWrite (some 6) (fun s => s.lbypWrite 0 mask.toNat))

/-- A link's enable or Oslink's enable has changed (R296): an enabled link trains, a disabled one is OFF. -/
def State.linkEnables (s : State) : State :=
  ((List.range 16).foldl (fun s l =>
    let on := s.flag Reg.OSL_CTRL_enable && s.flag (Reg.OSL_LINK_CTRL_enable l)
    if on && decide ((s.link l).st = 0) then s.updLink l (fun k => { k with st := 1 })
    else if !on && decide ((s.link l).st ≠ 0) then s.dropLink l 0 0 else s) s).lbypSettle

/-- A write of 1 to OSL_RRST.go (R316): a REMOTE_RESET leaves for the target. -/
def State.sendRemoteReset (s : State) : State :=
  s.oslSubmit none (controlRec (s.fld Reg.OSL_RRST_target) 6 0 (BitVec.ofNat 128 (s.fld Reg.OSL_RRST_CODE_code <<< 96)))

/-- RRST_GO (R316). -/
def execRrstGo (target : BitVec 15) (s : State) : Out := .next (s.coreWrite (some 6) (fun s => (s.setFld Reg.OSL_RRST_target target.toNat).sendRemoteReset))

end Sys2Proof.Machine
end

