-- ==== Sys2Proof/Machine/Power.lean ====
section
/-! DEFINITION. Pace and power: the governor and its gate, the supply, power samples, field and device power states, thermal control (R319 to R339). -/

namespace Sys2Proof.Machine

/-- Change the power unit. -/
def State.updPow (s : State) (f : PowSt → PowSt) : State := { s with pow := f s.pow }

/-- A field's power. -/
def State.fieldPow (s : State) (f : Nat) : FieldPow := s.pow.fields.get f

/-- Change a field's power. -/
def State.updFieldPow (s : State) (f : Nat) (g : FieldPow → FieldPow) : State :=
  s.updPow (fun p => { p with fields := p.fields.upd f g })

/-- Tj in whole degrees, clamped to a byte. -/
def clampTj (t : Int) : Nat := (clamp 0 255 t).toNat

/-- Send a THERMAL event (R337): its kind, Tj, and the field of the sensor concerned or 4. -/
def State.thermalEvent (s : State) (kind field : Nat) : State :=
  s.event 7 (kind <<< 8 ||| s.fld Reg.PAC_TJ_MAX_tj <<< 12 ||| field <<< 20)

/-! #### Pace (R321, R331) -/

/-- The least of a list. -/
def least : List Nat → Option Nat
  | [] => none
  | a :: r => some (r.foldl min a)

/-- A field's pace: the lowest of its four replica rings, of those that have latched one (R321). -/
def FieldPow.pace (p : FieldPow) : Option Nat := least ((List.range 4).filterMap (fun r => p.rings.get r))

/-- The governor's measured pace: the lowest field pace over all fields that are ACTIVE (R321). -/
def State.measured (s : State) : Option Nat :=
  least ((List.range 4).filterMap (fun f => if (s.fieldPow f).st = 0 then (s.fieldPow f).pace else none))

/-- The lower of two paces of which either may be missing. -/
def lower : Option Nat → Option Nat → Option Nat
  | some a, some b => some (min a b)
  | some a, none => some a
  | none, b => b

/-- Note a field's pace in min_mgs, the lowest since the last read of PAC_PACE (R339); 0 says that none is noted yet. -/
def State.noteMin (s : State) (f pace : Nat) : State :=
  let m := s.fld (Reg.PAC_PACE_min_mgs f)
  if m = 0 ∨ pace < m then s.setFld (Reg.PAC_PACE_min_mgs f) pace else s

/-- Keep the lowest measured pace since the last decision (R321). -/
def State.noteLow (s : State) : State := s.updPow (fun p => { p with low := lower p.low s.measured })

/-- PACE_FALL_LATCH (R321): a replica ring, of quadrant `ring` mod 4 of field `ring` / 4, latches its pace; the lowest measured pace since the last decision is kept. A field's rings run while it is ACTIVE or QUIET, once the core is released. -/
def execPaceFallLatch (ring : Fin 16) (pace : BitVec 16) (s : State) : Out :=
  let f := ring.val / 4
  .next (
    if (s.fieldPow f).st < 2 ∧ s.rst.coreReady = true then
      let s := s.updFieldPow f (fun p => { p with rings := p.rings.set (ring.val % 4) (some pace.toNat) })
      (s.noteMin f ((s.fieldPow f).pace.getD 0)).noteLow
    else s)

/-- The measured pace lies more than hyst below the target (R331). -/
def State.paceShort (s : State) : Bool :=
  (s.measured.map (fun m => decide (m + s.fld Reg.PAC_TARGET_hyst_mgs < s.fld Reg.PAC_TARGET_target_mgs))).getD false

/-! #### Power samples (R324) -/

/-- The mean of the last 1,000 power samples, in 0.01 W, rounded down. -/
def State.avgPower (s : State) : Nat := s.pow.samples.foldl (· + ·) 0 / max 1 s.pow.samples.length

/-- The last power sample. -/
def State.lastPower (s : State) : Nat := s.pow.samples.headD 0

/-- The last sample exceeds 5/4 of the cap. -/
def State.farOver (s : State) : Bool := decide (s.fld Reg.PAC_CAP_cap_w * 125 < s.lastPower)

/-- The 1 ms average exceeds the cap, or the last sample 5/4 of it (R327). -/
def State.overCap (s : State) : Bool :=
  decide (s.fld Reg.PAC_CAP_cap_w * 100 * s.pow.samples.length < s.pow.samples.foldl (· + ·) 0) || s.farOver

/-- POWER_SAMPLE (R324): core power from the measured current (in 10 mA) and the setpoint, the other rails' last poll, and HBM power, added and entered in the average, every 1,000 ns. -/
def execPowerSample (current hbmCw dieMv : Nat) (s : State) : Out :=
  .next (
    if s.pow.on && (s.pow.sampledAt.map (fun t => s.passed t 1000)).getD true then
      let w := current * s.pow.mv / 1000 + s.pow.rails.foldl (fun n r => n + r.2) 0 + hbmCw
      s.updPow (fun p => { p with samples := (w :: p.samples).take 1000, current := current, dieMv := dieMv, sampledAt := some s.now })
    else s)

/-- The commands with which a poll reads a regulator (R322): READ_VIN, READ_VOUT, READ_IOUT, READ_TEMPERATURE_1, READ_POUT and STATUS_WORD, by their PMBus codes. Which of them a poll uses beyond READ_POUT and READ_VOUT, and when CLEAR_FAULTS is sent, is open: all six, and never (DESIGN CHOICE, log 214). -/
def pollCommands : List Nat := [0x88, 0x8B, 0x8C, 0x8D, 0x96, 0x79]

/-- A poll reads one regulator (R322, R324, R395): one that answered the probe. Regulator 0 is the core's, regulator r + 1 that of rail r. One that does not answer keeps its last value and is counted. -/
def State.pollTarget (s : State) (answered : BitVec 9) (readings : List (Nat × Nat)) (k : Nat) : State :=
  if bit s.rst.probed.toNat k = false then s
  else
    let s := pollCommands.foldl (fun s c => s.emit (.pmbusRead k c)) s
    let v := (readings[k]?).getD (0, 0)
    if bit answered.toNat k = false then s.bump Reg.PAC_PMBUS_ERR
    else if k = 0 then s.updPow (fun p => { p with coreRail := v })
    else s.updPow (fun p => { p with rails := p.rails.set (k - 1) v })

/-- PMBUS_POLL (R322, R324, R395): every regulator that answered the probe is read, every 1,000,000 ns. Bit k of `answered` and element k of `readings`, its READ_VOUT and READ_POUT, are those of regulator k. -/
def execPmbusPoll (answered : BitVec 9) (readings : List (Nat × Nat)) (s : State) : Out :=
  .next (
    if s.pow.on && (s.pow.polledAt.map (fun t => s.passed t 1000000)).getD true then
      (List.range 9).foldl (fun s k => s.pollTarget answered readings k) (s.updPow (fun p => { p with polledAt := some s.now }))
    else s)

/-! #### The governor (R327 to R330) -/

/-- The lower of vmax_mv and the thermal ceiling. -/
def State.govCeil (s : State) : Nat :=
  min (s.fld Reg.PAC_VLIM_vmax_mv) ((s.pow.ceil).getD (s.fld Reg.PAC_VLIM_vmax_mv))

/-- The thermal ceiling moves (R336): in THROTTLE down by a step at every hundredth decision with Tj at 100 °C or above, to vmin at the lowest; after it up by a step at every thousandth, until it reaches vmax. -/
def State.moveCeil (s : State) : State :=
  match s.pow.ceil with
  | none => s
  | some c =>
    let step := s.fld Reg.PAC_STEP_step_mv
    let vmin := s.fld Reg.PAC_VLIM_vmin_mv
    let n := s.pow.thrCount + 1
    if s.pow.throttle then
      if s.fld Reg.PAC_TJ_MAX_tj < 100 then s
      else if n % 100 = 0 then s.updPow (fun p => { p with thrCount := n, ceil := some (max vmin (c - step)) })
      else s.updPow (fun p => { p with thrCount := n })
    else if n % 1000 = 0 then
      let up := c + step
      s.updPow (fun p => { p with thrCount := n, ceil := if s.fld Reg.PAC_VLIM_vmax_mv ≤ up then none else some up })
    else s.updPow (fun p => { p with thrCount := n })

/-- The setpoint a decision arrives at (R327). With avs_fault set the governor makes no step (R330). -/
def State.nextMv (s : State) (pace : Option Nat) : Nat :=
  let v := s.pow.mv
  let step := s.fld Reg.PAC_STEP_step_mv
  let vmin := s.fld Reg.PAC_VLIM_vmin_mv
  let ceil := s.govCeil
  let target := s.fld Reg.PAC_TARGET_target_mgs
  let hyst := s.fld Reg.PAC_TARGET_hyst_mgs
  let enable := s.flag Reg.PAC_CTRL_enable
  let low := (pace.map (fun p => decide (p + hyst < target))).getD false
  let high := (pace.map (fun p => decide (target + hyst < p))).getD false
  if s.flag Reg.PAC_STAT_avs_fault then v
  else
    let w := if s.overCap then v - (if s.farOver then 2 * step else step)
      else if enable && low && decide (v + step ≤ ceil) then v + step
      else if enable && high && decide (vmin + step ≤ v) then v - step
      else v
    if ceil < vmin then vmin else max vmin (min w ceil)

/-- The dispatch gate at a decision (R328, R330, R336): `v` is the setpoint before the decision's own step. -/
def State.gateStep (s : State) (v : Nat) : State :=
  let isOver := s.overCap
  let atMin := decide (v = s.fld Reg.PAC_VLIM_vmin_mv)
  let en := s.flag Reg.PAC_CTRL_gate_en
  let byCap := isOver && en && (atMin || s.flag Reg.PAC_STAT_avs_fault)
  let byHeat := s.pow.throttle && atMin
  let old := s.pow.gate
  let g := if byCap || byHeat then (if old = 0 then 1024 else min 65536 (2 * old))
    else if s.pow.gateCap && !en then 0
    else if isOver then old
    else if old / 2 < 1024 then 0 else old / 2
  let s := s.updPow (fun p => { p with
    gate := g, gateCap := decide (g ≠ 0) && (byCap || (p.gateCap && !byHeat))
    gateTop := if g = 65536 ∧ (isOver || byHeat) = true then p.gateTop + 1 else 0 })
  if old = 0 ∧ g ≠ 0 then s.thermalEvent 3 4 else if old ≠ 0 ∧ g = 0 then s.thermalEvent 4 4 else s

/-- The running target completes (R329), and the pending one becomes the running target. -/
def State.targetStep (s : State) (pace : Option Nat) : State :=
  let target := s.fld Reg.PAC_TARGET_target_mgs
  let hyst := s.fld Reg.PAC_TARGET_hyst_mgs
  let within := (pace.map (fun p => decide (p ≤ target + hyst) && decide (target ≤ p + hyst))).getD false
  let v := s.pow.mv
  if s.pow.running && (within || s.overCap || decide (v = s.fld Reg.PAC_VLIM_vmin_mv) || decide (v = s.govCeil)) then
    match s.pow.pendTarget with
    | none => s.updPow (fun p => { p with running := false })
    | some w => (s.updPow (fun p => { p with pendTarget := none })).hwUpdate (fun s => s.setReg Reg.PAC_TARGET (w.setWidth 64))
  else s

/-- Write the setpoint over AVSBus (R322). -/
def State.avsWrite (s : State) (mv : Nat) : State :=
  (s.updPow (fun p => { p with writing := true, retry := false })).emit (.avs mv)

/-- GOVERNOR_DECISION (R327): made once at a Thyme instant that is a whole multiple of 1,000 ns, from the governor's start. -/
def execGovernorDecision (s : State) : Out :=
  .next (
    if s.pow.on && decide (s.thyme.toNat % 1000 = 0) && decide (s.pow.lastAt ≠ some s.now) then
      let pace := lower s.pow.low s.measured
      let v := s.pow.mv
      let s := s.moveCeil
      let w := s.nextMv pace
      let s := s.gateStep v
      let s := s.updPow (fun p => { p with mv := w, capOver := s.overCap, lastAt := some s.now, low := s.measured })
      let s := s.targetStep pace
      let s := (List.range 4).foldl (fun s f => match (if (s.fieldPow f).st < 2 then (s.fieldPow f).pace else none) with
        | none => s
        | some q => (s.setFld (Reg.PAC_PACE_pace_mgs f) q).noteMin f q) s
      let s := s.bump Reg.PAC_DECISIONS
      let s := s.bumpIf (decide (v < w)) Reg.PAC_VSTEP_UP
      let s := s.bumpIf (decide (w < v)) Reg.PAC_VSTEP_DOWN
      let s := s.updPow (fun p => { p with decisions := ((w, pace.getD 0, s.avgPower) :: p.decisions).take 1024 })
      if s.flag Reg.PAC_STAT_avs_fault then s
      else if w ≠ v ∨ s.pow.retry = true then s.avsWrite w else s
    else s)

/-- AVS_WRITE_COMPLETE (R330): a write that fails is retried at the next decision; after the third failure the setpoint freezes at the last value acknowledged. -/
def execAvsWriteComplete (ok : Bool) (s : State) : Out :=
  .next (
    if s.pow.writing = false then s
    else if ok then s.updPow (fun p => { p with writing := false, retry := false, tries := 0, acked := p.mv })
    else
      let s := (s.updPow (fun p => { p with writing := false, tries := p.tries + 1, retry := true })).bump Reg.PAC_AVS_ERR
      if s.pow.tries < 3 then s
      else
        let s := (s.updPow (fun p => { p with tries := 0, retry := false, mv := p.acked })).stick Reg.PAC_STAT_avs_fault
        (s.updRep (fun r => { r with triggers := r.triggers ++ [.avsFault] })).thermalEvent 6 4)

/-- avs_fault is cleared by writing 1 to it: AVSBus writes resume (R330). -/
def State.avsResume (s : State) : State := s.updPow (fun p => { p with tries := 0, retry := false })

/-- A write of PAC_TARGET (R329, R339): out of range it is refused; it runs, waits as pending, or is refused with BUSY. -/
def State.targetWrite (s : State) (v : Word) : State :=
  let t := bits v.toNat 15 0
  let w : Word := BitVec.ofNat 32 (v.toNat % 2 ^ 24)
  if t < 900 ∨ 2000 < t then s
  else if s.pow.running = false then (s.updPow (fun p => { p with running := true })).setReg Reg.PAC_TARGET (w.setWidth 64)
  else if s.pow.pendTarget.isNone then s.updPow (fun p => { p with pendTarget := some w })
  else s.stick Reg.PAC_STAT_busy

/-- PAC_TARGET_WRITE (R329). -/
def execPacTargetWrite (value : Word) (s : State) : Out := .next (s.coreWrite none (fun s => s.targetWrite value))

/-! #### Power states (R325, R326, R332 to R335, R338) -/

/-- The exit latency of a field's power state over the operating range, in ns (R338). -/
def exitNs (st : Nat) : Nat := if st = 0 then 0 else if st = 1 then 330 else if st = 2 then 5000 else 50000

/-- Whether a PASS_NOTICE waits for a slice in a field (R309). -/
def State.noticeFor (s : State) (f : Nat) : Bool :=
  s.osl.arrived.any (fun r => decide (r.kind = 1)
    && ((s.slicePlot (bits r.data.toNat 79 76)).map (fun q => decide ((s.plot q).field = f))).getD false)

/-- Rows wait for a plot of a field, or run on one. -/
def State.fieldRows (s : State) (f : Nat) : Bool :=
  s.noticeFor f || (s.fieldPlots f).any (fun p => (s.plot p).pass || !(s.model (s.plot p).handle).queued.isEmpty)

/-- A commit of a field runs, waits or is about to be issued. -/
def State.fieldCommits (s : State) (f : Nat) : Bool :=
  let x := s.field f
  x.accepted.isSome || x.running.isSome || x.pending.isSome || !x.waiting.isEmpty || x.leaving.isSome

/-- The conditions of QUIET (R332): no row running or queued, no commit, no widen run, no state access in flight. A field in adaptation never leaves ACTIVE. -/
def State.quietOk (s : State) (f : Nat) : Bool :=
  !s.fieldRows f && !s.fieldCommits f && !(s.field f).adaptation
    && !s.fab.reqs.any (fun r => decide ((s.plot r.plot).field = f))
    && !(s.fieldPlots f).any (fun p => !(s.plot p).backs.isEmpty)

/-- The conditions of RETENTION: as QUIET, and no slice of a spanning program in RUN or RECOVER. -/
def State.retentionOk (s : State) (f : Nat) : Bool :=
  s.quietOk f && (s.fieldPlots f).all (fun p => ((s.plot p).prog.map (fun g => decide ((s.prog g).st ≠ 1) && decide ((s.prog g).st ≠ 2))).getD true)

/-- The conditions of OFF: as RETENTION, and no plot placed. -/
def State.offOk (s : State) (f : Nat) : Bool := s.retentionOk f && (s.fieldPlots f).isEmpty

/-- Some inline pair's bypass is OPENING or OPEN (R334). -/
def State.inlineOpen (s : State) : Bool := (List.range (s.portCount / 2)).any (fun k => decide ((s.pair k).st ≠ .engaged))

/-- A field that holds a plot of a Tier-0 model stays ACTIVE or QUIET while a bypass is not ENGAGED (R334). -/
def State.keptLight (s : State) (f : Nat) : Bool :=
  s.inlineOpen && (s.fieldPlots f).any (fun p => (s.model (s.plot p).handle).tier0)

/-- Whether a field qualifies for a power state (R287, R332, R334): its conditions have held for the dwell time, its exit latency is within the wake budget, and sleeping is allowed. -/
def State.mayEnter (s : State) (f st : Nat) : Bool :=
  let p := s.fieldPow f
  let held (at_ : Option Nat) (dwell : Nat) : Bool := (at_.map (fun t => s.passed t dwell)).getD false
  s.flag Reg.PAC_CTRL_sleep_en && !s.flag (Reg.PAC_FLD_STATE_hold_active f)
    && decide (exitNs st ≤ s.fld (Reg.HIF_WAKE_BUDGET_budget_ns f))
    && (match st with
      | 1 => s.quietOk f && held p.quietAt (s.fld Reg.PAC_DWELL_QUIET_ns)
      | 2 => s.retentionOk f && held p.retAt (s.fld Reg.PAC_DWELL_RET_ns) && !s.keptLight f
      | _ => s.offOk f && held p.offAt (s.fld Reg.PAC_DWELL_OFF_ns) && !s.keptLight f)

/-- A field enters a power state; the state it left is kept for this nanosecond (R335). -/
def State.enterPower (s : State) (f st : Nat) : State :=
  s.updFieldPow f (fun p => { p with
    st := st, entered := if (p.entered.map (·.1)) = some s.now then p.entered else some (s.now, p.st) })

/-- POWER_STATE_ENTRY (R332): the field enters the deepest state that qualifies, if that is deeper than its own. -/
def execPowerStateEntry (field : Fin 4) (s : State) : Out :=
  .next (
    let p := s.fieldPow field.val
    if s.rst.coreReady = false ∨ p.waking.isSome = true then s
    else match [3, 2, 1].find? (fun st => decide (p.st < st) && s.mayEnter field.val st) with
      | some st => s.enterPower field.val st
      | none => s)

/-- The conditions of IDLE other than the dwell (R333, R334). -/
def State.idleOk (s : State) : Bool :=
  (List.range 4).all (fun f => decide (2 ≤ (s.fieldPow f).st) && (s.fieldPow f).waking.isNone)
    && decide (15000 ≤ s.fld Reg.HIF_WAKE_DEV_budget_ns) && !s.inlineOpen && !s.flag Reg.OSL_CTRL_enable
    && s.hif.descs.cells.all (fun d => decide (d.2.st = .done))
    && s.hif.qps.cells.all (fun q => decide (q.2.st ≠ .active) || decide (q.2.sqHead = q.2.sqTail))

/-- DEVICE_IDLE_ENTRY (R333): the conditions have held for PAC_DWELL_RET. -/
def execDeviceIdleEntry (s : State) : Out :=
  .next (
    if s.rst.coreReady && s.flag Reg.PAC_CTRL_sleep_en && !s.pow.idle && s.pow.devWaking.isNone && s.idleOk
        && (s.pow.idleAt.map (fun t => s.passed t (s.fld Reg.PAC_DWELL_RET_ns))).getD false then
      s.updPow (fun p => { p with idle := true, idleFrom := some s.now })
    else s)

/-- Work has arrived for a field (R334, R335): a row, a placement or commit or role change, a state access; hold_active keeps it ACTIVE, and a plot of a Tier-0 model calls it out of RETENTION and OFF while a bypass is not ENGAGED. -/
def State.fieldWork (s : State) (f : Nat) : Bool :=
  s.fieldRows f || s.fieldCommits f || s.fab.reqs.any (fun r => decide ((s.plot r.plot).field = f))
    || s.flag (Reg.PAC_FLD_STATE_hold_active f) || decide ((s.fieldPow f).waking.isSome)
    || (decide (2 ≤ (s.fieldPow f).st) && s.keptLight f)

/-- A field begins to wake towards a power state, and the device leaves IDLE, in which no field is awake (R326). -/
def State.beginWake (s : State) (f goal : Nat) : State :=
  s.leaveIdle.updFieldPow f (fun p => { p with goal := if p.waking.isSome then min p.goal goal else goal, waking := some (p.waking.getD s.now) })

/-- An entry of this nanosecond is cancelled: the field stands where it stood (R335). -/
def State.cancelEntry (s : State) (f : Nat) : State :=
  match (s.fieldPow f).entered with
  | some (t, st) => if t = s.now ∧ (s.fieldPow f).waking.isNone = true then s.leaveIdle.updFieldPow f (fun p => { p with st := st, entered := none }) else s
  | none => s

/-- FIELD_WAKE (R335): an entry of the same nanosecond is cancelled, and a field that sleeps wakes. -/
def execFieldWake (field : Fin 4) (s : State) : Out :=
  .next (
    if 0 < (s.fieldPow field.val).st ∧ s.fieldWork field.val = true then
      let s := s.cancelEntry field.val
      if 0 < (s.fieldPow field.val).st then s.beginWake field.val 0 else s
    else s)

/-- DEVICE_WAKE (R333, R335): the device leaves IDLE for RUN. -/
def execDeviceWake (_cause : WakeCause) (s : State) : Out := .next s.leaveIdle

/-- A write of a field's wake budget (R287, R335): a field whose state no longer fits wakes to the deepest state that the new budget allows. -/
def State.wakeBudgetWrite (s : State) (f : Nat) (v : Word) : State :=
  let s := s.setReg (Reg.HIF_WAKE_BUDGET f) (v.setWidth 64)
  let st := (s.fieldPow f).st
  if v.toNat < exitNs st then
    s.beginWake f ((([2, 1].find? (fun g => decide (g < st) && decide (exitNs g ≤ v.toNat)))).getD 0)
  else s

/-- WAKE_BUDGET_WRITE (R335). -/
def execWakeBudgetWrite (field : Fin 4) (value : Word) (s : State) : Out :=
  .next (s.coreWrite none (fun s => s.wakeBudgetWrite field.val value))

/-- WAKE_COMPLETE (R335, R338): the exit latency has ended. A wake that took longer than the latest figure is counted. A field that was OFF can take the placements that waited, and with the device in RUN the open requests that waited for it are judged. The measured pace of a field that is now ACTIVE counts in the lowest since the last decision; after RETENTION or OFF its rings have latched none yet (R321). -/
def execWakeComplete (unit : WakeUnit) (s : State) : Out :=
  .next (match unit with
    | .device =>
      match s.pow.devWaking with
      | none => s
      | some t =>
        (((s.updPow (fun p => { p with devWaking := none })).bump Reg.PAC_WAKES).bumpIf (s.exceeded t 15000) Reg.PAC_WAKE_LATE).judgeWaiting
    | .field f =>
      let p := s.fieldPow f.val
      match p.waking with
      | none => s
      | some t =>
        let s := s.updFieldPow f.val (fun p => { p with
          st := p.goal, waking := none, goal := 0, quietAt := none, retAt := none, offAt := none
          rings := if 2 ≤ p.st then p.rings.clear else p.rings })
        let s := (s.noteLow.bump Reg.PAC_WAKES).bumpIf (s.exceeded t (exitNs p.st)) Reg.PAC_WAKE_LATE
        if p.st = 3 then s.retryPlaces else s)

/-! #### Thermal control (R336) -/

/-- One sensor's reading: outside −40 to 150 °C, or without an answer, it is counted as faulty and taken as 100 °C. -/
def State.readSensor (s : State) (i : Nat) (r : Option Int) : State :=
  match r with
  | some t =>
    if -40 ≤ t ∧ t ≤ 150 then s.setReg (Reg.PAC_TJ i) (BitVec.ofNat 64 (clampTj t))
    else (s.setReg (Reg.PAC_TJ i) (BitVec.ofNat 64 (100 + 256))).bump Reg.PAC_SENSOR_FAULT
  | none => (s.setReg (Reg.PAC_TJ i) (BitVec.ofNat 64 (100 + 256))).bump Reg.PAC_SENSOR_FAULT

/-- The sensor with the highest reading, the lowest number among equals. -/
def State.hottest (s : State) : Nat :=
  (List.range 16).foldl (fun b i => if s.fld (Reg.PAC_TJ_tj b) < s.fld (Reg.PAC_TJ_tj i) then i else b) 0

/-- THROTTLE is entered at 100 °C and left at 97 °C (R336). -/
def State.throttleStep (s : State) (tj field : Nat) : State :=
  if s.pow.throttle = false ∧ 100 ≤ tj then
    (s.updPow (fun p => { p with throttle := true, ceil := some p.mv, thrCount := 0 })).thermalEvent 1 field
  else if s.pow.throttle = true ∧ tj ≤ 97 then
    (s.updPow (fun p => { p with throttle := false, thrCount := 0 })).thermalEvent 2 field
  else s

/-- SENSOR_SWEEP (R336): the sixteen sensors are read at a Thyme instant that is a whole multiple of 10,000 ns. -/
def execSensorSweep (readings : List (Option Int)) (s : State) : Out :=
  if readings.length ≠ 16 then .fault .illFormed
  else .next (
    if s.phase = 0 ∨ s.thyme.toNat % 10000 ≠ 0 then s
    else
      let s := (List.range 16).foldl (fun s i => s.readSensor i ((readings[i]?).getD none)) s
      let k := s.hottest
      let tj := s.fld (Reg.PAC_TJ_tj k)
      let s := s.setReg Reg.PAC_TJ_MAX (BitVec.ofNat 64 (tj ||| k <<< 8))
      let s := (List.range 16).foldl (fun s i => if s.flag (Reg.PAC_TJ_fault i) then s.thermalEvent 5 (i / 4) else s) s
      let s := s.updPow (fun p => { p with swept := true, hot := if 115 ≤ tj then p.hot + 1 else 0 })
      s.throttleStep tj (k / 4))

/-- The conditions of the power states since when they have held, as the clock sees them (R332, R333). -/
def State.notePower (s : State) : State :=
  let since (ok : Bool) (at_ : Option Nat) : Option Nat := if ok then some (at_.getD s.now) else none
  let s := (List.range 4).foldl (fun s f =>
    let q := s.quietOk f
    let r := s.retentionOk f
    let o := s.offOk f
    s.updFieldPow f (fun p => { p with quietAt := since q p.quietAt, retAt := since r p.retAt, offAt := since o p.offAt })) s
  let i := s.idleOk
  s.updPow (fun p => { p with idleAt := since i p.idleAt })

end Sys2Proof.Machine
end

