-- ==== Sys2Proof/Machine/Access.lean ====
section
/-! DEFINITION. What a register shows on a read where it shows the state of its block, and which writes the register's own rules refuse (R13 to R15, R358, R381, R418 and the register tables of every chapter). -/

namespace Sys2Proof.Machine

/-- A register's value with some of its fields replaced, each given as its bits and its value. -/
def showFlds (v : DWord) (l : List (Nat × Nat × Nat)) : DWord := l.foldl (fun v f => putBits v f.1 f.2.1 f.2.2) v

/-! #### Values shown -/

/-- Whether a block could be isolated (R358): no handshake is in flight at its ports, no access waits on the register bus, no leased access is pending. -/
def State.blockIdle (s : State) (b : Nat) : Bool :=
  s.rst.stuck.isEmpty && (match b with
    | 0 => s.prs.waiting.isEmpty && s.prs.chives.keys.all (fun c => decide ((s.chive c).phase = .idle))
    | 1 => s.rul.lookups.isEmpty && s.rul.misses.isEmpty && s.rul.sweepTs.isNone && s.rul.emCmd.isNone
    | 2 => s.sfe.queue.isEmpty && s.waitingSeg.isNone && s.sfe.order.isEmpty && s.sfe.loading.isEmpty
      && s.sfe.rows.cells.all (fun c => decide (c.2.st ≠ .taken) || c.2.job.isSome)
    | 3 => s.erp.results.isEmpty
    | 4 => !s.num.installing
    | 5 => (List.range 4).all (fun n => decide ((s.adp.jobs.get n).st ≠ 2) && decide ((s.adp.jobs.get n).st ≠ 3))
    | _ => s.osl.arrived.isEmpty && (List.range 16).all (fun l => (s.link l).waiting.isEmpty)
      && (List.range 6).all (fun d => (s.osl.dirs.get d).heldBack.isEmpty))

/-- The valid capsule header and body of the boot flash (R375, R376). -/
def Flash.capsuleOk (f : Flash) : Bool :=
  let c := f.capsule
  let n := le c 16 4
  decide (le c 0 2 = 0xC7AB) && decide (byteAt c 2 = 1) && decide (64 ≤ n) && decide (n ≤ 1048576)
    && decide (n ≤ c.length) && decide (le c 32 4 = crc32c (slice c 64 (n - 64)))

/-- What the RST and PAC registers show (13, 14). -/
def State.shownRst (s : State) (b : Nat) (i : Nat) (v : DWord) : DWord :=
  if b = Reg.RST_STAT then showFlds v [(4, 4, b2n s.coreReadyBit)]
  else if b = Reg.RST_IDLE then
    showFlds v [(6, 0, (List.range 7).foldl (fun n k => n ||| b2n (s.blockIdle k) <<< k) 0)]
  else if b = Reg.PAC_STAT then
    showFlds v [(9, 0, s.pow.mv), (10, 10, b2n s.pow.running), (11, 11, b2n s.pow.pendTarget.isSome),
      (13, 13, b2n s.pow.capOver), (14, 14, b2n (decide (s.pow.gate ≠ 0))), (15, 15, b2n s.pow.throttle)]
  else if b = Reg.PAC_POWER then showFlds v [(15, 0, s.avgPower), (31, 16, s.lastPower)]
  else if b = Reg.PAC_FLD_STATE 0 then showFlds v [(1, 0, (s.fieldPow i).st)]
  else if b = Reg.PAC_DEV_STATE then showFlds v [(0, 0, b2n s.pow.idle)]
  else if b = Reg.PAC_GATE then showFlds v [(16, 0, s.pow.gate)]
  else v

/-- What the THY and MAC registers show (02). Ports above the count for the mode read zero. -/
def State.shownMac (s : State) (b : Nat) (i : Nat) (v : DWord) : DWord :=
  if Reg.MAC_PORT_CTRL 0 ≤ b ∧ b < Reg.MAC_PAIR_CTRL 0 ∧ s.portCount ≤ i then 0
  else if b = Reg.THY_STAT then showFlds v [(1, 0, s.lockState)]
  else if b = Reg.THY_TIME then s.thyme
  else if b = Reg.THY_ADJ_PHASE then (ofInt32 s.slewRemainder).setWidth 64
  else if b = Reg.MAC_PORT_STAT 0 then
    let p := s.port i
    showFlds v [(0, 0, b2n p.pcsLock), (1, 1, b2n p.linkUp),
      (2, 2, b2n (decide (s.now10 < p.pauseUntil) || p.pfcUntil.any (fun t => decide (s.now10 < t))))]
  else if b = Reg.MAC_BYP_STAT 0 then
    let code := match (s.pair i).st with
      | .engaged => 0
      | .opening => 1
      | .open => 2
    showFlds v [(1, 0, code), (2, 2, b2n (s.bypPin i)), (3, 3, b2n (s.hbFresh i))]
  else v

/-- The word of the bank that is not active (R61). -/
def State.progWinRead (s : State) (i : Nat) : DWord := if s.prs.active = 0 then s.prs.bank1.get i else s.prs.bank0.get i

/-- What a field that names what drains shows while nothing drains: its reset value 0 before the first commit, and then an open value. -/
def idleDrain (reg count : Nat) : Nat := if count = 0 then 0 else Config.idleDrain reg count

/-- What the PRS and RUL registers show (03, 04). -/
def State.shownRul (s : State) (b : Nat) (i : Nat) (v : DWord) : DWord :=
  if b = Reg.PRS_PROG_STAT then showFlds v [(0, 0, s.prs.active), (1, 1, b2n s.prs.draining), (3, 3, b2n s.prs.loaded)]
  else if b = Reg.PRS_CHIVE_BUSY then
    showFlds v [(8, 0, (s.prs.chives.keys.filter (fun c => decide ((s.chive c).phase ≠ .idle))).length)]
  else if b = Reg.PRS_PROG_WIN 0 then s.progWinRead i
  else if b = Reg.RUL_VER_STAT then
    let r := s.rul
    showFlds v [(3, 0, r.current), (7, 4, r.staged), (11, 8, r.draining.getD (idleDrain b r.commitSeq.toNat)), (12, 12, b2n r.draining.isSome),
      (13, 13, b2n r.pending.isSome), (31, 16, r.commitSeq.toNat)]
  else if b = Reg.RUL_EM_COUNT then showFlds v [(21, 0, s.rul.em.cells.foldl (fun n c => n + c.2.length) 0)]
  else if b = Reg.RUL_CNT_VALUE then s.counterValue (s.fld Reg.RUL_CNT_SEL_index)
  else v

/-- What the FAB and NUM registers show (07, 08). -/
def State.shownFab (s : State) (b : Nat) (idx : List Nat) (v : DWord) : DWord :=
  let f := idx.headD 0
  if b = Reg.FAB_FIELD_STAT 0 then
    showFlds v [(0, 0, b2n (s.field f).adaptation), (8, 1, (s.fieldPlots f).length),
      (19, 9, ((fieldTiles f).filter (fun t => (s.tile t).plot.isNone)).length)]
  else if b = Reg.FAB_COMMIT_STAT 0 then
    let x := s.field f
    showFlds v [(15, 0, x.seq.toNat), (17, 16, x.applied), (18, 18, b2n x.running.isSome), (19, 19, b2n x.pending.isSome)]
  else if b = Reg.FAB_ROWMAP 0 then
    showFlds v [(31, 0, (s.repField f).map.rows.foldl (fun n r => n ||| 1 <<< r) 0)]
  else if b = Reg.FAB_COLSKIP 0 0 then
    let r := (idx[1]?).getD 0
    let m := (s.repField f).map
    let top := if r = 0 then b2n (m.rows.contains 32) + 2 * b2n (m.rows.contains 33) else 0
    showFlds v [(5, 0, m.cols.get r), (31, 30, top)]
  else if b = Reg.NUM_EPOCH_STAT then
    showFlds v [(15, 0, s.num.current), (16, 16, b2n s.num.installing), (17, 17, b2n s.num.draining.isSome),
      (18, 18, b2n s.num.pending)]
  else if b = Reg.NUM_EPOCH_DRAIN then showFlds v [(15, 0, s.num.draining.getD (idleDrain b s.num.current))]
  else v

/-- The time left to the expiry of a job's grants (10): none is 0, no term is all ones. -/
def State.grantLeft (s : State) (j : Job) : Nat :=
  match j.grants with
  | [] => 0
  | (_, none) :: _ => 0xFFFFFFFF
  | (_, some t) :: _ => min 0xFFFFFFFE (t - s.now)

/-- What the BAY and ADP registers show (09, 10). -/
def State.shownBay (s : State) (b : Nat) (i : Nat) (v : DWord) : DWord :=
  let j := s.adp.jobs.get i
  if b = Reg.BAY_STAT then
    showFlds v [(8, 0, s.residents.length), (11, 9, s.pagesRunning),
      (15, 12, (List.range 4).foldl (fun n f => n ||| b2n (!(s.field f).adaptation) <<< f) 0)]
  else if b = Reg.ADP_JOB_STAT 0 then
    showFlds v [(1, 0, j.st), (7, 4, j.grants.foldl (fun n g => n ||| 1 <<< g.1) 0), (11, 8, j.cause), (31, 16, j.tEpoch)]
  else if b = Reg.ADP_JOB_STEP 0 then showFlds v [(25, 0, j.step)]
  else if b = Reg.ADP_JOB_CKPT_SEQ 0 then showFlds v [(31, 0, j.ckpt)]
  else if b = Reg.ADP_JOB_GRANT_LEFT 0 then showFlds v [(31, 0, s.grantLeft j)]
  else v

/-- What the per-domain registers show of the domain that HIF_DOM_SEL names (R274, R275, R290): the epoch in force and the staged rights. -/
def State.shownDom (s : State) (b : Nat) (i : Nat) (v : DWord) : DWord :=
  let d := s.hif.doms.get (s.fld Reg.HIF_DOM_SEL_domain)
  let w := d.staged.wins.get i
  if b = Reg.HIF_DOM_EPOCH then showFlds v [(15, 0, d.epoch)]
  else if b = Reg.HIF_DOM_FLAGS then showFlds v [(3, 0, d.staged.flags)]
  else if b = Reg.HIF_DOM_STAT then
    showFlds v [(0, 0, b2n (!d.running)), (1, 1, b2n d.pending.isSome), (2, 2, b2n d.busy)]
  else if b = Reg.HIF_DOM_WIN_BASE 0 then
    showFlds v [(0, 0, b2n w.read), (1, 1, b2n w.write), (2, 2, b2n w.valid), (63, 12, w.base >>> 12)]
  else if b = Reg.HIF_DOM_WIN_LEN 0 then showFlds v [(63, 12, w.len >>> 12)]
  else if b = Reg.HIF_DOM_MSET 0 then showFlds v [(31, 0, (d.staged.mset.get i).toNat)]
  else v

/-- What the OSL registers show (12). -/
def State.shownOsl (s : State) (b : Nat) (i : Nat) (v : DWord) : DWord :=
  if b = Reg.OSL_LBYP_STAT then showFlds v [(7, 0, if s.scanDrives then 0 else s.osl.pins.toNat)]
  else if b = Reg.OSL_PROG_STATE then
    showFlds v [(31, 0, (List.range 16).foldl (fun n p => n ||| (s.prog p).st <<< (2 * p)) 0)]
  else if b = Reg.OSL_LINK_STAT 0 then
    let k := s.link i
    showFlds v [(2, 0, k.st), (4, 3, k.width), (7, 5, k.fail), (22, 8, (k.peer.getD 0).toNat), (23, 23, b2n k.peer.isSome),
      (27, 24, k.good.toNat)]
  else v

/-- What the REP registers show (15). -/
def State.shownRep (s : State) (b : Nat) (idx : List Nat) (v : DWord) : DWord :=
  let f := idx.headD 0
  if b = Reg.REP_FAULT_STAT then showFlds v [(8, 0, s.rep.log.length)]
  else if b = Reg.REP_CAPSULE_STAT then
    let ok := s.rst.flash.capsuleOk
    let c := s.rst.flash.capsule
    showFlds v [(0, 0, b2n ok), (1, 1, b2n s.rep.capturing.isSome), (2, 2, b2n s.rep.storing.isSome),
      (6, 3, if ok then byteAt c 3 else 0), (31, 16, if ok then le c 4 2 else 0)]
  else if b = Reg.REP_FIELD_STAT 0 then
    let r := s.repField f
    let st := if r.running.isSome then 1 else if r.degraded then 2 else 0
    showFlds v [(1, 0, st), (9, 2, min 255 r.defects.length), (20, 10, r.retired.length), (21, 21, b2n r.running.isSome),
      (22, 22, b2n r.pending.isSome)]
  else if b = Reg.REP_RETIRED 0 0 then
    let y := (idx[1]?).getD 0
    showFlds v [(31, 0, (List.range 32).foldl (fun n x => n ||| b2n ((s.repField f).retired.contains (fieldTile f x y)) <<< x) 0)]
  else v

/-- The value a register shows (R13): write-only fields read zero, and a field that shows its block's state shows it. -/
def State.shown (s : State) (l : Loc) : DWord :=
  let b := l.reg.base
  let i := l.idx.headD 0
  let v := s.reg l.key &&& ~~~ l.reg.accMask .wo
  if b < 0x300000 then s.shownRst b i v
  else if b < 0x600000 then s.shownMac b i v
  else if b < 0xC00000 then s.shownRul b i v
  else if b < 0x1000000 then v
  else if b < 0x1500000 then s.shownFab b l.idx v
  else if b < 0x1700000 then s.shownBay b i v
  else if b < 0x1800000 then s.shownDom b i v
  else if b < 0x1A00000 then s.shownOsl b i v
  else s.shownRep b l.idx v

/-! #### Writes refused -/

/-- Registers of one number with a range; the last says whether 0 is taken as well. -/
def rangeRegs : List (Nat × Nat × Nat × Bool) := [
  (Reg.MAC_BYP_HB_TIMEOUT 0, 1000000, 4000000000, false),
  (Reg.MAC_BYP_OPEN_WAIT 0, 1000000, 4000000000, false),
  (Reg.THY_PPS_OUT_W, 1000, 500000000, false),
  (Reg.PRS_EXC_BURST 0, 1, 65535, false),
  (Reg.RUL_MIRROR_WAIT, 1000, 10000000, false),
  (Reg.RUL_CNT_PERIOD, 100000, 16000000, false),
  (Reg.ERP_REMOTE_WAIT, 1000, 10000000, false),
  (Reg.ERP_ARB_GUARD, 100, 1000000, false),
  (Reg.SFE_HOST_BURST, 1, 65535, false),
  (Reg.SFE_PACK_WAIT 0, 0, 1000000, true),
  (Reg.FAB_QD_PERIOD, 1000, 100000000, true),
  (Reg.BAY_PLOT_STALL, 100000, 4000000000, false),
  (Reg.BAY_PIN_TERM, 1000000, 4000000000, true),
  (Reg.BAY_PAGE_MAX, 1, 4, false),
  (Reg.ADP_GRANT_TERM, 1000000, 4000000000, true),
  (Reg.OSL_ABSENT_NS, 100000, 100000000, false),
  (Reg.OSL_RETRY_NS, 1000000, 4000000000, false),
  (Reg.PAC_STEP, 1, 20, false),
  (Reg.PAC_DWELL_QUIET, 100, 1000000, false),
  (Reg.PAC_DWELL_RET, 10000, 100000000, false),
  (Reg.PAC_DWELL_OFF, 1000000, 4000000000, false),
  (Reg.REP_WDOG_NS, 1000, 10000000, false),
  (Reg.REP_CE_THR, 1, 65535, false)]

/-- A value lies outside a register's range. -/
def outOfRange (b v : Nat) : Bool :=
  match rangeRegs.find? (fun r => r.1 = b) with
  | none => false
  | some (_, lo, hi, zero) => !(decide (lo ≤ v) && decide (v ≤ hi)) && !(zero && decide (v = 0))

/-- A topology of R299: mode 0 uses none. -/
def topologyOk (mode topo addr : Nat) : Bool :=
  let nx := bits topo 4 0 + 1
  let ny := bits topo 9 5 + 1
  let nz := bits topo 14 10 + 1
  let shape := match mode with
    | 1 => decide (2 ≤ nx) && decide (ny = 1) && decide (nz = 1)
    | 2 => decide (2 ≤ nx) && decide (2 ≤ ny) && decide (nz = 1)
    | _ => decide (2 ≤ nx) && decide (2 ≤ ny) && decide (2 ≤ nz)
  decide (mode = 0) || (shape && decide (chipX addr < nx) && decide (chipY addr < ny) && decide (chipZ addr < nz))

/-- The OSL registers that take a write only while Oslink is off, and only for a topology of R299 (R318). -/
def State.refusesOsl (s : State) (b v : Nat) : Bool :=
  let on := s.flag Reg.OSL_CTRL_enable
  let mode := s.oslMode
  let topo := (s.reg Reg.OSL_TOPO).toNat
  let addr := (s.reg Reg.OSL_CHIP_ADDR).toNat
  if b = Reg.OSL_CTRL then
    decide (bits v 2 1 ≠ mode) && (on || !topologyOk (bits v 2 1) topo addr)
  else if b = Reg.OSL_TOPO then on || !topologyOk mode v addr
  else if b = Reg.OSL_CHIP_ADDR then on || !topologyOk mode topo (v % 32768)
  else if b = Reg.OSL_SYS_ID then on
  else if b = Reg.OSL_PROG_CMD then decide (4 < bits v 2 0)
  else false

/-- The SFE, FAB, NUM, BAY and ADP registers whose own rules refuse a write. -/
def State.refusesCore (s : State) (b v : Nat) : Bool :=
  if b = Reg.SFE_ROW_REGION ∨ b = Reg.SFE_STATE_CACHE then
    s.flag Reg.SFE_CTRL_enable || decide (bits v 5 0 = 0) || decide (32 < bits v 5 0)
  else if b = Reg.NUM_CTRL then decide (bits v 1 0 = 3) || decide (16 < bits v 8 4)
  else if b = Reg.BAY_SERVE_RESERVE then decide (4 < bits v 2 0)
  else if b = Reg.BAY_SLOT_SIZE then s.flag Reg.BAY_CTRL_enable
  else if b = Reg.BAY_HBM_IMG then s.flag Reg.BAY_CTRL_enable || decide (bits v 6 0 = 0) || decide (64 < bits v 6 0)
  else if b = Reg.BAY_CLASS 0 then decide (bits v 27 16 < 16)
  else if b = Reg.ADP_CACHE_GIB then s.flag Reg.ADP_CTRL_enable || decide (bits v 5 0 = 0) || decide (32 < bits v 5 0)
  else if b = Reg.HIF_QP_CMD then decide (5 < bits v 18 16)
  else false

/-- A selector byte of a key map is reserved (R83). -/
def badSelector (n : Nat) : Bool := decide (128 ≤ n) && decide (n ≤ 254)

/-- The PRS and RUL registers whose own rules refuse a write. -/
def State.refusesRul (s : State) (b v : Nat) : Bool :=
  if b = Reg.PRS_CTRL then bit v 0 && !s.prs.loaded
  else if b = Reg.PRS_DEPTH then
    decide (bits v 9 0 < 64) || decide (512 < bits v 9 0) || decide (bits v 9 0 % 64 ≠ 0)
  else if b = Reg.PRS_EXC_CTRL 0 then decide (bits v 15 8 = 0) || decide (144 < bits v 15 8)
  else if b = Reg.RUL_KEY_PROF 0 then s.flag Reg.RUL_CTRL_enable
  else if b = Reg.RUL_KEY_MAP 0 0 then
    s.flag Reg.RUL_CTRL_enable || (List.range 4).any (fun k => badSelector (bits v (8 * k + 7) (8 * k)))
  else if b = Reg.RUL_TCAM_CMD then decide (bits v 17 16 = 3)
  else if b = Reg.RUL_EM_CMD then decide (bits v 1 0 = 3)
  else if b = Reg.RUL_DSCP_COLOR 0 then (List.range 16).any (fun n => decide (bits v (2 * n + 1) (2 * n) = 3))
  else if b = Reg.RUL_ENCAP_DESC 0 then decide (bits v 7 0 < 14) || decide (128 < bits v 7 0)
  else false

/-- The PAC, THY and MAC registers whose own rules refuse a write (R34, R339 and the tables of 02). -/
def State.refusesEdge (s : State) (b v : Nat) : Bool :=
  if b = Reg.PAC_TARGET then decide (bits v 15 0 < 900) || decide (2000 < bits v 15 0)
  else if b = Reg.PAC_VLIM then
    decide (bits v 9 0 < 620) || decide (900 < bits v 25 16) || decide (bits v 25 16 < bits v 9 0)
  else if b = Reg.PAC_CAP then decide (bits v 7 0 < 40) || decide (s.fld Reg.GLB_PART_cap_w < bits v 7 0)
  else if b = Reg.THY_CTRL then decide (bits v 1 0 = 3)
  else if b = Reg.MAC_MODE then decide (bits v 1 0 = 3) || !s.modeWritable
  else if b = Reg.MAC_PFC_THR 0 then decide (bits v 15 0 ≤ bits v 31 16)
  else if b = Reg.MAC_PAIR_CTRL 0 then decide (bits v 31 16 < 50)
  else false

/-- Whether the register's own rules refuse a value, given as the whole register would be written (R418). -/
def State.refuses (s : State) (l : Loc) (v : DWord) : Bool :=
  let b := l.reg.base
  let n := v.toNat
  outOfRange b (n &&& ((l.reg.accMask .rw).toNat))
    || s.refusesEdge b n || s.refusesRul b n || s.refusesCore b n || s.refusesOsl b n

end Sys2Proof.Machine
end

