-- ==== Sys2Proof/Machine/Faults.lean ====
section
/-! DEFINITION. What reset and repair share: the fault log, capsule triggers, the field repair ledger as the boot flash holds it, and the maps of option loading (R361 to R363, R372, R375). -/

namespace Sys2Proof.Machine

/-- Add a record to the fault log (R372): the first of an empty log sends REP_VEC, and a full log loses it. -/
def State.addFault (s : State) (code field x y detail : Nat) : State :=
  if 256 ≤ s.rep.log.length then s.stick Reg.REP_FAULT_STAT_overflow
  else
    let first := s.rep.log.isEmpty
    let s := s.updRep (fun r => { r with log := r.log ++ [⟨code, field, x, y, s.thyme, detail⟩] })
    if first && s.flag Reg.REP_VEC_enable then s.hostOut 0 (.msix 0 (s.fld Reg.REP_VEC_vector)) else s

/-- Something that starts an automatic capsule has happened (R375). -/
def State.trigger (s : State) (t : CapTrigger) : State := s.updRep (fun r => { r with triggers := r.triggers ++ [t] })

/-- An error is reported on a function (R373). -/
def State.reportAer (s : State) (func : Nat) (e : TlpError) : State := s.emit (.aer func e)

/-- A physical tile as the fault log and the ledger name it. -/
def physDetail (row col : Nat) : Nat := row ||| col <<< 6

/-! #### The boot flash -/

/-- `n` bytes of a region of the boot flash; bytes that were never written are erased. -/
def flashBytes (l : List Byte) (off n : Nat) : List Byte :=
  let t := (l.drop off).take n
  t ++ List.replicate (n - t.length) 0xFF

/-- A little-endian number of a region of the boot flash. -/
def flashNat (l : List Byte) (off n : Nat) : Nat := leNat (flashBytes l off n)

/-- Whether a ledger half has a valid header (R362). -/
def halfValid (h : List Byte) : Bool :=
  decide (flashNat h 0 2 = 0xC7AC) && decide (flashNat h 2 1 = 1) && decide (flashNat h 28 4 = crc32c (flashBytes h 0 28))

/-- The generation of a ledger half. -/
def halfGen (h : List Byte) : Nat := flashNat h 4 4

/-- The active half of the ledger (R362): true is the second; none if neither half is valid. -/
def Flash.activeHalf (f : Flash) : Option Bool :=
  match halfValid f.led0, halfValid f.led1 with
  | false, false => none
  | true, false => some false
  | false, true => some true
  | true, true => some (decide (halfGen f.led0 < halfGen f.led1))

/-- The bytes of the active half; erased bytes if neither half is valid. -/
def Flash.ledgerHalf (f : Flash) : List Byte :=
  match f.activeHalf with
  | none => []
  | some false => f.led0
  | some true => f.led1

/-- An entry of a ledger half, with its sequence number. -/
def halfEntry (h : List Byte) (i : Nat) : Option (Nat × LedgerEntry) :=
  let o := 32 + 32 * i
  let b := flashBytes h o 32
  if le b 28 4 ≠ crc32c (slice b 0 28) ∨ b.all (fun x => decide (x = 0xFF)) = true then none
  else some (le b 0 4, ⟨byteAt b 12, byteAt b 13, byteAt b 14, byteAt b 15, byteAt b 16, BitVec.ofNat 64 (le b 4 8)⟩)

/-- The scan of a ledger half (R362): it ends at the first entry that does not stand. -/
def halfScan (h : List Byte) : Nat → Nat → List (Nat × LedgerEntry)
  | 0, _ => []
  | n + 1, i => match halfEntry h i with
    | none => []
    | some e => e :: halfScan h n (i + 1)

/-- The entries of the active half, in order of appending. -/
def Flash.entries (f : Flash) : List (Nat × LedgerEntry) := halfScan f.ledgerHalf 1023 0

/-- A ledger entry as it is written. -/
def LedgerEntry.bytes (e : LedgerEntry) (seq : Nat) : List Byte :=
  let b := toLe 4 seq ++ toLe 8 e.thyme.toNat ++ toLe 1 e.field ++ toLe 1 e.prow ++ toLe 1 e.pcol ++ toLe 1 e.cause
    ++ toLe 1 e.action ++ zeros 11
  b ++ toLe 4 (crc32c b)

/-! #### Maps (R155, R363) -/

/-- Defects in a physical row. -/
def defectsIn (d : List (Nat × Nat)) (r : Nat) : List Nat := (d.filter (fun p => p.1 == r)).map (·.2)

/-- A map covers a defect. -/
def RepMap.covers (m : RepMap) (d : Nat × Nat) : Bool := m.rows.contains d.1 || m.cols.get d.1 == d.2

/-- The two rows that option loading skips (R363). -/
def bootRows (d : List (Nat × Nat)) : List Nat :=
  let south := (List.range 34).reverse
  let count (r : Nat) := (defectsIn d r).length
  let multi := south.filter (fun r => decide (2 ≤ count r))
  let chosen := if 2 < multi.length then
      (match leastBy (fun r => 34 - count r) multi with
        | none => []
        | some a => match leastBy (fun r => 34 - count r) (multi.filter (fun r => r != a)) with
          | none => [a]
          | some b => [a, b])
    else (multi ++ south.filter (fun r => decide (count r = 0)) ++ south.filter (fun r => decide (count r = 1))).take 2
  (List.range 34).filter (fun r => chosen.contains r)

/-- The map of option loading (R363). `w` picks the column that a row with several defects skips, which the manual leaves open. -/
def bootMap (d : List (Nat × Nat)) (w : Nat) : RepMap :=
  let rows := bootRows d
  { rows := rows
    cols := (List.range 34).foldl (fun t r =>
      let c := defectsIn d r
      if rows.contains r || c.isEmpty then t else t.set r (c.getD (w % c.length) 32)) ⟨32, []⟩ }

/-- The logical tiles of a field that defects occupy under a map. -/
def RepMap.occupied (m : RepMap) (d : List (Nat × Nat)) (f : Nat) : List Nat :=
  (List.range 32).flatMap (fun y => (List.range 32).filterMap (fun x =>
    if d.contains (m.phys x y) then some (fieldTile f x y) else none))

/-- Every defect of a field that is known: those on record, and those of this power-on alone (R362). -/
def RepField.known (r : RepField) : List (Nat × Nat) := r.defects ++ r.extra

/-- Load the map of option loading for a field's defects; the tiles of the defects it leaves are retired. -/
def State.loadBootMap (s : State) (f : Nat) : State :=
  let (w, s) := s.free
  let d := (s.repField f).known
  let m := bootMap d w.toNat
  s.updRepField f (fun r => { r with map := m, retired := m.occupied d f })

end Sys2Proof.Machine
end

