-- ==== Sys2Proof/Machine/Reset.lean ====
section
/-! DEFINITION. Reset and bring-up: the sources, the stretch, option loading, the release wave, the Sage watchdog, isolation and bus timeouts (R336, R340 to R357, R361, R373, R378). -/

namespace Sys2Proof.Machine

/-- Change the reset unit. -/
def State.updRst (s : State) (f : RstSt → RstSt) : State := { s with rst := f s.rst }

/-- The word of an always-on scratch register. -/
def State.scr (s : State) (j : Nat) : Nat := s.fld (Reg.RST_AON_SCR_word j)

/-- Enter a phase of option loading: the boot ROM kicks the watchdog (R347, R354). -/
def State.enterPhase (s : State) (p : Nat) : State :=
  (s.setFld Reg.RST_STAT_phase p).updRst (fun r => { r with phaseAt := s.now, kickAt := s.aon })

/-- A phase of option loading ends: its duration is recorded (R347). -/
def State.phaseDone (s : State) (p : Nat) : State := s.setFld (Reg.RST_PHASE_NS_ns (p - 1)) (s.now - s.rst.phaseAt)

/-- HALT (R353). -/
def State.halt (s : State) (reason : Nat) : State :=
  ((s.setFld Reg.RST_STAT_phase 8).setFld Reg.RST_STAT_halt_reason reason).updRst (fun r => { r with kickAt := s.aon })

/-! #### Sources (R340 to R344) -/

/-- Every domain, register and store at reset; the always-on store, the boot flash, the TAP, and after a warm reset the pins are kept (R341, R342, R355). Thyme stops, and PPS_OUT and RSTOUT_N fall. -/
def State.resetAll (s : State) (powerOn cold : Bool) : State :=
  let base : State := {
    aon := s.aon, nextId := s.nextId, freeIdx := s.freeIdx, out := s.out, pending := s.pending,
    rst := {
      asserted := s.rst.asserted, since := s.aon, cold := cold, tap := s.rst.tap, flash := s.rst.flash,
      pins := if cold then List.replicate 24 0 else s.rst.pins } }
  let base := if powerOn then base
    else (List.range 4).foldl (fun b j => b.setFld (Reg.RST_AON_SCR_word j) (s.scr j)) (base.setFld Reg.RST_CAUSE_cause (s.fld Reg.RST_CAUSE_cause))
  let base := if s.thy.ppsOut then base.emit (.ppsOut false) else base
  if s.phase = 0 then base else base.emit (.rstOut false)

/-- A source of reset asserts: its cause bit is set, and the stretch runs from this instant (R340, R344, R348). -/
def State.takeReset (s : State) (cause : Nat) (cold : Bool) : State :=
  let s := s.resetAll (decide (cause = 0)) cold
  s.setFld Reg.RST_CAUSE_cause (s.fld Reg.RST_CAUSE_cause ||| 1 <<< cause)

/-- A level source asserts and stays asserted until it is released. -/
def State.takeLevel (s : State) (src : LevelSource) (cause : Nat) (cold : Bool) : State :=
  (s.takeReset cause cold).updRst (fun r => { r with asserted := if r.asserted.contains src then r.asserted else r.asserted ++ [src] })

/-- POWER_ON (R340, R341): the always-on store is cleared and por is set. -/
def execPowerOn (s : State) : Out := .next (s.takeLevel .powerOn 0 true)

/-- BROWN_OUT (R340, R403). -/
def execBrownOut (s : State) : Out := .next (s.takeLevel .brownOut 1 true)

/-- RSTIN (R343): a low pulse of `lowNs`. Under 2 µs it is ignored, from 10 µs it is taken, and between the two the manual does not say. -/
def execRstin (lowNs : Nat) (s : State) : Out :=
  .next (
    if lowNs < 2000 then s
    else if 10000 ≤ lowNs then s.takeLevel .rstin 2 false
    else
      let (v, s) := s.free
      if bit v.toNat 0 then s.takeLevel .rstin 2 false else s)

/-- PERST (R340). -/
def execPerst (s : State) : Out := .next (s.takeLevel .perst 3 false)

/-- PCIE_HOT_RESET (R340): armed once the link has reached DL_Active since the last reset. -/
def execPcieHotReset (s : State) : Out := .next (if s.rst.dlActive then s.takeReset 4 false else s)

/-- The watchdog's timeout in ns (R354): run_ms once the firmware has set it, else boot_ms. -/
def State.wdogNs (s : State) : Nat :=
  1000000 * (if s.fld Reg.RST_WDOG_run_ms = 0 then s.fld Reg.RST_WDOG_boot_ms else s.fld Reg.RST_WDOG_run_ms)

/-- SAGE_WATCHDOG (R354): it runs from the end of the stretch and expires whatever the firmware does. -/
def execSageWatchdog (s : State) : Out :=
  .next (if 1 ≤ s.phase ∧ s.rst.kickAt + s.wdogNs ≤ s.aon then s.takeReset 5 false else s)

/-- WATCHDOG_KICK (R354): only Sage kicks; from phase 3 onwards the firmware may set run_ms from 100 to 10,000. -/
def execWatchdogKick (runMs : Option (BitVec 14)) (s : State) : Out :=
  .next (
    if s.phase = 0 ∨ s.rst.fwStopped = true then s
    else
      let s := s.updRst (fun r => { r with kickAt := s.aon })
      match runMs with
      | none => s
      | some n => if 3 ≤ s.phase ∧ 100 ≤ n.toNat ∧ n.toNat ≤ 10000 then s.setFld Reg.RST_WDOG_run_ms n.toNat else s)

/-- THERMAL_TRIP (R336, R340): two consecutive sweeps at 115 °C or above. -/
def execThermalTrip (s : State) : Out := .next (if 2 ≤ s.pow.hot then s.takeLevel .thermal 6 false else s)

/-- A write of RST_CTRL: with the key a software full reset, without it bad_key. -/
def State.rstCtrlWrite (s : State) (v : Nat) : State :=
  if bit v 0 = false then s
  else if bits v 15 8 = 0xA5 then s.takeReset 7 false
  else s.stick Reg.RST_STAT_bad_key

/-- SOFTWARE_FULL_RESET (R340). -/
def execSoftwareFullReset (value : Word) (s : State) : Out := .next (s.edgeWrite (fun s => s.rstCtrlWrite value.toNat))

/-- REMOTE_RESET (R316): accepted if the option rrst_en is set and the code equals OSL_RRST_KEY. -/
def execRemoteReset (which : Nat) (s : State) : Out :=
  .next (match s.takeArrived which 6 with
    | none => s
    | some (r, s) =>
      if s.flag Reg.OSL_CTRL_rrst_en && decide (bits r.data.toNat 127 96 = s.fld Reg.OSL_RRST_KEY_key) then s.takeReset 8 false
      else s.bump Reg.OSL_RRST_REFUSED)

/-- LEVEL_SOURCE_DEASSERTION (R344): the stretch is timed from it. -/
def execLevelSourceDeassertion (source : LevelSource) (s : State) : Out :=
  .next (
    if s.rst.asserted.contains source then
      s.updRst (fun r => { r with asserted := r.asserted.filter (fun x => x != source), since := s.aon })
    else s)

/-- STRETCH_END (R344, R345, R378): RSTOUT_N rises, Thyme counts from 0 and phase 1 begins; with TEST_EN high the device is held. -/
def execStretchEnd (testEn : Bool) (s : State) : Out :=
  .next (
    if s.phase = 0 && s.rst.asserted.isEmpty && !s.rst.held && decide (s.rst.since + 20000000 ≤ s.aon) then
      if testEn then s.updRst (fun r => { r with held := true })
      else (({ s with now := 0, thyme := 0 }).enterPhase 1).emit (.rstOut true)
    else s)

/-- DL_ACTIVE (R340): the link arms the PCIe source. The PCIe controller is in reset until phase 1 has ended. -/
def execDlActive (s : State) : Out := .next (if s.reachable then s.updRst (fun r => { r with dlActive := true }) else s)

/-- TLP_ERROR (R373): the error is reported on the function whose traffic caused it, and the packet is discarded. A record write that it failed puts the queue pair in ERROR (R283). -/
def execTlpError (kind : TlpError) (func : Fin 128) (recordOf : Option (Fin 16384)) (s : State) : Out :=
  .next (
    if s.reachable = false then s
    else
      let s := s.reportAer func.val kind
      match recordOf with
      | none => s
      | some q => s.ringFailed q.val)

/-! #### Phases 1 and 2 (R347, R361) -/

/-- Load the fuse map (R15, R347, R355). -/
def State.loadFuses (s : State) : State :=
  let capW := if Config.fuseBinB then 120 else 150
  let s := (s.setFld Reg.GLB_PART_bin (b2n Config.fuseBinB)).setFld Reg.GLB_PART_cap_w capW
  let s := s.setFld Reg.PAC_CAP_cap_w capW
  let s := (s.setReg Reg.GLB_SERIAL Config.fuseSerial).setFld Reg.GLB_FUSE_VER_version Config.fuseVersion.toNat
  let s := s.setFld Reg.SAG_FW_VER_version Config.fuseFwVer.toNat
  let s := match Config.fuseBootMs with
    | none => s
    | some n => s.setFld Reg.RST_WDOG_boot_ms n.toNat
  if s.rst.cold then s.updRst (fun r => { r with pins := (List.range 24).map (fun i => (Config.fusePin i).toNat) }) else s

/-- FUSE_PHASE_DONE (R347, R353). -/
def execFusePhaseDone (crcOk : Bool) (s : State) : Out :=
  .next (
    if s.phase ≠ 1 then s
    else if crcOk = false then s.halt 1
    else (s.loadFuses.phaseDone 1).enterPhase 2)

/-- The factory defects of a field (R361): at most 16, each a physical tile. -/
def factoryDefects (f : Nat) : List (Nat × Nat) :=
  ((Config.fuseDefects f).filter (fun d => decide (d.1 < 34) && decide (d.2 < 33))).take 16

/-- The defects on record of a field (R361): the union of the factory list and the ledger. -/
def State.defectsOf (s : State) (f : Nat) : List (Nat × Nat) :=
  (factoryDefects f ++ (s.rst.flash.entries.filter (fun e => decide (e.2.field = f))).map (fun e => (e.2.prow, e.2.pcol))).eraseDups

/-- Whether a slot's firmware header has its magic (R351). -/
def fwMagic (b : List Byte) : Bool := decide (flashNat b 0 2 = 0xC7AA)

/-- The version of a firmware slot; 0 without the magic (R351). -/
def fwVer (b : List Byte) : Nat := if fwMagic b then flashNat b 4 4 else 0

/-- A firmware slot, by its number. -/
def Flash.fw (f : Flash) (slot : Nat) : List Byte := if slot = 0 then f.fwA else f.fwB

/-- The slot of the firmware that the boot ROM tries first (R352), with `n` attempts before this one. -/
def State.firstSlot (s : State) (n : Nat) : Nat :=
  let va := fwVer s.rst.flash.fwA
  let vb := fwVer s.rst.flash.fwB
  let first := if va < vb then 1 else 0
  let v := fwVer (s.rst.flash.fw first)
  if v ≠ 0 ∧ v = s.scr 1 then 1 - first
  else if 2 ≤ n ∧ bit (s.fld Reg.RST_CAUSE_cause) 5 = true then 1 - first
  else first

/-- Phase 3 begins (R352, R395): the attempt is counted in SCR0, the first slot is chosen, and each regulator is probed with STATUS_WORD. -/
def State.beginOption (s : State) : State :=
  let n := s.scr 0 % 256
  let s := s.updRst (fun r => { r with fwFirst := s.firstSlot n })
  let s := (s.setFld (Reg.RST_AON_SCR_word 0) (s.scr 0 / 256 * 256 + min 255 (n + 1))).enterPhase 3
  (List.range 9).foldl (fun s k => s.emit (.pmbusRead k 0x79)) s

/-- REPAIR_PHASE_DONE (R361, R363). -/
def execRepairPhaseDone (s : State) : Out :=
  .next (
    if s.phase ≠ 2 then s
    else
      let s := (List.range 4).foldl (fun s f => (s.updRepField f (fun r => { r with defects := s.defectsOf f, extra := [] })).loadBootMap f) s
      let s := s.updRep (fun r => { r with ledgerSeq := (s.rst.flash.entries.getLast?.map (fun e => e.1 + 1)).getD 0 })
      (s.phaseDone 2).beginOption)

/-! #### Phase 3 (R350 to R352) -/

/-- Whether an option slot has a valid header and crc (R350). -/
def optValid (b : List Byte) : Bool :=
  let n := flashNat b 8 4
  decide (flashNat b 0 2 = 0xC7A9) && decide (flashNat b 2 1 = 1) && decide (n ≤ 8188)
    && decide (flashNat b 12 4 = crc32c (flashBytes b 32 (8 * n)))

/-- The option slot selected (R350): 0 none, 1 slot A, 2 slot B. -/
def Flash.optSource (f : Flash) : Nat :=
  match optValid f.optA, optValid f.optB with
  | false, false => 0
  | true, false => 1
  | false, true => 2
  | true, true => if flashNat f.optA 4 4 < flashNat f.optB 4 4 then 2 else 1

/-- The bytes of the option slot selected. -/
def Flash.optSlot (f : Flash) : List Byte := if f.optSource = 2 then f.optB else f.optA

/-- The bits of a register that an option image loads. -/
def RegDef.optMask (r : RegDef) : DWord :=
  r.fields.foldl (fun m f => if f.origin = .option then m ||| maskBits f.hi f.lo else m) 0

/-- Add one to a saturating count of RST_OPT_STAT. -/
def State.optCount (s : State) (f : Fld) : State := s.setFld f (min 255 (s.fld f + 1))

/-- Apply one entry of the option image (R350). -/
def State.optEntry (s : State) (addr value : Nat) : State :=
  match findReg addr with
  | none => s.optCount Reg.RST_OPT_STAT_ignored
  | some l =>
    let m := l.reg.optMask
    if l.upper ∨ m = 0 then s.optCount Reg.RST_OPT_STAT_ignored
    else
      let v := (s.reg l.key &&& ~~~ m) ||| (BitVec.ofNat 64 value &&& m)
      if s.refuses l v then s.optCount Reg.RST_OPT_STAT_refused else s.setReg l.key v

/-- Apply the option image (R350). -/
def State.applyOptions (s : State) : State :=
  let src := s.rst.flash.optSource
  let b := s.rst.flash.optSlot
  let s := s.setFld Reg.RST_OPT_STAT_source src
  if src = 0 then s
  else (List.range (flashNat b 8 4)).foldl (fun s i => s.optEntry (flashNat b (32 + 8 * i) 4) (flashNat b (36 + 8 * i) 4)) s

/-- Whether a firmware slot authenticates (R351). -/
def fwAuth (b : List Byte) : Bool :=
  let key := flashNat b 3 1
  let n := flashNat b 12 4
  let digest := flashBytes b 64 48
  fwMagic b && decide (flashNat b 2 1 = 1) && decide (key < 4) && !bit Config.fuseRevoked.toNat key
    && decide (Config.fuseSvnMin ≤ flashNat b 8 4) && decide (1 ≤ n) && decide (n ≤ 2096896)
    && decide (sha384 (flashBytes b 0 64 ++ flashBytes b 256 n) = digest)
    && ecdsaVerify digest (flashBytes b 112 96) (Config.bootKey key)

/-- OPTION_PHASE_DONE (R322, R350 to R353, R395): the image is applied and the firmware starts, or HALT. `answered` are the PMBus addresses that acknowledged the probe. -/
def execOptionPhaseDone (answered : BitVec 9) (s : State) : Out :=
  .next (
    if s.phase ≠ 3 then s
    else
      let s := s.applyOptions
      let va := fwAuth s.rst.flash.fwA
      let vb := fwAuth s.rst.flash.fwB
      let s := (s.setFld Reg.RST_FW_STAT_a_valid (b2n va)).setFld Reg.RST_FW_STAT_b_valid (b2n vb)
      let first := s.rst.fwFirst
      let ok (i : Nat) : Bool := if i = 0 then va else vb
      let s := s.updRst (fun r => { r with probed := answered })
      if ok first = false ∧ ok (1 - first) = false then (s.setFld Reg.RST_FW_STAT_rom_only 1).halt 2
      else
        let slot := if ok first then first else 1 - first
        let best := if fwVer s.rst.flash.fwA < fwVer s.rst.flash.fwB then 1 else 0
        let s := (s.setFld Reg.RST_FW_STAT_slot slot).setFld Reg.RST_FW_STAT_fallback (b2n (decide (slot ≠ best)))
        let s := s.setFld Reg.SAG_FW_VER_version (fwVer (s.rst.flash.fw slot))
        let s := (s.updPow (fun p => { p with on := true })).emit (.voutMax (s.fld Reg.PAC_VLIM_vmax_mv + 20))
        (s.phaseDone 3).enterPhase 4)

/-! #### Phases 4 and 5, and the wave (R341, R346, R347) -/

/-- A defect found by tile BIST goes on record (R361, R362); beyond 255 in a field it holds for this power-on only and is counted in REP_LEDGER_FULL. -/
def State.bistDefect (s : State) (f row col : Nat) : State :=
  let r := s.repField f
  if r.known.contains (row, col) then s
  else if 255 ≤ r.defects.length then
    ((s.updRepField f (fun r => { r with extra := r.extra ++ [(row, col)] })).loadBootMap f).bump Reg.REP_LEDGER_FULL
  else
    let s := (s.updRepField f (fun r => { r with defects := r.defects ++ [(row, col)] })).loadBootMap f
    let action := b2n (!(s.repField f).map.covers (row, col))
    s.updRep (fun r => { r with ledger := r.ledger ++ [⟨f, row, col, 1, action, 0⟩] })

/-- BIST_PHASE_DONE (R347, R361): failing tiles go to the ledger, maps are computed anew, and VDD_CORE is written to 780 mV. -/
def execBistPhaseDone (failing : List (Fin 4 × Fin 34 × Fin 33)) (s : State) : Out :=
  .next (
    if s.phase ≠ 4 then s
    else
      let s := failing.foldl (fun s d => s.bistDefect d.1.val d.2.1.val d.2.2.val) s
      let s := (s.updPow (fun p => { p with mv := 780 })).avsWrite 780
      (s.phaseDone 4).enterPhase 5)

/-- HBM_PHASE_DONE (R341, R346, R353): the stream table, the counter images, the slot table and the catalogue are initialised, and the release wave starts. -/
def execHbmPhaseDone (trained : Bool) (s : State) : Out :=
  .next (
    if s.phase ≠ 5 then s
    else if trained = false then s.halt 3
    else
      let s := s.updRul (fun r => { r with em := r.em.clear, emCache := [], images := r.images.clear })
      let s := s.updBay (fun b => { b with slots := b.slots.clear, models := b.models.clear })
      (s.phaseDone 5).enterPhase 6)

/-- CORE_READY (R346, R352): the firmware clears the boot attempts, and after a fallback names the slot it did not take. -/
def execCoreReady (s : State) : Out :=
  .next (
    if s.phase ≠ 6 then s
    else
      let s := (s.setFld Reg.RST_STAT_phase 7).updRst (fun r => { r with coreReady := true })
      let s := s.setFld (Reg.RST_AON_SCR_word 0) (s.scr 0 / 256 * 256)
      if s.flag Reg.RST_FW_STAT_fallback then
        s.setFld (Reg.RST_AON_SCR_word 1) (fwVer (s.rst.flash.fw (1 - s.fld Reg.RST_FW_STAT_slot)))
      else s)

/-! #### Isolation (R356, R357) -/

/-- The register file with every register of a span at its reset value: a register whose reset value comes from the option image goes back to the table's default, not to what the image gave (DESIGN CHOICE, log 167). -/
def Regs.clearSpan (r : Regs) (lo hi : Nat) : Regs := { r with cells := r.cells.filter (fun c => decide (c.1 < lo) || decide (hi ≤ c.1)) }

/-- The BAR0 span of an isolable block (R356, R382). -/
def isoSpan (b : Nat) : Nat × Nat :=
  match b with
  | 0 => (0x600000, 0x800000)
  | 1 => (0x800000, 0xC00000)
  | 2 => (0xD00000, 0x1000000)
  | 3 => (0xC00000, 0xD00000)
  | 4 => (0x1400000, 0x1500000)
  | 5 => (0x1600000, 0x1700000)
  | _ => (0x1800000, 0x1A00000)

/-- The front end at reset, but for what a field runs or a job has built, and the regions that HBM holds. Its lease on the row region is revoked, and what had been sent to it is never acknowledged, so the frames of those segments hold their versions (R357). -/
def State.isolateSfe (s : State) : State :=
  let kept (r : Nat) : Bool := decide ((s.row r).st = .taken) || (s.row r).job.isSome
  let rows := s.sfe.rows.cells.filter (fun c => kept c.1)
  let segs := rows.flatMap (fun c => c.2.spans.map (fun sp => sp.seg))
  let lost := s.sfe.cache.map (fun c => c.1)
  let strip (m : Model) : Model :=
    let q := m.q.mapCells (fun _ l => l.filter kept)
    { m with q := q }
  let models := s.bay.models.mapCells (fun _ m => strip m)
  let s := s.updBay (fun b => { b with models := models })
  let live := s.sfe.segs.cells.filter (fun c => segs.contains c.1)
  let s := lost.foldl (fun s i => s.updSlot i Slot.invalid) s
  { s with sfe := { rows := ⟨{}, rows⟩, segs := ⟨{}, live⟩, epoch := s.sfe.epoch + 1 } }

/-- A block's on-chip state returns to reset; what it keeps in HBM stays, and Bay revokes its leases (R356). A segment whose lookup is lost yields no record, and is never acknowledged (R357). -/
def State.isolateState (s : State) (b : Nat) : State :=
  match b with
  | 0 => { s with prs := {}, mac := { s.mac with ports := s.mac.ports.mapCells (fun _ p => { p with rob := [] }) } }
  | 1 =>
    let s := { s with mac := { s.mac with frames := s.mac.frames.mapCells (fun _ x => { x with holdsVer := false }) } }
    let s := (s.rul.lookups ++ s.rul.misses).foldl (fun s i => s.updSeg i (fun g => { g with st := .done })) s
    { s with rul := { em := s.rul.em, images := s.rul.images } }
  | 2 => s.isolateSfe
  | 3 => { s with erp := {} }
  | 4 => { s with num := {} }
  | 5 =>
    let s := (List.range 4).foldl (fun s n => (s.job n).grants.foldl (fun s g => s.fenceGrant g.1 3) s) s
    { s with adp := {} }
  | _ => { s with osl := {} }

/-- Cut off one block. One that is not idle may leave a transfer half-done and the register bus hung, which the manual leaves open. -/
def State.isolateBlock (s : State) (b : Nat) : State :=
  let idle := s.blockIdle b
  let (v, s) := s.free
  let s := s.isolateState b
  let s := { s with regs := s.regs.clearSpan (isoSpan b).1 (isoSpan b).2 }
  if !idle && bit v.toNat 0 then s.updRst (fun r => { r with hung := true }) else s

/-- A write of RST_ISO: bits newly set cut their blocks off, bits cleared rejoin them. -/
def State.isoWrite (s : State) (v : Nat) : State :=
  let old := s.fld Reg.RST_ISO_iso
  let s := s.setFld Reg.RST_ISO_iso v
  ((List.range 7).filter (fun b => bit v b && !bit old b)).foldl (fun s b => s.isolateBlock b) s

/-- ISOLATE (R356). -/
def execIsolate (value : Word) (s : State) : Out := .next (s.edgeWrite (fun s => s.isoWrite (value.toNat % 128)))

/-- BUS_TIMEOUT (R357, R372, R373): the oldest access that waits on the hung bus completes with zero data. -/
def execBusTimeout (s : State) : Out :=
  .next (match s.rst.stuck with
    | [] => s
    | (t, rd) :: rest =>
      if s.passed t 1000000 = false then s
      else
        let first := !s.flag Reg.RST_STAT_bus_hang
        let s := (s.updRst (fun r => { r with stuck := rest })).bump Reg.RST_BUS_TIMEOUT
        let s := match rd with
          | none => s
          | some (who, a) => s.emit (.regData who a 0)
        let s := s.stick Reg.RST_STAT_bus_hang
        if first then ((s.addFault 15 0 0 0 0).trigger .busHang).reportAer 0 .internal else s)

end Sys2Proof.Machine
end

