-- ==== Sys2Proof/Machine/Tilerun.lean ====
section
/-! DEFINITION. What moves between tiles and stores: section ends, router hops, credits, flow units, state loads and write-backs, section-store responses, queue-depth samples (R161, R162, R166, R168, R170, R178 to R180, R187, R189). -/

namespace Sys2Proof.Machine

/-! #### Queues -/

/-- A plot that was waiting for its boundary to be removed goes once its pass is abandoned (R185). -/
def State.afterAbandon (s : State) (pi : Nat) : State :=
  let p := s.plot pi
  if p.removing then ((s.markApplied p.field (.remove pi) none).freePlot pi).commitProgress p.field else s

/-- A TAG_RANGE fault (R170): the section is abandoned and the plot is loaded anew. -/
def State.tagFault (s : State) (t : Nat) : State :=
  let pi := (s.tile t).plot.getD 0
  let s := s.bump Reg.FAB_TAG_RANGE
  let s := s.setReg Reg.FAB_FAULT_STAT (BitVec.ofNat 64 (tileField t ||| tileX t <<< 2 ||| tileY t <<< 8))
  (s.abandonPass pi).afterAbandon pi

/-- Whether an ordered queue refuses a tag (R170): outside its window, or in a slot that is full. -/
def Tile.tagBad (x : Tile) (q tag : Nat) : Bool :=
  let e := x.ctx.queue q
  let d := qDepth e
  decide (q < 16) && qOrdered e
    && (decide (d ≤ (tag + 65536 - x.nextTag.get q % 65536) % 65536) || (x.queues.get q).any (fun k => decide (k.tag % d = tag % d)))

/-- A flit enters an input queue (R160, R168, R170). -/
def State.putQueue (s : State) (t q : Nat) (k : Tok) : State :=
  let x := s.tile t
  if x.tagBad q k.tag then s.tagFault t
  else
    let s := s.updTile t (fun x => { x with queues := x.queues.upd q (fun l => l ++ [{ k with since := s.now }]) })
    if x.ctx.tag then s.matchMore t 1 else s

/-! #### SECEND (R178) -/

/-- What a section-end token carries to another chip, whose section instances are numbered on their own: the pass and the section that ended (DESIGN CHOICE, log 188). -/
def State.endMark (s : State) (t : Nat) : Flit :=
  let x := s.tile t
  BitVec.ofNat 128 ((s.plot (x.plot.getD 0)).passKey % 2 ^ 32 + x.ctx.sec <<< 32)

/-- A tile ends its section: section-end tokens on every valid channel, a report to the sequencer, and a flip at once where that is trailing (R178, R183). -/
def State.endTile (s : State) (t : Nat) : State :=
  let x := s.tile t
  let pi := x.plot.getD 0
  let s := (List.range 16).foldl (fun s k =>
    if chValid (x.ctx.chan k) then s.sendFlit t k .sectionEnd 0 (s.endMark t) else s) s
  let s := s.updField (s.plot pi).field (fun f => { f with reports := f.reports ++ [{ plot := pi, tile := t, inst := x.inst, stat := x.stat }] })
  let s := s.updTile t (fun x => { x with phase := .ended, stat := {} })
  if s.canFlip t then s.flipTile t else s

/-- Whether a section-end token has arrived on every valid input queue. -/
def Tile.allEnds (x : Tile) : Bool :=
  (List.range 16).all (fun q => !qValid (x.ctx.queue q) || x.ends.contains (x.inst, q))

/-- SECEND (R178): in SEQ mode in program order; in TAG mode once every valid queue has its section-end token and no instruction is ready. -/
def execSecend (t : Fin 4096) (s : State) : Out :=
  .next (
    let x := s.tile t.val
    if x.phase ≠ .running then s
    else if x.ctx.tag then
      if x.allEnds && x.readyInstr.isNone then s.endTile t.val else s
    else
      let i := x.ctx.instr x.pc
      if x.pc < x.ctx.n ∧ miOp i = 0x0D ∧ x.sourcesReady i none = true then ((s.takeSources t.val i none).countTokens t.val 1).endTile t.val
      else s)

/-! #### The router network (R161, R162) -/

/-- Whether a packet is the first of its buffer: its router, input port and virtual channel. -/
def isHead (l : List Packet) (i : Nat) (k : Packet) : Bool :=
  (l.take i).all (fun j => !(decide (j.x = k.x) && decide (j.y = k.y) && decide (j.port = k.port) && decide (j.vc = k.vc)))

/-- The next router and input port on the way to a tile, along x first, then along y; none at the tile itself (R161). -/
def hopTo (x y gx gy : Nat) : Option (Nat × Nat × Nat) :=
  if x < gx then some (x + 1, y, 3)
  else if gx < x then some (x - 1, y, 1)
  else if y < gy then some (x, y + 1, 0)
  else if gy < y then some (x, y - 1, 2)
  else none

/-- Whether the router of a logical tile is in SINK (R365). -/
def State.sunk (s : State) (x y : Nat) : Bool :=
  let f := fieldOf x y
  let p := (s.repField f).map.phys (x % 32) (y % 32)
  s.rep.sink.contains (f, p.1, p.2)

/-- A result flit at the early reply unit's port (R139, R218): it becomes the record of the plot's next span, at once or held for the section's decision (R207); on a chip that is not its program's home it waits for its notice (R310). -/
def State.deliverReply (s : State) (k : Packet) : State :=
  let s := s.returnCredit k.tok
  let p := s.plot k.plot
  let away := match p.prog with
    | some g => if s.homeChip (s.prog g) = s.me then none else some g
    | none => none
  if p.job.isSome then s
  else match away with
    | some g => (s.updProg g (fun e => { e with results := e.results ++ [(k.tok.flit, k.widened)] })).pairProg g ((s.prog g).notices.length)
    | none =>
      match p.expect with
      | [] => s
      | (r, n) :: rest =>
        let res := resultHalf (p.image.take 64) k.tok.flit
        let s := s.updPlot k.plot (fun q => { q with expect := rest, expect0 := if k.inst < q.inst then q.expect0.drop 1 else q.expect0 })
        if p.pass && decide (k.inst = p.inst) && widenEn p.image (secOff p.image p.sec) then
          s.updPlot k.plot (fun q => { q with held := q.held ++ [.record r n res k.widened] })
        else s.spanResult r n res k.widened

/-- The bank of its field that holds a word of a region: the lines of a region are interleaved over the field's banks in service in ascending order (R179, R369; DESIGN CHOICE, log 189). -/
def State.reqBank (s : State) (r : SecReq) : Nat :=
  let l := s.ssBanksOf (s.plot r.plot).field
  (l[r.off / 128 % l.length]?).getD 0

/-- Whether an access reads the plot's row, which it may have to wait for (R137, R187). -/
def State.readsRow (s : State) (r : SecReq) : Bool :=
  let p := s.plot r.plot
  r.write.isNone && p.row.isSome && decide (r.slot = hdrRowSlot (p.image.take 64))

/-- Whether an access is the next of its bank: accesses to a bank take place in the order in which they reached it, but for reads of a row (R179). -/
def State.bankTurn (s : State) (which : Nat) (r : SecReq) : Bool :=
  s.readsRow r || (s.fab.reqs.take which).all (fun e =>
    s.readsRow e || decide (s.reqBank e ≠ s.reqBank r))

/-- A write takes place under the lease epoch it carries; one that a revoked lease fences does nothing (R179, R180, R225). -/
def State.storeWrite (s : State) (r : SecReq) (f : Flit) : State :=
  if (s.plot r.plot).lease ≠ r.lease then s
  else (s.spillCount r.plot r.slot r.off).updFab (fun b => { b with regions := b.regions.set (regionKey r.plot r.slot r.off) f })

/-- Writes whose turn it is at their bank take place. -/
def State.doWrites (s : State) : Nat → State
  | 0 => s
  | n + 1 =>
    match (List.range s.fab.reqs.length).find? (fun i => match s.fab.reqs[i]? with
      | some r => r.write.isSome && s.bankTurn i r
      | none => false) with
    | none => s
    | some i =>
      match s.fab.reqs[i]? with
      | some r => ((s.updFab (fun b => { b with reqs := b.reqs.eraseIdx i })).storeWrite r (r.write.getD 0)).doWrites n
      | none => s

/-- An access reaches the section store at its field's edge (R179): it stands in the order of its bank, and a write takes place when its turn has come. -/
def State.reachStore (s : State) (r : SecReq) : State :=
  let s := s.updFab (fun b => { b with reqs := b.reqs ++ [r] })
  if r.write.isSome then s.doWrites s.fab.reqs.length else s

/-- A flit arrives where it is going. One of another section instance is discarded; a section-end token that comes early is kept for its section. -/
def State.land (s : State) (k : Packet) : State :=
  match k.dest with
  | .reply => if k.kind = .sectionEnd then s else s.deliverReply k
  | .collect c =>
    if k.kind = .sectionEnd then s
    else (s.returnCredit k.tok).updPlot k.plot (fun q => { q with collected := q.collected ++ [(c, k.inst, k.tok.flit)] })
  | .remote chip x y q prog gen =>
    let r := flitRec chip x y q k.vc k.tagged k.tok.tag prog gen k.tok.flit
    s.oslSubmit none (if k.kind = .sectionEnd then r.markEnd else r)
  | .store r => s.reachStore r
  | .tile x y q =>
    let t := tileIx x y
    let d := s.tile t
    if d.plot ≠ some k.plot then s
    else if k.kind = .sectionEnd then
      if d.inst ≤ k.inst then s.updTile t (fun x => { x with ends := x.ends ++ [(k.inst, q)] }) else s
    else if d.inst ≠ k.inst ∨ d.phase = .off then s
    else s.putQueue t q k.tok

/-- The router a flit makes for: its tile's; for the section store, the early reply unit, the state collector and other chips, the one on its field's outer edge in its own row, where they stand (R161, R179, R218; DESIGN CHOICE, log 189). -/
def Packet.goal (k : Packet) : Nat × Nat :=
  match k.dest with
  | .tile gx gy _ => (gx, gy)
  | _ => (edgeX k.x, k.y)

/-- Where the packet at the head of a buffer moves next; none where it lands. -/
def Packet.next (k : Packet) : Option (Nat × Nat × Nat) := hopTo k.x k.y k.goal.1 k.goal.2

/-- Whether a packet may move: it heads its buffer, and the next router's buffer has a place, or sinks what comes (R161, R365). -/
def State.mayHop (s : State) (which : Nat) (k : Packet) : Bool :=
  decide (k.port ≠ 5) && isHead s.fab.packets which k && (s.sunk k.x k.y || (match k.next with
    | none => true
    | some (x, y, port) => s.sunk x y || decide (bufferLoad s.fab.packets x y port k.vc < 4)))

/-- ROUTER_HOP (R161): the packet at the head of its buffer moves one hop, or lands. Flits for the early reply unit, for the state collector, for the section store and for other chips leave at the field edge. A router in SINK discards (R365). -/
def execRouterHop (which : Nat) (s : State) : Out :=
  .next (match s.fab.packets[which]? with
    | none => s
    | some k =>
      let gone := (s.updFab (fun b => { b with packets := refillLocal [] (b.packets.eraseIdx which) })).handshake (tileIx k.x k.y)
      if s.mayHop which k = false then s
      else if s.sunk k.x k.y then gone
      else match k.next with
        | none => gone.land k
        | some (x, y, port) =>
          if s.sunk x y then gone.handshake (tileIx x y)
          else (gone.updFab (fun b => { b with packets := b.packets ++ [{ k with x := x, y := y, port := port }] })).handshake (tileIx x y))

/-- CREDIT_RETURN (R162, R182): a credit reaches its channel; one of an earlier section is void. -/
def execCreditReturn (which : Nat) (s : State) : Out :=
  .next (match s.fab.credits[which]? with
    | none => s
    | some c =>
      let s := s.updFab (fun b => { b with credits := b.credits.eraseIdx which })
      if (s.tile c.tile).inst = c.inst then s.updTile c.tile (fun x => { x with spent := x.spent.upd c.ch (· - 1) }) else s)

/-! #### Flow units (R166) -/

/-- The oldest token of a queue a flow unit reads: the next tag of an ordered queue. -/
def Tile.front (x : Tile) (q : Nat) : Option Tok := (x.avail q none 1).bind (·.head?)

/-- Whether a flow unit may put a flit on an output. -/
def State.outReady (s : State) (t o : Nat) : Bool := decide (16 ≤ o) || s.canSend t o 1

/-- A flow unit's output: a channel, or its own internal queue. -/
def State.unitOut (s : State) (t u o : Nat) (k : Tok) : State :=
  if 16 ≤ o then s.putQueue t (16 + u) { flit := k.flit, tag := k.tag }
  else s.sendFlit t o .data k.tag k.flit

/-- Move a token of a queue to an output. -/
def State.unitPass (s : State) (t u q o : Nat) (k : Tok) : State := (s.dequeue t q [k]).unitOut t u o k

/-- The control value of a token. -/
def Tok.ctl (k : Tok) : Bool := k.flit.getLsbD 0

/-- Which input MERGE_ARRIVAL takes: the token present first, and input A at the same instant. -/
def firstOf (a b : Option Tok) : Option (Bool × Tok) :=
  match a, b with
  | some x, some y => if y.since < x.since then some (true, y) else some (false, x)
  | some x, none => some (false, x)
  | none, some y => some (true, y)
  | none, none => none

/-- FLOW_UNIT_TOKEN (R166): one token of a flow unit. A merge takes its second input from the queue named in the place of output B. -/
def execFlowUnitToken (t : Fin 4096) (unit : Fin 4) (s : State) : Out :=
  .next (
    let x := s.tile t.val
    let u := unit.val
    let c := x.ctx.unit u
    let n := bits c 11 4 + 1
    let dq := bits c 16 12
    let cq := bits c 21 17
    let oa := bits c 26 22
    let ob := bits c 31 27
    if x.phase = .off then s
    else match bits c 3 0, x.front dq, x.front cq with
      | 1, some d, some k =>
        let o := if k.ctl then ob else oa
        if s.outReady t.val o then (s.dequeue t.val cq [k]).unitPass t.val u dq o d else s
      | 2, a, some k =>
        match (if k.ctl then x.front ob else a) with
        | some d => if s.outReady t.val oa then (s.dequeue t.val cq [k]).unitPass t.val u (if k.ctl then ob else dq) oa d else s
        | none => s
      | 3, a, _ =>
        match firstOf a (x.front ob) with
        | some (b, d) => if s.outReady t.val oa then s.unitPass t.val u (if b then ob else dq) oa d else s
        | none => s
      | 4, some d, some k =>
        if k.ctl then (if s.outReady t.val oa then (s.dequeue t.val cq [k]).unitPass t.val u dq oa d else s)
        else (s.dequeue t.val cq [k]).dequeue t.val dq [d]
      | 5, some d, _ =>
        if s.outReady t.val oa then
          let done := decide (n ≤ x.units.get u + 1)
          let s := s.updTile t.val (fun x => { x with units := x.units.upd u (fun i => if done then 0 else i + 1) })
          if done then s.unitPass t.val u dq oa d else s.unitOut t.val u oa d
        else s
      | 6, some d, _ =>
        let i := x.units.get u
        if i = 0 ∧ s.outReady t.val oa = false then s
        else
          let s := s.updTile t.val (fun x => { x with units := x.units.set u ((i + 1) % n) })
          if i = 0 then s.unitPass t.val u dq oa d else s.dequeue t.val dq [d]
      | _, _, _ => s)

/-! #### The section store (R179, R180) -/

/-- A byte of a row as section 0 reads it (R137, R138): header, level-0 frames, level-1 frames, level-2 frames, marks. None while the frame it belongs to is not made. -/
def State.rowByte (s : State) (r n : Nat) : Option Byte :=
  let row := s.row r
  let p := ((row.spans.head?).map (fun sp => (s.seg sp.seg).prof)).getD {}
  let fb := p.frameBytes
  let l1 := 64 + row.rowFrames * fb
  let l2 := l1 + (if 2 ≤ p.levels then row.rowFrames / p.stride * fb else 0)
  let mk := l2 + (if 3 ≤ p.levels then row.rowFrames / (p.stride * p.stride) * fb else 0)
  let other := some (Config.rowOther r n)
  let code (l : List (List Int)) (j b : Nat) : Option Byte :=
    (l[j]?).map (fun f =>
      if p.q16 then BitVec.ofNat 8 (rawOf 16 ((f[b / 2]?).getD 0) >>> (8 * (b % 2))) else BitVec.ofNat 8 (rawOf 8 ((f[b]?).getD 0)))
  let frame (base : Nat) (start len : Span → Nat) (l : Span → List (List Int)) : Option Byte :=
    let j := (n - base) / fb
    match row.spans.find? (fun sp => decide (start sp ≤ j) && decide (j < start sp + len sp)) with
    | none => if row.job.isSome then some 0 else other
    | some sp => if sp.void then (if row.job.isSome then some 0 else other) else code (l sp) (j - start sp) ((n - base) % fb)
  if n < 64 then other
  else if n < l1 then frame 64 (·.start) (·.len) (·.codes)
  else if n < l2 then frame l1 (·.l1Start) (·.l1Len) (·.codes1)
  else if n < mk then frame l2 (·.l2Start) (·.l2Len) (·.codes2)
  else match row.spans[(n - mk) / 32]? with
    | none => other
    | some sp =>
      let bytes := toLe 4 (sp.start ||| sp.len <<< 10 ||| b2n sp.reset <<< 21 ||| b2n sp.contIn <<< 22 ||| b2n sp.contOut <<< 23
          ||| b2n sp.final <<< 24 ||| b2n sp.void <<< 25)
        ++ toLe 4 sp.slot ++ toLe 8 sp.sampleId.toNat ++ toLe 4 (sp.l1Start ||| sp.l1Len <<< 10) ++ toLe 4 (sp.l2Start ||| sp.l2Len <<< 10)
        ++ zeros 8
      some ((bytes[(n - mk) % 32]?).getD 0)

/-- The span of a row that a byte of its frames belongs to. -/
def State.rowSpanAt (s : State) (r n : Nat) : Option Nat :=
  let row := s.row r
  let p := ((row.spans.head?).map (fun sp => (s.seg sp.seg).prof)).getD {}
  let fb := p.frameBytes
  let l1 := 64 + row.rowFrames * fb
  let l2 := l1 + (if 2 ≤ p.levels then row.rowFrames / p.stride * fb else 0)
  let mk := l2 + (if 3 ≤ p.levels then row.rowFrames / (p.stride * p.stride) * fb else 0)
  let at_ (base : Nat) (start len : Span → Nat) : Option Nat :=
    let j := (n - base) / fb
    (List.range row.spans.length).find? (fun k => match row.spans[k]? with
      | some sp => decide (start sp ≤ j) && decide (j < start sp + len sp)
      | none => false)
  if n < 64 ∨ mk ≤ n then none
  else if n < l1 then at_ 64 (·.start) (·.len)
  else if n < l2 then at_ l1 (·.l1Start) (·.l1Len)
  else at_ l2 (·.l2Start) (·.l2Len)

/-- Whether a byte of a plot's row may enter the plot: its span's state has been injected, where section 0 has state channels, or the span has none to load (R187). -/
def State.spanFed (s : State) (pi r n : Nat) : Bool :=
  let p := s.plot pi
  p.sec != 0 || decide (secStates p.image (descOff p.image 0 p.wide) = 0) || (match s.rowSpanAt r n with
    | none => true
    | some k => decide (k < p.spanLoad) || (((s.row r).spans[k]?).map (fun sp => sp.void || sp.denied)).getD true)

/-- A word of a plot's row, once every frame in it is made and its spans' states are there (R187). -/
def State.rowWord (s : State) (pi r off : Nat) : Option Flit :=
  let l := (List.range 16).filterMap (fun i => if s.spanFed pi r (16 * off + i) then s.rowByte r (16 * off + i) else none)
  if l.length = 16 then some (BitVec.ofNat 128 (leNat l)) else none

/-- What a section-store read returns (R179, R180, R225): the word, zero where the lease is fenced, and a free value beyond the declared region. None while the word is not there yet. -/
def State.secRead (s : State) (r : SecReq) : Option Flit × State :=
  let p := s.plot r.plot
  if p.lease ≠ r.lease then (some 0, s)
  else if s.readsRow r then (s.rowWord r.plot (p.row.getD 0) r.off, s)
  else if slotLines p.image r.slot * 128 ≤ r.off then
    let (a, s) := s.free
    let (b, s) := s.free
    (some (BitVec.ofNat 128 (a.toNat + b.toNat <<< 64)), s)
  else (some (s.fab.regions.get (regionKey r.plot r.slot r.off)), s.spillCount r.plot r.slot r.off)

/-- Whether a read of a plot's row is fenced (R224, R225): the lease under which the front end placed the row is no longer current. -/
def State.rowFenced (s : State) (r : SecReq) : Bool :=
  match (s.plot r.plot).row with
  | some k => s.readsRow r && (s.row k).job.isNone && decide ((s.row k).lease ≠ s.sfe.epoch)
  | none => false

/-- SECTION_STORE_RESPONSE (R179, R180): a read whose turn at its bank has come returns its data to its input queue; one of an earlier section instance is discarded. Writes that waited behind it take place. A fenced read of a row has its pass abandoned (R225). -/
def execSectionStoreResponse (which : Nat) (s : State) : Out :=
  .next (match s.fab.reqs[which]? with
    | none => s
    | some r =>
      let gone := s.updFab (fun b => { b with reqs := b.reqs.eraseIdx which })
      if r.write.isSome ∨ s.bankTurn which r = false then s.doWrites s.fab.reqs.length
      else if (s.tile r.tile).plot ≠ some r.plot ∨ (s.tile r.tile).inst ≠ r.inst ∨ (s.tile r.tile).phase = .off then gone.doWrites gone.fab.reqs.length
      else if s.rowFenced r then s.abandonPass r.plot
      else match gone.secRead r with
        | (none, _) => s
        | (some f, t) => (t.putQueue r.tile r.queue { flit := f, tag := r.tag }).doWrites s.fab.reqs.length)

/-! #### Recurrent state (R187, R229) -/

/-- The next span of a plot's row whose state is to be loaded: void spans, and spans a slot check keeps out, are passed over. -/
def State.nextSpan (s : State) (pi : Nat) : Option (Nat × Nat × Span) :=
  let p := s.plot pi
  match p.row with
  | none => none
  | some r =>
    let l := (s.row r).spans
    ((List.range l.length).find? (fun k => decide (p.spanLoad ≤ k) && ((l[k]?).map (fun sp => !sp.void && !sp.denied)).getD false)).bind
      (fun k => (l[k]?).map (fun sp => (r, k, sp)))

/-- Whether an earlier write-back to a slot is still to come (R187): of a row dispatched before, or of an earlier section of the same row. -/
def State.slotWaits (s : State) (pi slot : Nat) : Bool :=
  let p := s.plot pi
  s.plotIds.any (fun q =>
    let o := s.plot q
    let mine (b : Back) : Bool := decide (b.slot = slot) && (decide (b.order < p.order) || decide (q = pi))
    o.backs.any mine || o.held.any (fun h => match h with
      | .state b _ => mine b
      | _ => false)
    || (o.pass && decide (o.order < p.order) && ((o.row.map (fun r => (s.row r).spans.any (fun sp =>
      !sp.void && !sp.denied && decide (sp.slot = slot)))).getD false)))

/-- The state a span starts from (R187, R229), and whether its slot's access was fenced. -/
def State.spanState (s : State) (pi : Nat) (sp : Span) : List Byte × Bool × State :=
  let p := s.plot pi
  let n := hdrStateBytes (p.image.take 64)
  let init := slice p.image (le p.image 36 4 * 16) n
  let sl := s.bay.slots.get sp.slot
  if sp.reset then (init, false, s)
  else if sl.epoch ≠ sp.slotEpoch then (zeros n, true, s)
  else if sl.tag ≠ p.handle ∨ (hdrCompat (p.image.take 64) = false ∧ sl.tagGen ≠ p.gen) then (init, false, s.bump Reg.BAY_STATE_RESET)
  else (slice (fit sl.state 4096) (s.seg sp.seg).prof.feBytes n, false, s)

/-- Whether the tiles a section's state is injected into have started the section. -/
def State.injectReady (s : State) (pi o : Nat) : Bool :=
  let p := s.plot pi
  (List.range (secStates p.image o)).all (fun i =>
    let e := stateChan p.image o i
    let x := s.tile (tileIx (p.x0 + bits e 4 0) (p.y0 + bits e 9 5))
    decide (x.inst = p.inst) && decide (x.phase = .running))

/-- Inject a span's state flits on the section's state channels. A tagged queue's flits carry free tags. -/
def State.inject (s : State) (pi o : Nat) (fs : List Flit) : State :=
  let p := s.plot pi
  let lanes := secStates p.image o
  (List.range fs.length).foldl (fun s i =>
    let e := stateChan p.image o (Config.stateLane lanes i % lanes)
    let t := tileIx (p.x0 + bits e 4 0) (p.y0 + bits e 9 5)
    let q := bits e 13 10
    let (tag, s) := if qTagged ((s.tile t).ctx.queue q) then s.free else (0, s)
    s.putQueue t q { flit := (fs[i]?).getD 0, tag := tag.toNat % 65536 }) s

/-- STATE_LOAD (R187, R207, R225, R229): the next span's state is loaded and injected. A wide run injects what the narrow run loaded. -/
def execStateLoad (plot : Nat) (s : State) : Out :=
  .next (
    let p := s.plot plot
    let o := descOff p.image p.sec p.wide
    match s.nextSpan plot with
    | none => s
    | some (r, k, sp) =>
      if p.pass = false ∨ p.deciding = true ∨ secStates p.image o = 0 ∨ s.injectReady plot o = false then s
      else
        let b : Back := {
          row := r, span := k, slot := sp.slot, epoch := sp.slotEpoch, off := (s.seg sp.seg).prof.feBytes, order := p.order
          lanes := secStates p.image o }
        match p.kept.find? (fun e => p.wide && decide (e.1 = k)) with
        | some (_, fs) => (s.updPlot plot (fun q => { q with spanLoad := k + 1, backs := q.backs ++ [b] })).inject plot o fs
        | none =>
          if s.slotWaits plot sp.slot then s
          else
            let (bytes, fenced, s) := s.spanState plot sp
            let s := if fenced then s.fenceSpan r k else s
            let fs := flitsOf bytes 0 (bytes.length / 16)
            let s := s.updPlot plot (fun q => { q with
              spanLoad := k + 1, backs := q.backs ++ [b]
              kept := if widenEn p.image (secOff p.image p.sec) then q.kept ++ [(k, fs)] else q.kept })
            s.inject plot o fs)

/-- The flits of a state out of what has been collected: flit by flit, the oldest of its channel. -/
def takeState (lanes count : Nat) : Nat → List (Nat × Nat × Flit) → Option (List (Nat × Flit) × List (Nat × Nat × Flit))
  | 0, l => some ([], l)
  | m + 1, l =>
    match takeFirst (fun e => decide (e.1 = Config.stateLane lanes (count - (m + 1)) % lanes)) l with
    | none => none
    | some (e, rest) => (takeState lanes count m rest).map (fun q => ((e.2.1, e.2.2) :: q.1, q.2))

/-- STATE_WRITEBACK (R187, R207, R229): the state collected at a span's end goes to its slot, or is held for the section's decision. -/
def execStateWriteback (plot : Nat) (s : State) : Out :=
  .next (
    let p := s.plot plot
    match p.backs with
    | [] => s
    | b :: rest =>
      let n := hdrStateBytes (p.image.take 64) / 16
      match takeState b.lanes n n p.collected with
      | none => s
      | some (fs, left) =>
        let inst := (fs.map (·.1)).foldl max 0
        let s := s.updPlot plot (fun q => { q with
          backs := rest, collected := left, backs0 := if inst < q.inst then q.backs0.erase b else q.backs0 })
        if p.pass && decide (inst = p.inst) && widenEn p.image (secOff p.image p.sec) then
          s.updPlot plot (fun q => { q with held := q.held ++ [.state b (fs.map (·.2))] })
        else s.writeSlot plot b (fs.map (·.2)))

/-! #### Queue depths (R189) -/

/-- QD_SAMPLE (R189): at a whole multiple of the period, the depth of every queue selected. -/
def execQdSample (s : State) : Out :=
  .next (
    let period := s.fld Reg.FAB_QD_PERIOD_period_ns
    if period = 0 ∨ s.thyme.toNat % period ≠ 0 then s
    else (List.range 16).foldl (fun s q =>
      if s.flag (Reg.FAB_QD_SEL_valid q) = false then s
      else
        let t := tileIx (s.fld (Reg.FAB_QD_SEL_x q)) (s.fld (Reg.FAB_QD_SEL_y q))
        let n := ((s.tile t).queues.get (s.fld (Reg.FAB_QD_SEL_queue q))).length
        let s := s.setFld (Reg.FAB_QD_LAST_last q) n
        let s := s.setFld (Reg.FAB_QD_MAX_max q) (max n (s.fld (Reg.FAB_QD_MAX_max q)))
        (s.addCnt (Reg.FAB_QD_SUM q) n).bump (Reg.FAB_QD_CNT q)) s)

end Sys2Proof.Machine
end

