-- ==== Sys2Proof/Machine/Repair.lean ====
section
/-! DEFINITION. Repair and faults: retirement, remaps, the ledger, memory errors, the fault log, the failure capsule, stuck bus lines and the maker's challenge (R361 to R381, R410). -/

namespace Sys2Proof.Machine

/-! #### Retirement (R364, R365) -/

/-- Whether a row of a plot's tiles reaches the field's outer edge through a tile (R161, R365): channels stay inside the plot's rectangle, and accesses and REPLY links run along their own row to the edge. -/
def PlotSt.crosses (p : PlotSt) (t : Nat) : Bool :=
  decide (p.y0 ≤ tileY t) && decide (tileY t < p.y0 + p.h)
    && (if edgeX (tileX t) = 0 then decide (tileX t < p.x0 + p.w) else decide (p.x0 ≤ tileX t))

/-- The plots of a field that a retired tile takes with it (R365): the one that holds it, and those whose section-store accesses or REPLY links route through it. Whether a plot in whose way to the edge it stands has any of its rows use it is left open. -/
def State.revokeAround (s : State) (t : Nat) : State :=
  (s.fieldPlots (tileField t)).foldl (fun s p =>
    if (s.plot p).tiles.contains t then s.revokePlot p
    else if (s.plot p).crosses t then
      let (v, s) := s.free
      if bit v.toNat 0 then s.revokePlot p else s
    else s) s

/-- A router in SINK frees its link buffers at once (R365): what they hold is discarded. -/
def State.drainRouter (s : State) (t : Nat) : State :=
  s.updFab (fun b => { b with packets := refillLocal [] (b.packets.filter (fun k => tileIx k.x k.y != t)) })

/-- Retire a tile (R365): its router goes to SINK, Bay revokes, a record and a ledger entry follow, and its remap waits for the firmware. `code` is the fault code, `cause` the ledger's. -/
def State.retireTile (s : State) (t code cause : Nat) : State :=
  let f := tileField t
  let x := tileX t % 32
  let y := tileY t % 32
  let (r, c) := (s.repField f).map.phys x y
  if (s.repField f).retired.contains t then s
  else
    let s := s.updRep (fun p => { p with sink := if p.sink.contains (f, r, c) then p.sink else p.sink ++ [(f, r, c)] })
    let s := s.updRepField f (fun p => { p with retired := p.retired ++ [t], toMerge := p.toMerge ++ [⟨r, c, cause, s.thyme⟩] })
    let s := ((s.drainRouter t).revokeAround t).bump Reg.REP_RETIRE
    (s.addFault code f x y (physDetail r c ||| (if code = 4 then cause <<< 12 else 0))).trigger .retire

/-- TILE_WDOG (R366): ready work with no handshake has been measured for REP_WDOG_NS. -/
def execTileWdog (tile : Fin 4096) (s : State) : Out :=
  .next (if s.flag Reg.REP_CTRL_wdog_en && decide (s.fld Reg.REP_WDOG_NS_ns ≤ (s.tile tile.val).readyNs)
        && !(s.repField (tileField tile.val)).retired.contains tile.val then
      (s.bump Reg.REP_WDOG_FIRED).retireTile tile.val 1 2
    else s)

/-- A write of REP_CMD with retire set (R364, R381). Every logical tile is in use in its field's map, so NO_TILE is never given. -/
def State.retireCmd (s : State) (t : Nat) : State :=
  s.startCmd Reg.REP_CMD_STAT_done Reg.REP_CMD_STAT_status 1 (fun s =>
    if (s.repField (tileField t)).retired.contains t then s.finishCmd Reg.REP_CMD_STAT_done Reg.REP_CMD_STAT_status 2
    else (s.retireTile t 4 5).finishCmd Reg.REP_CMD_STAT_done Reg.REP_CMD_STAT_status 0)

/-- RETIRE_CMD (R364). -/
def execRetireCmd (tile : Fin 4096) (s : State) : Out := .next (s.coreWrite none (fun s => s.retireCmd tile.val))

/-! #### Remap (R363, R367, R368) -/

/-- The southmost skipped row with at most one defect (R363). -/
def RepMap.spareRow (m : RepMap) (d : List (Nat × Nat)) : Option Nat :=
  ((List.range 34).reverse).find? (fun r => m.rows.contains r && decide ((defectsIn d r).length ≤ 1))

/-- The map for a new defect at run time (R363); none if the field is out of spares. `d` holds the other defects. -/
def RepMap.cover (m : RepMap) (d : List (Nat × Nat)) (r c : Nat) : Option RepMap :=
  if m.covers (r, c) then some m
  else if !d.contains (r, m.cols.get r) then some { m with cols := m.cols.set r c }
  else match m.spareRow d with
    | none => none
    | some q => some {
        rows := (List.range 34).filter (fun x => (m.rows.contains x && decide (x ≠ q)) || decide (x = r))
        cols := m.cols.set q ((defectsIn d q).headD 32) }

/-- What the firmware computes for the failed tiles of a field: the map, the defects on record, the ledger entries, and the tiles without spares. -/
structure Merge where
  map : RepMap
  defects : List (Nat × Nat)
  extra : List (Nat × Nat) := []
  entries : List LedgerEntry := []
  lost : List (Nat × Nat) := []
  full : Nat := 0

/-- Put a defect on record with its ledger entry; a field that has 255 on record keeps it for this power-on only (R362). -/
def Merge.record (m : Merge) (f : Nat) (n : NewDefect) (action : Nat) : Merge :=
  if 255 ≤ m.defects.length then { m with extra := m.extra ++ [(n.row, n.col)], full := m.full + 1 }
  else { m with
    defects := m.defects ++ [(n.row, n.col)], entries := m.entries ++ [⟨f, n.row, n.col, n.cause, action, n.thyme⟩] }

/-- Merge one failed tile (R362, R363, R368). -/
def Merge.add (m : Merge) (f : Nat) (n : NewDefect) : Merge :=
  let known := m.defects ++ m.extra
  if known.contains (n.row, n.col) then m
  else match m.map.cover known n.row n.col with
    | some k => { m.record f n 0 with map := k }
    | none => { m.record f n 1 with lost := m.lost ++ [(n.row, n.col)] }

/-- The field is out of spares for a defect (R368). -/
def State.outOfSpares (s : State) (f : Nat) (d : Nat × Nat) : State :=
  let s := s.updRepField f (fun r => { r with degraded := true })
  (s.addFault 6 f 0 0 (physDetail d.1 d.2)).trigger .spares

/-- REMAP_SUBMIT (R363, R367): the firmware merges the field's failed tiles into one map and submits it. With one remap running and one pending it is refused with BUSY and tried again later. -/
def execRemapSubmit (field : Fin 4) (s : State) : Out :=
  .next (
    let f := field.val
    let r := s.repField f
    if r.toMerge.isEmpty then s
    else
      let last := (r.pending.or r.running).getD r.map
      let m := r.toMerge.foldl (fun (m : Merge) n => m.add f n) ({ map := last, defects := r.defects, extra := r.extra } : Merge)
      let moves := decide (m.map ≠ last)
      if moves && r.running.isSome && r.pending.isSome then s.bump Reg.REP_REMAP_BUSY
      else
        let running := if moves && r.running.isNone then some m.map else r.running
        let pending := if moves && r.running.isSome then some m.map else r.pending
        let s := s.updRepField f (fun r => { r with toMerge := [], defects := m.defects, extra := m.extra, running := running, pending := pending })
        let s := (s.updRep (fun p => { p with ledger := p.ledger ++ m.entries })).addCnt Reg.REP_LEDGER_FULL m.full
        let s := m.lost.foldl (fun s d => s.outOfSpares f d) s
        (s.fieldPlots f).foldl (fun s p => s.remapRemove p) s)

/-- REMAP_APPLY (R184, R367): no plot holds an affected tile, and no section-end report of the field waits to be ordered before it, so the map is loaded; retired tiles that it backs with good ones return. -/
def execRemapApply (field : Fin 4) (s : State) : Out :=
  .next (
    let f := field.val
    let r := s.repField f
    match r.running with
    | none => s
    | some m =>
      let moved := r.map.affected m f
      if (s.nextReport f).isSome || moved.any (fun t => (s.tile t).plot.isSome) then s
      else
        let bad (t : Nat) : Bool :=
          let p := m.phys (tileX t % 32) (tileY t % 32)
          r.known.contains p || s.rep.sink.contains (f, p.1, p.2)
        let s := s.updRepField f (fun r => { r with
          map := m, running := r.pending, pending := none, retired := r.retired.filter bad })
        let s := (s.bump Reg.REP_REMAP).addFault 5 f 0 0 moved.length
        ((s.fieldPlots f).foldl (fun s p => s.remapRemove p) s).retryPlaces)

/-! #### The ledger (R362) -/

/-- The header of a ledger half. -/
def halfHeader (gen : Nat) : List Byte :=
  let b := toLe 2 0xC7AC ++ [1, 0] ++ toLe 4 gen ++ zeros 20
  b ++ toLe 4 (crc32c b)

/-- The first entry of each distinct defective tile. -/
def distinctTiles : List LedgerEntry → List LedgerEntry → List LedgerEntry
  | [], acc => acc.reverse
  | e :: r, acc =>
    if acc.any (fun a => a.field == e.field && a.prow == e.prow && a.pcol == e.pcol) then distinctTiles r acc
    else distinctTiles r (e :: acc)

/-- The bytes of a half that holds the entries given, numbered from `seq`. -/
def halfBytes (gen seq : Nat) (l : List LedgerEntry) : List Byte :=
  halfHeader gen ++ (l.zipIdx.flatMap (fun e => e.1.bytes (seq + e.2)))

/-- Append an entry to the ledger (R362); a full half is first compacted into the other one. -/
def State.appendLedger (s : State) (e : LedgerEntry) : State :=
  let f := s.rst.flash
  let old := f.entries
  let put (second : Bool) (b : List Byte) (n : Nat) : State :=
    let s := s.updRst (fun r => { r with flash := if second then { r.flash with led1 := b } else { r.flash with led0 := b } })
    s.updRep (fun r => { r with ledgerSeq := n })
  let seq := s.rep.ledgerSeq
  match f.activeHalf with
  | none => put false (halfBytes 1 seq [e]) (seq + 1)
  | some second =>
    if old.length < 1023 then
      put second (flashBytes f.ledgerHalf 0 (32 + 32 * old.length) ++ e.bytes seq) (seq + 1)
    else
      let l := distinctTiles (old.map (·.2)) [] ++ [e]
      let s := put (!second) (halfBytes (halfGen f.ledgerHalf + 1) seq l) (seq + l.length)
      s.updRst (fun r => { r with flash := if second then { r.flash with led1 := [] } else { r.flash with led0 := [] } })

/-- LEDGER_WRITE_DONE (R362): the oldest entry on its way is durable, or its write has failed. -/
def execLedgerWriteDone (ok : Bool) (s : State) : Out :=
  .next (match s.rep.ledger with
    | [] => s
    | e :: rest =>
      let s := s.updRep (fun r => { r with ledger := rest })
      if ok then s.appendLedger e else s.bump Reg.REP_LEDGER_FULL)

/-! #### Memory errors (R364, R369 to R371) -/

/-- The content of a stream's slot is lost (R371). -/
def State.stateLost (s : State) (slot : Nat) : State :=
  let s := (s.updSlot slot (fun x => { x.invalid with tag := 0, tagGen := 0 })).bump Reg.REP_STATE_LOST
  (s.addFault 11 0 0 0 slot).trigger .ue

/-- A protected object becomes invalid until it is rewritten (R369): a profile reads valid 0. -/
def State.spoilTable (s : State) (u : TableUse) : State :=
  match u with
  | .replyProfile p => s.updErp (fun e => { e with profiles := e.profiles.upd p.val (fun x => { x with d0 := x.d0 &&& ~~~1 }) })
  | .normProfile p => s.updSfe (fun e => { e with profiles := e.profiles.upd p.val (fun x => { x with d0 := x.d0 &&& ~~~1 }) })
  | u => s.updRep (fun r => { r with badTables := if r.badTables.contains u then r.badTables else r.badTables ++ [u] })

/-- The entry number of a table's object, for its fault record. -/
def tableEntry : TableUse → Nat
  | .program b pc => 4096 * b + pc.val
  | .keyMap m => m.val
  | .replyProfile p => p.val
  | .normProfile p => p.val
  | .template t => t.val + 1
  | .steer i => i.val

/-- A TABLE_UE record (R372). The manual does not number the tables, so that nibble is left open. -/
def State.tableFault (s : State) (entry : Nat) : State :=
  let (v, s) := s.free
  (s.bump Reg.REP_TABLE_UE).addFault 10 0 0 0 (v.toNat % 16 ||| (entry % 65536) <<< 4)

/-- A line of the section store is never leased again until reset, and one that already is not is no new one; a bank with 64 of them is retired, and Bay revokes its leases (R369): of the plots whose regions reach the bank. Whether a hold area lies in it is open. -/
def State.retireLine (s : State) (bank line : Nat) : State :=
  if s.rep.ssDead.contains (bank, line) then s
  else
  let s := (s.updRep (fun r => { r with ssDead := r.ssDead ++ [(bank, line)], ssLines := r.ssLines.upd bank (fun n => min 1024 (n + 1)) })).bump Reg.REP_LINES_RETIRED
  if s.rep.ssLines.get bank < 64 ∨ s.rep.ssBanks.contains bank = true then s
  else
    let k := (s.ssBanksOf (bank / 12)).idxOf bank
    let s := (s.updRep (fun r => { r with ssBanks := r.ssBanks ++ [bank] })).addFault 12 (bank / 12) 0 0 bank
    (s.fieldPlots (bank / 12)).foldl (fun s p =>
      if (s.plot p).leased.any (fun n => decide (k < n)) then s.revokePlot p
      else if 0 < (s.plot p).holdLines then
        let (v, s) := s.free
        if bit v.toNat 0 then s.revokePlot p else s
      else s) s

/-- The code and index of HBM content in its fault record (R372). -/
def hbmCode : HbmUse → Nat × Nat
  | .image h => (1, h)
  | .slot n => (2, n)
  | .bucket b => (3, b)
  | .counter i => (4, i)
  | .sample j i => (5, 1048576 * j + i)
  | .spill p => (6, p)
  | .other => (0, 0)

/-- The physical tile that stands behind a logical one (R155, R364): what a tile counts goes with its silicon. -/
def State.physKey (s : State) (t : Nat) : Nat :=
  let p := (s.repField (tileField t)).map.phys (tileX t % 32) (tileY t % 32)
  (tileField t * 34 + p.1) * 33 + p.2

/-- What the loss of HBM content does (R369). A model whose image copy is lost goes to HOST; one that pages in from it starts again from the host. The entries of a lost bucket leave the stream cache too. -/
def State.hbmLost (s : State) (u : HbmUse) : State :=
  match u with
  | .image h =>
    let m := s.model h
    if m.st = .paging then
      let again := decide (m.page = .loading) || decide (m.page = .copied)
      let s := s.updModel h (fun m => { m with prev := .host, image := [], copied := [], page := if again then .copying else m.page })
      if again then s.readImage h else s
    else if m.st = .resident then s.evictTo h 1
    else if m.st = .evicting then s.updModel h (fun m => { m with level := 1 })
    else (s.demote h).demote h
  | .slot n => s.stateLost n
  | .bucket b => s.updRul (fun r => { r with em := r.em.set b [], emCache := r.emCache.filter (fun k => decide (emB0 k ≠ b) && decide (emB1 k ≠ b)) })
  | .counter i => s.updRul (fun r => { r with images := r.images.set i 0 })
  | .sample j i => { s with adp := { s.adp with jobs := s.adp.jobs.upd j (fun x => { x with cache := x.cache.filter (fun c => c.1 != i) }) } }
  | .spill p => if (s.plot p).used then (s.abandonPass p).afterAbandon p else s
  | .other => s

/-- A model's records in the configuration store have failed (R369): its plot is revoked, and Bay writes them anew into new lines from the image copy in HBM before the model pages in again. -/
def State.rewriteRecords (s : State) (h : Nat) : State :=
  let m := s.model h
  let s := if m.st = .staged then s.demote h
    else if m.st = .paging ∧ m.prev = .staged then (s.revokeLines h).updModel h (fun m => { m with prev := .hbm })
    else if m.st = .resident ∨ m.st = .evicting then s.updModel h (fun m => { m with level := min m.level 2 })
    else s
  match m.plot with
  | some p => s.revokePlot p
  | none => s

/-- Whether the store of an uncorrectable error is out of reset (R345 to R347): Sage's memories once the stretch has ended, HBM once phase 5 has, and the others with the core. -/
def State.ueUp (s : State) (store : UeStore) : Bool :=
  match store with
  | .sageMemory => decide (s.phase ≠ 0)
  | .hbm _ _ => decide (6 ≤ s.phase) && decide (s.phase ≠ 8)
  | _ => s.rst.coreReady

/-- Whether the store of a corrected error is out of reset. -/
def State.ceUp (s : State) (store : CeStore) : Bool :=
  match store with
  | .hbm => decide (6 ≤ s.phase) && decide (s.phase ≠ 8)
  | _ => s.rst.coreReady

/-- UE_DETECTED (R364, R369, R371, R372): an uncorrectable error delivers no data to its user, and each store has its outcome, once it is out of reset. -/
def execUeDetected (store : UeStore) (s : State) : Out :=
  .next (if s.ueUp store = false then s else match store with
    | .tile t =>
      let s := (s.bump Reg.REP_TILE_UE).updRep (fun r => { r with ues := r.ues.upd (s.physKey t.val) (fun n => min 2 (n + 1)) })
      let s := match (s.tile t.val).plot with
        | none => s
        | some p => s.revokePlot p
      if 2 ≤ s.rep.ues.get (s.physKey t.val) then s.retireTile t.val 2 3 else s
    | .sectionStore bank line use =>
      let s := (s.bump Reg.REP_SS_UE).addFault 7 0 0 0 (bank.val ||| line.val <<< 6)
      let s := match use with
        | .region p => if (s.plot p).used then s.revokePlot p else s
        | .row r => s.abortRow r
        | .cache n => s.stateLost n
        | .other => s
      s.retireLine bank.val line.val
    | .config h =>
      let s := (s.bump Reg.FAB_CFG_CRC).addFault 8 0 0 0 (h % 65536)
      let s := s.updRep (fun r => { r with cfgLines := min 12288 (r.cfgLines + 1) })
      s.rewriteRecords h
    | .hbm page use =>
      let k := hbmCode use
      let s := (s.bump Reg.REP_HBM_UE).updRep (fun r =>
        if r.hbmDead.contains page then r else { r with hbmDead := r.hbmDead ++ [page], hbmPages := r.hbmPages + 1 })
      ((s.addFault 9 0 0 0 (k.1 ||| (k.2 % 16777216) <<< 4)).trigger .ue).hbmLost use
    | .ternary i => s.tableFault i.val
    | .streamCache b => (s.updRul (fun r => { r with emCache := r.emCache.filter (fun k => decide (emB0 k ≠ b) && decide (emB1 k ≠ b)) })).tableFault b
    | .table u => (s.spoilTable u).tableFault (tableEntry u)
    | .network f => s.updFrame f (fun x => { x with corrupt := true })
    | .sageMemory => s.updRst (fun r => { r with fwStopped := true }))

/-- CE_DETECTED (R364, R369): counted, once the store is out of reset; a tile whose store corrects more than REP_CE_THR errors within one window of 10^9 ns of the Thyme grid is retired. -/
def execCeDetected (store : CeStore) (s : State) : Out :=
  .next (if s.ceUp store = false then s else match store with
    | .tile t =>
      let w := s.thyme.toNat / 1000000000
      let s := s.bump Reg.REP_TILE_CE
      let s := s.updRep (fun r =>
        let ces := if r.ceWindow = w then r.ces else r.ces.clear
        { r with ceWindow := w, ces := ces.upd (s.physKey t.val) (fun n => n + 1) })
      if s.flag Reg.REP_CTRL_ce_retire && decide (s.fld Reg.REP_CE_THR_count < s.rep.ces.get (s.physKey t.val)) then s.retireTile t.val 3 4 else s
    | .sectionStore => s.bump Reg.REP_SS_CE
    | .hbm => s.bump Reg.REP_HBM_CE
    | .table => s.bump Reg.REP_TABLE_CE)

/-- PATROL_SCRUB (R370): words are read and corrected in place, and nothing that carries data is delayed. -/
def execPatrolScrub (s : State) : Out := .next s

/-! #### The fault log (R372) -/

/-- A write of 1 to REP_FAULT_CMD.pop. -/
def State.faultPop (s : State) : State :=
  match s.rep.log with
  | [] => s
  | r :: rest =>
    let s := s.updRep (fun p => { p with log := rest })
    let s := s.setFld (Reg.REP_FAULT_DATA_word 0) (r.code ||| r.field <<< 8 ||| r.x <<< 10 ||| r.y <<< 16)
    let s := s.setFld (Reg.REP_FAULT_DATA_word 1) (r.thyme.toNat % 4294967296)
    (s.setFld (Reg.REP_FAULT_DATA_word 2) (r.thyme.toNat / 4294967296)).setFld (Reg.REP_FAULT_DATA_word 3) r.detail

/-- FAULT_POP. -/
def execFaultPop (s : State) : Out := .next (s.coreWrite none (fun s => s.faultPop))

/-! #### The failure capsule (R375 to R377) -/

/-- The code of a capsule trigger. -/
def capCode : CapTrigger → Nat
  | .host => 1 | .retire => 2 | .spares => 3 | .ue => 4 | .busHang => 5 | .avsFault => 6

/-- CAPSULE_TRIGGER (R375): an automatic capture starts, or the trigger is ignored. -/
def execCapsuleTrigger (trigger : CapTrigger) (s : State) : Out :=
  .next (
    if s.rep.triggers.contains trigger = false then s
    else
      let s := s.updRep (fun r => { r with triggers := r.triggers.erase trigger })
      let armed := bit (s.fld Reg.REP_CTRL_capsule_auto) (capCode trigger - 2)
      if armed && s.rep.capturing.isNone && s.rep.storing.isNone && (!s.rst.flash.capsuleOk || !s.flag Reg.REP_CTRL_keep_first)
          && !s.rst.fwStopped then
        s.updRep (fun r => { r with capturing := some trigger })
      else s)

/-- A fault record as bytes, in the layout of REP_FAULT_DATA. -/
def FaultRec.bytes (r : FaultRec) : List Byte :=
  toLe 4 (r.code ||| r.field <<< 8 ||| r.x <<< 10 ||| r.y <<< 16) ++ toLe 8 r.thyme.toNat ++ toLe 4 r.detail

/-- Every defined register of BAR0, by its lowest address. -/
def definedRegs : List Loc :=
  (List.range (2 ^ 23)).filterMap (fun k => (findReg (4 * k)).filter (fun l => !l.upper))

/-- Whether a register is a 64-bit counter of its block. -/
def RegDef.isCounter (r : RegDef) : Bool := decide (r.width = 64) && decide (r.fields = [fd "count" 63 0 .ro 0])

/-- Registers as address and value pairs. -/
def State.regPairs (s : State) (l : List Loc) : List Nat := l.flatMap (fun x => [x.key, (s.shown x).toNat])

/-- Leases (R376): catalogue entries with their plot and epochs, queue-pair states and epochs, domain epochs. -/
def State.capsuleLeases (s : State) : List Nat :=
  s.bay.models.keys.flatMap (fun h =>
    let m := s.model h
    [h, m.st.code, m.gen, m.domain] ++ (match m.plot with
      | none => []
      | some p => [p, (s.plot p).field, (s.plot p).x0, (s.plot p).y0, (s.plot p).h, (s.plot p).w, (s.plot p).lease.toNat]))
  ++ s.hif.qps.keys.flatMap (fun q => [q, (s.qp q).st.code, (s.qp q).epoch.toNat])
  ++ s.hif.doms.keys.flatMap (fun d => [d, (s.hif.doms.get d).epoch])

/-- The numeric statistics of every live entry with its epoch, as R214 lays a record of them out. -/
def State.capsuleStats (s : State) : List Nat :=
  s.liveEpochs.flatMap (fun e => s.residents.flatMap (fun h => (List.range (hdrSections (s.model h).image)).flatMap (fun k =>
    (statRecord e h k (s.num.stats.get (statKey e h k)) false).map (·.toNat))))

/-- What a capsule section holds (R376), in an order of the model's own: a section's layout is open but for the fault log and the ledger. -/
def State.sectionContent (s : State) (type : Nat) : List Nat :=
  match type with
  | 2 => s.regPairs definedRegs
  | 3 => s.regPairs (definedRegs.filter (·.reg.isCounter)) ++ [(s.reg Reg.RUL_CNT_GEN).toNat, (s.reg Reg.RUL_CNT_GEN_TS).toNat]
  | 4 => s.capsuleLeases
  | 6 => s.regPairs (definedRegs.filter (fun l => decide (0x1000100 ≤ l.key) && decide (l.key < 0x1000200))) ++ s.capsuleStats
  | 7 => s.pow.decisions.flatMap (fun d => [d.1, d.2.1, d.2.2])
  | _ => []

/-- The bytes of a capsule section (R376). The fault log is laid out as REP_FAULT_DATA, the ledger as the flash holds it; how the other sections lay out their content, and what the firmware's trace holds, the manual leaves open (log 158). -/
def State.sectionData (s : State) (type : Nat) : List Byte :=
  match type with
  | 1 => s.rep.log.flatMap FaultRec.bytes
  | 5 => flashBytes s.rst.flash.ledgerHalf 0 32768
  | t => Config.capsuleSection t (s.sectionContent t) s.freeIdx

/-- The sections in order; one that would pass 1,048,576 bytes is cut and marked (R376), and one with no room for its head is left out (log 158). -/
def State.capsuleSections (s : State) (used : Nat) : List Nat → List (List Byte)
  | [] => []
  | t :: r =>
    let d := s.sectionData t
    let room := 1048576 - used - 16
    let cut := decide (room < d.length)
    let d := d.take room
    let b := toLe 2 t ++ toLe 2 (b2n cut) ++ toLe 4 d.length ++ toLe 8 s.thyme.toNat ++ d
    if 1048576 < used + 16 then [] else b :: s.capsuleSections (used + b.length) r

/-- A failure capsule (R376). -/
def State.capsule (s : State) (trigger : CapTrigger) (seq : Nat) : List Byte :=
  let parts := s.capsuleSections 64 [1, 2, 3, 4, 5, 6, 7, 8]
  let body := parts.flatten
  toLe 2 0xC7AB ++ [1] ++ toLe 1 (capCode trigger) ++ toLe 4 seq ++ toLe 8 s.thyme.toNat ++ toLe 4 (64 + body.length) ++ toLe 4 parts.length
    ++ toLe 4 (s.reg Reg.RST_CAUSE).toNat ++ toLe 4 (s.reg Reg.SAG_FW_VER).toNat ++ toLe 4 (crc32c body) ++ zeros 28 ++ body

/-- The number of the next capsule: one above the last of this power-on, or above the stored one. -/
def State.nextCapSeq (s : State) : Nat :=
  max s.rep.capSeq (if s.rst.flash.capsuleOk then le s.rst.flash.capsule 4 4 else 0) + 1

/-- CAPSULE_CAPTURED (R375): the area of the flash is erased and the capsule is on its way to it. -/
def execCapsuleCaptured (s : State) : Out :=
  .next (match s.rep.capturing with
    | none => s
    | some t =>
      let n := s.nextCapSeq
      let b := s.capsule t n
      let s := { s with freeIdx := s.freeIdx + 1 }
      let s := s.updRep (fun r => { r with capturing := none, storing := some b, capSeq := n })
      s.updRst (fun r => { r with flash := { r.flash with capsule := [] } }))

/-- CAPSULE_STORED (R375, R372). -/
def execCapsuleStored (s : State) : Out :=
  .next (match s.rep.storing with
    | none => s
    | some b =>
      let s := (s.updRst (fun r => { r with flash := { r.flash with capsule := b } })).updRep (fun r => { r with storing := none })
      (s.bump Reg.REP_CAPSULE).addFault 16 0 0 0 (le b 4 4 % 65536))

/-- CAPSULE (R280, R377): fa 0 captures a new capsule into the host buffer, fa 1 copies the stored one. -/
def execCapsule (desc : Nat) (s : State) : Out :=
  .next (if s.mayStart desc 6 then
      let x := s.desc desc
      let send (b : List Byte) (at_ : DWord) (s : State) : State :=
        let b := b.take (descLen x.bytes)
        let s := if b.isEmpty then s else s.qpWrite x.qp (descAddr x.bytes) b true
        s.completeDesc desc 0 b.length at_ 0
      if bit (byteAt x.bytes 1) 2 then
        let c := s.rst.flash.capsule
        if s.rst.flash.capsuleOk then send (c.take (le c 16 4)) (BitVec.ofNat 64 (le c 8 8)) s
        else
          let (v, s) := s.free
          s.completeDesc desc 0 0 v 0
      else
        let n := s.nextCapSeq
        let b := s.capsule .host n
        let t := s.thyme
        send b t ({ s with freeIdx := s.freeIdx + 1 }.updRep (fun r => { r with capSeq := n }))
    else s)

/-! #### Stuck lines and the challenge (R374, R379, R410) -/

/-- Whether the SMBus target works and answers the challenge commands: from the end of phase 1, and while TEST_EN holds the device (R378, R409). -/
def State.challengeOpen (s : State) : Bool := s.reachable || s.rst.held

/-- BUS_STUCK (R374, R410): a line was low for 35 ms; the drivers of the bus are released, and as master Umauk clocks up to nine pulses while SDA is low, then sends a STOP. The SMBus target is in reset until phase 1 has ended, the PMBus master until phase 3 begins (R347, R355). -/
def execBusStuck (bus : SlowBus) (sda scl : Bool) (s : State) : Out :=
  .next (
    if !(sda || scl) then s
    else
      let detail := b2n sda ||| b2n scl <<< 1
      match bus with
      | .smbus => if s.challengeOpen = false then s else (s.bump Reg.REP_SMB_STUCK).addFault 13 0 0 0 detail
      | .pmbus =>
        if s.reachable = false ∨ s.phase < 3 then s
        else
          let s := (s.bump Reg.REP_PMB_STUCK).addFault 14 0 0 0 detail
          if sda && !scl then s.emit .pmbusRecover else s)

/-- The 40 bytes of the challenge: the device serial and the nonce. -/
def State.challenge (s : State) : List Byte := toLe 8 Config.fuseSerial.toNat ++ fit s.rep.nonce 32

/-- CHAL_GET (R379): a new nonce at each read. -/
def execChalGet (nonce : List Byte) (s : State) : Out :=
  if nonce.length ≠ 32 then .fault .illFormed
  else .next (
    if s.challengeOpen then
      let s := s.updRep (fun r => { r with nonce := nonce, chal := if r.chal = 4 then 4 else 1 })
      s.emit (.smbus (some s.challenge))
    else s.emit (.smbus none))

/-- A response verifies over the challenge and its mode (R379). -/
def State.respOk (s : State) (response : List Byte) : Bool :=
  ecdsaVerify (sha384 (s.challenge ++ response.take 1)) (response.drop 1) Config.challengeKey

/-- CHAL_RESP (R379): a nonce answers one response; three refusals lock the challenge until reset. -/
def execChalResp (response : List Byte) (s : State) : Out :=
  if response.length ≠ 97 then .fault .illFormed
  else .next (
    if s.challengeOpen = false then s.emit (.smbus none)
    else if decide (s.rep.chal = 1) && s.respOk response then s.updRep (fun r => { r with chal := 2 })
    else
      let n := s.rep.refusals + 1
      (s.updRep (fun r => { r with refusals := n, chal := if 3 ≤ n then 4 else 3 })).bump Reg.REP_CHAL_FAIL)

/-- CHAL_STAT (R379). -/
def execChalStat (s : State) : Out :=
  .next (s.emit (.smbus (if s.challengeOpen then some (toLe 1 s.rep.chal) else none)))

end Sys2Proof.Machine
end

