-- ==== Sys2Proof/Machine/Mailbox.lean ====
section
/-! DEFINITION. The Sage mailbox: its commands, their answers and the heartbeat kicks (R45, R288, R337, R350, R351, R353, R362). -/

namespace Sys2Proof.Machine

/-- A write of SAG_MBOX_CMD (R288): Sage runs one command at a time. -/
def State.mboxWrite (s : State) (code : Nat) : State :=
  if s.flag Reg.SAG_MBOX_STAT_busy then s.stick Reg.SAG_MBOX_STAT_refused
  else
    let args := (List.range 8).map (fun j => s.wreg (Reg.SAG_MBOX_ARG j))
    let s := s.updHif (fun h => { h with mbox := some { code := code, args := args } })
    s.setFld Reg.SAG_MBOX_STAT_busy 1

/-- An argument of the mailbox command. -/
def Mbox.arg (m : Mbox) (i : Nat) : Nat := (wordAt m.args i).toNat

/-- Whether Sage answers a command: in HALT the boot ROM takes GET_INFO and FW_STAGE only (R353). -/
def State.mboxKnown (s : State) (code : Nat) : Bool :=
  if s.phase = 8 then decide (code = 1) || decide (code = 7) else decide (1 ≤ code) && decide (code ≤ 7)

/-- Run the mailbox command of a code, if it waits to run and Sage runs. -/
def State.mboxRun (s : State) (code : Nat) (k : Mbox → State → State) : State :=
  match s.hif.mbox with
  | some m => if m.code = code && m.waits && s.mboxKnown code && !s.rst.fwStopped then k m s else s
  | none => s

/-- The answer that Sage has prepared. -/
def State.mboxAnswer (s : State) (status : Nat) (rsp : List Word) : State :=
  s.updHif (fun h => { h with mbox := h.mbox.map (fun m => { m with waits := false, status := status, rsp := rsp }) })

/-- GET_INFO (R288): the firmware, option image and fuse-map versions. The manual does not lay the response out; they stand in RSP0 to RSP2. -/
def execGetInfo (s : State) : Out :=
  .next (s.mboxRun 1 (fun _ s =>
    let opt := if s.fld Reg.RST_OPT_STAT_source = 0 then 0 else flashNat s.rst.flash.optSlot 4 4
    s.mboxAnswer 0 [s.wreg Reg.SAG_FW_VER, BitVec.ofNat 32 opt, s.wreg Reg.GLB_FUSE_VER]))

/-- The 64 bytes of GET_SENSORS (R337). -/
def State.sensorBytes (s : State) : List Byte :=
  let fault (i : Nat) : Bool := s.flag (Reg.PAC_TJ_fault i)
  let reading (i : Nat) : Nat := if fault i then 0xFF else min 254 (s.fld (Reg.PAC_TJ_tj i))
  (List.range 16).flatMap (fun i => toLe 1 (reading i)) ++ toLe 1 (s.fld Reg.PAC_TJ_MAX_tj) ++ toLe 1 (s.fld Reg.PAC_TJ_MAX_sensor)
    ++ toLe 2 s.pow.mv ++ toLe 2 s.pow.dieMv ++ toLe 2 s.pow.current
    ++ (List.range 8).flatMap (fun r => let p := (s.pow.rails[r]?).getD (0, 0); toLe 2 p.1 ++ toLe 2 p.2)
    ++ toLe 2 s.avgPower ++ toLe 2 s.lastPower
    ++ toLe 2 ((List.range 16).foldl (fun n i => n ||| b2n (fault i) <<< i) 0) ++ zeros 2

/-- GET_SENSORS (R337). -/
def execGetSensors (s : State) : Out := .next (s.mboxRun 2 (fun _ s => s.mboxAnswer 0 (leWords 16 s.sensorBytes)))

/-- LEDGER_READ (R362): chunk n of the active half. -/
def execLedgerRead (s : State) : Out :=
  .next (s.mboxRun 3 (fun m s =>
    if m.arg 1 < 512 then s.mboxAnswer 0 (leWords 16 (flashBytes s.rst.flash.ledgerHalf (64 * m.arg 1) 64))
    else s.mboxAnswer 2 []))

/-- HB_KICK (R45, R288): Sage kicks the pairs named where hb_src is 1, at once and then every 25 ms. -/
def execHbKick (s : State) : Out :=
  .next (s.mboxRun 4 (fun m s =>
    let s := (List.range 8).foldl (fun s k =>
      let on := bit (m.arg 1) k
      let s := s.updPair k (fun p => { p with hbKick := on, hbKickAt := s.now })
      if on then s.kick k .sage else s) s
    s.mboxAnswer 0 []))

/-- HB_KICK_TICK (R45): 25 ms have passed since Sage last kicked a pair. -/
def execHbKickTick (s : State) : Out :=
  .next (
    if s.rst.fwStopped then s
    else (List.range 8).foldl (fun s k =>
      if (s.pair k).hbKick && s.passed (s.pair k).hbKickAt 25000000 then
        (s.updPair k (fun p => { p with hbKickAt := s.now })).kick k .sage
      else s) s)

/-- CAPSULE_CLEAR (R377). -/
def execCapsuleClear (s : State) : Out :=
  .next (s.mboxRun 5 (fun _ s => (s.updRst (fun r => { r with flash := { r.flash with capsule := [] } })).mboxAnswer 0 []))

/-- Sage's read of an image in host memory, as the PF (R288): the window is checked against the domain that ARG0 names, then the data must have come. In HALT no domain can have a window, since the host interface is not out of reset, and the boot ROM reads without one (DEDUCED, log 212: R353 has FW_STAGE recover from NO_FW). -/
def State.mboxRead (s : State) (m : Mbox) (limit : Nat) (image : HostData) (k : List Byte → State → State) : State :=
  let addr := m.arg 2 + 4294967296 * m.arg 3
  let n := m.arg 4
  if n = 0 ∨ limit < n then s.mboxAnswer 2 []
  else if s.phase ≠ 8 ∧ (s.domRights (m.arg 0 % 256)).inWindow addr n false = false then s.mboxAnswer 3 []
  else
    let s := s.hostReads 0 [(addr, n)]
    match image with
    | none => s.mboxAnswer 3 []
    | some b => k (fit b n) s

/-- The bytes Sage now writes to the boot flash. -/
def State.mboxStore (s : State) (b : List Byte) : State :=
  (s.mboxAnswer 0 []).updHif (fun h => { h with mbox := h.mbox.map (fun m => { m with writing := some b }) })

/-- Replace an option slot: A if it is not the one selected. -/
def State.putOption (s : State) (b : List Byte) : State :=
  let toB := decide (s.fld Reg.RST_OPT_STAT_source = 1)
  s.updRst (fun r => { r with flash := if toB then { r.flash with optB := b } else { r.flash with optA := b } })

/-- Replace the firmware slot that is not running. -/
def State.putFw (s : State) (b : List Byte) : State :=
  let toB := decide (s.fld Reg.RST_FW_STAT_slot = 0) && !s.flag Reg.RST_FW_STAT_rom_only
  s.updRst (fun r => { r with flash := if toB then { r.flash with fwB := b } else { r.flash with fwA := b } })

/-- OPTION_WRITE (R288, R350): the slot not selected is erased and written, with seq one above the selected slot's. -/
def execOptionWrite (image : HostData) (s : State) : Out :=
  .next (s.mboxRun 6 (fun m s => s.mboxRead m 65536 image (fun b s =>
    let seq := if s.fld Reg.RST_OPT_STAT_source = 0 then 0
      else flashNat (if s.fld Reg.RST_OPT_STAT_source = 2 then s.rst.flash.optB else s.rst.flash.optA) 4 4
    (s.putOption []).mboxStore (patch b 4 (toLe 4 (seq + 1))))))

/-- FW_STAGE (R288, R351): the slot that is not running is erased and written. -/
def execFwStage (image : HostData) (s : State) : Out :=
  .next (s.mboxRun 7 (fun m s => s.mboxRead m 2097152 image (fun b s => (s.putFw []).mboxStore b)))

/-- MAILBOX_COMPLETE (R288): the response, then the status with busy cleared, then the vector. A command Sage does not know completes BAD_CMD. -/
def execMailboxComplete (s : State) : Out :=
  .next (match s.hif.mbox with
    | none => s
    | some m =>
      let known := s.mboxKnown m.code
      if s.rst.fwStopped || (known && m.waits) then s
      else
        let s := match m.writing with
          | none => s
          | some b => if m.code = 6 then s.putOption b else s.putFw b
        let s := (List.range 16).foldl (fun s j => s.setFld (Reg.SAG_MBOX_RSP_rsp j) (wordAt m.rsp j).toNat) s
        let s := (s.setFld Reg.SAG_MBOX_STAT_status (if known then m.status else 1)).setFld Reg.SAG_MBOX_STAT_busy 0
        let s := s.updHif (fun h => { h with mbox := none })
        if s.flag Reg.SAG_MBOX_VEC_enable then s.hostOut 0 (.msix 0 (s.fld Reg.SAG_MBOX_VEC_vector)) else s)

end Sys2Proof.Machine
end

