-- ==== Sys2Proof/Machine/Bus.lean ====
section
/-! DEFINITION. The register bus of BAR0: reads and writes by their access types, refusals, commands a write triggers, shadows, and accesses the rules of the bus turn away (R13, R14, R384 to R388, R418, R422). -/

namespace Sys2Proof.Machine

/-! #### Where an access goes -/

/-- The isolable block at a base address (R356). -/
def isoBlock (base : Nat) : Option Nat :=
  if base = 0x600000 then some 0
  else if base = 0x800000 then some 1
  else if base = 0xD00000 then some 2
  else if base = 0xC00000 then some 3
  else if base = 0x1400000 then some 4
  else if base = 0x1600000 then some 5
  else if base = 0x1800000 then some 6
  else none

/-- What stands in the way of an access. -/
inductive Gate where
  | unreachable | empty | early | hung | isolated | ready
deriving DecidableEq, Repr

/-- Where an access of a requester ends (14, R14, R353, R356, R357): Sage reaches the bus from phase 1, the host from its end. -/
def State.gate (s : State) (who : Requester) (a : Nat) : Gate :=
  let up := match who with
    | .pf => s.reachable
    | .sage => decide (1 ≤ s.phase)
  if up = false then .unreachable
  else match findBlock a with
    | none => .empty
    | some b =>
      if b.core && !s.rst.coreReady then .early
      else if b.core && s.rst.hung then .hung
      else if s.isolated (isoBlock b.base) then .isolated
      else .ready

/-- A requester's shadow (R386). -/
def State.shadow (s : State) (who : Requester) : Option (Nat × Word) :=
  match who with
  | .pf => s.shadowPf
  | .sage => s.shadowSage

/-- Set a requester's shadow. -/
def State.setShadow (s : State) (who : Requester) (v : Option (Nat × Word)) : State :=
  match who with
  | .pf => { s with shadowPf := v }
  | .sage => { s with shadowSage := v }

/-! #### Writes -/

/-- Staged rights of the domain that HIF_DOM_SEL names change, unless a pending epoch write freezes them (R275). -/
def State.stageRights (s : State) (k : Rights → Rights) : State :=
  let i := s.fld Reg.HIF_DOM_SEL_domain
  if (s.hif.doms.get i).pending.isSome then s.updDom i (fun d => { d with busy := true })
  else s.updDom i (fun d => { d with staged := k d.staged })

/-- The written halves of a window's base register. -/
def Win.withBase (w : Win) (v : Nat) : Win :=
  { w with read := bit v 0, write := bit v 1, valid := bit v 2, base := v / 4096 * 4096 }

/-- Writes of the HIF, OSL and REP registers that are actions (11, 12, 15). -/
def State.actHost (s : State) (b i v : Nat) : Option State :=
  if b = Reg.HIF_QP_CMD then some (s.qpCommand (bits v 13 0) (bits v 18 16))
  else if b = Reg.HIF_DOM_EPOCH then some (s.domEpochWrite v)
  else if b = Reg.HIF_DOM_FLAGS then some (s.stageRights (fun r => { r with flags := v % 16 }))
  else if b = Reg.HIF_DOM_WIN_BASE 0 then some (s.stageRights (fun r => { r with wins := r.wins.upd i (fun w => w.withBase v) }))
  else if b = Reg.HIF_DOM_WIN_LEN 0 then some (s.stageRights (fun r => { r with wins := r.wins.upd i (fun w => { w with len := v / 4096 * 4096 }) }))
  else if b = Reg.HIF_DOM_MSET 0 then some (s.stageRights (fun r => { r with mset := r.mset.set i (BitVec.ofNat 32 (if i = 0 then v / 2 * 2 else v)) }))
  else if b = Reg.HIF_DOM_STAT then
    some (if bit v 2 then s.updDom (s.fld Reg.HIF_DOM_SEL_domain) (fun d => { d with busy := false }) else s)
  else if b = Reg.HIF_WAKE_BUDGET 0 then some (s.wakeBudgetWrite i (BitVec.ofNat 32 v))
  else if b = Reg.OSL_LBYP_CTRL then some (s.lbypWrite (bits v 7 0) (bits v 15 8))
  else if b = Reg.OSL_PROG_CMD then some (s.progCommand (bits v 2 0))
  else if b = Reg.REP_CMD then some (if bit v 0 then s.retireCmd (tileIx (bits v 7 2) (bits v 13 8)) else s)
  else if b = Reg.REP_FAULT_CMD then some (if bit v 0 then s.faultPop else s)
  else if b = Reg.SAG_MBOX_CMD then some (s.mboxWrite (bits v 7 0))
  else none

/-- The actions of two WO bits of one write: bit 0 first and bit 1 after it (DESIGN CHOICE, log 168: R13 gives them no order). `ok` says of the state after the first whether the write was taken; one that was refused triggers nothing more (R418). -/
def State.twoActions (s : State) (v : Nat) (one two : State → State) (ok : State → Bool) : State :=
  let t := if bit v 0 then one s else s
  if bit v 1 && (!bit v 0 || ok t) then two t else t

/-- Writes of the ERP, SFE, NUM, BAY and ADP registers that are actions (05, 06, 08 to 10). -/
def State.actCore (s : State) (b v : Nat) : Option State :=
  if b = Reg.ERP_PROF_CMD then
    some (s.twoActions v State.erpProfWrite State.erpProfRead (fun t => decide (t.fld Reg.ERP_PROF_STAT_status = 0)))
  else if b = Reg.SFE_PROF_CMD then
    some (s.twoActions v State.sfeProfWrite State.sfeProfRead (fun t => decide (t.fld Reg.SFE_PROF_STAT_status = 0)))
  else if b = Reg.NUM_EPOCH_CTRL then some (if bit v 0 then s.requestEpoch else s)
  else if b = Reg.NUM_STAT_CMD then some (s.twoActions v State.statRead State.statClear (fun _ => true))
  else if b = Reg.BAY_CMD then some (if bit v 0 then s.bayGo else s)
  else if b = Reg.BAY_CAT_CMD then some (if bit v 0 then s.catRead else s)
  else if b = Reg.BAY_SERVE_RESERVE then some (s.reserveWrite (bits v 2 0))
  else if b = Reg.ADP_CMD then some (if bit v 0 then s.adpGo else s)
  else none

/-- Writes of the PRS and RUL registers that are actions (03, 04). -/
def State.actRul (s : State) (b i : Nat) (v : Nat) : Option State :=
  if b = Reg.PRS_PROG_CTRL then some (if bit v 0 then s.progCommit else s)
  else if b = Reg.PRS_PROG_WIN 0 then some (s.progWinWrite i (BitVec.ofNat 64 v))
  else if b = Reg.RUL_VER_CTRL then some (if bit v 0 then s.requestCommit .reg else s)
  else if b = Reg.RUL_TCAM_CMD then some (s.tcamWrite (bits v 13 0) (bits v 17 16))
  else if b = Reg.RUL_EM_CMD then some (s.emWrite (bits v 1 0))
  else if b = Reg.RUL_MTR_CMD then
    some (s.twoActions v State.meterWrite State.meterRead (fun _ => !s.meterRefused))
  else if b = Reg.RUL_CNT_CMD then some (if bit v 0 then s.counterClear else s)
  else none

/-- Writes of the RST, PAC, THY and MAC registers that are actions (02, 13, 14). -/
def State.actEdge (s : State) (who : Requester) (b i v : Nat) : Option State :=
  if b = Reg.RST_CTRL then some (s.rstCtrlWrite v)
  else if b = Reg.RST_ISO then some (s.isoWrite (v % 128))
  else if b = Reg.PAC_TARGET then some (s.targetWrite (BitVec.ofNat 32 v))
  else if b = Reg.THY_CTRL then some (s.thyCtrlWrite v)
  else if b = Reg.THY_ADJ_PHASE then some (s.phaseAdjWrite (sint (BitVec.ofNat 32 v)))
  else if b = Reg.THY_ADJ_FREQ then
    some (s.setFld Reg.THY_ADJ_FREQ_freq (ofInt32 (clamp (-256000000) 256000000 (sint (BitVec.ofNat 32 v)))).toNat)
  else if b = Reg.MAC_MODE then some (s.macModeWrite v)
  else if b = Reg.MAC_BYP_CTRL 0 then
    some (if bit v 1 then s.closePair i 2 else if bit v 0 then s.openRequest i else s)
  else if b = Reg.MAC_BYP_KICK 0 then some (if bit v 0 then s.kick i who else s)
  else none

/-- The action a write triggers instead of storing, if the register is one of those. -/
def State.act (s : State) (who : Requester) (b i v : Nat) : Option State :=
  ((s.actEdge who b i v).or (s.actRul b i v)).or ((s.actCore b v).or (s.actHost b i v))

/-- An object of a protected table has been rewritten (R369). -/
def State.rewritten (s : State) (p : TableUse → Bool) : State :=
  s.updRep (fun r => { r with badTables := r.badTables.filter (fun u => !p u) })

/-- A segment the front end was working on when its lease was revoked (R225): its record is ABORTED, from here or by the reply chips of a spanning program. -/
def State.sfeFenced (s : State) (i : Nat) : State :=
  let g := s.seg i
  let s := s.updSeg i (fun g => { g with rowIn := none, rowHold := 0 })
  if g.st = .done ∨ (g.scheduled = true ∧ (s.progOf g.model).isSome = true) then s else s.deadSpan (s.progOf g.model) { seg := i } 3

/-- SFE_CTRL.enable is cleared (R224 to R226): the front end's lease of its row region and its state cache is revoked. Work under way is abandoned, and regions that the cache held lose what was not written back (log 197). -/
def State.sfeRevoked (s : State) : State :=
  let s := s.sfe.cache.foldl (fun s c => s.updSlot c.1 Slot.invalid) s
  let l := s.sfe.order
  let s := s.updSfe (fun e => { e with epoch := e.epoch + 1, cache := [], loading := [], order := [] })
  l.foldl State.sfeFenced s

/-- What follows the store of a register (R37, R80, R132, R188, R262, R291, R296, R330, R369): `old` is the value before. -/
def State.written (s : State) (b i : Nat) (old v : Nat) : State :=
  if b = Reg.MAC_PORT_CTRL 0 then s.portCtrlWritten i (bit old 0)
  else if b = Reg.MAC_PFC_THR 0 then s.pfcCheck i
  else if b = Reg.PRS_EXC_RATE 0 ∨ b = Reg.PRS_EXC_BURST 0 then
    { s with prs := { s.prs with exc := s.prs.exc.set i (Bucket.fill (s.fld (Reg.PRS_EXC_BURST_burst i)) s.now) } }
  else if b = Reg.SFE_HOST_RATE ∨ b = Reg.SFE_HOST_BURST then
    s.updSfe (fun e => { e with host := Bucket.fill (s.fld Reg.SFE_HOST_BURST_burst) s.now })
  else if b = Reg.SFE_CTRL then (if bit old 0 && !bit v 0 then s.sfeRevoked else s)
  else if b = Reg.RUL_KEY_MAP 0 0 then s.rewritten (fun u => match u with
    | .keyMap m => m.val == i
    | _ => false)
  else if b = Reg.RUL_STEER 0 then s.rewritten (fun u => match u with
    | .steer k => k.val == i
    | _ => false)
  else if b = Reg.RUL_ENCAP_DATA 0 ∨ b = Reg.RUL_ENCAP_DESC 0 then
    s.rewritten (fun u => match u with
      | .template t => t.val == (if b = Reg.RUL_ENCAP_DATA 0 then i / 32 else i)
      | _ => false)
  else if b = Reg.FAB_STALL_SEL then
    [Reg.FAB_SEL_INPUT_NS, Reg.FAB_SEL_CREDIT_NS, Reg.FAB_SEL_STORE_NS, Reg.FAB_SEL_CFG_NS, Reg.FAB_SEL_TOKENS].foldl
      (fun s a => s.setReg a 0) (s.updFab (fun f => { f with sel := [none, none, none, none] }))
  else if b = Reg.PAC_STAT then (if bit v 16 then s.avsResume else s)
  else if b = Reg.OSL_CTRL then s.linkEnables
  else if b = Reg.HIF_LTR then s.emit (.ltr (v % 65536) (v / 65536 % 65536))
  else if b = Reg.OSL_LINK_CTRL 0 then
    let s := s.linkEnables
    if bit v 2 then s.retrainLink i else s
  else if b = Reg.OSL_RRST then (if bit v 16 then s.sendRemoteReset else s)
  else s

/-- The bits of a register that one access writes: all of them, or one half. -/
def accessMask (wide upper : Bool) : DWord :=
  if wide then BitVec.allOnes 64 else if upper then 0xFFFFFFFF00000000 else 0xFFFFFFFF

/-- A register takes or refuses a write (R13, R388, R418). -/
def State.writeReg (s : State) (who : Requester) (l : Loc) (wide : Bool) (value : DWord) : State :=
  let m := accessMask wide l.upper
  let v := (if l.upper && !wide then value <<< 32 else value) &&& m
  let rw := l.reg.accMask .rw
  let shown := s.shown l
  let full := (shown &&& rw &&& ~~~ m) ||| (v &&& rw)
  let cmd := full ||| (v &&& (l.reg.accMask .wo ||| l.reg.accMask .w1c))
  let b := l.reg.base
  let i := l.idx.headD 0
  if s.refuses l cmd then s
  else match s.act who b i cmd.toNat with
    | some t => t
    | none =>
      let old := s.reg l.key
      let keep := old &&& ~~~ rw &&& ~~~ (v &&& l.reg.accMask .w1c &&& ~~~ s.raisedNow l.key)
      ((s.setReg l.key (keep ||| full)).noteWrite l.key (rw &&& m)).written b i old.toNat cmd.toNat

/-- One access that writes: where it goes, then the register at its address, if one is there. -/
def State.busWrite (s : State) (who : Requester) (a : Nat) (wide : Bool) (v : DWord) : State :=
  match s.gate who a with
  | .early => s.stick Reg.RST_STAT_early_access
  | .hung => s.updRst (fun r => { r with stuck := r.stuck ++ [(s.now, none)] })
  | .ready => match findReg a with
    | none => s
    | some l => s.writeReg who l wide v
  | _ => s

/-- Whether an address names a 64-bit register from its start. -/
def isWide (a : Nat) : Bool :=
  match findReg a with
  | none => false
  | some l => decide (l.reg.width = 64)

/-- An access of a size or alignment that R384 does not allow. -/
def State.badAccess (s : State) (a : Nat) : State :=
  (((s.bump Reg.GLB_ACC_ERR).stick Reg.GLB_ACC_STAT_bad_access).setFld Reg.GLB_ACC_ADDR_addr a)

/-- Whether an access is aligned to its size (R384). -/
def aligned (a : Nat) (wide : Bool) : Bool := decide (a % (if wide then 8 else 4) = 0)

/-- Whether a requester is a function in D3hot, whose requests are unsupported (R262, R373); Sage is none. -/
def State.asleep (s : State) (who : Requester) : Bool := decide (who = .pf) && (s.hif.funcs.get 0).d3hot

/-- The size of BAR0 (R382). -/
def barSize : Nat := 0x2000000

/-- REGISTER_WRITE (R13, R384, R385, R418): a 64-bit access to two adjacent 32-bit registers is two writes, the lower address first. Beyond BAR0, and from a PF in D3hot, it is an unsupported request (R373). -/
def execRegisterWrite (who : Requester) (addr : Nat) (wide : Bool) (value : DWord) (s : State) : Out :=
  .next (
    if barSize ≤ addr ∨ s.asleep who = true then (if s.reachable then s.reportAer 0 .unsupported else s)
    else if aligned addr wide = false then (if s.reachable then (s.setShadow who none).badAccess addr else s)
    else
      let s := s.setShadow who none
      if wide && !isWide addr then
        (s.busWrite who addr false (value &&& 0xFFFFFFFF)).busWrite who (addr + 4) false (value >>> 32)
      else s.busWrite who addr wide value)

/-! #### Reads -/

/-- The word of a register that a 32-bit read takes: its high half is the shadow's where this requester has just read the low half (R386). -/
def State.readHalf (s : State) (who : Requester) (l : Loc) : Word × State :=
  let v := s.shown l
  let low : Word := v.setWidth 32
  let high : Word := (v >>> 32).setWidth 32
  if l.upper then
    match s.shadow who with
    | some (k, h) => (if k = l.key then h else high, s.setShadow who none)
    | none => (high, s.setShadow who none)
  else if l.reg.width = 64 then (low, s.setShadow who (some (l.key, high)))
  else (low, s.setShadow who none)

/-- A read clears the fields of type RC that it took (R13). -/
def State.clearRc (s : State) (l : Loc) : State :=
  let m := l.reg.accMask .rc
  if m = 0 then s else s.setReg l.key (s.reg l.key &&& ~~~ m)

/-- What one access reads, if it completes now. Reads of a hung bus wait for their timeout; those of an isolated block return what the manual leaves open. -/
def State.busRead (s : State) (who : Requester) (a : Nat) (wide : Bool) : Option DWord × State :=
  match s.gate who a with
  | .unreachable => (none, s)
  | .empty => (some 0, s.setShadow who none)
  | .early => (some 0, (s.setShadow who none).stick Reg.RST_STAT_early_access)
  | .hung => (none, (s.setShadow who none).updRst (fun r => { r with stuck := r.stuck ++ [(s.now, some (who, a))] }))
  | .isolated =>
    let (v, s) := (s.setShadow who none).free
    (some (if wide then v else v &&& 0xFFFFFFFF), s)
  | .ready => match findReg a with
    | none => (some 0, s.setShadow who none)
    | some l =>
      if wide then (some (s.shown l), (s.setShadow who none).clearRc l)
      else
        let (v, t) := s.readHalf who l
        (some (v.setWidth 64), t.clearRc l)

/-- The answer of a read leaves for its requester. -/
def State.answerRead (s : State) (who : Requester) (a : Nat) (v : Option DWord) : State :=
  match v with
  | none => s
  | some v => s.emit (.regData who a v)

/-- REGISTER_READ (R13, R14, R384 to R386, R389). -/
def execRegisterRead (who : Requester) (addr : Nat) (wide : Bool) (s : State) : Out :=
  .next (
    if barSize ≤ addr ∨ s.asleep who = true then (if s.reachable then s.reportAer 0 .unsupported else s)
    else if aligned addr wide = false then
      (if s.reachable then ((s.setShadow who none).badAccess addr).answerRead who addr (some 0) else s)
    else if wide && !isWide addr then
      let (lo, s) := s.busRead who addr false
      let (hi, s) := s.busRead who (addr + 4) false
      s.answerRead who addr (match lo, hi with
        | some l, some h => some (l ||| h <<< 32)
        | _, _ => none)
    else
      let (v, s) := s.busRead who addr wide
      s.answerRead who addr v)

/-- BAD_ACCESS (R384), by the PF: an access of another size or alignment completes normally, returns zero for a read and is ignored for a write. -/
def execBadAccess (addr : Nat) (s : State) : Out :=
  .next (if s.reachable = false then s else if s.asleep .pf then s.reportAer 0 .unsupported else (s.setShadow .pf none).badAccess (addr % barSize))

end Sys2Proof.Machine
end

