-- ==== Sys2Proof/Machine/Slow.lean ====
section
/-! DEFINITION. The SMBus target's read commands and the JTAG instructions (R409, R414). -/

namespace Sys2Proof.Machine

/-- The SMBus target answers from the end of phase 1; while TEST_EN holds the device it answers only the challenge (R378, R409). -/
def State.smbAnswer (s : State) (b : List Byte) : State := s.emit (.smbus (if s.reachable then some b else none))

/-- DEV_ID: GLB_ID, GLB_REV and GLB_SERIAL. -/
def execDevId (s : State) : Out :=
  .next (s.smbAnswer (toLe 4 (s.reg Reg.GLB_ID).toNat ++ toLe 4 (s.reg Reg.GLB_REV).toNat ++ toLe 8 (s.reg Reg.GLB_SERIAL).toNat))

/-- TJ: Tj in °C; 0xFF before the first sensor sweep. -/
def execSmbTj (s : State) : Out :=
  .next (s.smbAnswer (toLe 1 (if s.pow.swept then s.fld Reg.PAC_TJ_MAX_tj else 0xFF)))

/-- The levels of BYP_N[7:0]. -/
def State.bypLevels (s : State) : Nat := (List.range 8).foldl (fun n k => n ||| b2n (s.bypPin k) <<< k) 0

/-- STATE: the phase, core_ready and the levels of BYP_N. -/
def execSmbState (s : State) : Out :=
  .next (s.smbAnswer (toLe 2 (s.phase ||| b2n s.coreReadyBit <<< 4 ||| s.bypLevels <<< 8)))

/-- CAUSE: RST_CAUSE. -/
def execSmbCause (s : State) : Out := .next (s.smbAnswer (toLe 2 (s.fld Reg.RST_CAUSE_cause)))

/-- The current JTAG instruction: it holds in any reset state and whatever TEST_EN is. -/
def State.setTap (s : State) (code : Nat) : State := s.updRst (fun r => { r with tap := code })

/-- EXTEST (R414): BYP_N and LBYP_N are driven low. -/
def execExtest (s : State) : Out := .next (s.setTap 0)

/-- SAMPLE/PRELOAD (R414). -/
def execSamplePreload (s : State) : Out := .next (s.setTap 1)

/-- IDCODE (R414): 0x1409_65AB. -/
def execIdcode (s : State) : Out := .next (s.setTap 2)

/-- CLAMP (R414): BYP_N and LBYP_N are driven low. -/
def execClamp (s : State) : Out := .next (s.setTap 3)

/-- HIGHZ (R414): BYP_N and LBYP_N are driven low. -/
def execHighz (s : State) : Out := .next (s.setTap 4)

/-- BYPASS (R414): its own code and every code that no other instruction has. -/
def execJtagBypass (code : BitVec 5) (s : State) : Out := .next (if code.toNat < 5 then s else s.setTap 31)

/-- TAP_RESET (R414): IDCODE is the default after it. -/
def execTapReset (s : State) : Out := .next (s.setTap 2)

end Sys2Proof.Machine
end

