-- ==== Sys2Proof/Machine/Clock.lean ====
section
/-! DEFINITION. A tick of the clock: one elapsed nanosecond passes, and what is measured as continuous time is measured (R53, R143, R188, R232, R327 to R336, R366). -/

namespace Sys2Proof.Machine

/-- Count one nanosecond in a counter while a condition holds. -/
def State.nsIf (s : State) (c : Bool) (a : Nat) : State := if c then s.bump a else s

/-! #### Waits of a tile (R188) -/

/-- Whether a tile that lacks an input waits for its section store: a read is under way, or the plot's next span waits for a write-back to its slot (R187). -/
def State.storeWait (s : State) (t : Nat) (x : Tile) : Bool :=
  let pi := x.plot.getD 0
  let mine (r : SecReq) : Bool := decide (r.tile = t) && r.write.isNone
  s.fab.reqs.any mine || s.fab.packets.any (fun k => match k.dest with
      | .store r => mine r
      | _ => false)
    || ((s.nextSpan pi).map (fun e => s.slotWaits pi e.2.2.slot)).getD false

/-- Whether a tile could flip but for a context that is not loaded (R183). -/
def State.cfgWait (s : State) (t : Nat) (x : Tile) : Bool :=
  let pi := x.plot.getD 0
  let p := s.plot pi
  let f := s.followOf pi t
  let begun := decide (x.phase ≠ .off) && decide (p.inst ≤ x.inst)
  let k := p.sec + (x.inst + 1 - p.inst)
  p.pass && decide (x.phase ≠ .running) && !((x.nxt.map (fun c => c.isFor f)).getD false)
    && (p.flipAll || (if begun then decide (k < hdrSections p.image) && s.trailing p.image k f.2.2.2
      else s.trailing p.image p.sec p.wide))

/-- Whether an instruction's destination takes what it would write now. -/
def State.fires (s : State) (t k i : Nat) (tag : Option Nat) : Bool := (s.fire t k i tag).isSome

/-- What a tile waits for (R188); none while it works or has nothing to do. -/
def State.tileWait (s : State) (t : Nat) (x : Tile) : Option StallKind :=
  if x.plot.isNone then none
  else if x.phase ≠ .running then (if s.cfgWait t x then some .cfg else none)
  else if x.ctx.tag then
    match x.readyInstr with
    | some (k, tags) => if s.fires t k (x.ctx.instr k) tags.head? then none else some .credit
    | none => if x.allEnds then none else if s.storeWait t x then some .store else some .input
  else
    let i := x.ctx.instr x.pc
    if x.ctx.n ≤ x.pc ∨ (miOp i = 0x0D ∧ x.sourcesReady i none = true) then none
    else if x.sourcesReady i none then (if s.fires t x.pc i none then none else some .credit)
    else if s.storeWait t x then some .store else some .input

/-- Whether a tile has ready work (R366): a flit at its router whose next hop has a free buffer, or an instruction that could fire. -/
def State.readyWork (s : State) (t : Nat) (x : Tile) : Bool :=
  let l := s.fab.packets
  let flit := (List.range l.length).any (fun n =>
    match l[n]? with
    | none => false
    | some k =>
      decide (tileIx k.x k.y = t) && s.mayHop n k)
  flit || (decide (x.phase = .running) && (if x.ctx.tag then
      (match x.readyInstr with
        | some (k, tags) => s.fires t k (x.ctx.instr k) tags.head?
        | none => x.allEnds)
    else decide (x.pc < x.ctx.n) && x.sourcesReady (x.ctx.instr x.pc) none
      && (decide (miOp (x.ctx.instr x.pc) = 0x0D) || s.fires t x.pc (x.ctx.instr x.pc) none)))

/-! #### Stall intervals (R25, R188) -/

/-- What an interval of `n` ns counts: the difference of two samples of Thyme, each taken within 8 ns of its request; none if the interval ends before its start sample returns. The samples' instants are left open. -/
def State.measure (s : State) (n : Nat) : Option Nat × State :=
  let (v, s) := s.free
  let ret := v.toNat % 9
  let late := v.toNat / 16 % (ret + 1)
  let last := v.toNat / 256 % 9
  if n < ret then (none, s) else (some (n - late + last), s)

/-- A field's sum of a category. -/
def fieldStall (f : Nat) (k : StallKind) : Nat :=
  match k with
  | .input => Reg.FAB_FLD_INPUT_NS f
  | .credit => Reg.FAB_FLD_CREDIT_NS f
  | .store => Reg.FAB_FLD_STORE_NS f
  | .cfg => Reg.FAB_FLD_CFG_NS f

/-- The selection's sum of a category. -/
def selStall (k : StallKind) : Nat :=
  match k with
  | .input => Reg.FAB_SEL_INPUT_NS
  | .credit => Reg.FAB_SEL_CREDIT_NS
  | .store => Reg.FAB_SEL_STORE_NS
  | .cfg => Reg.FAB_SEL_CFG_NS

/-- Bring a tile's stall interval up to date: one that has ended is counted in its field's sum. The watchdog's measure grows while the tile has ready work and REP_CTRL.wdog_en is 1; it rests otherwise, and begins again only at a handshake (R366). -/
def State.noteTile (s : State) (t : Nat) (w : Option StallKind) (ready : Bool) : State :=
  let x := s.tile t
  let s := if ready && s.flag Reg.REP_CTRL_wdog_en then s.updTile t (fun x => { x with readyNs := x.readyNs + 1 }) else s
  if x.stall.map (·.1) = w then s
  else
    let s := s.updTile t (fun x => { x with stall := w.map (fun k => (k, s.now)) })
    match x.stall with
    | none => s
    | some (k, a) =>
      match s.measure (s.now - a) with
      | (none, s) => s.bump Reg.FAB_SHORT_STALLS
      | (some n, s) => s.addCnt (fieldStall (tileField t) k) n

/-- Whether FAB_STALL_SEL names a tile or its plot. -/
def State.selected (s : State) (t : Nat) (x : Tile) : Bool :=
  let p := s.plot (x.plot.getD 0)
  (decide (s.fld Reg.FAB_STALL_SEL_kind = 2) && decide (s.fld Reg.FAB_STALL_SEL_x = tileX t) && decide (s.fld Reg.FAB_STALL_SEL_y = tileY t))
    || (decide (s.fld Reg.FAB_STALL_SEL_kind = 1) && x.plot.isSome && decide (s.fld Reg.FAB_STALL_SEL_field = p.field)
      && decide (s.fld Reg.FAB_STALL_SEL_plot = p.index))

/-- Bring the selection's interval of a category up to date: a plot waits while one of its tiles does. -/
def State.noteSel (s : State) (k : StallKind) (i : Nat) (now_ : Bool) : State :=
  let old := (s.fab.sel[i]?).getD none
  match old, now_ with
  | none, true => s.updFab (fun f => { f with sel := modifyAt f.sel i (fun _ => some s.now) })
  | some a, false =>
    let s := s.updFab (fun f => { f with sel := modifyAt f.sel i (fun _ => none) })
    match s.measure (s.now - a) with
    | (none, s) => s
    | (some n, s) => s.addCnt (selStall k) n
  | _, _ => s

/-- Bring what is measured in the fabric up to date (R188, R366). -/
def State.noteFabric (s : State) : State :=
  let ids := (s.fab.tiles.keys ++ s.fab.packets.map (fun k => tileIx k.x k.y)).eraseDups
  let l := ids.map (fun t => (t, s.tileWait t (s.tile t), s.readyWork t (s.tile t), s.selected t (s.tile t)))
  let s := l.foldl (fun s e => s.noteTile e.1 e.2.1 e.2.2.1) s
  let on (k : StallKind) : Bool := l.any (fun e => e.2.2.2 && decide (e.2.1 = some k))
  (((s.noteSel .input 0 (on .input)).noteSel .credit 1 (on .credit)).noteSel .store 2 (on .store)).noteSel .cfg 3 (on .cfg)

/-! #### The tick -/

/-- Whether a segment waits for its line or its row space (R142). -/
def State.allocBlocked (s : State) : Bool :=
  s.rowStarved || match s.waitingSeg with
  | none => false
  | some i =>
    !(s.spaceThere i && (s.lineRoom i).2)

/-- The page-ins and replacements that wait for a placement (R232). -/
def State.placeWaits (s : State) : Nat :=
  (s.bay.models.cells.filter (fun c => c.2.placeSince.isSome || (c.2.replacing.map (fun r => r.placeSince.isSome)).getD false)).length

/-- Count the nanosecond that passed in the counters of continuous time. -/
def State.countNs (s : State) : State :=
  let s := s.nsIf (decide (s.pow.gate ≠ 0)) Reg.PAC_GATE_NS
  let s := s.nsIf s.pow.capOver Reg.PAC_CAP_LIMIT_NS
  let s := s.nsIf s.pow.throttle Reg.PAC_THROTTLE_NS
  let s := s.nsIf s.paceShort Reg.PAC_PACE_SHORT_NS
  let s := s.nsIf s.allocBlocked Reg.SFE_STALL_NS
  s.addCnt Reg.BAY_PLACE_WAIT_NS s.placeWaits

/-- The nanosecond of a close is over: its event is sent (R46). -/
def State.sendCloses (s : State) : State := (List.range 8).foldl State.sendClose s

/-- The arbitration guard runs only while a frame is eligible: one that is not begins anew (R121). -/
def State.noteGuard (s : State) : State :=
  (List.range 16).foldl (fun u p => u.updPort p (fun q => { q with egress := q.egress.map (fun e =>
    if decide (4 ≤ e.rank) && !s.eligible p e then { e with since := s.now, promoted := false } else e) })) s

/-- One elapsed nanosecond passes, and Thyme counts it (R48, R53). -/
def State.elapse (s : State) : State :=
  let s := s.sendCloses.countNs
  (({ s with now := s.now + 1, thyme := s.thyme + 1 }).notePower.noteFabric).pfcCheckAll.noteGuard.hostCopies

/-- Several elapsed nanoseconds. -/
def State.elapseN : Nat → State → State
  | 0, s => s
  | n + 1, s => State.elapseN n s.elapse

/-- One nanosecond in units of 2^-8 ppb of it. -/
def nsParts : Nat := 256000000000

/-- What the reference clock gives in one nanosecond, in those units, with the rate corrected by THY_ADJ_FREQ and, with src PPS_IN, by the servo's phase term, for the 10^9 ns after its edge, and its frequency term (R48, R51). -/
def State.thyRate (s : State) : Nat :=
  let servo : Int := if s.fld Reg.THY_CTRL_src = 1 then
      (if s.now < s.thy.phaseUntil then s.thy.phaseTerm else 0) + s.thy.freqTerm
    else 0
  (nsParts + s.sfld Reg.THY_ADJ_FREQ_freq + 256 * servo).toNat

/-- The whole nanoseconds of the next tick, with the running slew: of every 10,000 elapsed ns it adds or leaves out one (R53). -/
def State.tickNs (s : State) : Nat × State :=
  let parts := s.thy.frac + s.thyRate
  let n := parts / nsParts
  let s := s.updThy (fun t => { t with frac := parts % nsParts })
  match s.thy.slew with
  | none => (n, s)
  | some (v, t) =>
    if s.thy.slewDone < min v.natAbs ((s.now + n - t) / 10000) ∧ 0 < n then
      (if 0 ≤ v then n + 1 else n - 1, s.updThy (fun h => { h with slewDone := h.slewDone + 1 }))
    else (n, s)

/-- A tick: one nanosecond of the reference clock passes. Thyme and elapsed time advance once the stretch has ended, at Thyme's rate (R48, R53, R345). -/
def State.tick (s : State) : State :=
  let s := { s with aon := s.aon + 1 }
  if s.phase = 0 then s
  else
    let (n, s) := s.tickNs
    s.elapseN n

end Sys2Proof.Machine
end

