-- ==== Sys2Proof/Machine/Dispatch.lean ====
section
/-! DEFINITION. The dispatch: one arm for every command, in the order of the table. -/

namespace Sys2Proof.Machine

/-- The effect of a command on everything but the queue. -/
def exec (i : Instr) (s : State) : Host.Outcome State Fault Refusal :=
  match i with
  | .sofDelimiter a0 a1 => Sys2Proof.Machine.execSofDelimiter a0 a1 s
  | .copyTruncated a0 => Sys2Proof.Machine.execCopyTruncated a0 s
  | .oversizeTruncation a0 => Sys2Proof.Machine.execOversizeTruncation a0 s
  | .frameTail a0 a1 => Sys2Proof.Machine.execFrameTail a0 a1 s
  | .mirrorWaitExpiry a0 => Sys2Proof.Machine.execMirrorWaitExpiry a0 s
  | .actionRecordReturn a0 => Sys2Proof.Machine.execActionRecordReturn a0 s
  | .decisionDeadline a0 => Sys2Proof.Machine.execDecisionDeadline a0 s
  | .egressFrameBoundary a0 => Sys2Proof.Machine.execEgressFrameBoundary a0 s
  | .arbGuardExpiry a0 => Sys2Proof.Machine.execArbGuardExpiry a0 s
  | .pauseRx a0 a1 => Sys2Proof.Machine.execPauseRx a0 a1 s
  | .pfcRx a0 a1 a2 => Sys2Proof.Machine.execPfcRx a0 a1 a2 s
  | .pauseHoldExpiry a0 => Sys2Proof.Machine.execPauseHoldExpiry a0 s
  | .pfcXoffRefresh a0 => Sys2Proof.Machine.execPfcXoffRefresh a0 s
  | .pcsLockRise a0 => Sys2Proof.Machine.execPcsLockRise a0 s
  | .pcsLockFall a0 => Sys2Proof.Machine.execPcsLockFall a0 s
  | .linkUp a0 => Sys2Proof.Machine.execLinkUp a0 s
  | .macModeWrite a0 => Sys2Proof.Machine.execMacModeWrite a0 s
  | .bypOpenRequest a0 => Sys2Proof.Machine.execBypOpenRequest a0 s
  | .bypClose a0 a1 => Sys2Proof.Machine.execBypClose a0 a1 s
  | .bypKick a0 a1 => Sys2Proof.Machine.execBypKick a0 a1 s
  | .hbExpiry a0 => Sys2Proof.Machine.execHbExpiry a0 s
  | .openTimeout a0 => Sys2Proof.Machine.execOpenTimeout a0 s
  | .thymeStep a0 => Sys2Proof.Machine.execThymeStep a0 s
  | .phaseAdjWrite a0 => Sys2Proof.Machine.execPhaseAdjWrite a0 s
  | .phaseSlewDone => Sys2Proof.Machine.execPhaseSlewDone s
  | .ppsInEdge => Sys2Proof.Machine.execPpsInEdge s
  | .ppsPhaseTermEnd => Sys2Proof.Machine.execPpsPhaseTermEnd s
  | .ppsHoldoverTimeout => Sys2Proof.Machine.execPpsHoldoverTimeout s
  | .ppsOutRise => Sys2Proof.Machine.execPpsOutRise s
  | .ppsOutFall => Sys2Proof.Machine.execPpsOutFall s
  | .ptpEventRx a0 => Sys2Proof.Machine.execPtpEventRx a0 s
  | .trefclkLoss => Sys2Proof.Machine.execTrefclkLoss s
  | .trefclkReturn => Sys2Proof.Machine.execTrefclkReturn s
  | .chiveDispatch => Sys2Proof.Machine.execChiveDispatch s
  | .parseNop a0 => Sys2Proof.Machine.execParseNop a0 s
  | .parseExt a0 => Sys2Proof.Machine.execParseExt a0 s
  | .parseAndi a0 => Sys2Proof.Machine.execParseAndi a0 s
  | .parseShri a0 => Sys2Proof.Machine.execParseShri a0 s
  | .parseAddi a0 => Sys2Proof.Machine.execParseAddi a0 s
  | .parseMovi a0 => Sys2Proof.Machine.execParseMovi a0 s
  | .parseAdd a0 => Sys2Proof.Machine.execParseAdd a0 s
  | .parseShli a0 => Sys2Proof.Machine.execParseShli a0 s
  | .parseBeqi a0 => Sys2Proof.Machine.execParseBeqi a0 s
  | .parseBnei a0 => Sys2Proof.Machine.execParseBnei a0 s
  | .parseBlti a0 => Sys2Proof.Machine.execParseBlti a0 s
  | .parseJmp a0 => Sys2Proof.Machine.execParseJmp a0 s
  | .parseAdv a0 => Sys2Proof.Machine.execParseAdv a0 s
  | .parseAdvi a0 => Sys2Proof.Machine.execParseAdvi a0 s
  | .parseMark a0 => Sys2Proof.Machine.execParseMark a0 s
  | .parseSetf a0 => Sys2Proof.Machine.execParseSetf a0 s
  | .parseCopy a0 => Sys2Proof.Machine.execParseCopy a0 s
  | .parseCnt a0 => Sys2Proof.Machine.execParseCnt a0 s
  | .parseUbp a0 => Sys2Proof.Machine.execParseUbp a0 s
  | .parseDone a0 => Sys2Proof.Machine.execParseDone a0 s
  | .parseSlow a0 => Sys2Proof.Machine.execParseSlow a0 s
  | .parseFail a0 => Sys2Proof.Machine.execParseFail a0 s
  | .parseIllegal a0 => Sys2Proof.Machine.execParseIllegal a0 s
  | .steps a0 => Sys2Proof.Machine.execSteps a0 s
  | .segmentHeaderWalk a0 => Sys2Proof.Machine.execSegmentHeaderWalk a0 s
  | .tailAtChive a0 => Sys2Proof.Machine.execTailAtChive a0 s
  | .prvRelease a0 => Sys2Proof.Machine.execPrvRelease a0 s
  | .progCommit => Sys2Proof.Machine.execProgCommit s
  | .progDrainDone => Sys2Proof.Machine.execProgDrainDone s
  | .streamLookup => Sys2Proof.Machine.execStreamLookup s
  | .streamCacheFill a0 => Sys2Proof.Machine.execStreamCacheFill a0 s
  | .ruleCommit => Sys2Proof.Machine.execRuleCommit s
  | .commitExecute => Sys2Proof.Machine.execCommitExecute s
  | .versionRetire => Sys2Proof.Machine.execVersionRetire s
  | .tcamAdd a0 => Sys2Proof.Machine.execTcamAdd a0 s
  | .tcamDelete a0 => Sys2Proof.Machine.execTcamDelete a0 s
  | .tcamRead a0 => Sys2Proof.Machine.execTcamRead a0 s
  | .tcamCmdComplete => Sys2Proof.Machine.execTcamCmdComplete s
  | .emInsert => Sys2Proof.Machine.execEmInsert s
  | .emModify => Sys2Proof.Machine.execEmModify s
  | .emDelete => Sys2Proof.Machine.execEmDelete s
  | .emCmdComplete => Sys2Proof.Machine.execEmCmdComplete s
  | .meterWrite => Sys2Proof.Machine.execMeterWrite s
  | .meterRead => Sys2Proof.Machine.execMeterRead s
  | .counterSweep => Sys2Proof.Machine.execCounterSweep s
  | .sweepComplete => Sys2Proof.Machine.execSweepComplete s
  | .counterClear => Sys2Proof.Machine.execCounterClear s
  | .resultAtErp => Sys2Proof.Machine.execResultAtErp s
  | .coalesceWindowEnd a0 => Sys2Proof.Machine.execCoalesceWindowEnd a0 s
  | .verdictAtErp a0 => Sys2Proof.Machine.execVerdictAtErp a0 s
  | .stomp a0 => Sys2Proof.Machine.execStomp a0 s
  | .remoteWaitExpiry a0 => Sys2Proof.Machine.execRemoteWaitExpiry a0 s
  | .erpProfileWrite => Sys2Proof.Machine.execErpProfileWrite s
  | .erpProfileRead => Sys2Proof.Machine.execErpProfileRead s
  | .segmentAdmission => Sys2Proof.Machine.execSegmentAdmission s
  | .segmentAllocate => Sys2Proof.Machine.execSegmentAllocate s
  | .stateLineLoad a0 => Sys2Proof.Machine.execStateLineLoad a0 s
  | .featureFrame a0 => Sys2Proof.Machine.execFeatureFrame a0 s
  | .packWaitEnd a0 => Sys2Proof.Machine.execPackWaitEnd a0 s
  | .rowPop a0 => Sys2Proof.Machine.execRowPop a0 s
  | .tileNop a0 => Sys2Proof.Machine.execTileNop a0 s
  | .macw a0 => Sys2Proof.Machine.execMacw a0 s
  | .tileMac a0 => Sys2Proof.Machine.execTileMac a0 s
  | .drain a0 => Sys2Proof.Machine.execDrain a0 s
  | .vop a0 => Sys2Proof.Machine.execVop a0 s
  | .lut a0 => Sys2Proof.Machine.execLut a0 s
  | .tileMov a0 => Sys2Proof.Machine.execTileMov a0 s
  | .lds a0 => Sys2Proof.Machine.execLds a0 s
  | .sts a0 => Sys2Proof.Machine.execSts a0 s
  | .sectionStoreResponse a0 => Sys2Proof.Machine.execSectionStoreResponse a0 s
  | .ctl a0 => Sys2Proof.Machine.execCtl a0 s
  | .tileJmp a0 => Sys2Proof.Machine.execTileJmp a0 s
  | .cset a0 => Sys2Proof.Machine.execCset a0 s
  | .secend a0 => Sys2Proof.Machine.execSecend a0 s
  | .routerHop a0 => Sys2Proof.Machine.execRouterHop a0 s
  | .creditReturn a0 => Sys2Proof.Machine.execCreditReturn a0 s
  | .flowUnitToken a0 a1 => Sys2Proof.Machine.execFlowUnitToken a0 a1 s
  | .sectionEndReport a0 => Sys2Proof.Machine.execSectionEndReport a0 s
  | .contextLoaded a0 => Sys2Proof.Machine.execContextLoaded a0 s
  | .blockFlip a0 => Sys2Proof.Machine.execBlockFlip a0 s
  | .configCommit a0 => Sys2Proof.Machine.execConfigCommit a0 s
  | .commitOrdered a0 => Sys2Proof.Machine.execCommitOrdered a0 s
  | .qdSample => Sys2Proof.Machine.execQdSample s
  | .stateLoad a0 => Sys2Proof.Machine.execStateLoad a0 s
  | .stateWriteback a0 => Sys2Proof.Machine.execStateWriteback a0 s
  | .widenDecision a0 => Sys2Proof.Machine.execWidenDecision a0 s
  | .epochCommit => Sys2Proof.Machine.execEpochCommit s
  | .epochAdvance => Sys2Proof.Machine.execEpochAdvance s
  | .epochRetire => Sys2Proof.Machine.execEpochRetire s
  | .statRead => Sys2Proof.Machine.execStatRead s
  | .statClear => Sys2Proof.Machine.execStatClear s
  | .bayRegister a0 a1 a2 => Sys2Proof.Machine.execBayRegister a0 a1 a2 s
  | .bayUnregister a0 => Sys2Proof.Machine.execBayUnregister a0 s
  | .bayPrefetch a0 => Sys2Proof.Machine.execBayPrefetch a0 s
  | .bayEvict a0 => Sys2Proof.Machine.execBayEvict a0 s
  | .bayPin a0 => Sys2Proof.Machine.execBayPin a0 s
  | .bayUnpin a0 => Sys2Proof.Machine.execBayUnpin a0 s
  | .bayRenew a0 => Sys2Proof.Machine.execBayRenew a0 s
  | .bayReplace a0 a1 a2 => Sys2Proof.Machine.execBayReplace a0 a1 a2 s
  | .bayCalStage a0 a1 => Sys2Proof.Machine.execBayCalStage a0 a1 s
  | .baySlotGrant a0 => Sys2Proof.Machine.execBaySlotGrant a0 s
  | .baySlotReset a0 => Sys2Proof.Machine.execBaySlotReset a0 s
  | .pageInStart a0 => Sys2Proof.Machine.execPageInStart a0 s
  | .imageCopyDone a0 a1 => Sys2Proof.Machine.execImageCopyDone a0 a1 s
  | .digestVerdict a0 => Sys2Proof.Machine.execDigestVerdict a0 s
  | .pageInLoadsDone a0 => Sys2Proof.Machine.execPageInLoadsDone a0 s
  | .plotStall a0 => Sys2Proof.Machine.execPlotStall a0 s
  | .revocationFence => Sys2Proof.Machine.execRevocationFence s
  | .pinExpiry a0 => Sys2Proof.Machine.execPinExpiry a0 s
  | .serveReserveWrite a0 => Sys2Proof.Machine.execServeReserveWrite a0 s
  | .adpOpen a0 a1 a2 a3 => Sys2Proof.Machine.execAdpOpen a0 a1 a2 a3 s
  | .adpRun a0 => Sys2Proof.Machine.execAdpRun a0 s
  | .adpStop a0 => Sys2Proof.Machine.execAdpStop a0 s
  | .adpClose a0 => Sys2Proof.Machine.execAdpClose a0 s
  | .adpRenew a0 => Sys2Proof.Machine.execAdpRenew a0 s
  | .grantExpiry a0 => Sys2Proof.Machine.execGrantExpiry a0 s
  | .sampleDecode a0 a1 a2 a3 => Sys2Proof.Machine.execSampleDecode a0 a1 a2 a3 s
  | .epochOrderReady a0 => Sys2Proof.Machine.execEpochOrderReady a0 s
  | .gradientReduce a0 a1 => Sys2Proof.Machine.execGradientReduce a0 a1 s
  | .optimiserUpdate a0 => Sys2Proof.Machine.execOptimiserUpdate a0 s
  | .checkpointWrite a0 => Sys2Proof.Machine.execCheckpointWrite a0 s
  | .doorbell a0 a1 a2 a3 => Sys2Proof.Machine.execDoorbell a0 a1 a2 a3 s
  | .descriptorFetch a0 => Sys2Proof.Machine.execDescriptorFetch a0 s
  | .descriptorArrival a0 a1 => Sys2Proof.Machine.execDescriptorArrival a0 a1 s
  | .descNop a0 => Sys2Proof.Machine.execDescNop a0 s
  | .infer a0 => Sys2Proof.Machine.execInfer a0 s
  | .txFrame a0 => Sys2Proof.Machine.execTxFrame a0 s
  | .rxBuf a0 => Sys2Proof.Machine.execRxBuf a0 s
  | .counterDump a0 => Sys2Proof.Machine.execCounterDump a0 s
  | .commitRules a0 => Sys2Proof.Machine.execCommitRules a0 s
  | .capsule a0 => Sys2Proof.Machine.execCapsule a0 s
  | .adaptBatch a0 => Sys2Proof.Machine.execAdaptBatch a0 s
  | .dmaReadCompletion a0 a1 => Sys2Proof.Machine.execDmaReadCompletion a0 a1 s
  | .completionTimeout a0 => Sys2Proof.Machine.execCompletionTimeout a0 s
  | .modTimerExpiry a0 => Sys2Proof.Machine.execModTimerExpiry a0 s
  | .qpCreate a0 => Sys2Proof.Machine.execQpCreate a0 s
  | .qpDestroy a0 => Sys2Proof.Machine.execQpDestroy a0 s
  | .qpRevoke a0 => Sys2Proof.Machine.execQpRevoke a0 s
  | .qpSetBase a0 => Sys2Proof.Machine.execQpSetBase a0 s
  | .qpSetMod a0 => Sys2Proof.Machine.execQpSetMod a0 s
  | .qpRead a0 => Sys2Proof.Machine.execQpRead a0 s
  | .qpFenceDrained a0 => Sys2Proof.Machine.execQpFenceDrained a0 s
  | .domainEpochWrite a0 => Sys2Proof.Machine.execDomainEpochWrite a0 s
  | .epochInForce a0 => Sys2Proof.Machine.execEpochInForce a0 s
  | .domainDrained a0 => Sys2Proof.Machine.execDomainDrained a0 s
  | .vfFlr a0 => Sys2Proof.Machine.execVfFlr a0 s
  | .busMasterChange a0 a1 => Sys2Proof.Machine.execBusMasterChange a0 a1 s
  | .wakeBudgetWrite a0 a1 => Sys2Proof.Machine.execWakeBudgetWrite a0 a1 s
  | .getInfo => Sys2Proof.Machine.execGetInfo s
  | .getSensors => Sys2Proof.Machine.execGetSensors s
  | .ledgerRead => Sys2Proof.Machine.execLedgerRead s
  | .hbKick => Sys2Proof.Machine.execHbKick s
  | .hbKickTick => Sys2Proof.Machine.execHbKickTick s
  | .capsuleClear => Sys2Proof.Machine.execCapsuleClear s
  | .optionWrite a0 => Sys2Proof.Machine.execOptionWrite a0 s
  | .fwStage a0 => Sys2Proof.Machine.execFwStage a0 s
  | .mailboxComplete => Sys2Proof.Machine.execMailboxComplete s
  | .linkFrameRx a0 a1 a2 a3 => Sys2Proof.Machine.execLinkFrameRx a0 a1 a2 a3 s
  | .passNotice a0 => Sys2Proof.Machine.execPassNotice a0 s
  | .spanNotice a0 => Sys2Proof.Machine.execSpanNotice a0 s
  | .verdict a0 => Sys2Proof.Machine.execVerdict a0 s
  | .progAbort a0 => Sys2Proof.Machine.execProgAbort a0 s
  | .chipAbsent a0 => Sys2Proof.Machine.execChipAbsent a0 s
  | .remoteReset a0 => Sys2Proof.Machine.execRemoteReset a0 s
  | .replayTimeout a0 => Sys2Proof.Machine.execReplayTimeout a0 s
  | .linkTrained a0 a1 a2 => Sys2Proof.Machine.execLinkTrained a0 a1 a2 s
  | .laneBad a0 a1 => Sys2Proof.Machine.execLaneBad a0 a1 s
  | .linkRetrained a0 a1 => Sys2Proof.Machine.execLinkRetrained a0 a1 s
  | .linkSignalLoss a0 => Sys2Proof.Machine.execLinkSignalLoss a0 s
  | .linkRetry a0 => Sys2Proof.Machine.execLinkRetry a0 s
  | .linkRetrainRequest a0 => Sys2Proof.Machine.execLinkRetrainRequest a0 s
  | .linkSetSwitch a0 a1 => Sys2Proof.Machine.execLinkSetSwitch a0 a1 s
  | .absentTimeout a0 a1 => Sys2Proof.Machine.execAbsentTimeout a0 a1 s
  | .recoverEnd a0 => Sys2Proof.Machine.execRecoverEnd a0 s
  | .progWrite => Sys2Proof.Machine.execProgWrite s
  | .progEnable => Sys2Proof.Machine.execProgEnable s
  | .progDisable => Sys2Proof.Machine.execProgDisable s
  | .progResume => Sys2Proof.Machine.execProgResume s
  | .progRemap => Sys2Proof.Machine.execProgRemap s
  | .lbypOpen a0 => Sys2Proof.Machine.execLbypOpen a0 s
  | .lbypClose a0 => Sys2Proof.Machine.execLbypClose a0 s
  | .rrstGo a0 => Sys2Proof.Machine.execRrstGo a0 s
  | .paceFallLatch a0 a1 => Sys2Proof.Machine.execPaceFallLatch a0 a1 s
  | .governorDecision => Sys2Proof.Machine.execGovernorDecision s
  | .avsWriteComplete a0 => Sys2Proof.Machine.execAvsWriteComplete a0 s
  | .powerSample a0 a1 a2 => Sys2Proof.Machine.execPowerSample a0 a1 a2 s
  | .pmbusPoll a0 a1 => Sys2Proof.Machine.execPmbusPoll a0 a1 s
  | .pacTargetWrite a0 => Sys2Proof.Machine.execPacTargetWrite a0 s
  | .powerStateEntry a0 => Sys2Proof.Machine.execPowerStateEntry a0 s
  | .deviceIdleEntry => Sys2Proof.Machine.execDeviceIdleEntry s
  | .fieldWake a0 => Sys2Proof.Machine.execFieldWake a0 s
  | .deviceWake a0 => Sys2Proof.Machine.execDeviceWake a0 s
  | .wakeComplete a0 => Sys2Proof.Machine.execWakeComplete a0 s
  | .sensorSweep a0 => Sys2Proof.Machine.execSensorSweep a0 s
  | .thermalTrip => Sys2Proof.Machine.execThermalTrip s
  | .powerOn => Sys2Proof.Machine.execPowerOn s
  | .brownOut => Sys2Proof.Machine.execBrownOut s
  | .rstin a0 => Sys2Proof.Machine.execRstin a0 s
  | .perst => Sys2Proof.Machine.execPerst s
  | .pcieHotReset => Sys2Proof.Machine.execPcieHotReset s
  | .sageWatchdog => Sys2Proof.Machine.execSageWatchdog s
  | .watchdogKick a0 => Sys2Proof.Machine.execWatchdogKick a0 s
  | .softwareFullReset a0 => Sys2Proof.Machine.execSoftwareFullReset a0 s
  | .stretchEnd a0 => Sys2Proof.Machine.execStretchEnd a0 s
  | .fusePhaseDone a0 => Sys2Proof.Machine.execFusePhaseDone a0 s
  | .repairPhaseDone => Sys2Proof.Machine.execRepairPhaseDone s
  | .optionPhaseDone a0 => Sys2Proof.Machine.execOptionPhaseDone a0 s
  | .bistPhaseDone a0 => Sys2Proof.Machine.execBistPhaseDone a0 s
  | .hbmPhaseDone a0 => Sys2Proof.Machine.execHbmPhaseDone a0 s
  | .coreReady => Sys2Proof.Machine.execCoreReady s
  | .isolate a0 => Sys2Proof.Machine.execIsolate a0 s
  | .busTimeout => Sys2Proof.Machine.execBusTimeout s
  | .tileWdog a0 => Sys2Proof.Machine.execTileWdog a0 s
  | .ueDetected a0 => Sys2Proof.Machine.execUeDetected a0 s
  | .ceDetected a0 => Sys2Proof.Machine.execCeDetected a0 s
  | .retireCmd a0 => Sys2Proof.Machine.execRetireCmd a0 s
  | .remapSubmit a0 => Sys2Proof.Machine.execRemapSubmit a0 s
  | .remapApply a0 => Sys2Proof.Machine.execRemapApply a0 s
  | .ledgerWriteDone a0 => Sys2Proof.Machine.execLedgerWriteDone a0 s
  | .patrolScrub => Sys2Proof.Machine.execPatrolScrub s
  | .faultPop => Sys2Proof.Machine.execFaultPop s
  | .capsuleTrigger a0 => Sys2Proof.Machine.execCapsuleTrigger a0 s
  | .capsuleCaptured => Sys2Proof.Machine.execCapsuleCaptured s
  | .capsuleStored => Sys2Proof.Machine.execCapsuleStored s
  | .busStuck a0 a1 a2 => Sys2Proof.Machine.execBusStuck a0 a1 a2 s
  | .chalGet a0 => Sys2Proof.Machine.execChalGet a0 s
  | .chalResp a0 => Sys2Proof.Machine.execChalResp a0 s
  | .chalStat => Sys2Proof.Machine.execChalStat s
  | .devId => Sys2Proof.Machine.execDevId s
  | .smbTj => Sys2Proof.Machine.execSmbTj s
  | .smbState => Sys2Proof.Machine.execSmbState s
  | .smbCause => Sys2Proof.Machine.execSmbCause s
  | .extest => Sys2Proof.Machine.execExtest s
  | .samplePreload => Sys2Proof.Machine.execSamplePreload s
  | .idcode => Sys2Proof.Machine.execIdcode s
  | .clamp => Sys2Proof.Machine.execClamp s
  | .highz => Sys2Proof.Machine.execHighz s
  | .jtagBypass a0 => Sys2Proof.Machine.execJtagBypass a0 s
  | .badAccess a0 => Sys2Proof.Machine.execBadAccess a0 s
  | .registerWrite a0 a1 a2 a3 => Sys2Proof.Machine.execRegisterWrite a0 a1 a2 a3 s
  | .sfeProfileWrite => Sys2Proof.Machine.execSfeProfileWrite s
  | .sfeProfileRead => Sys2Proof.Machine.execSfeProfileRead s
  | .bayCatRead => Sys2Proof.Machine.execBayCatRead s
  | .registerRead a0 a1 a2 => Sys2Proof.Machine.execRegisterRead a0 a1 a2 s
  | .levelSourceDeassertion a0 => Sys2Proof.Machine.execLevelSourceDeassertion a0 s
  | .dlActive => Sys2Proof.Machine.execDlActive s
  | .d3hotTransition a0 a1 => Sys2Proof.Machine.execD3hotTransition a0 a1 s
  | .tapReset => Sys2Proof.Machine.execTapReset s
  | .tlpError a0 a1 a2 => Sys2Proof.Machine.execTlpError a0 a1 a2 s

end Sys2Proof.Machine
end

