-- ==== Sys2Proof/Machine/Pins.lean ====
section
/-! DEFINITION. What Umauk drives on its slow pins and transmit lanes, in and after reset (R41, R52, R301, R342, R355, R400, R408, R414). -/

namespace Sys2Proof.Machine

/-- The pins that Umauk drives, or may drive, and TEST_EN (R355, R400). -/
inductive Pin where
  | rstOut | ppsOut | clkreq | testEn | smbAlert
  | byp (k : Fin 8)
  | lbyp (k : Fin 8)
  | gpio (i : Fin 16)
  | led (i : Fin 8)
  | smbus | pmbus | avs | spiCs | spi
  | ethTx (port : Fin 16)
  | oslTx (link : Fin 16)
deriving DecidableEq, Repr

/-- What stands on a pin: a level, high impedance, an input with its pull-up, the signals of its bus or link, or electrical idle. -/
inductive Drive where
  | low | high | floating | pullUp | live | idle
deriving DecidableEq, Repr

/-- A push-pull output. -/
def level (b : Bool) : Drive := if b then .high else .low

/-- A GPIO or LED pin, by its 2-bit state (R355). -/
def fuseDrive (n : Nat) : Drive := if n = 1 then .low else if n = 2 then .high else if n = 3 then .pullUp else .floating

/-- A bus that is high impedance until its unit is out of reset. -/
def busDrive (up : Bool) : Drive := if up then .live else .floating

/-- The pins (R355, R400). CLKREQ_N is low at all times, because ASPM is not supported; SMB_ALERT_N is not driven (R408). The bypass pins are low under EXTEST, CLAMP and HIGHZ (R414); what boundary scan does to the other pins is left to IEEE 1149.1 and the BSDL description, and is not modelled (log 215). -/
def State.pin (s : State) : Pin → Drive
  | .clkreq => .low
  | .testEn => .floating
  | .smbAlert => .floating
  | .rstOut => level (decide (s.phase ≠ 0))
  | .ppsOut => level s.thy.ppsOut
  | .byp k => level (s.bypPin k.val)
  | .lbyp k => level (bit s.osl.pins.toNat k.val && !s.scanDrives)
  | .gpio i => fuseDrive ((s.rst.pins[i.val]?).getD 0)
  | .led i => fuseDrive ((s.rst.pins[16 + i.val]?).getD 0)
  | .smbus => busDrive s.challengeOpen
  | .pmbus => busDrive (s.reachable && decide (3 ≤ s.phase))
  | .avs => busDrive (s.reachable && decide (3 ≤ s.phase))
  | .spiCs => if s.reachable then .live else .high
  | .spi => busDrive s.reachable
  | .ethTx p => if decide (p.val < s.portCount) && s.flag (Reg.MAC_PORT_CTRL_enable p.val) then .live else .idle
  | .oslTx l => if s.flag Reg.OSL_CTRL_enable && s.flag (Reg.OSL_LINK_CTRL_enable l.val) then .live else .idle

end Sys2Proof.Machine
end

