-- ==== Sys2Proof/Safety.lean ====
section
/-! DEFINITION. What a run must keep, and the words statements say frames with: which registers, ports, frames and other objects two states agree on. -/

namespace Sys2Proof.Machine

/-- The register file and the delta banks of the counters are in their canonical form: keys rise, nothing that holds its reset value is listed, and an unlisted delta is 0. -/
def State.canonical (s : State) : Prop :=
  s.regs.wf = true ∧ s.rul.bank0.wf = true ∧ s.rul.bank1.wf = true ∧ s.rul.bank0.dflt = 0 ∧ s.rul.bank1.dflt = 0

/-- A write reaches a core block: BAR0 is reachable, the core is ready, the register bus does not hang and the block is not isolated (R346, R356, R357). -/
def State.busOk (s : State) (blk : Option Nat) : Prop :=
  s.reachable = true ∧ s.rst.coreReady = true ∧ s.rst.hung = false ∧ s.isolated blk = false

/-- Two states agree on every register that a list does not name. -/
def regsBut (s t : State) (l : List Nat) : Prop := ∀ a, a ∉ l → t.reg a = s.reg a

/-- Two states agree on every Ethernet port but one. -/
def portsBut (s t : State) (p : Nat) : Prop := ∀ q, q ≠ p → t.port q = s.port q

/-- Two states agree on every pair but one. -/
def pairsBut (s t : State) (k : Nat) : Prop := ∀ j, j ≠ k → t.pair j = s.pair j

/-- Two states agree on every frame but one. -/
def framesBut (s t : State) (f : Nat) : Prop := ∀ g, g ≠ f → t.frame g = s.frame g

/-- The part of the state behind the network edge, the register file, the identifiers and the outbox is the same. -/
def coreSame (s t : State) : Prop :=
  t.prs = s.prs ∧ t.rul = s.rul ∧ t.erp = s.erp ∧ t.sfe = s.sfe ∧ t.fab = s.fab ∧ t.num = s.num ∧ t.bay = s.bay
    ∧ t.adp = s.adp ∧ t.osl = s.osl ∧ t.pow = s.pow ∧ t.rst = s.rst ∧ t.rep = s.rep ∧ t.pending = s.pending

/-- The parse cores work, and this one runs a program, has executed fewer than 256 instructions, and is at the instruction `i` of opcode `op` (R63 to R66, R326). -/
def State.atParse (s : State) (c op : Nat) (i : PInstr) : Prop :=
  s.runs (some 0) = true ∧ (s.chive c).phase = .running ∧ (s.chive c).steps < 256 ∧ s.fetchParse c = i ∧ i.op = op

/-- Two states agree on every tile but one. -/
def tilesBut (s t : State) (k : Nat) : Prop := ∀ j, j ≠ k → t.tile j = s.tile j

/-- A tile runs a SEQ program, is at the microinstruction `i` of opcode `op`, and every IN source holds its flits (R168, R171). -/
def State.atTile (s : State) (t op i : Nat) : Prop :=
  (s.tile t).phase = .running ∧ (s.tile t).ctx.tag = false ∧ (s.tile t).pc < (s.tile t).ctx.n
    ∧ (s.tile t).ctx.instr (s.tile t).pc = i ∧ miOp i = op ∧ (s.tile t).sourcesReady i none = true

/-- The commands of the microinstructions that fire, with their opcodes (R172). -/
def tileRows (t : Fin 4096) : List (Nat × Instr) :=
  [(0x00, .tileNop t), (0x01, .macw t), (0x02, .tileMac t), (0x03, .drain t), (0x04, .vop t), (0x05, .lut t), (0x06, .tileMov t),
    (0x07, .lds t), (0x08, .sts t), (0x09, .ctl t), (0x0A, .tileJmp t), (0x0B, .cset t)]

/-- Bay works, and the command of opcode `op` whose block `b` a write of BAY_CMD gave is the one to run (R240, R326). -/
def State.bayHolds (s : State) (op : Nat) (b : List Byte) : Prop :=
  s.runs none = true ∧ s.bay.latched = some b ∧ s.bay.busy = none ∧ byteAt b 0 = op

/-- A Bay command given by a write has completed with a status, and Bay is free for the next. -/
def State.bayAnswers (t : State) (status : Nat) : Prop :=
  t.bay.latched = none ∧ t.bay.busy = none ∧ t.fld Reg.BAY_CMD_STAT_status = status ∧ t.flag Reg.BAY_CMD_STAT_done = true

/-- Two states agree on every catalogue entry but one. -/
def modelsBut (s t : State) (h : Nat) : Prop := ∀ j, j ≠ h → t.model j = s.model j

/-- The adaptation command of opcode `op` for job `n` whose block `b` a write of ADP_CMD gave is the one to run (R260). -/
def State.adpHolds (s : State) (op n : Nat) (b : List Byte) : Prop :=
  s.adp.latched = some b ∧ byteAt b 0 = op ∧ byteAt b 1 = n

/-- An adaptation command given by a write has completed with a status. -/
def State.adpAnswers (t : State) (status : Nat) : Prop :=
  t.adp.latched = none ∧ t.fld Reg.ADP_CMD_STAT_status = status ∧ t.flag Reg.ADP_CMD_STAT_done = true

/-- Two states agree on every job slot but one. -/
def jobsBut (s t : State) (n : Nat) : Prop := ∀ j, j ≠ n → t.job j = s.job j

/-- Two states agree on every queue pair but one. -/
def qpsBut (s t : State) (q : Nat) : Prop := ∀ j, j ≠ q → t.qp j = s.qp j

/-- Sage runs, and the mailbox command of code `code` waits to run (R288, R353). -/
def State.mboxAt (s : State) (code : Nat) (m : Mbox) : Prop :=
  s.hif.mbox = some m ∧ m.code = code ∧ m.waits = true ∧ s.mboxKnown code = true ∧ s.rst.fwStopped = false

/-- Sage has prepared the answer of the mailbox command it runs. -/
def State.mboxHas (t : State) (status : Nat) (rsp : List Word) : Prop :=
  ∃ m, t.hif.mbox = some m ∧ m.waits = false ∧ m.status = status ∧ m.rsp = rsp

/-- A command completes: it answers a next state. -/
def completes (i : Instr) (s : State) : Prop := ∃ t, exec i s = .next t

/-- The commands by which an isolable block works by itself, each with its bit of RST_ISO (R356). -/
def blockRows (b : Nat) : List Instr :=
  match b with
  | 0 => (List.finRange 256).flatMap (fun c => [.parseNop c, .parseExt c, .parseAndi c, .parseShri c, .parseAddi c, .parseMovi c, .parseAdd c,
      .parseShli c, .parseBeqi c, .parseBnei c, .parseBlti c, .parseJmp c, .parseAdv c, .parseAdvi c, .parseMark c, .parseSetf c, .parseCopy c,
      .parseCnt c, .parseUbp c, .parseDone c, .parseSlow c, .parseFail c, .parseIllegal c, .steps c, .segmentHeaderWalk c, .tailAtChive c])
    ++ [.chiveDispatch, .progDrainDone]
  | 1 => (List.finRange 16).map (fun p => Instr.prvRelease p)
    ++ [.streamLookup, .commitExecute, .versionRetire, .tcamCmdComplete, .emCmdComplete, .counterSweep, .sweepComplete]
  | 2 => [.segmentAdmission, .segmentAllocate]
  | 3 => [.resultAtErp]
  | _ => []

/-- The commands by which the core blocks that IDLE gates work by themselves (R326): those of the parse cores, the rule tables, the sample front end and the early reply unit, and those of Bay that name nothing. -/
def coreRows : List Instr := (List.range 4).flatMap blockRows ++ [.revocationFence]

/-- No link has link credits to give back or a nak to answer. -/
def State.nothingToReturn (s : State) : Prop := ∀ j, j < 16 → (s.link j).freed = [0, 0, 0, 0] ∧ (s.link j).nak = false

/-- No record is held for the direction of a link. -/
def State.noneHeld (s : State) (l : Nat) : Prop := (s.osl.dirs.get (dirIndex (pairDim s.oslMode (l / 2)) (l % 2 == 0))).heldBack = []

end Sys2Proof.Machine
end

