-- ==== Sys2Proof/WellFormed.lean ====
section
/-! DEFINITION. Well-formed commands: what the types of the operands do not already say of what a sender can give. -/

namespace Sys2Proof

/-- Host data is an error, or has a length that a test admits. -/
def hostBytes (d : HostData) (p : Nat → Bool) : Bool :=
  match d with
  | none => true
  | some b => p b.length

/-- What a sender can give: a frame has bytes (R24), a PFC frame eight quanta (R37), a fetch whole descriptors of 64 bytes (R269), a link frame 512 bytes (R293), a PMBus poll eight rails (R324), a sensor sweep sixteen readings (R336), a nonce 32 bytes and a response 97 (R379). -/
def Instr.wf (i : Instr) : Bool :=
  match i with
  | .sofDelimiter _ bytes => decide (bytes ≠ [])
  | .copyTruncated _ => true
  | .oversizeTruncation _ => true
  | .frameTail _ _ => true
  | .mirrorWaitExpiry _ => true
  | .actionRecordReturn _ => true
  | .decisionDeadline _ => true
  | .egressFrameBoundary _ => true
  | .arbGuardExpiry _ => true
  | .pauseRx _ _ => true
  | .pfcRx _ _ quanta => decide (quanta.length = 8)
  | .pauseHoldExpiry _ => true
  | .pfcXoffRefresh _ => true
  | .pcsLockRise _ => true
  | .pcsLockFall _ => true
  | .linkUp _ => true
  | .macModeWrite _ => true
  | .bypOpenRequest _ => true
  | .bypClose _ _ => true
  | .bypKick _ _ => true
  | .hbExpiry _ => true
  | .openTimeout _ => true
  | .thymeStep _ => true
  | .phaseAdjWrite _ => true
  | .phaseSlewDone => true
  | .ppsInEdge => true
  | .ppsPhaseTermEnd => true
  | .ppsHoldoverTimeout => true
  | .ppsOutRise => true
  | .ppsOutFall => true
  | .ptpEventRx _ => true
  | .trefclkLoss => true
  | .trefclkReturn => true
  | .chiveDispatch => true
  | .parseNop _ => true
  | .parseExt _ => true
  | .parseAndi _ => true
  | .parseShri _ => true
  | .parseAddi _ => true
  | .parseMovi _ => true
  | .parseAdd _ => true
  | .parseShli _ => true
  | .parseBeqi _ => true
  | .parseBnei _ => true
  | .parseBlti _ => true
  | .parseJmp _ => true
  | .parseAdv _ => true
  | .parseAdvi _ => true
  | .parseMark _ => true
  | .parseSetf _ => true
  | .parseCopy _ => true
  | .parseCnt _ => true
  | .parseUbp _ => true
  | .parseDone _ => true
  | .parseSlow _ => true
  | .parseFail _ => true
  | .parseIllegal _ => true
  | .steps _ => true
  | .segmentHeaderWalk _ => true
  | .tailAtChive _ => true
  | .prvRelease _ => true
  | .progCommit => true
  | .progDrainDone => true
  | .streamLookup => true
  | .streamCacheFill _ => true
  | .ruleCommit => true
  | .commitExecute => true
  | .versionRetire => true
  | .tcamAdd _ => true
  | .tcamDelete _ => true
  | .tcamRead _ => true
  | .tcamCmdComplete => true
  | .emInsert => true
  | .emModify => true
  | .emDelete => true
  | .emCmdComplete => true
  | .meterWrite => true
  | .meterRead => true
  | .counterSweep => true
  | .sweepComplete => true
  | .counterClear => true
  | .resultAtErp => true
  | .coalesceWindowEnd _ => true
  | .verdictAtErp _ => true
  | .stomp _ => true
  | .remoteWaitExpiry _ => true
  | .erpProfileWrite => true
  | .erpProfileRead => true
  | .segmentAdmission => true
  | .segmentAllocate => true
  | .stateLineLoad _ => true
  | .featureFrame _ => true
  | .packWaitEnd _ => true
  | .rowPop _ => true
  | .tileNop _ => true
  | .macw _ => true
  | .tileMac _ => true
  | .drain _ => true
  | .vop _ => true
  | .lut _ => true
  | .tileMov _ => true
  | .lds _ => true
  | .sts _ => true
  | .sectionStoreResponse _ => true
  | .ctl _ => true
  | .tileJmp _ => true
  | .cset _ => true
  | .secend _ => true
  | .routerHop _ => true
  | .creditReturn _ => true
  | .flowUnitToken _ _ => true
  | .sectionEndReport _ => true
  | .contextLoaded _ => true
  | .blockFlip _ => true
  | .configCommit _ => true
  | .commitOrdered _ => true
  | .qdSample => true
  | .stateLoad _ => true
  | .stateWriteback _ => true
  | .widenDecision _ => true
  | .epochCommit => true
  | .epochAdvance => true
  | .epochRetire => true
  | .statRead => true
  | .statClear => true
  | .bayRegister _ _ _ => true
  | .bayUnregister _ => true
  | .bayPrefetch _ => true
  | .bayEvict _ => true
  | .bayPin _ => true
  | .bayUnpin _ => true
  | .bayRenew _ => true
  | .bayReplace _ _ _ => true
  | .bayCalStage _ _ => true
  | .baySlotGrant _ => true
  | .baySlotReset _ => true
  | .pageInStart _ => true
  | .imageCopyDone _ _ => true
  | .digestVerdict _ => true
  | .pageInLoadsDone _ => true
  | .plotStall _ => true
  | .revocationFence => true
  | .pinExpiry _ => true
  | .serveReserveWrite _ => true
  | .adpOpen _ _ _ _ => true
  | .adpRun _ => true
  | .adpStop _ => true
  | .adpClose _ => true
  | .adpRenew _ => true
  | .grantExpiry _ => true
  | .sampleDecode _ _ _ _ => true
  | .epochOrderReady _ => true
  | .gradientReduce _ _ => true
  | .optimiserUpdate _ => true
  | .checkpointWrite _ => true
  | .doorbell _ _ _ _ => true
  | .descriptorFetch _ => true
  | .descriptorArrival _ blocks => hostBytes blocks (fun n => decide (n % 64 = 0))
  | .descNop _ => true
  | .infer _ => true
  | .txFrame _ => true
  | .rxBuf _ => true
  | .counterDump _ => true
  | .commitRules _ => true
  | .capsule _ => true
  | .adaptBatch _ => true
  | .dmaReadCompletion _ _ => true
  | .completionTimeout _ => true
  | .modTimerExpiry _ => true
  | .qpCreate _ => true
  | .qpDestroy _ => true
  | .qpRevoke _ => true
  | .qpSetBase _ => true
  | .qpSetMod _ => true
  | .qpRead _ => true
  | .qpFenceDrained _ => true
  | .domainEpochWrite _ => true
  | .epochInForce _ => true
  | .domainDrained _ => true
  | .vfFlr _ => true
  | .busMasterChange _ _ => true
  | .wakeBudgetWrite _ _ => true
  | .getInfo => true
  | .getSensors => true
  | .ledgerRead => true
  | .hbKick => true
  | .hbKickTick => true
  | .capsuleClear => true
  | .optionWrite _ => true
  | .fwStage _ => true
  | .mailboxComplete => true
  | .linkFrameRx _ _ _ bytes => decide (bytes.length = 512)
  | .passNotice _ => true
  | .spanNotice _ => true
  | .verdict _ => true
  | .progAbort _ => true
  | .chipAbsent _ => true
  | .remoteReset _ => true
  | .replayTimeout _ => true
  | .linkTrained _ _ _ => true
  | .laneBad _ _ => true
  | .linkRetrained _ _ => true
  | .linkSignalLoss _ => true
  | .linkRetry _ => true
  | .linkRetrainRequest _ => true
  | .linkSetSwitch _ _ => true
  | .absentTimeout _ _ => true
  | .recoverEnd _ => true
  | .progWrite => true
  | .progEnable => true
  | .progDisable => true
  | .progResume => true
  | .progRemap => true
  | .lbypOpen _ => true
  | .lbypClose _ => true
  | .rrstGo _ => true
  | .paceFallLatch _ _ => true
  | .governorDecision => true
  | .avsWriteComplete _ => true
  | .powerSample _ _ _ => true
  | .pmbusPoll _ readings => decide (readings.length = 9)
  | .pacTargetWrite _ => true
  | .powerStateEntry _ => true
  | .deviceIdleEntry => true
  | .fieldWake _ => true
  | .deviceWake _ => true
  | .wakeComplete _ => true
  | .sensorSweep readings => decide (readings.length = 16)
  | .thermalTrip => true
  | .powerOn => true
  | .brownOut => true
  | .rstin _ => true
  | .perst => true
  | .pcieHotReset => true
  | .sageWatchdog => true
  | .watchdogKick _ => true
  | .softwareFullReset _ => true
  | .stretchEnd _ => true
  | .fusePhaseDone _ => true
  | .repairPhaseDone => true
  | .optionPhaseDone _ => true
  | .bistPhaseDone _ => true
  | .hbmPhaseDone _ => true
  | .coreReady => true
  | .isolate _ => true
  | .busTimeout => true
  | .tileWdog _ => true
  | .ueDetected _ => true
  | .ceDetected _ => true
  | .retireCmd _ => true
  | .remapSubmit _ => true
  | .remapApply _ => true
  | .ledgerWriteDone _ => true
  | .patrolScrub => true
  | .faultPop => true
  | .capsuleTrigger _ => true
  | .capsuleCaptured => true
  | .capsuleStored => true
  | .busStuck _ _ _ => true
  | .chalGet nonce => decide (nonce.length = 32)
  | .chalResp response => decide (response.length = 97)
  | .chalStat => true
  | .devId => true
  | .smbTj => true
  | .smbState => true
  | .smbCause => true
  | .extest => true
  | .samplePreload => true
  | .idcode => true
  | .clamp => true
  | .highz => true
  | .jtagBypass _ => true
  | .badAccess _ => true
  | .registerWrite _ _ _ _ => true
  | .sfeProfileWrite => true
  | .sfeProfileRead => true
  | .bayCatRead => true
  | .registerRead _ _ _ => true
  | .levelSourceDeassertion _ => true
  | .dlActive => true
  | .d3hotTransition _ _ => true
  | .tapReset => true
  | .tlpError _ _ _ => true

end Sys2Proof
end

