-- ==== Sys2Proof/Certificates/Slice0/Obligations.lean ====
section
/-! DEFINITION. The statements for the provers, chapter by chapter of the manual. -/

open Sys2Proof Sys2Proof.Machine

/-- The queue is first in, first out, and a step runs its front command; an idle step is a tick, which is the model's choice (log: tick). -/
def Obligations.StepRunsFrontCommand : Prop :=
  (∀ (c : Instr) (s : State) (q : List Instr), step { s with pending := c :: q } = exec c { s with pending := q }) ∧
  (∀ s : State, s.pending = [] → step s = .next s.tick)

/-- The canonical form of the register file and of the delta banks is kept by every step, whatever the command. -/
def Obligations.EveryStepKeepsCanonicalForm : Prop :=
  ∀ s t : State, s.canonical → step s = .next t → t.canonical

/-- What reset leaves (R340, R341, R348): the values the manual gives. -/
def Obligations.ResetStateIsCanonical : Prop :=
  State.reset.canonical ∧ State.reset.pending = [] ∧ State.reset.fld Reg.RST_CAUSE_cause = 1 ∧ State.reset.phase = 0 ∧
  (∀ a, a ≠ Reg.RST_CAUSE → State.reset.reg a = regReset a) ∧ State.reset.reachable = false ∧
  State.reset.rst.coreReady = false ∧ (∀ k, (State.reset.pair k).st = .engaged)

/-- Every command's effect is on everything but the queue. -/
def Obligations.CommandsLeaveQueueToStep : Prop :=
  ∀ (c : Instr) (s t : State), exec c s = .next t → t.pending = s.pending

/-- R38: admission at the delimiter, for every free space of the edge buffer. -/
def Obligations.DelimiterAdmitsOrDiscards : Prop :=
  ∀ (p : Fin 16) (bytes : List Byte) (s : State), bytes ≠ [] → s.portUp p.val = true → (s.port p.val).rx = none →
    ∃ t, exec (.sofDelimiter p bytes) s = .next t ∧ (t.port p.val).rx = some s.nextId ∧ t.nextId = s.nextId + 1 ∧
      (t.frame s.nextId).bytes = bytes ∧ (t.frame s.nextId).port = p.val ∧ (t.frame s.nextId).stamp = s.thyme ∧
      (t.frame s.nextId).sof = s.now ∧ framesBut s t s.nextId ∧
      (s.edgeOcc p.val + 9216 ≤ edgeKibOf s.portMode * 1024 → s.copyRoom p.val = true →
        (t.frame s.nextId).orig = .held ∧ (t.frame s.nextId).copy = .waiting ∧
        t.prs.waiting = s.prs.waiting ++ [s.nextId] ∧ t.regs = s.regs) ∧
      (edgeKibOf s.portMode * 1024 < s.edgeOcc p.val + 9216 →
        (t.frame s.nextId).orig = .gone ∧ (t.frame s.nextId).copy = .none ∧ t.prs = s.prs ∧
        t.reg (Reg.MAC_EDGE_FULL p.val) = s.reg (Reg.MAC_EDGE_FULL p.val) + 1 ∧ regsBut s t [Reg.MAC_EDGE_FULL p.val])

/-- R27, R35, R421: the ways a frame ends at the ingress MAC. -/
def Obligations.FrameEndsWithItsVerdict : Prop :=
  (∀ (p : Fin 16) (s : State) (f : Nat), (s.port p.val).rx = some f → (s.frame f).copy = .waiting → (s.frame f).cut = none →
    crossCap < (s.crossOcc p.val - s.copyBytes f) + s.arrived f →
    exec (.copyTruncated p) s = .next (s.updFrame f (fun x => { x with
      cut := some (crossCap - (s.crossOcc p.val - s.copyBytes f)), verdict := some (.truncated, true) }))) ∧
  (∀ (p : Fin 16) (s : State) (f : Nat), (s.port p.val).rx = some f → 9216 < s.arrived f →
    ∃ t, exec (.oversizeTruncation p) s = .next t ∧ (t.port p.val).rx = none ∧ (t.frame f).tail = .oversize ∧
      (t.frame f).bytes = (s.frame f).bytes.take 9216 ∧ (t.frame f).tailAt = s.now ∧
      ((s.frame f).verdict = none → (t.frame f).verdict = some (.truncated, true)) ∧
      t.reg (Reg.MAC_RX_FRAMES p.val) = s.reg (Reg.MAC_RX_FRAMES p.val) + 1 ∧
      t.reg (Reg.MAC_RX_OVERSIZE p.val) = s.reg (Reg.MAC_RX_OVERSIZE p.val) + 1 ∧ framesBut s t f) ∧
  (∀ (p : Fin 16) (good : Bool) (s : State) (f : Nat), (s.port p.val).rx = some f →
    64 ≤ (s.frame f).bytes.length → (s.frame f).bytes.length ≤ 9216 →
    ∃ t, exec (.frameTail p good) s = .next t ∧ (t.port p.val).rx = none ∧
      (t.frame f).tail = (if good then .good else .bad) ∧ (t.frame f).bytes = (s.frame f).bytes ∧
      ((s.frame f).verdict = none → (t.frame f).verdict = some (if good then (.none, false) else (.fcsBad, true))) ∧
      t.reg (Reg.MAC_RX_FRAMES p.val) = s.reg (Reg.MAC_RX_FRAMES p.val) + 1 ∧
      t.reg (Reg.MAC_RX_FCS_ERR p.val) = s.reg (Reg.MAC_RX_FCS_ERR p.val) + (if good then 0 else 1) ∧ framesBut s t f) ∧
  (∀ (p : Fin 16) (good : Bool) (s : State) (f : Nat), (s.port p.val).rx = some f → (s.frame f).bytes.length < 64 →
    ∃ t, exec (.frameTail p good) s = .next t ∧ (t.port p.val).rx = none ∧ (t.frame f).orig = .gone ∧
      (t.frame f).runt = true ∧ t.reg (Reg.MAC_RX_FRAMES p.val) = s.reg (Reg.MAC_RX_FRAMES p.val) + 1 ∧
      t.reg (Reg.MAC_RX_RUNT p.val) = s.reg (Reg.MAC_RX_RUNT p.val) + 1 ∧ framesBut s t f)

/-- R39: the decision deadline and the fallback action. -/
def Obligations.DeadlineRecordOrFallback : Prop :=
  (∀ (f : Nat) (s : State), s.deadlineOf f = (s.frame f).sof + s.fld (Reg.MAC_PAIR_CTRL_deadline_ns ((s.frame f).port / 2))) ∧
  (∀ (f : Nat) (s : State), (s.frame f).record = some .drop → (s.frame f).recBack = false → (s.frame f).orig = .held →
    s.now ≤ s.deadlineOf f →
    ∃ t, exec (.actionRecordReturn f) s = .next t ∧ (t.frame f).recBack = true ∧ (t.frame f).orig = .gone ∧
      framesBut s t f ∧ t.regs = s.regs) ∧
  (∀ (f : Nat) (s : State) (q : Nat), (s.frame f).record = some (.fwd q 0) → (s.frame f).recBack = false →
    (s.frame f).orig = .held → s.portUp q = true → s.now ≤ s.deadlineOf f →
    ∃ t, exec (.actionRecordReturn f) s = .next t ∧ (t.frame f).recBack = true ∧ (t.frame f).orig = .queued ∧
      (t.port q).egress = (s.port q).egress ++ [⟨.orig f 0, 4, prioOf (s.frame f).bytes, s.now, false⟩] ∧
      framesBut s t f ∧ portsBut s t q ∧ t.regs = s.regs) ∧
  (∀ (f : Nat) (s : State) (d : Disp), (s.frame f).record = some d → (s.frame f).recBack = false → s.deadlineOf f < s.now →
    ∃ t, exec (.actionRecordReturn f) s = .next t ∧ (t.frame f).recBack = true ∧ (t.frame f).orig = (s.frame f).orig ∧
      (∀ q, t.port q = s.port q) ∧ framesBut s t f ∧ t.regs = s.regs) ∧
  (∀ (f : Nat) (s : State), (s.frame f).orig = .held → (s.frame f).bytes ≠ [] → (s.frame f).port < 16 →
    s.deadlineOf f < s.now →
    ∃ t, exec (.decisionDeadline f) s = .next t ∧
      t.reg (Reg.MAC_FALLBACK (s.frame f).port) = s.reg (Reg.MAC_FALLBACK (s.frame f).port) + 1 ∧
      (s.fld (Reg.MAC_PAIR_CTRL_fallback ((s.frame f).port / 2)) ≠ 0 → (t.frame f).orig = .gone) ∧
      (s.fld (Reg.MAC_PAIR_CTRL_fallback ((s.frame f).port / 2)) = 0 → s.portUp (pairedPort (s.frame f).port) = true →
        (t.frame f).orig = .queued ∧ (t.port (pairedPort (s.frame f).port)).egress =
          (s.port (pairedPort (s.frame f).port)).egress ++ [⟨.orig f 0, 4, prioOf (s.frame f).bytes, s.now, false⟩]) ∧
      framesBut s t f)

/-- R121, R40, R104: arbitration of an egress port. -/
def Obligations.EgressArbitrationOrder : Prop :=
  (∀ (s : State) (p : Nat) (e : EFrame) (rest : List EFrame), s.pick p = some (e, rest) →
    ∃ a b, (s.port p).egress = a ++ e :: b ∧ rest = a ++ b ∧ s.eligible p e = true ∧
      (∀ x ∈ (s.port p).egress, s.eligible p x = true → e.order ≤ x.order) ∧
      (∀ x ∈ a, s.eligible p x = true → e.order < x.order)) ∧
  (∀ (p : Fin 16) (s : State) (d : Nat) (b : List Byte) (e : EFrame), e.kind = .host d b → (s.port p.val).egress = [e] →
    (s.port p.val).tx = none → (s.port p.val).pfcOut = [] → (s.port p.val).nextFree ≤ s.now10 → s.portUp p.val = true →
    (s.port p.val).heldPrio e.prio = false → s.flag (Reg.MAC_PORT_CTRL_pfc_tx_en p.val) = false →
    ∃ t, exec (.egressFrameBoundary p) s = .next t ∧ (t.port p.val).egress = [] ∧
      (t.port p.val).tx = some ⟨e, s.now10, s.ptpOneStep p.val s.thyme b, false, false, s.thyme⟩ ∧
      portsBut s t p.val ∧ t = { s with mac := t.mac }) ∧
  (∀ (p : Fin 16) (s : State), exec (.arbGuardExpiry p) s = .next (s.updPort p.val (fun q => { q with
    egress := q.egress.map (fun e => { e with promoted := e.promoted || (decide (4 ≤ e.rank) && s.eligible p.val e &&
      s.passed e.since (s.fld Reg.ERP_ARB_GUARD_guard_ns)) }) }))) ∧
  (∀ (f : Nat) (s : State) (m : MirrorAct), (s.frame f).mirror = some m → s.mirrorWaits m.port f = true →
    s.passed (s.frame f).tailAt (s.fld Reg.RUL_MIRROR_WAIT_wait_ns) = true →
    ∃ t, exec (.mirrorWaitExpiry f) s = .next t ∧ (t.frame f).mirror = none ∧ t.reg Reg.RUL_MIRROR_DROP = s.reg Reg.RUL_MIRROR_DROP + 1 ∧
      (t.port m.port).egress = (s.port m.port).egress.filter (fun e => e.kind != .mirror f) ∧
      framesBut s t f ∧ portsBut s t m.port ∧ regsBut s t [Reg.RUL_MIRROR_DROP])

/-- R36, R37: holds on egress and the XOFF refresh. -/
def Obligations.PauseAndPfcHolds : Prop :=
  (∀ (p : Fin 16) (q : BitVec 16) (mask : BitVec 8) (l : List (BitVec 16)) (s : State), s.reachable = false →
    exec (.pauseRx p q) s = .next s ∧ (l.length = 8 → exec (.pfcRx p mask l) s = .next s) ∧ exec (.pcsLockRise p) s = .next s) ∧
  (∀ (p : Fin 16) (q : BitVec 16) (s : State), s.reachable = true → ∃ t, exec (.pauseRx p q) s = .next t ∧
    t.reg (Reg.MAC_PAUSE_RX p.val) = s.reg (Reg.MAC_PAUSE_RX p.val) + 1 ∧ regsBut s t [Reg.MAC_PAUSE_RX p.val, Reg.MAC_RX_FRAMES p.val] ∧
    (s.flag (Reg.MAC_PORT_CTRL_pause_rx_en p.val) = false → t.mac = s.mac) ∧
    (s.flag (Reg.MAC_PORT_CTRL_pause_rx_en p.val) = true →
      (t.port p.val) = { s.port p.val with pauseUntil := if q = 0 then 0 else s.now10 + q.toNat * (64 * s.byteTime) }) ∧
    portsBut s t p.val ∧ t = { s with mac := t.mac, regs := t.regs }) ∧
  (∀ (p : Fin 16) (mask : BitVec 8) (l : List (BitVec 16)) (s : State), s.reachable = true → l.length = 8 →
    ∃ t, exec (.pfcRx p mask l) s = .next t ∧
      t.reg (Reg.MAC_PAUSE_RX p.val) = s.reg (Reg.MAC_PAUSE_RX p.val) + 1 ∧ regsBut s t [Reg.MAC_PAUSE_RX p.val, Reg.MAC_RX_FRAMES p.val] ∧
      (s.flag (Reg.MAC_PORT_CTRL_pfc_rx_en p.val) = true → ∀ i, i < 8 → ∀ n, l[i]? = some n →
        (t.port p.val).pfcUntil[i]? = some (if mask.toNat.testBit i then (if n = 0 then 0 else s.now10 + n.toNat * (64 * s.byteTime))
          else ((s.port p.val).pfcUntil[i]?).getD 0)) ∧
      (s.flag (Reg.MAC_PORT_CTRL_pfc_rx_en p.val) = false → t.mac = s.mac) ∧
      portsBut s t p.val ∧ t = { s with mac := t.mac, regs := t.regs }) ∧
  (∀ (p : Fin 16) (mask : BitVec 8) (l : List (BitVec 16)) (s : State), l.length ≠ 8 →
    exec (.pfcRx p mask l) s = .fault .illFormed) ∧
  (∀ (p : Fin 16) (s : State), ∃ t, exec (.pauseHoldExpiry p) s = .next t ∧
    (t.port p.val).pauseUntil = (if (s.port p.val).pauseUntil ≤ s.now10 then 0 else (s.port p.val).pauseUntil) ∧
    (t.port p.val).pfcUntil = (s.port p.val).pfcUntil.map (fun u => if u ≤ s.now10 then 0 else u) ∧
    (t.port p.val).egress.length = (s.port p.val).egress.length ∧ portsBut s t p.val ∧ t = { s with mac := t.mac }) ∧
  (∀ (p : Fin 16) (s : State) (x y : Nat), s.flag (Reg.MAC_PORT_CTRL_pfc_tx_en p.val) = true → (s.port p.val).xoffAt = some x →
    (s.port p.val).xoffSent = some y → (s.pfcThr p.val).2 < s.edgeOcc p.val → y + 32768 * (64 * s.byteTime) ≤ s.now10 →
    exec (.pfcXoffRefresh p) s = .next (s.updPort p.val (fun q => { q with xoffSent := none, pfcOut := q.pfcOut ++ [true] }))) ∧
  (∀ (p : Fin 16) (s : State), s.flag (Reg.MAC_PORT_CTRL_pfc_tx_en p.val) = true → (s.port p.val).xoffAt = none →
    (s.pfcThr p.val).1 ≤ s.edgeOcc p.val →
    ((s.pfcCheck p.val).port p.val).pfcOut = (s.port p.val).pfcOut ++ [true] ∧ ((s.pfcCheck p.val).port p.val).xoffAt = some s.now10)

/-- R34, R423, R46: link state and the port mode. -/
def Obligations.LinkStateAndPortMode : Prop :=
  (∀ (p : Fin 16) (s : State), s.reachable = true → p.val < s.portCount →
    exec (.pcsLockRise p) s = .next (s.updPort p.val (fun q => { q with pcsLock := true }))) ∧
  (∀ (p : Fin 16) (s : State), p.val < s.portCount → (s.port p.val).pcsLock = true →
    s.flag (Reg.MAC_PORT_CTRL_enable p.val) = true →
    ∃ t, exec (.linkUp p) s = .next t ∧ (t.port p.val).linkUp = true ∧ portsBut s t p.val ∧ t = { s with mac := t.mac }) ∧
  (∀ (p : Fin 16) (s : State), (s.port p.val).pcsLock = true →
    ∃ t, exec (.pcsLockFall p) s = .next t ∧ (t.port p.val).pcsLock = false ∧ (t.port p.val).linkUp = false ∧
      ((s.port p.val).linkUp = true → (s.pair (p.val / 2)).st = .open →
        s.flag (Reg.MAC_PAIR_CTRL_auto_close_link (p.val / 2)) = true →
        (t.pair (p.val / 2)).st = .engaged)) ∧
  (∀ (v : Word) (s : State), s.reachable = true → s.modeWritable = true → v.toNat % 4 ≠ 3 →
    ∃ t, exec (.macModeWrite v) s = .next t ∧ t.portMode = v.toNat % 4 ∧ regsBut s t [Reg.MAC_MODE] ∧
      t = { s with regs := t.regs, mac := t.mac }) ∧
  (∀ (v : Word) (s : State), s.reachable = true → s.modeWritable = false ∨ v.toNat % 4 = 3 →
    exec (.macModeWrite v) s = .next s)

/-- R43 to R46: the bypass procedure. -/
def Obligations.BypassOpensAndCloses : Prop :=
  (∀ (k : Fin 8) (s : State), s.reachable = true → s.gated = false → (s.pair k.val).st = .engaged → s.openRefusal k.val = 0 →
    exec (.bypOpenRequest k) s = .next (s.updPair k.val (fun q => { q with
      st := .opening, openAt := s.now, down0 := false, down1 := false }))) ∧
  (∀ (k : Fin 8) (s : State), s.reachable = true → s.gated = false → (s.pair k.val).st = .engaged → s.openRefusal k.val ≠ 0 →
    ∃ t, exec (.bypOpenRequest k) s = .next t ∧ t.mac = s.mac ∧ t.flag (Reg.MAC_BYP_STAT_open_refused k.val) = true ∧
      t.fld (Reg.MAC_BYP_STAT_refuse_reason k.val) = s.openRefusal k.val ∧ regsBut s t [Reg.MAC_BYP_STAT k.val] ∧
      t = { s with regs := t.regs }) ∧
  (∀ (k : Fin 8) (s : State), s.pow.idle = false → (s.pair k.val).st ≠ .engaged → exec (.bypOpenRequest k) s = .next s) ∧
  (∀ (k : Fin 8) (s : State), s.reachable = true → s.pow.idle = true → s.pow.idleFrom ≠ some s.now → (s.pair k.val).st = .engaged →
    exec (.bypOpenRequest k) s = .next ({ s with pow := { s.pow with idle := false, idleAt := none, devWaking := some s.now } }.updPair k.val
      (fun q => { q with openWait := true }))) ∧
  (∀ (k : Fin 8) (s : State), (s.pair k.val).openWait = true → (s.pair k.val).st = .engaged → (∀ j, j < 8 → j ≠ k.val → (s.pair j).openWait = false) →
    let u := s.updPair k.val (fun q => { q with openWait := false })
    (u.openRefusal k.val = 0 → s.judgeWaiting = u.updPair k.val (fun q => { q with st := .opening, openAt := s.now, down0 := false, down1 := false })) ∧
    (u.openRefusal k.val ≠ 0 → s.judgeWaiting = (u.stick (Reg.MAC_BYP_STAT_open_refused k.val)).setFld (Reg.MAC_BYP_STAT_refuse_reason k.val)
      (u.openRefusal k.val))) ∧
  (∀ (k : Fin 8) (s : State),
    (s.openRefusal k.val = 0 ↔ k.val < s.portCount / 2 ∧ s.flag (Reg.MAC_PORT_CTRL_enable (2 * k.val)) = true ∧
      s.flag (Reg.MAC_PORT_CTRL_enable (2 * k.val + 1)) = true ∧ (s.port (2 * k.val)).linkUp = true ∧
      (s.port (2 * k.val + 1)).linkUp = true ∧ s.coreReadyBit = true ∧ s.hbFresh k.val = true)) ∧
  (∀ (k : Fin 8) (b : Bool) (s : State), s.reachable = true → (s.pair k.val).st ≠ .engaged →
    ∃ t, exec (.bypClose k b) s = .next t ∧ (t.pair k.val).st = .engaged ∧ pairsBut s t k.val ∧
      t.fld (Reg.MAC_BYP_STAT_last_close_cause k.val) = s.lowestCause k.val 2) ∧
  (∀ (k : Fin 8) (s : State), (s.pair k.val).st ≠ .engaged → s.hbFresh k.val = false →
    ∃ t, exec (.hbExpiry k) s = .next t ∧ (t.pair k.val).st = .engaged ∧ pairsBut s t k.val ∧
      t.fld (Reg.MAC_BYP_STAT_last_close_cause k.val) = 3) ∧
  (∀ (k : Fin 8) (s : State), (s.pair k.val).st = .opening →
    (s.pair k.val).openAt + s.fld (Reg.MAC_BYP_OPEN_WAIT_wait_ns k.val) < s.now →
    ∃ t, exec (.openTimeout k) s = .next t ∧ (t.pair k.val).st = .engaged ∧ pairsBut s t k.val ∧
      t.fld (Reg.MAC_BYP_STAT_last_close_cause k.val) = if s.hbFresh k.val then 5 else 3) ∧
  (∀ (k : Fin 8) (w : Requester) (s : State), s.reachable = true →
    exec (.bypKick k w) s = .next (if s.flag (Reg.MAC_PAIR_CTRL_hb_src k.val) = decide (w = .sage) ∧ (w = .pf ∨ s.fwRuns = true) then
      s.updPair k.val (fun q => { q with lastKick := some s.now }) else s)) ∧
  (∀ (k : Fin 8) (b : Bool) (s : State), s.reachable = true → (s.pair k.val).st = .engaged →
    (s.pair k.val).closedAt = some s.now → (s.pair k.val).closedFrom ≠ .engaged → 2 < s.fld (Reg.MAC_BYP_STAT_last_close_cause k.val) →
    ∃ t, exec (.bypClose k b) s = .next t ∧ t.mac = s.mac ∧ t.fld (Reg.MAC_BYP_STAT_last_close_cause k.val) = 2 ∧
      regsBut s t [Reg.MAC_BYP_STAT k.val])

/-- R48, R53: steps and slews of Thyme, and its rate. -/
def Obligations.ThymeStepsAndSlews : Prop :=
  (∀ (v : Word) (s : State), s.reachable = true → bits v.toNat 1 0 ≠ 3 →
    ∃ t, exec (.thymeStep v) s = .next t ∧ t.thyme = s.reg Reg.THY_SET ∧ t.now = s.now ∧
      t.fld Reg.THY_CTRL_src = bits v.toNat 1 0 ∧
      t.fld Reg.THY_STEP_CNT_count = (s.fld Reg.THY_STEP_CNT_count + 1) % 2 ^ 32) ∧
  (∀ (v : Word) (s : State), bits v.toNat 1 0 = 3 → exec (.thymeStep v) s = .next s) ∧
  (∀ (v : Word) (s : State), s.reachable = true → -1000000 ≤ v.toInt → v.toInt ≤ 1000000 → s.thy.slew = none →
    exec (.phaseAdjWrite v) s = .next (s.updThy (fun t => { t with slew := some (v.toInt, s.now), slewDone := 0 }))) ∧
  (∀ (v : Word) (s : State) (x : Int × Nat), s.reachable = true → -1000000 ≤ v.toInt → v.toInt ≤ 1000000 →
    s.thy.slew = some x → s.thy.slewNext = none →
    exec (.phaseAdjWrite v) s = .next (s.updThy (fun t => { t with slewNext := some v.toInt }))) ∧
  (∀ (v : Word) (s : State) (x : Int × Nat) (y : Int), s.reachable = true → -1000000 ≤ v.toInt → v.toInt ≤ 1000000 →
    s.thy.slew = some x → s.thy.slewNext = some y →
    exec (.phaseAdjWrite v) s = .next (s.stick Reg.THY_STAT_adj_busy)) ∧
  (∀ (v : Word) (s : State), v.toInt < -1000000 ∨ 1000000 < v.toInt → exec (.phaseAdjWrite v) s = .next s) ∧
  (∀ (s : State) (v : Int) (b : Nat), s.thy.slew = some (v, b) → b + v.natAbs * 10000 ≤ s.now →
    exec .phaseSlewDone s = .next (s.updThy (fun h => { h with
      slew := h.slewNext.map (fun w => (w, s.now)), slewNext := none, slewDone := 0 }))) ∧
  (∀ s : State, s.pending = [] → s.phase ≠ 0 → s.thy.slew = none →
    let n := (s.thy.frac + s.thyRate) / nsParts
    ∃ t, step s = .next t ∧ t.now = s.now + n ∧ t.thyme = s.thyme + BitVec.ofNat 64 n ∧ t.aon = s.aon + 1 ∧
      t.thy.frac = (s.thy.frac + s.thyRate) % nsParts) ∧
  (∀ s : State, s.fld Reg.THY_CTRL_src ≠ 1 → s.thyRate = (256000000000 + s.sfld Reg.THY_ADJ_FREQ_freq).toNat) ∧
  (∀ (s : State) (v : Int) (b : Nat), s.pending = [] → s.phase ≠ 0 → s.thyRate = nsParts → s.thy.slew = some (v, b) →
    ∃ t, step s = .next t ∧ t.thy.slewDone = s.thy.slewDone +
        (if s.thy.slewDone < min v.natAbs ((s.now + (s.thy.frac + nsParts) / nsParts - b) / 10000) then 1 else 0) ∧
      t.now + (if 0 ≤ v then 0 else t.thy.slewDone - s.thy.slewDone) =
        s.now + (s.thy.frac + nsParts) / nsParts + (if 0 ≤ v then t.thy.slewDone - s.thy.slewDone else 0))

/-- R50 to R54, R397: the PPS servo, PPS_OUT, the reference clock and PTP delivery. -/
def Obligations.PpsServoAndOutput : Prop :=
  (∀ (s : State) (x : Nat), s.fld Reg.THY_CTRL_src = 1 → s.thy.lastValid = some x → s.now < x + 500000000 →
    exec .ppsInEdge s = .next (s.bumpFld Reg.THY_PPS_GLITCH_count)) ∧
  (∀ s : State, s.fld Reg.THY_CTRL_src = 1 → (∀ x, s.thy.lastValid = some x → x + 500000000 ≤ s.now) →
    ∃ t, exec .ppsInEdge s = .next t ∧ t.reg Reg.THY_PPS_IN_TS = s.thyme ∧ t.thy.lastValid = some s.now ∧
      (∃ e : Int, -500000000 ≤ e ∧ e ≤ 499999999 ∧ (s.thyme.toNat - e) % 1000000000 = 0 ∧
        t.fld Reg.THY_PPS_ERR_err = (BitVec.ofInt 32 e).toNat)) ∧
  (∀ s : State, s.thy.phaseUntil ≤ s.now → exec .ppsPhaseTermEnd s = .next (s.updThy (fun t => { t with phaseTerm := 0 }))) ∧
  (∀ s : State, s.fld Reg.THY_CTRL_src = 1 → s.thy.lock = 1 ∨ s.thy.lock = 2 → s.thy.acqSince + 1500000000 ≤ s.now →
    ∃ t, exec .ppsHoldoverTimeout s = .next t ∧ t.thy.lock = 3 ∧ t.thy.phaseTerm = 0 ∧ t.thy.freqTerm = s.thy.freqTerm ∧
      t.flag Reg.THY_STAT_holdover_entered = true ∧ t.thyme = s.thyme) ∧
  (∀ s : State, s.flag Reg.THY_CTRL_pps_out_en = true → s.thyme.toNat % 1000000000 = 0 →
    exec .ppsOutRise s = .next ((s.updThy (fun t => { t with ppsOut := true, ppsRoseAt := s.now })).emit (.ppsOut true))) ∧
  (∀ s : State, s.thy.ppsOut = true → s.thy.ppsRoseAt + s.fld Reg.THY_PPS_OUT_W_width ≤ s.now →
    exec .ppsOutFall s = .next ((s.updThy (fun t => { t with ppsOut := false })).emit (.ppsOut false))) ∧
  (∀ s : State, s.phase ≠ 0 → s.thy.refLost = false → ∃ t, exec .trefclkLoss s = .next t ∧ t.thy.refLost = true ∧ t.thyme = s.thyme ∧
    (s.fld Reg.THY_CTRL_src = 1 → s.thy.lock = 1 ∨ s.thy.lock = 2 → t.thy.lock = 3)) ∧
  (∀ s : State, s.thy.refLost = true → ∃ t, exec .trefclkReturn s = .next t ∧ t.thy.refLost = false ∧ t.thyme = s.thyme ∧
    (s.fld Reg.THY_CTRL_src = 1 → t.thy.lock = 1)) ∧
  (∀ (f : Nat) (s : State), s.fld (Reg.THY_PTP_CTRL_mode (s.frame f).port) = 1 →
    (s.ptpOf (s.frame f).port (s.frame f).bytes).isSome = true → (s.frame f).ptpDone = false →
    exec (.ptpEventRx f) s = .next ((s.updFrame f (fun x => { x with ptpDone := true })).emit
      (.ptpEvent (s.frame f).port (s.frame f).bytes (s.frame f).stamp)))

/-- R65: the parse instructions on registers and the branches, with every other part of the state unchanged. -/
def Obligations.ParseArithmeticAndBranches : Prop :=
  ∀ (c : Fin 256) (s : State) (i : PInstr),
    let h := s.chive c.val
    let put (v : Word) : State := s.updChive c.val (fun h => { h with g := h.g.set i.ga v, pc := (h.pc + 1) % 4096, steps := h.steps + 1 })
    let goto (b : Bool) : State :=
      s.updChive c.val (fun h => { h with pc := if b then i.target else (h.pc + 1) % 4096, steps := h.steps + 1 })
    (s.atParse c.val 0x00 i → exec (.parseNop c) s = .next (goto false)) ∧
    (s.atParse c.val 0x02 i → exec (.parseAndi c) s = .next (put (h.reg i.ga &&& BitVec.ofNat 32 i.imm))) ∧
    (s.atParse c.val 0x03 i → exec (.parseShri c) s = .next (put (h.reg i.ga >>> (i.imm % 32)))) ∧
    (s.atParse c.val 0x04 i → exec (.parseAddi c) s = .next (put (h.reg i.ga + BitVec.ofNat 32 i.imm))) ∧
    (s.atParse c.val 0x05 i → exec (.parseMovi c) s = .next (put (BitVec.ofNat 32 i.imm))) ∧
    (s.atParse c.val 0x06 i → exec (.parseAdd c) s = .next (put (h.reg i.ga + h.reg i.gb))) ∧
    (s.atParse c.val 0x07 i → exec (.parseShli c) s = .next (put (h.reg i.ga <<< (i.imm % 32)))) ∧
    (s.atParse c.val 0x08 i → exec (.parseBeqi c) s = .next (goto (decide ((h.reg i.ga).toNat = i.imm)))) ∧
    (s.atParse c.val 0x09 i → exec (.parseBnei c) s = .next (goto (decide ((h.reg i.ga).toNat ≠ i.imm)))) ∧
    (s.atParse c.val 0x0A i → exec (.parseBlti c) s = .next (goto (decide ((h.reg i.ga).toNat < i.imm)))) ∧
    (s.atParse c.val 0x0B i → exec (.parseJmp c) s = .next (goto true))

/-- R65 to R67: the parse instructions that read frame bytes, write the result vector, or are limited. -/
def Obligations.ParseReadsMarksAndLimits : Prop :=
  ∀ (c : Fin 256) (s : State) (i : PInstr),
    let h := s.chive c.val
    let step (h : Chive) : Chive := { h with pc := (h.pc + 1) % 4096, steps := h.steps + 1 }
    let vec (off : Nat) (b : List Byte) : State :=
      (s.updFrame h.frame (fun x => { x with prv := patch x.prv off b })).updChive c.val step
    (s.atParse c.val 0x01 i → i.w ≠ 3 → h.cursor + i.imm + widthOf i.w ≤ h.depth →
      (h.cursor + i.imm + widthOf i.w ≤ s.copyBytes h.frame →
        exec (.parseExt c) s = .next (s.updChive c.val (fun h => step { h with
          g := h.g.set i.ga (BitVec.ofNat 32 (beNat (s.frameBytes c.val (h.cursor + i.imm) (widthOf i.w)))) }))) ∧
      (s.copyBytes h.frame < h.cursor + i.imm + widthOf i.w → s.copyEnded h.frame = true →
        exec (.parseExt c) s = .next (s.endProgram c.val 0x20 false)) ∧
      (s.copyBytes h.frame < h.cursor + i.imm + widthOf i.w → s.copyEnded h.frame = false →
        exec (.parseExt c) s = .next s)) ∧
    (s.atParse c.val 0x01 i → i.w ≠ 3 → h.depth < h.cursor + i.imm + widthOf i.w →
      exec (.parseExt c) s = .next (s.endProgram c.val 0x02 false)) ∧
    (s.atParse c.val 0x0F i → i.w ≠ 3 → prvWritable i.poff (widthOf i.w) = true →
      exec (.parseSetf c) s = .next (vec i.poff (toBe (widthOf i.w) (h.reg i.ga).toNat))) ∧
    (s.atParse c.val 0x10 i → prvWritable i.poff (i.n + 1) = true → h.cursor + i.imm + i.n + 1 ≤ h.depth →
      h.cursor + i.imm + i.n + 1 ≤ s.copyBytes h.frame →
      exec (.parseCopy c) s = .next (vec i.poff (s.frameBytes c.val (h.cursor + i.imm) (i.n + 1)))) ∧
    (s.atParse c.val 0x0E i → h.cursor + 1 ≤ h.depth →
      (i.imm % 8 = 0 → exec (.parseMark c) s = .next (vec (if h.tun = 0 then 72 else 80) (toBe 2 h.cursor))) ∧
      (i.imm % 8 = 2 → exec (.parseMark c) s = .next (vec (if h.tun = 0 then 76 else 84) (toBe 2 h.cursor))) ∧
      (i.imm % 8 = 4 → exec (.parseMark c) s = .next (s.endProgram c.val 0x01 false))) ∧
    (s.atParse c.val 0x0C i → exec (.parseAdv c) s = .next (if h.depth < h.cursor + (h.reg i.ga).toNat
      then s.endProgram c.val 0x02 false
      else s.updChive c.val (fun h => { step h with cursor := h.cursor + (h.reg i.ga).toNat }))) ∧
    (s.atParse c.val 0x0D i → exec (.parseAdvi c) s = .next (if h.depth < h.cursor + i.imm then s.endProgram c.val 0x02 false
      else s.updChive c.val (fun h => { step h with cursor := h.cursor + i.imm }))) ∧
    (s.atParse c.val 0x11 i → i.imm ≤ 2 →
      let t := s.updChive c.val (fun h => step (h.count i.imm))
      exec (.parseCnt c) s = .next (if 4 < (h.count i.imm).vlan ∨ 8 < (h.count i.imm).mpls ∨ 2 < (h.count i.imm).tun
        then t.endProgram c.val 0x03 false else t))

/-- R71: the end of a program, for each way it can end. -/
def Obligations.ProgramEndStampsVersionAndEpoch : Prop :=
  (∀ (c : Nat) (s : State) (code : Nat) (ubp : Bool), (s.frame (s.chive c).frame).runt = false →
    (s.frame (s.chive c).frame).prv.length = 128 → code < 256 →
    let t := s.endProgram c code ubp
    let fr := t.frame (s.chive c).frame
    fr.version = s.rul.current ∧ fr.epoch = s.num.current ∧ fr.prvReady = true ∧ fr.holdsVer = true ∧ fr.holdsEpoch = true ∧
    byteAt fr.prv 10 = s.rul.current % 256 ∧ be fr.prv 12 2 = s.num.current % 65536 ∧ byteAt fr.prv 14 = code ∧
    (t.chive c).phase = (if ubp then .walking else .idle) ∧
    (code ≠ 0 → fr.record = some (s.excDisp (excClassOf code) (s.frame (s.chive c).frame).port))) ∧
  (∀ (c : Fin 256) (s : State) (i : PInstr), s.atParse c.val 0x13 i →
    exec (.parseDone c) s = .next (s.endProgram c.val 0 false)) ∧
  (∀ (c : Fin 256) (s : State) (i : PInstr), s.atParse c.val 0x14 i →
    exec (.parseSlow c) s = .next (s.endProgram c.val (0x10 + i.imm % 16) false)) ∧
  (∀ (c : Fin 256) (s : State) (i : PInstr), s.atParse c.val 0x15 i →
    exec (.parseFail c) s = .next (s.endProgram c.val (0x30 + i.imm % 16) false)) ∧
  (∀ (c : Fin 256) (s : State), s.runs (some 0) = true → (s.chive c.val).phase = .running → (s.chive c.val).steps < 256 →
    0x15 < (s.fetchParse c.val).op → exec (.parseIllegal c) s = .next (s.endProgram c.val 0x22 false)) ∧
  (∀ (c : Fin 256) (s : State), s.runs (some 0) = true → (s.chive c.val).phase = .running → 256 ≤ (s.chive c.val).steps →
    exec (.steps c) s = .next (s.endProgram c.val 0x21 false)) ∧
  (∀ (c : Fin 256) (s : State) (i : PInstr), s.atParse c.val 0x12 i →
    ((s.chive c.val).ubpEn = false ∨ be (s.prvOf c.val) 38 2 ≠ (s.chive c.val).ubpPort) →
    exec (.parseUbp c) s = .next (s.updChive c.val (fun h => { h with pc := (h.pc + 1) % 4096, steps := h.steps + 1 }))) ∧
  (∀ (c : Fin 256) (s : State) (i : PInstr),
    let h := s.chive c.val
    let b := s.frameBytes c.val h.cursor 32
    let n := beNat (s.frameBytes c.val (h.cursor - 4) 2)
    s.atParse c.val 0x12 i → h.ubpEn = true → be (s.prvOf c.val) 38 2 = h.ubpPort → 8 ≤ h.cursor → h.cursor + 32 ≤ h.depth →
    h.cursor + 32 ≤ s.copyBytes h.frame → 40 ≤ n → be b 0 2 = 0xC7A1 → be b 2 2 / 4096 = 1 → 1 ≤ be b 6 1 → be b 6 1 ≤ 32 →
    (s.frame h.frame).runt = false →
    ∃ t, exec (.parseUbp c) s = .next t ∧ (t.chive c.val).phase = .walking ∧ (t.chive c.val).pos = h.cursor + 32 ∧
      (t.chive c.val).idx = 0 ∧ (t.frame h.frame).prvReady = true ∧ (t.frame h.frame).walkDone = false ∧
      (∃ u, (t.frame h.frame).ubp = some u ∧ u.off = h.cursor ∧ u.stop = h.cursor - 8 + n ∧ u.segCount = be b 6 1 ∧
        u.bundleId = BitVec.ofNat 32 (be b 8 4) ∧ u.sender = BitVec.ofNat 32 (be b 12 4)) ∧
      t.reg Reg.PRS_UBP_BUNDLES = s.reg Reg.PRS_UBP_BUNDLES + 1)

/-- R56, R58, R59, R76 to R78: dispatch, the segment walk, the tail and the reorder buffer. -/
def Obligations.SegmentWalkHandsOnInOrder : Prop :=
  (∀ (s : State) (c f : Nat), s.nextIdle = some c → s.nextCopy = some f → s.runs (some 0) = true →
    ∃ t, exec .chiveDispatch s = .next t ∧ (s.chive c).phase = .idle ∧ t.prs.lastChive = c ∧
      t.prs.waiting = s.prs.waiting.filter (fun g => g != f) ∧ (t.frame f).copy = .dispatched ∧ (t.chive c).frame = f ∧
      (t.chive c).phase = .running ∧ (t.chive c).g = [0, 0, 0, 0, 0, 0, 0, 0] ∧ (t.chive c).pc = 0 ∧ (t.chive c).cursor = 0 ∧
      (t.chive c).bank = s.prs.active ∧ (∀ d, d ≠ c → t.chive d = s.chive d) ∧ framesBut s t f ∧
      t.reg Reg.PRS_FRAMES = s.reg Reg.PRS_FRAMES + 1 ∧ regsBut s t [Reg.PRS_FRAMES]) ∧
  (∀ (s : State) (f : Nat), s.nextCopy = some f → f ∈ s.prs.waiting ∧ (s.frame f).sof < s.now ∧
    ∀ g ∈ s.prs.waiting, (s.frame f).sof < (s.frame g).sof ∨
      ((s.frame f).sof = (s.frame g).sof ∧ (s.frame f).port ≤ (s.frame g).port)) ∧
  (∀ (c : Fin 256) (s : State) (u : Ubp),
    let h := s.chive c.val
    let b := s.frameBytes c.val h.pos 16
    s.runs (some 0) = true → (s.frame h.frame).ubp = some u → h.phase = .walking → h.pos + 16 ≤ u.stop → s.ready c.val (h.pos + 16) = .go →
    h.pos + 16 + be b 6 2 ≤ u.stop →
    ∃ t, exec (.segmentHeaderWalk c) s = .next t ∧ t.rul.lookups = s.rul.lookups ++ [s.nextId] ∧
      (t.seg s.nextId).frame = some h.frame ∧ (t.seg s.nextId).idx = h.idx ∧ (t.seg s.nextId).len = be b 6 2 ∧
      (t.seg s.nextId).streamId = BitVec.ofNat 32 (be b 0 4) ∧ (t.seg s.nextId).seq = BitVec.ofNat 16 (be b 4 2) ∧
      (t.seg s.nextId).codec = be b 8 1 ∧ (t.seg s.nextId).off = h.pos + 16 ∧ (t.chive c.val).idx = h.idx + 1 ∧
      (t.chive c.val).pos = h.pos + 16 + be b 6 2 ∧ t.reg Reg.PRS_UBP_SEGS = s.reg Reg.PRS_UBP_SEGS + 1) ∧
  (∀ (c : Fin 256) (s : State) (u : Ubp), s.runs (some 0) = true → (s.frame (s.chive c.val).frame).ubp = some u → (s.chive c.val).phase = .walking →
    u.stop < (s.chive c.val).pos + 16 →
    ∃ t, exec (.segmentHeaderWalk c) s = .next t ∧ t.rul.lookups = s.rul.lookups ∧
      t.reg Reg.PRS_SEG_OVERRUN = s.reg Reg.PRS_SEG_OVERRUN + 1 ∧ (t.frame (s.chive c.val).frame).walkDone = true ∧
      (t.frame (s.chive c.val).frame).ubp = some { u with firstDisc := some (s.chive c.val).idx }) ∧
  (∀ (c : Fin 256) (s : State) (u : Ubp), s.runs (some 0) = true → (s.chive c.val).phase = .waitTail → (s.chive c.val).tailSeen = false →
    (s.frame (s.chive c.val).frame).ubp = some u → s.copyEnded (s.chive c.val).frame = true →
    ∃ t, exec (.tailAtChive c) s = .next t ∧ (t.chive c.val).phase = .idle ∧ (t.chive c.val).tailSeen = true ∧
      (t.frame (s.chive c.val).frame).copy = .finished ∧
      (∃ v, (t.frame (s.chive c.val).frame).ubp = some v ∧ v.tailDone = true ∧
        (v.lenMismatch = true ↔ (s.frame (s.chive c.val).frame).tail = .good ∧ (s.frame (s.chive c.val).frame).cut = none ∧
          u.bundleLen ≠ 0 ∧ u.bundleLen ≠ u.udpLen - 8))) ∧
  (∀ (p : Fin 16) (s : State) (f : Nat) (l : List Nat), (s.port p.val).rob = f :: l → (s.frame f).prvReady = false →
    exec (.prvRelease p) s = .next s) ∧
  (∀ (p : Fin 16) (s : State) (f : Nat), s.runs (some 1) = true → (s.port p.val).rob = [f] → (s.frame f).prvReady = true →
    ∃ t, exec (.prvRelease p) s = .next t ∧ (t.port p.val).rob = [] ∧ (t.frame f).released = true)

/-- R61: the two banks of the program store. -/
def Obligations.ProgramBanksSwapAndDrain : Prop :=
  (∀ s : State, s.reachable = true → s.rst.coreReady = true → s.rst.hung = false → s.isolated (some 0) = false →
    (s.prs.draining = false → exec .progCommit s = .next { s with prs := { s.prs with
      active := 1 - s.prs.active, draining := true, loaded := true } }) ∧
    (s.prs.draining = true → ∃ t, exec .progCommit s = .next t ∧ t.flag Reg.PRS_PROG_STAT_busy = true ∧
      regsBut s t [Reg.PRS_PROG_STAT] ∧ t = { s with regs := t.regs })) ∧
  (∀ (s : State) (i : Nat) (v : DWord),
    (s.prs.draining = true → (s.progWinWrite i v).flag Reg.PRS_PROG_STAT_busy = true ∧ (s.progWinWrite i v).prs = s.prs) ∧
    (s.prs.draining = false → s.prs.active = 0 → (s.progWinWrite i v).prs = { s.prs with bank1 := s.prs.bank1.set i v }) ∧
    (s.prs.draining = false → s.prs.active = 1 → (s.progWinWrite i v).prs = { s.prs with bank0 := s.prs.bank0.set i v })) ∧
  (∀ s : State, s.runs (some 0) = true → exec .progDrainDone s = .next (if s.prs.chives.keys.any (fun c =>
    decide ((s.chive c).phase ≠ .idle) && decide ((s.chive c).bank ≠ s.prs.active)) then s
    else { s with prs := { s.prs with draining := false } }))

/-- R88: the three cases of a commit request, and its execution. -/
def Obligations.RuleCommitsSerialise : Prop :=
  (∀ s : State, s.busOk (some 1) → exec .ruleCommit s = .next (s.requestCommit .reg)) ∧
  (∀ (s : State) (src : CommitSrc),
    (s.rul.pending = none → s.rul.executing = none → s.rul.draining = none →
      s.requestCommit src = s.updRul (fun r => { r with executing := some src })) ∧
    (s.rul.pending = none → (s.rul.executing.isSome = true ∨ s.rul.draining.isSome = true) →
      s.requestCommit src = s.updRul (fun r => { r with pending := some src })) ∧
    (s.rul.pending.isSome = true → (s.requestCommit src).rul = s.rul ∧
      (s.requestCommit src).flag Reg.RUL_VER_STAT_busy = true)) ∧
  (∀ (s : State) (src : CommitSrc), s.runs (some 1) = true → s.rul.executing = some src → s.rul.draining = none →
    ∃ t, exec .commitExecute s = .next t ∧ t.rul = { s.rul with
      draining := some s.rul.current, current := s.rul.staged, staged := (s.rul.staged + 1) % 16,
      commitSeq := s.rul.commitSeq + 1, executing := none } ∧
    (∀ d, src = .desc d → s.descLive d = true → (t.desc d).st = .done)) ∧
  (∀ (s : State) (src : CommitSrc) (v : Nat), s.runs (some 1) = true → s.rul.draining = some v → s.verHeld v = false → s.rul.pending = some src →
    ∃ t, exec .versionRetire s = .next t ∧ t.rul.draining = some s.rul.current ∧ t.rul.current = s.rul.staged ∧
      t.rul.staged = (s.rul.staged + 1) % 16 ∧ t.rul.commitSeq = s.rul.commitSeq + 1 ∧ t.rul.pending = none)

/-- R82, R87, R89: retirement of the draining version, and which entry a lookup answers. -/
def Obligations.VersionRetiresWhenUnheld : Prop :=
  (∀ (s : State) (v : Nat), s.rul.draining = some v → s.verHeld v = true → exec .versionRetire s = .next s) ∧
  (∀ (s : State) (v : Nat), s.runs (some 1) = true → s.rul.draining = some v → s.verHeld v = false → s.rul.pending = none →
    exec .versionRetire s = .next (s.updRul (fun r => { r with
      draining := none, tcam := r.tcam.mapCells (fun _ e => e.retire r.current) }))) ∧
  (∀ (e : TEntry) (o v : Nat), o < 16 → (e.retire o).visible o v = e.visible o v) ∧
  (∀ (s : State) (p v : Nat) (key : BitVec 640), s.rul.tcam.wf = true → s.rul.tcam.dflt = {} →
    let hit (i : Nat) : Prop := (s.rul.tcam.get i).profile = p ∧ (key &&& (s.rul.tcam.get i).mask) =
      ((s.rul.tcam.get i).key &&& (s.rul.tcam.get i).mask) ∧ (s.rul.tcam.get i).visible s.rul.oldest v = true
    (∀ e, s.tcamLookup p key v = some e → ∃ i, s.rul.tcam.get i = e ∧ hit i ∧ ∀ j, j < i → ¬ hit j) ∧
    (s.tcamLookup p key v = none → ∀ i, ¬ hit i))

/-- R90, R93: the commands of the ternary table. -/
def Obligations.TernaryCommandsTwoStages : Prop :=
  (∀ (i : Fin 16384) (s : State), s.busOk (some 1) →
    let u := s.setFld Reg.RUL_TCAM_STAT_done 0
    let take (op : Nat) : State := u.updRul (fun r => { r with tcamCmd := some ⟨i.val, op, u.tcamWdata⟩ })
    (s.flag Reg.RUL_TCAM_STAT_done = true → exec (.tcamAdd i) s = .next (take 0) ∧ exec (.tcamDelete i) s = .next (take 1) ∧
      exec (.tcamRead i) s = .next (take 2)) ∧
    (s.flag Reg.RUL_TCAM_STAT_done = false → exec (.tcamAdd i) s = .next (s.setFld Reg.RUL_TCAM_STAT_status 5) ∧
      exec (.tcamDelete i) s = .next (s.setFld Reg.RUL_TCAM_STAT_status 5) ∧
      exec (.tcamRead i) s = .next (s.setFld Reg.RUL_TCAM_STAT_status 5))) ∧
  (∀ (s : State) (c : TcamCmd), s.runs (some 1) = true → s.rul.tcamCmd = some c →
    ∃ t, exec .tcamCmdComplete s = .next t ∧ t.rul.tcamCmd = none ∧ t.flag Reg.RUL_TCAM_STAT_done = true ∧
      t.fld Reg.RUL_TCAM_STAT_status = s.tcamStatus c ∧ (∀ j, j ≠ c.index → t.rul.tcam.get j = s.rul.tcam.get j) ∧
      (s.tcamStatus c ≠ 0 → t.rul.tcam = s.rul.tcam) ∧
      (c.op = 2 → s.tcamStatus c = 0 ∧ t.rul.tcam = s.rul.tcam) ∧
      (c.op ≠ 2 → s.rul.pending.isSome = true → s.tcamStatus c = 4) ∧
      (c.op = 0 → s.rul.pending = none → (s.rul.tcam.get c.index).used = true → s.tcamStatus c = 1) ∧
      (c.op = 0 → s.rul.pending = none → (s.rul.tcam.get c.index).used = false →
        (badAction c.entry.slots = true → s.tcamStatus c = 3) ∧
        (badAction c.entry.slots = false → s.tcamStatus c = 0 ∧ t.rul.tcam.get c.index =
          { c.entry with used := true, addVer := s.rul.staged, addLive := true, delVer := 0, del := false })) ∧
      (c.op = 1 → s.rul.pending = none → (s.rul.tcam.get c.index).visible s.rul.oldest s.rul.staged = false →
        s.tcamStatus c = 2) ∧
      (c.op = 1 → s.rul.pending = none → (s.rul.tcam.get c.index).visible s.rul.oldest s.rul.staged = true →
        t.rul.tcam.get c.index = if (s.rul.tcam.get c.index).addVer = s.rul.staged ∧ (s.rul.tcam.get c.index).addLive = true
          then {} else { s.rul.tcam.get c.index with del := true, delVer := s.rul.staged }))

/-- R84, R85, R91: the commands of the stream table. -/
def Obligations.StreamTableCommands : Prop :=
  (∀ (s : State), s.busOk (some 1) →
    let u := s.setFld Reg.RUL_EM_STAT_done 0
    let e : StreamEntry := ⟨(List.range 8).map (fun i => BitVec.ofNat 32 (u.fld (Reg.RUL_EM_DATA_word i)))⟩
    let take (op : Nat) : State := u.updRul (fun r => { r with emCmd := some ⟨op, e⟩ })
    (s.flag Reg.RUL_EM_STAT_done = true → exec .emInsert s = .next (take 0) ∧ exec .emModify s = .next (take 1) ∧
      exec .emDelete s = .next (take 2)) ∧
    (s.flag Reg.RUL_EM_STAT_done = false → exec .emInsert s = .next (s.setFld Reg.RUL_EM_STAT_status 5) ∧
      exec .emModify s = .next (s.setFld Reg.RUL_EM_STAT_status 5) ∧
      exec .emDelete s = .next (s.setFld Reg.RUL_EM_STAT_status 5))) ∧
  (∀ (s : State) (c : EmCmd), s.runs (some 1) = true → s.rul.emCmd = some c → c.op ≤ 2 →
    ∃ t, exec .emCmdComplete s = .next t ∧ t.rul.emCmd = none ∧ t.flag Reg.RUL_EM_STAT_done = true ∧
      t.fld Reg.RUL_EM_STAT_status = s.emStatus c ∧ (∀ k, k ≠ c.entry.key → t.emFind k = s.emFind k) ∧
      (s.emStatus c ≠ 0 → t.rul.em = s.rul.em) ∧
      (s.emStatus c = 0 → c.op ≠ 2 → t.emFind c.entry.key = some c.entry) ∧
      (s.emStatus c = 0 → c.op = 2 → t.emFind c.entry.key = none) ∧
      (c.op ≠ 2 → c.entry.bad = true → s.emStatus c = 4) ∧
      (c.op = 0 → c.entry.bad = false → (s.emFind c.entry.key).isSome = true → s.emStatus c = 1) ∧
      ((c.op = 1 ∧ c.entry.bad = false ∨ c.op = 2) → s.emFind c.entry.key = none → s.emStatus c = 2) ∧
      (c.op = 0 → c.entry.bad = false → s.emFind c.entry.key = none → 8 ≤ (s.rul.em.get (emB0 c.entry.key)).length →
        8 ≤ (s.rul.em.get (emB1 c.entry.key)).length → s.emStatus c = 3))

/-- R91, R95, R276: the stream lookup of a segment record. -/
def Obligations.StreamLookupHitMissOrWait : Prop :=
  (∀ (s : State) (i : Nat) (l : List Nat) (ns : Nat) (mc : Bool), s.runs (some 1) = true → s.rul.lookups = i :: l → s.lookupReady i = true →
    s.segNs i = some (ns, mc) →
    let key := ns <<< 32 + (s.seg i).streamId.toNat
    (s.rul.emCache.contains key = false →
      ∃ t, exec .streamLookup s = .next t ∧ t.rul.lookups = l ∧ t.rul.misses = s.rul.misses ++ [i] ∧ (t.seg i).st = .miss ∧
        t.reg Reg.RUL_EM_CACHE_MISS = s.reg Reg.RUL_EM_CACHE_MISS + 1 ∧ regsBut s t [Reg.RUL_EM_CACHE_MISS]) ∧
    (s.rul.emCache.contains key = true → s.emFind key = none →
      ∃ t, exec .streamLookup s = .next t ∧ t.rul.lookups = l ∧ (t.seg i).st = .done ∧ t.sfe.queue = s.sfe.queue ∧
        t.reg Reg.RUL_EM_MISS = s.reg Reg.RUL_EM_MISS + 1 ∧ t.reg Reg.RUL_EM_HITS = s.reg Reg.RUL_EM_HITS) ∧
    (s.rul.emCache.contains key = true → ∀ e, s.emFind key = some e → (e.hintOk = false ∨ (s.seg i).hint = 0) →
      ((s.domRights e.domain).hasHandle e.model = true →
        ∃ t, exec .streamLookup s = .next t ∧ t.rul.lookups = l ∧ t.sfe.queue = s.sfe.queue ++ [i] ∧
          (t.seg i).st = .admission ∧ (t.seg i).entry = e ∧ (t.seg i).model = e.model ∧
          t.reg Reg.RUL_EM_HITS = s.reg Reg.RUL_EM_HITS + 1) ∧
      ((s.domRights e.domain).hasHandle e.model = false →
        ∃ t, exec .streamLookup s = .next t ∧ t.rul.lookups = l ∧ t.sfe.queue = s.sfe.queue ∧ (t.seg i).st = .done ∧
          (∃ x, t.erp.results = s.erp.results ++ [x] ∧ x.rstat = 2 ∧ x.result = 0 ∧ x.seg = i)))) ∧
  (∀ (s : State) (k i : Nat), s.runs (some 1) = true → s.rul.misses[k]? = some i → s.rul.emCache.length < 65536 →
    ∃ t, exec (.streamCacheFill k) s = .next t ∧ t.rul.misses = s.rul.misses.eraseIdx k ∧
      t.rul.emCache.contains ((s.seg i).ns <<< 32 + (s.seg i).streamId.toNat) = true)

/-- R99 to R102: counters and meters. -/
def Obligations.CountersLoseNoEvent : Prop :=
  (∀ (s : State), s.canonical → ∃ t, exec .counterSweep s = .next t ∧ ∀ i, t.counterValue i = s.counterValue i) ∧
  (∀ (s : State) (x : DWord), s.canonical → s.runs (some 1) = true → s.rul.sweepTs = some x → ∃ t, exec .sweepComplete s = .next t ∧
    (∀ i, t.counterValue i = s.counterValue i) ∧ t.reg Reg.RUL_CNT_GEN_TS = x ∧
    t.fld Reg.RUL_CNT_GEN_gen = (s.fld Reg.RUL_CNT_GEN_gen + 1) % 2 ^ 32) ∧
  (∀ s : State, s.runs (some 1) = true → s.passed s.rul.lastSweep (s.fld Reg.RUL_CNT_PERIOD_period_ns) = true →
    (s.rul.sweepTs = none → ∃ t, exec .counterSweep s = .next t ∧ t.rul.activeBank = 1 - s.rul.activeBank ∧
      t.rul.sweepTs = some s.thyme) ∧
    (s.rul.sweepTs ≠ none → ∃ t, exec .counterSweep s = .next t ∧ t.rul.activeBank = s.rul.activeBank ∧ t.rul.swapWaits = true ∧
      t.reg Reg.RUL_CNT_SWEEP_LATE = s.reg Reg.RUL_CNT_SWEEP_LATE + 1)) ∧
  (∀ s : State, s.busOk (some 1) → ∃ t, exec .counterClear s = .next t ∧ t.counterValue (s.fld Reg.RUL_CNT_SEL_index) = 0 ∧
    (∀ i, i ≠ s.fld Reg.RUL_CNT_SEL_index → t.counterValue i = s.counterValue i) ∧ t.regs = s.regs) ∧
  (∀ s : State, s.busOk (some 1) →
    let cir := s.fld Reg.RUL_MTR_CIR_rate
    let pir := s.fld Reg.RUL_MTR_PIR_rate
    let cbs := s.fld Reg.RUL_MTR_CBS_size
    let pbs := s.fld Reg.RUL_MTR_PBS_size
    (cir ≤ pir → cbs ≠ 0 → pbs ≠ 0 → ∃ t m, exec .meterWrite s = .next t ∧
      t.rul.meters.get (s.fld Reg.RUL_MTR_SEL_meter) = m ∧ m.cir = cir ∧ m.pir = pir ∧ m.tc = cbs * 1000000000 ∧
      m.tp = pbs * 1000000000 ∧ m.last = s.thyme.toNat ∧
      (∀ i, i ≠ s.fld Reg.RUL_MTR_SEL_meter → t.rul.meters.get i = s.rul.meters.get i)) ∧
    (pir < cir ∨ cbs = 0 ∨ pbs = 0 → exec .meterWrite s = .next (s.stick Reg.RUL_MTR_STAT_refused)) ∧
    (∃ t, exec .meterRead s = .next t ∧ t.rul = s.rul ∧
      t.fld Reg.RUL_MTR_CIR_rate = (s.rul.meters.get (s.fld Reg.RUL_MTR_SEL_meter)).cir % 2 ^ (Reg.RUL_MTR_CIR_rate.hi + 1) ∧
      t.fld Reg.RUL_MTR_PIR_rate = (s.rul.meters.get (s.fld Reg.RUL_MTR_SEL_meter)).pir % 2 ^ (Reg.RUL_MTR_PIR_rate.hi + 1) ∧
      t.fld Reg.RUL_MTR_MODE_enable = b2n (s.rul.meters.get (s.fld Reg.RUL_MTR_SEL_meter)).enable)) ∧
  (∀ (m : Meter) (ts len pre : Nat), m.tc ≤ m.cbs * 1000000000 → m.tp ≤ m.pbs * 1000000000 →
    let r := m.colour ts len pre
    r.2.tc ≤ m.cbs * 1000000000 ∧ r.2.tp ≤ m.pbs * 1000000000 ∧ m.last ≤ r.2.last ∧ r.1 ≤ 2 ∧
    (r.1 = 0 → r.2.tc + len * 1000000000 ≤ m.cbs * 1000000000 ∧ r.2.tp + len * 1000000000 ≤ m.pbs * 1000000000))

/-- R108, R112, R114 to R116, R129: results, coalescing and reply profiles. -/
def Obligations.ResultsCoalesceAndLeave : Prop :=
  (∀ (s : State) (x : Record) (l : List Record), s.runs (some 3) = true → takeFirst s.streamClear s.erp.results = some (x, l) →
    (s.seg x.seg).desc = none →
    let p := (s.seg x.seg).entry.reply
    let pr := s.profile p
    let b := s.bundle x.bundle
    ((s.flag Reg.ERP_CTRL_enable = false ∨ profValid pr.d0 = false) →
      ∃ t, exec .resultAtErp s = .next t ∧ t.erp = { s.erp with results := l } ∧
        t.reg Reg.ERP_DROP_PROFILE = s.reg Reg.ERP_DROP_PROFILE + 1) ∧
    (s.flag Reg.ERP_CTRL_enable = true → profValid pr.d0 = true →
      (∀ c, b.verdict = some c → c ≠ .none → ∃ t, exec .resultAtErp s = .next t ∧ t.erp.results = l ∧
        t.erp.held = s.erp.held ∧ t.erp.coal = s.erp.coal ∧ (t.bundle x.bundle).withdrawn.testBit x.segIndex = true) ∧
      (b.verdict = none → x.rstat = 0 → profSeal pr.d0 = 2 → b.fromHost = false →
        ∃ t, exec .resultAtErp s = .next t ∧ t.erp.results = l ∧ t.erp.held = s.erp.held ++ [(p, x)] ∧ t.regs = s.regs) ∧
      (b.verdict = none → x.rstat = 0 → profSeal pr.d0 ≠ 2 → s.erp.coal.get p = none → pr.d1 ≠ 0 → 1 < profMax pr.d0 →
        ∃ t fr, exec .resultAtErp s = .next t ∧ t.erp.results = l ∧ t.erp.coal.get p = some ⟨s.now, fr⟩ ∧
          fr.records = [x] ∧ fr.prof = p ∧ fr.sender = b.sender ∧ fr.port = replyPortOf pr.d0 b ∧ t.mac = s.mac))) ∧
  (∀ (p : Fin 4096) (s : State) (c : Coal), s.runs (some 3) = true → s.erp.coal.get p.val = some c → c.t0 + c.frame.d1.toNat ≤ s.now →
    s.replyPort c.frame.port = true → c.frame.kind = 0 →
    ∃ t e, exec (.coalesceWindowEnd p) s = .next t ∧ t.erp.coal.get p.val = none ∧
      (t.port c.frame.port).egress = (s.port c.frame.port).egress ++ [e] ∧ e.rank = 3 ∧
      (∃ r, e.kind = .reply r ∧ r.emitTs = s.thyme ∧ r.records.length = c.frame.records.length)) ∧
  (∀ s : State, s.busOk (some 3) →
    let bad := badReplyProfile (s.wreg Reg.ERP_PROF_DATA0) (s.wreg Reg.ERP_PROF_DATA1) (s.wreg Reg.ERP_PROF_DATA2)
      (s.wreg Reg.ERP_PROF_DATA3)
    let p := s.fld Reg.ERP_PROF_SEL_profile
    (s.flag Reg.ERP_PROF_STAT_done = true → bad = true → ∃ t, exec .erpProfileWrite s = .next t ∧ t.erp = s.erp ∧
      t.fld Reg.ERP_PROF_STAT_status = 1 ∧ t.flag Reg.ERP_PROF_STAT_done = true) ∧
    (s.flag Reg.ERP_PROF_STAT_done = true → bad = false → ∃ t, exec .erpProfileWrite s = .next t ∧
      (t.profile p).d0 = s.wreg Reg.ERP_PROF_DATA0 ∧ (t.profile p).d3 = s.wreg Reg.ERP_PROF_DATA3 ∧
      (t.profile p).seq = (s.profile p).seq ∧ (∀ q, q ≠ p → t.profile q = s.profile q) ∧
      t.fld Reg.ERP_PROF_STAT_status = 0 ∧ t.flag Reg.ERP_PROF_STAT_done = true) ∧
    (s.flag Reg.ERP_PROF_STAT_done = true → ∃ t, exec .erpProfileRead s = .next t ∧ t.erp = s.erp ∧
      t.wreg Reg.ERP_PROF_DATA4 = (s.profile p).seq ∧ t.wreg Reg.ERP_PROF_DATA0 = (s.profile p).d0 ∧
      t.fld Reg.ERP_PROF_STAT_status = 0) ∧
    (s.flag Reg.ERP_PROF_STAT_done = false → exec .erpProfileWrite s = .next (s.setFld Reg.ERP_PROF_STAT_status 2) ∧
      exec .erpProfileRead s = .next (s.setFld Reg.ERP_PROF_STAT_status 2)))

/-- R117 to R120, R126: verdicts at the early reply unit. -/
def Obligations.BadVerdictWithdrawsBundle : Prop :=
  (∀ (f : Nat) (s : State) (c : Cause), s.runs (some 3) = true → (s.frame f).verdictReady = some c → (s.bundle f).frame = some f →
    (s.bundle f).verdict = none →
    ∃ t, exec (.verdictAtErp f) s = .next t ∧ (t.bundle f).verdict = some c ∧ (t.bundle f).verdictAt = s.now ∧
      (c ≠ .none →
        (∀ h ∈ t.erp.held, h.2.bundle ≠ f) ∧
        (s.erp.coal.dflt = none →
          ∀ p k, t.erp.coal.get p = some k → ∀ r ∈ k.frame.records, r.bundle ≠ f) ∧
        (∀ g ∈ t.sfe.segs.cells, g.2.bundle = f → s.sfe.segs.wf = true → g.2.withdrawn = true))) ∧
  (∀ (f : Nat) (s : State) (c : Cause), s.runs (some 3) = true → (s.frame f).verdict = some (c, true) → c ≠ .none →
    let hit (q : Nat) : Bool := match (s.port q).tx with
      | none => false
      | some x => (match x.item.kind with
        | .reply r => decide (r.kind = 0) && !x.stomped && r.records.all (fun y => y.bundle == f) &&
          decide (s.now10 < x.start + x.bytes.length * s.byteTime)
        | _ => false)
    ∃ t, exec (.stomp f) s = .next t ∧
      (∀ q, q < 16 → hit q = true → (t.port q).tx = (s.port q).tx.map (fun x => { x with badFcs := true, stomped := true })) ∧
      t.reg Reg.ERP_STOMPED = s.reg Reg.ERP_STOMPED + BitVec.ofNat 64 ((List.range 16).filter hit).length) ∧
  (∀ (b : Nat) (s : State) (x : Nat), s.runs (some 3) = true → (s.bundle b).firstProv = some x → (s.bundle b).remote = true →
    (s.bundle b).verdict = none → x + s.fld Reg.ERP_REMOTE_WAIT_wait_ns ≤ s.now →
    ∃ t, exec (.remoteWaitExpiry b) s = .next t ∧ (t.bundle b).verdict = some .verdictLost ∧ (t.bundle b).verdictAt = s.now)

/-- R142 to R145, R147: admission of a segment record. -/
def Obligations.AdmissionChecksInOrder : Prop :=
  (∀ (s : State) (c : Nat × Seg), c ∈ s.sfe.segs.cells → c.2.st = .alloc → exec .segmentAdmission s = .next s) ∧
  (∀ s : State, s.rowStarved = true → exec .segmentAdmission s = .next s) ∧
  (∀ (s : State) (i : Nat) (l : List Nat), s.runs (some 2) = true → s.sfe.segs.cells.any (fun c => decide (c.2.st = .alloc)) = false → s.rowStarved = false →
    s.sfe.queue = i :: l → (s.seg i).withdrawn = false → (s.seg i).len ≠ 0 → isHostCodec (s.seg i).codec = false →
    let g := s.seg i
    let p := g.prof
    let ends (t : State) (a : Nat) : Prop := (t.seg i).st = .done ∧ t.reg a = s.reg a + 1
    let o := reorder (s.region g.slot p) g.streamId g.seq g.start g.entry.norm g.prof.gen g.prof.gapMax
    ∃ t, exec .segmentAdmission s = .next t ∧ t.sfe.queue = l ∧ t.reg Reg.SFE_SEGS = s.reg Reg.SFE_SEGS + 1 ∧
      (if s.flag Reg.SFE_CTRL_enable = false ∨ bit p.d0.toNat 0 = false then ends t Reg.SFE_BAD_PROFILE
       else if p.codecOk g.codec = false then ends t Reg.SFE_BAD_CODEC
       else if p.rateOk g.codec g.rate = false then ends t Reg.SFE_BAD_RATE
       else if p.lenOk g.codec g.len = false then ends t Reg.SFE_BAD_LEN
       else if p.maxSeg < g.len then ends t Reg.SFE_TOO_LONG
       else if s.age g.entry.staleClass g.stamp g.capture ≠ .fresh then ends t Reg.SFE_STALE_PARSE ∧
         (∃ x, t.erp.results = s.erp.results ++ [x] ∧ x.rstat = 1 ∧ x.seg = i)
       else if o = .dup then ends t Reg.SFE_DUP
       else if o = .late then ends t Reg.SFE_LATE_SEQ
       else (t.seg i).st = .alloc ∧ (t.seg i).lease = (s.slotOf g.slot).epoch ∧ (t.region g.slot p).lastSeq = g.seq ∧
         (t.region g.slot p).streamId = g.streamId ∧ (t.region g.slot p).ended = g.isEnd ∧
         (t.seg i).restart = decide (o = .restart) ∧
         (o = .restart → t.reg Reg.SFE_RESTART = s.reg Reg.SFE_RESTART + 1) ∧
         (∀ m, o = .accept m → t.reg Reg.SFE_SEQ_GAP = s.reg Reg.SFE_SEQ_GAP + BitVec.ofNat 64 m))) ∧
  (∀ (h : Region) (id : Word) (q : BitVec 16) (b : Bool) (prof : Nat) (gen : BitVec 12) (gap m : Nat),
    reorder h id q b prof gen gap = .accept m →
    b = false ∧ h.valid = true ∧ h.ended = false ∧ h.streamId = id ∧ h.prof = prof ∧ h.gen = gen ∧
      q = h.lastSeq + BitVec.ofNat 16 (m + 1) ∧ m + 1 ≤ gap ∧ m + 1 < 0x8000)

/-- R133, R136, R142, R146, R148, R149: allocation, frames and the pack wait. -/
def Obligations.LinesLoadAndFramesFollowOrder : Prop :=
  (∀ (s : State) (i : Nat), s.runs (some 2) = true → s.waitingSeg = some i → s.flag Reg.SFE_CTRL_enable = false →
    exec .segmentAllocate s = .next (((s.bump Reg.SFE_BAD_PROFILE).segDiscard i 2).segClassified i)) ∧
  (∀ (s : State) (i : Nat), s.runs (some 2) = true → s.waitingSeg = some i → s.flag Reg.SFE_CTRL_enable = true →
    (s.spaceThere i = false → exec .segmentAllocate s = .next s) ∧
    (s.spaceThere i = true → s.cached (s.seg i).slot = true → s.lineNeed i = 0 →
      ∃ t, exec .segmentAllocate s = .next t ∧ (t.seg i).st = .features ∧ t.sfe.order = s.sfe.order ++ [i] ∧ t.regs = s.regs) ∧
    (s.spaceThere i = true → s.sfe.cache.any (fun c => c.1 == (s.seg i).slot) = false → s.cacheUsed + s.lineNeed i ≤ s.cacheLines →
      ∃ t, exec .segmentAllocate s = .next t ∧ (t.seg i).st = .line ∧ t.sfe.order = s.sfe.order ++ [i] ∧
        t.sfe.loading = s.sfe.loading ++ [(s.seg i).slot] ∧ t.cacheUsed = s.cacheUsed + (s.seg i).prof.lines ∧
        t.reg Reg.SFE_STATE_MISS = s.reg Reg.SFE_STATE_MISS + 1 ∧ regsBut s t [Reg.SFE_STATE_MISS])) ∧
  (∀ (k : Fin 1048576) (s : State) (i : Nat), s.runs (some 2) = true → s.sfe.loading.contains k.val = true → i ∈ s.sfe.order → (s.seg i).slot = k.val →
    (s.seg i).st = .line →
    ∃ t, exec (.stateLineLoad k) s = .next t ∧ (s.sfe.cache.any (fun c => c.1 == k.val) = true → t.cached k.val = true) ∧ (t.seg i).st = .features ∧ t.sfe.order = s.sfe.order ∧
      (∀ j, (s.seg j).slot ≠ k.val → t.seg j = s.seg j)) ∧
  (∀ (s : State) (i : Nat),
    let g := s.seg i
    s.runs (some 2) = true → s.slotTurn i = true → g.withdrawn = false → g.made < s.frameTotal i → s.frameThere i = true →
    (s.placedFrames i ≤ g.made → s.rowReady i = true) →
    ∃ t, exec (.featureFrame i) s = .next t ∧ (t.seg i).made = g.made + 1) ∧
  (∀ (s : State) (i j : Nat), j ≠ i → (s.seg i).st = .features →
    s.sfe.order.find? (fun j => decide ((s.seg j).slot = (s.seg i).slot)) = some j → exec (.featureFrame i) s = .next s) ∧
  (∀ (s : State) (r : Nat), s.runs (some 2) = true → (s.row r).st = .opened → (s.row r).full = false →
    (s.fld (Reg.SFE_PACK_WAIT_wait_ns (s.row r).cls) + (s.row r).openAt ≤ s.now →
      exec (.packWaitEnd r) s = .next (s.updRow r (fun x => { x with st := .closed }))) ∧
    (s.now < s.fld (Reg.SFE_PACK_WAIT_wait_ns (s.row r).cls) + (s.row r).openAt → exec (.packWaitEnd r) s = .next s))

/-- R130, R153, R422: the commands of normalisation profiles. -/
def Obligations.NormProfilesWrittenWholeOrRefused : Prop :=
  ∀ s : State, s.busOk (some 2) →
    let i := s.fld Reg.SFE_PROF_SEL_profile
    let old := s.sfe.profiles.get i
    let new : SfeProfile := ⟨s.sfeData 0, s.sfeData 1, s.sfeData 2, s.sfeData 3, s.sfeData 4, old.gen + 1⟩
    (s.flag Reg.SFE_PROF_STAT_done = true → new.bad = true → ∃ t, exec .sfeProfileWrite s = .next t ∧ t.sfe = s.sfe ∧
      t.fld Reg.SFE_PROF_STAT_status = 1 ∧ t.flag Reg.SFE_PROF_STAT_done = true) ∧
    (s.flag Reg.SFE_PROF_STAT_done = true → new.bad = false → ∃ t, exec .sfeProfileWrite s = .next t ∧
      t.sfe.profiles.get i = new ∧ (∀ j, j ≠ i → t.sfe.profiles.get j = s.sfe.profiles.get j) ∧
      t.fld Reg.SFE_PROF_STAT_status = 0 ∧ t.flag Reg.SFE_PROF_STAT_done = true ∧ t.sfe.segs = s.sfe.segs) ∧
    (s.flag Reg.SFE_PROF_STAT_done = true → ∃ t, exec .sfeProfileRead s = .next t ∧ t.sfe = s.sfe ∧
      t.sfeData 0 = old.d0 ∧ t.sfeData 1 = old.d1 ∧ t.sfeData 2 = old.d2 ∧ t.sfeData 3 = old.d3 ∧ t.sfeData 4 = old.d4 ∧
      t.fld Reg.SFE_PROF_DATA5_gen = old.gen.toNat ∧ t.fld Reg.SFE_PROF_STAT_status = 0) ∧
    (s.flag Reg.SFE_PROF_STAT_done = false → exec .sfeProfileWrite s = .next (s.setFld Reg.SFE_PROF_STAT_status 2) ∧
      exec .sfeProfileRead s = .next (s.setFld Reg.SFE_PROF_STAT_status 2))

/-- R168, R171, R172: the order of firing, and the control microinstructions. -/
def Obligations.TilesFireInProgramOrder : Prop :=
  ∀ (t : Fin 4096) (s : State) (i : Nat),
    let x := s.tile t.val
    (∀ e ∈ tileRows t,
      (x.phase ≠ .running → exec e.2 s = .next s) ∧
      (x.phase = .running → x.ctx.tag = false → (miOp (x.ctx.instr x.pc) ≠ e.1 ∨ x.sourcesReady (x.ctx.instr x.pc) none = false) →
        exec e.2 s = .next s) ∧
      (s.atTile t.val e.1 i → s.fire t.val x.pc i none = none → exec e.2 s = .next s) ∧
      (∀ k g u, x.phase = .running → x.ctx.tag = true → x.readyInstr = some (k, [g]) → miOp (x.ctx.instr k) = e.1 →
        s.fire t.val k (x.ctx.instr k) (some g) = some u → exec e.2 s = .next (u.countTokens t.val (x.cost (x.ctx.instr k)))) ∧
      (∀ q n, s.atTile t.val e.1 i → e.1 ∈ [0x00, 0x01, 0x07, 0x08, 0x0A, 0x0B] → inNeeds x i = [(q, n)] →
        (∀ k ∈ x.queues.get q, ∀ c, k.src = some c → c.chip < 0x8000) →
        ∃ u ks, exec e.2 s = .next u ∧ x.avail q none n = some ks ∧ tilesBut s u t.val ∧
          (u.tile t.val).queues.get q = dropToks (x.queues.get q) ks ∧ (∀ j, j ≠ q → (u.tile t.val).queues.get j = x.queues.get j) ∧
          u.fab.credits = s.fab.credits ++ (ks.filter (fun k => !k.matched)).filterMap (·.src))) ∧
    (s.atTile t.val 0x00 i → inNeeds x i = [] → ∃ u, exec (.tileNop t) s = .next u ∧ u.tile t.val = { x.advance i with readyNs := 0 } ∧
      tilesBut s u t.val ∧ u.fab.packets = s.fab.packets ∧ u.fab.reqs = s.fab.reqs ∧ u.fab.regions = s.fab.regions) ∧
    (s.atTile t.val 0x0A i → inNeeds x i = [] → ∃ u, exec (.tileJmp t) s = .next u ∧ u.tile t.val = { x.advance i with readyNs := 0 } ∧
      tilesBut s u t.val ∧ (miCop i = 0 → (u.tile t.val).pc = miTarget i)) ∧
    (s.atTile t.val 0x0B i → inNeeds x i = [] → miCop i = 0 → miCtr i < x.ctrs.length → ∃ u, exec (.cset t) s = .next u ∧
      (u.tile t.val).ctrs[miCtr i]? = some (miImm i, miImm i) ∧ (u.tile t.val).iter (miCtr i) = 0 ∧
      (∀ c, c ≠ miCtr i → (u.tile t.val).ctrs[c]? = x.ctrs[c]?) ∧ (u.tile t.val).pc = x.pc + 1 ∧ tilesBut s u t.val) ∧
    (s.atTile t.val 0x09 i → inNeeds x i = [] → s.canSend t.val (miDst i) 1 = true → ∃ u p, exec (.ctl t) s = .next u ∧
      u.fab.packets = s.fab.packets ++ [p] ∧ p.kind = .control ∧ p.vc = 1 ∧ p.tok.flit = BitVec.ofNat 128 (miImm i % 2) ∧
      p.dest = s.chanDest t.val (miDst i % 16) ∧ (u.tile t.val).spent.get (miDst i % 16) = x.spent.get (miDst i % 16) + 1 ∧
      (u.tile t.val).spent.get (miDst i % 16) ≤ chCredits (x.ctx.chan (miDst i % 16))) ∧
    (s.atTile t.val 0x09 i → s.canSend t.val (miDst i) 1 = false → exec (.ctl t) s = .next s) ∧
    (miCop i = 0 → miOp i ≠ 0x0A → x.advance i = { x with pc := x.pc + 1 }) ∧
    (∀ rl cur, miCop i = 1 → miOp i ≠ 0x0A → x.ctrs[miCtr i]? = some (rl, cur) → 0 < cur → cur < 65536 →
      (x.advance i).ctrs[miCtr i]? = some (rl, cur - 1) ∧ (x.advance i).pc = if cur = 1 then x.pc + 1 else miTarget i)

/-- R172, R174, R179, R180, R207: moves and the section store. -/
def Obligations.MovesAndSectionStore : Prop :=
  (∀ (t : Fin 4096) (s : State) (i : Nat),
    let x := s.tile t.val
    let src : Flit := if miAk i = 0 then x.pair (miSa i) else if miAk i = 2 then x.store.get (x.addr (miSa i))
      else BitVec.ofNat 128 (miImm i)
    (s.atTile t.val 0x06 i → inNeeds x i = [] →
      (miDk i = 0 → ∃ u, exec (.tileMov t) s = .next u ∧ tilesBut s u t.val ∧ (u.tile t.val).pair (miDst i) = src ∧
        (u.tile t.val).store = x.store ∧ (∀ r, r % 64 / 2 ≠ miDst i % 64 / 2 → (u.tile t.val).pair r = x.pair r)) ∧
      (miDk i = 2 → ∃ u, exec (.tileMov t) s = .next u ∧ tilesBut s u t.val ∧ (u.tile t.val).store.get (x.addr (miDst i)) = src ∧
        (u.tile t.val).regs = x.regs ∧ (∀ a, a ≠ x.addr (miDst i) → (u.tile t.val).store.get a = x.store.get a)) ∧
      (miDk i = 1 → s.canSend t.val (miDst i) 1 = true → ∃ u p, exec (.tileMov t) s = .next u ∧
        u.fab.packets = s.fab.packets ++ [p] ∧ p.kind = .data ∧ p.tok.flit = src ∧ p.tok.tag = x.iter (miTagAdd i % 8))) ∧
    (s.atTile t.val 0x07 i → inNeeds x i = [] → ∃ u k r, exec (.lds t) s = .next u ∧ u.fab.packets = s.fab.packets ++ [k] ∧
      k.dest = .store r ∧ k.kind = .data ∧ k.vc = 0 ∧ k.x = tileX t.val ∧ k.y = tileY t.val ∧ u.fab.reqs = s.fab.reqs ∧
      u.fab.regions = s.fab.regions ∧ r.tile = t.val ∧ r.queue = miDst i % 16 ∧ r.slot = miImm i % 16 ∧ r.off = (x.regs.get (miSb i % 64)).toNat ∧
      r.lease = (s.plot (x.plot.getD 0)).lease ∧ r.write = none ∧ r.inst = x.inst ∧
      u.tile t.val = { x.advance i with readyNs := 0 }) ∧
    (s.atTile t.val 0x08 i → miAk i = 0 → miBk i ≠ 1 →
      let pi := x.plot.getD 0
      let p := s.plot pi
      let off := (x.regs.get (miSb i % 64)).toNat
      let keeps := widenEn p.image (descOff p.image x.ctx.sec false) && bit (retainMask p.image (descOff p.image x.ctx.sec false)) (miImm i % 16)
      (keeps = true → ∃ u, exec (.sts t) s = .next u ∧ u.fab = { s.fab with tiles := u.fab.tiles } ∧
        u.reg Reg.NUM_RETAIN_VIOL = s.reg Reg.NUM_RETAIN_VIOL + 1) ∧
      (keeps = false → off < regionLines p.image (p.desc x.ctx) (miImm i % 16) * 128 → ∃ u k r, exec (.sts t) s = .next u ∧
        u.fab.packets = s.fab.packets ++ [k] ∧ k.dest = .store r ∧ k.kind = .data ∧ k.vc = 0 ∧ k.x = tileX t.val ∧ k.y = tileY t.val ∧
        r.write = some (x.pair (miSa i)) ∧ r.plot = pi ∧ r.slot = miImm i % 16 ∧ r.off = off ∧ r.lease = p.lease ∧
        u.fab.regions = s.fab.regions ∧ u.tile t.val = { x.advance i with readyNs := 0 }))) ∧
  (∀ (which : Nat) (s : State) (r : SecReq), s.fab.reqs[which]? = some r →
    let x := s.tile r.tile
    let p := s.plot r.plot
    (r.write = none → s.bankTurn which r = false → (∀ e ∈ s.fab.reqs, e.write = none) → exec (.sectionStoreResponse which) s = .next s) ∧
    (r.write = none → s.bankTurn which r = true → (∀ e ∈ s.fab.reqs, e.write = none) → (x.plot ≠ some r.plot ∨ x.inst ≠ r.inst ∨ x.phase = .off) →
      exec (.sectionStoreResponse which) s = .next (s.updFab (fun b => { b with reqs := b.reqs.eraseIdx which }))) ∧
    (r.write = none → s.bankTurn which r = true → (∀ e ∈ s.fab.reqs, e.write = none) →
      x.plot = some r.plot → x.inst = r.inst → x.phase ≠ .off → s.rowFenced r = true →
      exec (.sectionStoreResponse which) s = .next (s.abandonPass r.plot)) ∧
    (r.write = none → s.bankTurn which r = true → (∀ e ∈ s.fab.reqs, e.write = none) → s.rowFenced r = false →
      x.plot = some r.plot → x.inst = r.inst → x.phase ≠ .off → x.ctx.tag = false → x.tagBad r.queue r.tag = false →
      (p.lease ≠ r.lease → ∃ u, exec (.sectionStoreResponse which) s = .next u ∧ u.fab.reqs = s.fab.reqs.eraseIdx which ∧
        (u.tile r.tile).queues.get r.queue = x.queues.get r.queue ++ [{ flit := 0, tag := r.tag, since := s.now }]) ∧
      (p.lease = r.lease → (r.slot ≠ hdrRowSlot (p.image.take 64) ∨ p.row = none) → r.off < slotLines p.image r.slot * 128 →
        ∃ u, exec (.sectionStoreResponse which) s = .next u ∧ u.fab.reqs = s.fab.reqs.eraseIdx which ∧
        u.fab.regions = s.fab.regions ∧ (u.tile r.tile).queues.get r.queue = x.queues.get r.queue ++
          [{ flit := s.fab.regions.get (regionKey r.plot r.slot r.off), tag := r.tag, since := s.now }]))) ∧
  (∀ (s : State) (r : SecReq) (f : Flit), s.fab.reqs = [] → r.write = some f → (s.plot r.plot).lease = r.lease →
    let u := s.reachStore r
    u.fab.reqs = [] ∧ u.fab.regions.get (regionKey r.plot r.slot r.off) = f ∧
      (∀ k, k ≠ regionKey r.plot r.slot r.off → u.fab.regions.get k = s.fab.regions.get k) ∧ u.fab.tiles = s.fab.tiles) ∧
  (∀ (s : State) (r : SecReq) (f : Flit), s.fab.reqs = [] → r.write = some f → (s.plot r.plot).lease ≠ r.lease →
    (s.reachStore r).fab = s.fab ∧ (s.reachStore r).regs = s.regs)

/-- R157, R194 to R200: the multiplier block and requantisation. -/
def Obligations.MultiplierAndRequantisation : Prop :=
  (∀ (t : Fin 4096) (s : State) (i : Nat), s.atTile t.val 0x01 i → inNeeds (s.tile t.val) i = [] →
    let x := s.tile t.val
    let w (j : Nat) : Flit := x.store.get ((x.addr (miSa i) + j) % 2048)
    ∃ u, exec (.macw t) s = .next u ∧ tilesBut s u t.val ∧ (u.tile t.val).wblock = (List.range x.width).map w ∧
      (x.ctx.fmt ≠ 2 → (u.tile t.val).wshift = w x.width) ∧ (u.tile t.val).codebook = decide (miFunc i = 1) ∧
      (miFunc i = 1 → (u.tile t.val).book = (List.range 32).map (fun j => w (x.width + 1 + j))) ∧
      (u.tile t.val).acc = x.acc ∧ (u.tile t.val).store = x.store ∧ (u.tile t.val).regs = x.regs ∧
      (x.ctx.fmt ≠ 2 → u.reg Reg.NUM_BAD_SHIFT = s.reg Reg.NUM_BAD_SHIFT +
        BitVec.ofNat 64 ((List.range x.width).filter (fun k => decide (8 ≤ elemRaw 4 k (w x.width)))).length)) ∧
  (∀ (t : Fin 4096) (s : State) (i : Nat), s.atTile t.val 0x02 i → inNeeds (s.tile t.val) i = [] →
    let x := s.tile t.val
    let fs := x.read (miAk i) (miSa i) ((if x.codebook then 2 else 1) + b2n (bit (miImm i) 9)) (miImm i) none 0
    let v := x.vector i fs
    (x.ctx.fused = false → ∃ u, exec (.tileMac t) s = .next u ∧ tilesBut s u t.val ∧ (u.tile t.val).acc.length = x.width ∧
      (∀ k, k < x.width → (u.tile t.val).acc[k]? = some (accAdd x.ctx.fmt ((x.acc[k]?).getD (0, false))
        (dot v.1 ((List.range v.1.length).map (x.weight k)) * 2 ^ (x.gShift k + v.2.1)))) ∧
      u.reg Reg.NUM_ESC_ORPHAN = s.reg Reg.NUM_ESC_ORPHAN + BitVec.ofNat 64 v.2.2) ∧
    (x.ctx.fused = true → x.ctx.fCol = 0 → s.eastTile t.val = none →
      (∃ j, j < (s.array t.val).2.2.1 ∧ (s.array t.val).2.1 + j ≠ tileY t.val ∧
        (s.tile (tileIx (s.array t.val).1 ((s.array t.val).2.1 + j))).west = []) →
      ∃ u, exec (.tileMac t) s = .next u ∧ tilesBut s u t.val ∧ (u.tile t.val).west = x.west ++ [(v.1, v.2.1)])) ∧
  (∀ (t : Fin 4096) (s : State) (i : Nat), s.atTile t.val 0x03 i → inNeeds (s.tile t.val) i = [] → (s.tile t.val).ctx.fused = false → miDk i = 0 →
    bit (miImm i) 10 = false →
    let x := s.tile t.val
    let p := s.plot (x.plot.getD 0)
    let fmt := miFunc i % 4
    let imm := miImm i
    128 ≤ x.width * fmtBits fmt →
    let par : ReqPar := {
      fmt := fmt, rnd := p.rnd (miFunc i), zp := if bit imm 8 then signedOf 8 (bits imm 7 0) else bits imm 7 0,
      signed := bit imm 8, relu := bit imm 9, dyn := bit imm 11, esc := bit imm 12 }
    let word (k : Nat) : Nat := (x.store.get ((x.addr (miSb i) + p.bank * calStride p.image (p.desc x.ctx) + k) % 2048)).toNat
    let ins := (List.range x.width).map (fun k => ({
      acc := (accRead x.ctx.fmt ((x.acc[k]?).getD (0, false))).1, sat := (accRead x.ctx.fmt ((x.acc[k]?).getD (0, false))).2,
      m := signedOf 16 (bits (word k) 15 0), s := min 55 (bits (word k) 21 16),
      r := p.srByte x.ctx t.val x.pc none (x.groups.get (x.ctx.instrKey x.pc)) k } : ReqIn))
    let o := par.requant ins
    ∃ u, exec (.drain t) s = .next u ∧ tilesBut s u t.val ∧ (u.tile t.val).acc = [] ∧
      (u.tile t.val).pair (miDst i) = packFlit (fmtBits fmt) (o.codes.take (128 / fmtBits fmt)) ∧
      (u.tile t.val).stat.satOut = x.stat.satOut + o.satOut ∧ (u.tile t.val).stat.satAcc = x.stat.satAcc + o.satAcc) ∧
  (∀ (fmt : Nat) (a : Int × Bool) (x : Int), -(2 ^ (accWidth fmt + 7) - 1) ≤ a.1 + x → a.1 + x ≤ 2 ^ (accWidth fmt + 7) - 1 →
    accAdd fmt a x = (a.1 + x, a.2)) ∧
  (∀ (par : ReqPar) (l : List ReqIn),
    let o := par.requant l
    o.codes.length = l.length ∧ o.entries.length ≤ 3 ∧ o.e ≤ 7 ∧ (par.dyn = false → o.e = 0) ∧
    (∀ e, par.dyn = true → e < o.e → par.allow < par.outside e l) ∧
    (par.dyn = true → o.e < 7 → par.outside o.e l ≤ par.allow) ∧ o.satAcc + o.satOut + o.satExp + o.satEsc ≤ l.length) ∧
  (∀ (p : Int) (n r : Nat), 0 < n →
    let q := roundShift p n 0 r
    2 * |q * 2 ^ n - p| ≤ 2 ^ n ∧ (2 * |q * 2 ^ n - p| = 2 ^ n → q % 2 = 0)) ∧
  (∀ (p : Int) (n r : Nat), 8 ≤ n → r < 256 → roundShift p n 1 r = p / 2 ^ n ∨ roundShift p n 1 r = p / 2 ^ n + 1)

/-- R158, R159, R198: the vector ALU. -/
def Obligations.VectorAluAndFunctionTable : Prop :=
  ∀ (t : Fin 4096) (s : State) (i : Nat), miDk i = 0 → miAk i = 0 →
    let x := s.tile t.val
    let lane (y : Tile) (q k : Nat) : Option Int := (quadLanes (y.quad q))[k]?
    (s.atTile t.val 0x04 i → miBk i = 0 → miFunc i < 0x0C → ∃ u, exec (.vop t) s = .next u ∧ tilesBut s u t.val ∧
      (u.tile t.val).store = x.store ∧
      (∀ k a b, k < 16 → lane x (miSa i) k = some a → lane x (miSb i) k = some b →
        lane (u.tile t.val) (miDst i) k = if bit (miLanes i) k then vopLane (miFunc i) (miImm i) k a b else lane x (miDst i) k) ∧
      (∀ q, q % 16 ≠ miDst i % 16 → (u.tile t.val).quad q = x.quad q)) ∧
    (s.atTile t.val 0x04 i → 0x10 ≤ miFunc i → ∃ u, exec (.vop t) s = .next u ∧
      (miBk i ≠ 1 → (u.tile t.val).groups.get (x.ctx.instrKey x.pc) = x.groups.get (x.ctx.instrKey x.pc) + 1 ∧
        ∀ k, k < 16 → bit (miLanes i) k = false → lane (u.tile t.val) (miDst i) k = lane x (miDst i) k)) ∧
    (s.atTile t.val 0x05 i → miBk i ≠ 1 → ∃ u, exec (.lut t) s = .next u ∧ tilesBut s u t.val ∧ (u.tile t.val).store = x.store ∧
      (∀ k a, k < 16 → lane x (miSa i) k = some a →
        lane (u.tile t.val) (miDst i) k = if bit (miLanes i) k then some (lutLane x.ctx.ftab a) else lane x (miDst i) k) ∧
      (∀ q, q % 16 ≠ miDst i % 16 → (u.tile t.val).quad q = x.quad q))

/-- R160 to R162, R166: the router network, credits and flow units. -/
def Obligations.RoutersCreditsAndFlowUnits : Prop :=
  (∀ x y gx gy : Nat, (hopTo x y gx gy = none ↔ x = gx ∧ y = gy) ∧
    (∀ a b p, hopTo x y gx gy = some (a, b, p) →
      ((a : Int) - gx).natAbs + ((b : Int) - gy).natAbs + 1 = ((x : Int) - gx).natAbs + ((y : Int) - gy).natAbs ∧ (x ≠ gx → b = y))) ∧
  (∀ (which : Nat) (s : State) (k : Packet), s.fab.packets[which]? = some k →
    let gone := refillLocal [] (s.fab.packets.eraseIdx which)
    ((isHead s.fab.packets which k = false ∨ k.port = 5) → exec (.routerHop which) s = .next s) ∧
    (isHead s.fab.packets which k = true → k.port ≠ 5 → s.sunk k.x k.y = true → ∃ u, exec (.routerHop which) s = .next u ∧
      u.fab.packets = gone ∧ u.regs = s.regs) ∧
    (isHead s.fab.packets which k = true → k.port ≠ 5 → s.sunk k.x k.y = false →
      (∀ a b p, hopTo k.x k.y k.goal.1 k.goal.2 = some (a, b, p) →
        (s.sunk a b = false → bufferLoad s.fab.packets a b p k.vc < 4 → ∃ u, exec (.routerHop which) s = .next u ∧
          u.fab.packets = gone ++ [{ k with x := a, y := b, port := p }] ∧ u.regs = s.regs) ∧
        (s.sunk a b = false → 4 ≤ bufferLoad s.fab.packets a b p k.vc → exec (.routerHop which) s = .next s) ∧
        (s.sunk a b = true → ∃ u, exec (.routerHop which) s = .next u ∧ u.fab.packets = gone ∧ u.regs = s.regs)) ∧
      (∀ gx gy q, k.dest = .tile gx gy q → k.x = gx → k.y = gy →
        let d := s.tile (tileIx gx gy)
        d.plot = some k.plot → d.inst = k.inst → d.phase ≠ .off → d.ctx.tag = false → d.tagBad q k.tok.tag = false →
        k.kind ≠ .sectionEnd →
        ∃ u, exec (.routerHop which) s = .next u ∧ u.fab.packets = gone ∧
          (u.tile (tileIx gx gy)).queues.get q = d.queues.get q ++ [{ k.tok with since := s.now }]) ∧
      (∀ r n rest, k.dest = .reply → k.x = edgeX k.x → k.kind ≠ .sectionEnd → k.tok.src = none →
        let p := s.plot k.plot
        p.job = none → p.prog = none → p.expect = (r, n) :: rest → p.pass = true → k.inst = p.inst →
        widenEn p.image (secOff p.image p.sec) = true →
        ∃ u, exec (.routerHop which) s = .next u ∧ u.erp = s.erp ∧ (u.plot k.plot).expect = rest ∧
          (u.plot k.plot).held = p.held ++ [.record r n (resultHalf (p.image.take 64) k.tok.flit) k.widened]))) ∧
  (∀ (which : Nat) (s : State) (c : Src), s.fab.credits[which]? = some c →
    ∃ u, exec (.creditReturn which) s = .next u ∧ u.fab.credits = s.fab.credits.eraseIdx which ∧ tilesBut s u c.tile ∧
      (u.tile c.tile).spent.get c.ch = (s.tile c.tile).spent.get c.ch - (if (s.tile c.tile).inst = c.inst then 1 else 0)) ∧
  (∀ (t : Fin 4096) (unit : Fin 4) (s : State),
    let x := s.tile t.val
    let c := x.ctx.unit unit.val
    let dq := bits c 16 12
    let cq := bits c 21 17
    (bits c 3 0 = 0 → exec (.flowUnitToken t unit) s = .next s) ∧
    (∀ d k, x.phase ≠ .off → bits c 3 0 = 1 → dq ≠ cq → x.front dq = some d → x.front cq = some k →
      let o := if k.ctl then bits c 31 27 else bits c 26 22
      o < 16 → s.canSend t.val o 1 = true → ∃ u p, exec (.flowUnitToken t unit) s = .next u ∧
        u.fab.packets = s.fab.packets ++ [p] ∧ p.kind = .data ∧ p.tok.flit = d.flit ∧ p.tok.tag = d.tag ∧ p.dest = s.chanDest t.val o) ∧
    (∀ d k, x.phase ≠ .off → bits c 3 0 = 4 → x.front dq = some d → x.front cq = some k → k.ctl = false →
      ∃ u, exec (.flowUnitToken t unit) s = .next u ∧ u.fab.packets = s.fab.packets) ∧
    (∀ d, x.phase ≠ .off → bits c 3 0 = 6 → x.front dq = some d → x.units.get unit.val ≠ 0 →
      ∃ u, exec (.flowUnitToken t unit) s = .next u ∧ u.fab.packets = s.fab.packets ∧
        (u.tile t.val).units.get unit.val = (x.units.get unit.val + 1) % (bits c 11 4 + 1)))

/-- R178, R181 to R183, R206, R207: ends of sections, contexts and flips. -/
def Obligations.SectionsEndAndFlip : Prop :=
  (∀ (t : Fin 4096) (s : State),
    let x := s.tile t.val
    let f := (s.plot (x.plot.getD 0)).field
    (x.phase ≠ .running → exec (.secend t) s = .next s) ∧
    (x.phase = .running → x.ctx.tag = true → (x.allEnds = false ∨ x.readyInstr.isSome = true) → exec (.secend t) s = .next s) ∧
    (x.phase = .running → x.ctx.tag = false → x.sourcesReady (x.ctx.instr x.pc) none = false → exec (.secend t) s = .next s) ∧
    (x.phase = .running → x.ctx.tag = false → x.pc < x.ctx.n → miOp (x.ctx.instr x.pc) = 0x0D → inNeeds x (x.ctx.instr x.pc) = [] →
      s.flag Reg.FAB_CTRL_trail_en = false →
      ∃ u r l, exec (.secend t) s = .next u ∧ (u.field f).reports = (s.field f).reports ++ [r] ∧ r.plot = x.plot.getD 0 ∧
        r.tile = t.val ∧ r.inst = x.inst ∧ r.stat = x.stat ∧ (u.tile t.val).phase = .ended ∧ (u.tile t.val).stat = {} ∧
        u.fab.packets = s.fab.packets ++ l ∧ (∀ p ∈ l, p.kind = .sectionEnd ∧ p.vc = 1) ∧
        l.length = ((List.range 16).filter (fun k => chValid (x.ctx.chan k))).length)) ∧
  (∀ (f : Fin 4) (s : State), (s.nextReport f.val = none → exec (.sectionEndReport f) s = .next s) ∧
    (∀ r rest, s.nextReport f.val = some (r, rest) →
      let p := s.plot r.plot
      let n := r.stat.satAcc + r.stat.satOut + r.stat.satExp + r.stat.satEsc
      (p.done.length + 1 ≠ p.tiles.length → ∃ u, exec (.sectionEndReport f) s = .next u ∧ (u.field f.val).reports = rest ∧
        (u.plot r.plot).done = p.done ++ [r.tile] ∧ (u.plot r.plot).sats = p.sats + n ∧
        u.reg Reg.NUM_SAT_OUT = s.reg Reg.NUM_SAT_OUT + BitVec.ofNat 64 r.stat.satOut ∧
        u.reg Reg.FAB_SECTIONS = s.reg Reg.FAB_SECTIONS) ∧
      (p.done.length + 1 = p.tiles.length → p.removing = false → widenEn p.image (secOff p.image p.sec) = true → p.wide = false →
        ∃ u, exec (.sectionEndReport f) s = .next u ∧ (u.plot r.plot).deciding = true ∧ (u.plot r.plot).secCount = p.secCount + 1 ∧
          (u.plot r.plot).sec = p.sec ∧ u.reg Reg.FAB_SECTIONS = s.reg Reg.FAB_SECTIONS + 1))) ∧
  (∀ (plot : Nat) (s : State),
    let p := s.plot plot
    ((p.used && p.ready && !p.fault) = false → exec (.contextLoaded plot) s = .next s) ∧
    (p.used = true → p.ready = true → p.fault = false → s.linesFenced p = true → exec (.contextLoaded plot) s = .next (s.abandonPass plot)) ∧
    (p.used = true → p.ready = true → p.fault = false → s.linesFenced p = false → p.pass = false →
      (∀ t ∈ p.tiles, (ctxOf (s.followOf plot t).1 (s.followOf plot t).2.1 (tileX t - p.x0) (tileY t - p.y0)
        (s.followOf plot t).2.2.1 (s.followOf plot t).2.2.2).crcOk = true) →
      ∃ u, exec (.contextLoaded plot) s = .next u ∧ u.contextsReady plot = true ∧ u.plot plot = p ∧ u.regs = s.regs ∧
        (∀ t ∈ p.tiles, ((s.tile t).nxt.map (fun c => c.isFor (s.followOf plot t))).getD false = false →
          (u.tile t).nxt = some (s.storedCtx p (s.followOf plot t).1 (ctxOf (s.followOf plot t).1 (s.followOf plot t).2.1 (tileX t - p.x0)
            (tileY t - p.y0) (s.followOf plot t).2.2.1 (s.followOf plot t).2.2.2) (tileX t - p.x0) (tileY t - p.y0))))) ∧
  (∀ (plot : Nat) (s : State),
    let p := s.plot plot
    ((p.pass && p.flipAll && s.contextsReady plot) = false → exec (.blockFlip plot) s = .next s) ∧
    (p.pass = true → p.flipAll = true → s.contextsReady plot = true → p.x0 + p.w ≤ 64 → (∀ t ∈ p.tiles, (s.tile t).plot = some plot) →
      ∃ u, exec (.blockFlip plot) s = .next u ∧ (u.plot plot).flipAll = false ∧
        (∀ t ∈ p.tiles, ∀ c, (s.tile t).nxt = some c → (u.tile t).phase = .running ∧ (u.tile t).ctx = c ∧ (u.tile t).pc = 0 ∧
          (u.tile t).queues = (s.tile t).queues.clear ∧ (u.tile t).spent = (s.tile t).spent.clear ∧
          (u.tile t).side = !(s.tile t).side ∧ (u.tile t).acc = (s.tile t).acc ∧ (u.tile t).regs = (s.tile t).regs ∧
          (u.tile t).store = (s.tile t).store) ∧
        (∀ t, t ∉ p.tiles → u.tile t = s.tile t)))

/-- R184 to R186: configuration commits of a field. -/
def Obligations.CommitsRunOneAtATime : Prop :=
  (∀ (f : Fin 4) (s : State), s.runs none = true → (s.field f.val).leaving = none →
    let x := s.field f.val
    (x.waiting = [] → exec (.configCommit f) s = .next s) ∧
    (x.waiting ≠ [] → s.flag Reg.FAB_CTRL_enable = true →
      (x.running = none → x.accepted = none → ∃ u k, exec (.configCommit f) s = .next u ∧
        u.field f.val = { x with waiting := x.waiting.drop 16, accepted := some k } ∧
        k.changes = (x.waiting.take 16).map (fun c => (c, false)) ∧ u.regs = s.regs) ∧
      ((x.running.isSome = true ∨ x.accepted.isSome = true) → x.pending = none → ∃ u k, exec (.configCommit f) s = .next u ∧
        u.field f.val = { x with waiting := x.waiting.drop 16, pending := some k } ∧
        k.changes = (x.waiting.take 16).map (fun c => (c, false)) ∧ u.regs = s.regs) ∧
      ((x.running.isSome = true ∨ x.accepted.isSome = true) → x.pending.isSome = true → ∃ u, exec (.configCommit f) s = .next u ∧
        u.fab = s.fab ∧ u.flag (Reg.FAB_COMMIT_STAT_busy f.val) = true ∧
        u.reg Reg.FAB_COMMIT_BUSY = s.reg Reg.FAB_COMMIT_BUSY + 1))) ∧
  (∀ (f : Fin 4) (s : State),
    let x := s.field f.val
    ((x.running.isSome = true ∨ x.accepted = none ∨ (s.nextReport f.val).isSome = true ∨ (s.fieldPow f.val).st ≠ 0) → exec (.commitOrdered f) s = .next s) ∧
    (∀ k, (s.fieldPow f.val).st = 0 → x.running = none → s.nextReport f.val = none → x.accepted = some k → k.changes = [(.role true, false)] → s.fieldPlots f.val ≠ [] →
      ∃ u, exec (.commitOrdered f) s = .next u ∧ (u.field f.val).adaptation = x.adaptation ∧ (u.field f.val).leaving = x.leaving ∧
        (u.field f.val).roleSent = false ∧ (u.field f.val).running = none ∧ (u.field f.val).accepted = x.pending ∧ u.fab.plots = s.fab.plots) ∧
    (∀ k p, (s.fieldPow f.val).st = 0 → x.running = none → s.nextReport f.val = none → x.accepted = some k → k.changes = [(.remove p, false)] → (s.plot p).used = true → (s.plot p).pass = true →
      ∃ u, exec (.commitOrdered f) s = .next u ∧ (u.plot p).removing = true ∧ (u.plot p).used = true ∧
        (u.field f.val).running = some k ∧ (u.field f.val).accepted = none ∧ (u.field f.val).seq = x.seq ∧ u.regs = s.regs) ∧
    (∀ k p, (s.fieldPow f.val).st = 0 → x.running = none → s.nextReport f.val = none → x.accepted = some k → k.changes = [(.add p, false)] → (s.plot p).used = true →
      (s.plot p).job.isSome = true →
      ∃ u, exec (.commitOrdered f) s = .next u ∧ (u.plot p).ready = true ∧ (u.field f.val).running = none ∧
        (u.field f.val).accepted = x.pending ∧ (u.field f.val).pending = none ∧ (u.field f.val).seq = x.seq + 1 ∧
        u.reg Reg.FAB_COMMITS = s.reg Reg.FAB_COMMITS + 1))

/-- R187, R189, R207, R225, R229: recurrent state and queue depths. -/
def Obligations.RecurrentStateFollowsItsSlot : Prop :=
  (∀ (plot : Nat) (s : State),
    let p := s.plot plot
    let o := descOff p.image p.sec p.wide
    ((s.nextSpan plot = none ∨ p.pass = false ∨ p.deciding = true ∨ secStates p.image o = 0 ∨ s.injectReady plot o = false) →
      exec (.stateLoad plot) s = .next s) ∧
    (∀ r k sp, s.nextSpan plot = some (r, k, sp) → p.wide = false → p.pass = true → p.deciding = false → secStates p.image o ≠ 0 →
      s.injectReady plot o = true →
      (s.slotWaits plot sp.slot = true → exec (.stateLoad plot) s = .next s) ∧
      (s.slotWaits plot sp.slot = false → (∀ j q, qOrdered ((s.tile j).ctx.queue q) = false) →
        ∃ u b, exec (.stateLoad plot) s = .next u ∧ (u.plot plot).spanLoad = k + 1 ∧ (u.plot plot).backs = p.backs ++ [b] ∧
          b.slot = sp.slot ∧ b.epoch = sp.slotEpoch ∧ b.span = k ∧ b.off = (s.seg sp.seg).prof.feBytes ∧ u.bay = s.bay))) ∧
  (∀ (plot : Nat) (s : State),
    let p := s.plot plot
    (p.backs = [] → exec (.stateWriteback plot) s = .next s) ∧
    (∀ b rest, p.backs = b :: rest →
      let n := hdrStateBytes (p.image.take 64) / 16
      let sl := s.bay.slots.get b.slot
      (takeState b.lanes n n p.collected = none → exec (.stateWriteback plot) s = .next s) ∧
      (∀ fs left, takeState b.lanes n n p.collected = some (fs, left) →
        let now := p.pass && decide ((fs.map (·.1)).foldl max 0 = p.inst) && widenEn p.image (secOff p.image p.sec)
        (now = true → ∃ u, exec (.stateWriteback plot) s = .next u ∧ u.bay = s.bay ∧ (u.plot plot).backs = rest ∧
          (u.plot plot).held = p.held ++ [.state b (fs.map (·.2))]) ∧
        (now = false → sl.epoch = b.epoch → ∃ u, exec (.stateWriteback plot) s = .next u ∧ (u.plot plot).backs = rest ∧
          u.bay.slots.get b.slot = { sl with
            tag := p.handle, tagGen := p.gen, state := patch (fit sl.state 4096) b.off ((fs.map (·.2)).flatMap flitBytes) } ∧
          (∀ j, j ≠ b.slot → u.bay.slots.get j = s.bay.slots.get j)) ∧
        (now = false → sl.epoch ≠ b.epoch → ∃ u, exec (.stateWriteback plot) s = .next u ∧ u.bay.slots = s.bay.slots)))) ∧
  (∀ s : State,
    let period := s.fld Reg.FAB_QD_PERIOD_period_ns
    ((period = 0 ∨ s.thyme.toNat % period ≠ 0) → exec .qdSample s = .next s) ∧
    (period ≠ 0 → s.thyme.toNat % period = 0 → ∃ u, exec .qdSample s = .next u ∧ u.fab = s.fab ∧
      ∀ q, q < 16 →
        let n := ((s.tile (tileIx (s.fld (Reg.FAB_QD_SEL_x q)) (s.fld (Reg.FAB_QD_SEL_y q)))).queues.get
          (s.fld (Reg.FAB_QD_SEL_queue q))).length
        u.reg (Reg.FAB_QD_CNT q) = (if s.flag (Reg.FAB_QD_SEL_valid q) then s.reg (Reg.FAB_QD_CNT q) + 1 else s.reg (Reg.FAB_QD_CNT q)) ∧
        u.reg (Reg.FAB_QD_SUM q) = (if s.flag (Reg.FAB_QD_SEL_valid q) then s.reg (Reg.FAB_QD_SUM q) + BitVec.ofNat 64 n
          else s.reg (Reg.FAB_QD_SUM q))))

/-- R206 to R209: the widening decision. -/
def Obligations.WideningFollowsTheThreshold : Prop :=
  (∀ p : PlotSt, p.sats ≤ satThresh p.image (secOff p.image p.sec) → p.overThresh = false) ∧
  (∀ (plot : Nat) (s : State),
    let p := s.plot plot
    (p.deciding = false → exec (.widenDecision plot) s = .next s) ∧
    (p.deciding = true → p.overThresh = true → p.mayWiden p.sec p.wide = true →
      ∃ u, exec (.widenDecision plot) s = .next u ∧ (u.plot plot).wide = true ∧ (u.plot plot).widened = true ∧
        (u.plot plot).sec = p.sec ∧ (u.plot plot).inst = p.inst + 1 ∧ (u.plot plot).held = [] ∧ (u.plot plot).kept = p.kept ∧
        (u.plot plot).flipAll = true ∧ (u.plot plot).deciding = false ∧ (u.plot plot).epoch = p.epoch ∧
        (u.plot plot).passKey = p.passKey ∧ (∀ t ∈ p.tiles, (u.tile t).nxt = none) ∧ u.erp = s.erp ∧ u.bay = s.bay ∧
        u.reg Reg.NUM_WIDEN_RUNS = s.reg Reg.NUM_WIDEN_RUNS + 1) ∧
    (p.deciding = true → (p.overThresh && p.mayWiden p.sec p.wide) = false → p.held = [] → p.sec + 1 < hdrSections p.image →
      ∃ u, exec (.widenDecision plot) s = .next u ∧ (u.plot plot).sec = p.sec + 1 ∧ (u.plot plot).inst = p.inst + 1 ∧
        (u.plot plot).deciding = false ∧ u.erp = s.erp ∧ u.reg Reg.NUM_WIDEN_RUNS = s.reg Reg.NUM_WIDEN_RUNS))

/-- R210 to R212, R214: calibration epochs and statistics. -/
def Obligations.EpochsInstallAdvanceAndRetire : Prop :=
  (∀ s : State, s.busOk (some 4) →
    let runs := s.num.installing || s.num.draining.isSome
    (runs = false → exec .epochCommit s = .next (s.updNum (fun n => { n with installing := true }))) ∧
    (runs = true → s.num.pending = false → exec .epochCommit s = .next (s.updNum (fun n => { n with pending := true }))) ∧
    (runs = true → s.num.pending = true → ∃ u, exec .epochCommit s = .next u ∧ u.num = s.num ∧
      u.flag Reg.NUM_EPOCH_STAT_busy = true ∧ u.reg Reg.NUM_EPOCH_BUSY = s.reg Reg.NUM_EPOCH_BUSY + 1)) ∧
  (∀ s : State, (s.num.installing = false → exec .epochAdvance s = .next s) ∧
    (s.num.installing = true → ∃ u, exec .epochAdvance s = .next u ∧ u.num.current = (s.num.current + 1) % 65536 ∧
      u.num.draining = some s.num.current ∧ u.num.installing = false ∧ u.num.pending = s.num.pending ∧
      u.num.stats = s.num.stats ∧ u.rul = s.rul ∧ u.mac = s.mac)) ∧
  (∀ s : State, (s.num.draining = none → exec .epochRetire s = .next s) ∧
    (∀ e, s.num.draining = some e → (s.epochHeld e = true → exec .epochRetire s = .next s) ∧
      (s.epochHeld e = false → ∃ u, exec .epochRetire s = .next u ∧ u.num.draining = none ∧ u.num.current = s.num.current ∧
        u.num.installing = s.num.pending ∧ u.num.pending = false ∧
        u.reg Reg.NUM_EPOCH_COMMITS = s.reg Reg.NUM_EPOCH_COMMITS + 1))) ∧
  (∀ (s : State) (e k : Nat), s.busOk (some 4) → s.statSel = some (e, k) →
    let x := s.num.stats.get k
    (∃ u, exec .statRead s = .next u ∧ u.num = s.num ∧ u.reg Reg.NUM_STAT_OUTPUTS = BitVec.ofNat 64 x.outputs ∧
      u.reg Reg.NUM_STAT_SAMPLES = BitVec.ofNat 64 x.samples ∧ u.reg Reg.NUM_STAT_SSE = BitVec.ofNat 64 x.sse ∧
      u.reg Reg.NUM_STAT_SAT = BitVec.ofNat 64 x.sats ∧ u.reg Reg.NUM_STAT_PASSES = BitVec.ofNat 64 x.passes ∧
      u.reg Reg.NUM_STAT_WIDENED = BitVec.ofNat 64 x.widened ∧ u.fld Reg.NUM_STAT_MAXERR_max_e8 = x.maxE % 2 ^ 32 ∧
      u.fld Reg.NUM_STAT_STAT_epoch = e % 65536 ∧ u.flag Reg.NUM_STAT_STAT_valid = true) ∧
    (∃ u, exec .statClear s = .next u ∧ u.regs = s.regs ∧ u.num.stats.get k = { live := x.live } ∧
      (∀ j, j ≠ k → u.num.stats.get j = s.num.stats.get j)))

/-- R221, R227, R231, R233, R240: the commands on models that read no host data. -/
def Obligations.BayCommandsOnModels : Prop :=
  ∀ (s : State) (b : List Byte),
    let h := cmdHandle b
    let m := s.model h
    let term := s.fld Reg.BAY_PIN_TERM_ns
    (∀ e ∈ [(2, Instr.bayUnregister .reg), (3, .bayPrefetch .reg), (4, .bayEvict .reg), (5, .bayPin .reg), (6, .bayUnpin .reg), (7, .bayRenew .reg)],
      (s.bayHolds e.1 b → m.st = .free → ∃ t, exec e.2 s = .next t ∧ t.bayAnswers 2 ∧ t.bay.models = s.bay.models) ∧
      (s.bay.latched = some b → byteAt b 0 ≠ e.1 → exec e.2 s = .next s)) ∧
    (∀ d, s.bay.cmds.head? ≠ some d → ∀ c ∈ [Instr.bayUnregister (.desc d), .bayPrefetch (.desc d), .bayEvict (.desc d), .bayPin (.desc d),
      .bayUnpin (.desc d), .bayRenew (.desc d)], exec c s = .next s) ∧
    (m.st ≠ .free →
      (s.bayHolds 5 b → ∃ t, exec (.bayPin .reg) s = .next t ∧ t.bayAnswers 0 ∧ modelsBut s t h ∧
        t.model h = { m with pinned := true, pinDomain := cmdDomain b, pinUntil := if term = 0 then none else some (s.now + term) }) ∧
      (s.bayHolds 6 b → s.progOf h = none → ∃ t, exec (.bayUnpin .reg) s = .next t ∧ t.bayAnswers 0 ∧ modelsBut s t h ∧
        t.model h = { m with pinned := false, pinUntil := none }) ∧
      (s.bayHolds 6 b → (s.progOf h).isSome = true → ∃ t, exec (.bayUnpin .reg) s = .next t ∧ t.bayAnswers 8 ∧ t.bay.models = s.bay.models) ∧
      (s.bayHolds 7 b → ∃ t, exec (.bayRenew .reg) s = .next t ∧ t.bayAnswers 0 ∧ modelsBut s t h ∧
        t.model h = if m.pinned then { m with pinUntil := if term = 0 then none else some (s.now + term) } else m) ∧
      (s.bayHolds 3 b →
        (m.st = .resident → ∃ t, exec (.bayPrefetch .reg) s = .next t ∧ t.bayAnswers 0 ∧ t.bay.models = s.bay.models) ∧
        (m.st = .faulted → m.fault < 16 → ∃ t, exec (.bayPrefetch .reg) s = .next t ∧ t.bayAnswers m.fault ∧ t.bay.models = s.bay.models) ∧
        (m.st = .paging → ∃ t, exec (.bayPrefetch .reg) s = .next t ∧ t.model h = { m with joined := m.joined ++ [.reg] } ∧
          t.bay.queue = s.bay.queue ∧ t.bay.busy = none ∧ t.reg Reg.BAY_PAGE_JOIN = s.reg Reg.BAY_PAGE_JOIN + 1) ∧
        ((m.st = .host ∨ m.st = .hbm ∨ m.st = .staged) → ∃ t, exec (.bayPrefetch .reg) s = .next t ∧ modelsBut s t h ∧
          t.model h = { m with joined := m.joined ++ [.reg], prev := m.st, st := .paging, page := .queued } ∧
          t.bay.queue = s.bay.queue ++ [h] ∧ t.bay.busy = some .reg ∧ t.regs = s.regs)) ∧
      (s.bayHolds 4 b →
        (s.locked h = true → ∃ t, exec (.bayEvict .reg) s = .next t ∧ t.bayAnswers 8 ∧ t.bay.models = s.bay.models) ∧
        (s.locked h = false → m.st = .hbm → m.replacing = none → byteAt b 1 = 1 → ∃ t, exec (.bayEvict .reg) s = .next t ∧ t.bayAnswers 0 ∧
          t.model h = { m with st := .host, image := [] } ∧ modelsBut s t h) ∧
        (∀ p, s.locked h = false → m.st = .resident → m.replacing = none → m.plot = some p → ∃ t, exec (.bayEvict .reg) s = .next t ∧
          (t.model h).st = .evicting ∧ (t.model h).plot = some p ∧ (t.model h).leavers = m.leavers ++ [.reg] ∧ modelsBut s t h ∧
          (t.field (s.plot p).field).waiting = (s.field (s.plot p).field).waiting ++ [.remove p] ∧ t.bay.busy = some .reg)) ∧
      (s.bayHolds 2 b →
        ((m.tier0 = true ∨ m.pinned = true) → ∃ t, exec (.bayUnregister .reg) s = .next t ∧ t.bayAnswers 8 ∧ t.bay.models = s.bay.models) ∧
        (m.tier0 = false → m.pinned = false → m.replacing = none → (m.st = .host ∨ m.st = .hbm ∨ m.st = .staged ∨ m.st = .faulted) →
          ∃ t, exec (.bayUnregister .reg) s = .next t ∧ t.bayAnswers 0 ∧ t.model h = {} ∧ modelsBut s t h))) ∧
    (∀ d, s.bay.cmds.head? = some d → s.bay.busy = none → s.bay.latched = none → (s.desc d).op = 0x15 → s.descLive d = true →
      s.flag Reg.BAY_CTRL_enable = true → (s.model (cmdHandle (s.desc d).bytes)).st ≠ .free →
      ((s.func (s.qp (s.desc d).qp).func).busMaster = false → exec (.bayPin (.desc d)) s = .next s) ∧
      ((s.func (s.qp (s.desc d).qp).func).busMaster = true → ∃ t, exec (.bayPin (.desc d)) s = .next t ∧ (t.model (cmdHandle (s.desc d).bytes)).pinned = true ∧ (t.desc d).st = .done ∧
        t.bay.cmds = s.bay.cmds.drop 1))

/-- R219, R220, R225, R226, R228, R236, R237: the Bay commands that read host data or name slots. -/
def Obligations.BayCommandsOnImagesAndSlots : Prop :=
  ∀ (s : State) (b : List Byte) (img dig blk : HostData),
    let h := cmdHandle b
    let m := s.model h
    let r := s.domRights (byteAt b 4)
    (s.bayHolds 1 b →
      (h = 0 → ∃ t, exec (.bayRegister .reg img dig) s = .next t ∧ t.bayAnswers 2 ∧ t.bay.models = s.bay.models) ∧
      (h ≠ 0 → m.st ≠ .free → ∃ t, exec (.bayRegister .reg img dig) s = .next t ∧ t.bayAnswers 3 ∧ t.bay.models = s.bay.models) ∧
      (h ≠ 0 → m.st = .free → s.imageChecks b r img dig ≠ 0 → ∃ t, exec (.bayRegister .reg img dig) s = .next t ∧
        t.bayAnswers (s.imageChecks b r img dig) ∧ t.bay.models = s.bay.models) ∧
      (∀ i, h ≠ 0 → m.st = .free → s.imageChecks b r img dig = 0 → img = some i → hdrTier0 ((i.take (cmdLen b)).take 64) = false →
        s.hbmUsed + pagesOf (i.take (cmdLen b)).length ≤ s.hbmTotal →
        ∃ t, exec (.bayRegister .reg img dig) s = .next t ∧ t.bayAnswers 0 ∧ modelsBut s t h ∧ (t.model h).st = .hbm ∧
          (t.model h).image = i.take (cmdLen b) ∧ (t.model h).gen = 0 ∧ (t.model h).domain = cmdDomain b ∧ (t.model h).addr = cmdAddr b)) ∧
    (s.bayHolds 8 b →
      ((h = 0 ∨ m.st = .free) → ∃ t, exec (.bayReplace .reg img dig) s = .next t ∧ t.bayAnswers 2 ∧ t.bay.models = s.bay.models) ∧
      (h ≠ 0 → m.st ≠ .free → (s.progOf h).isSome = true → ∃ t, exec (.bayReplace .reg img dig) s = .next t ∧ t.bayAnswers 8 ∧
        t.bay.models = s.bay.models) ∧
      (h ≠ 0 → m.st ≠ .free → s.progOf h = none →
        (m.replacing.isSome = true → m.nextImage.isSome = true → ∃ t, exec (.bayReplace .reg img dig) s = .next t ∧ t.bayAnswers 1 ∧
          t.bay.models = s.bay.models) ∧
        ((m.replacing = none ∨ m.nextImage = none) → s.imageChecks b r img dig ≠ 0 → ∃ t, exec (.bayReplace .reg img dig) s = .next t ∧
          t.bayAnswers (s.imageChecks b r img dig) ∧ modelsBut s t h ∧ t.model h = { m with lastErr := s.imageChecks b r img dig }) ∧
        (∀ i, m.replacing = none → m.st = .hbm → s.imageChecks b r img dig = 0 → img = some i →
          s.hbmUsed + pagesOf (i.take (cmdLen b)).length ≤ s.hbmTotal → ∃ t, exec (.bayReplace .reg img dig) s = .next t ∧
          t.bayAnswers 0 ∧ modelsBut s t h ∧ (t.model h).image = i.take (cmdLen b) ∧ (t.model h).gen = (m.gen + 1) % 256 ∧
          (t.model h).st = .hbm ∧ (t.model h).stagedCal = []))) ∧
    (s.bayHolds 9 b →
      (m.st = .free → ∃ t, exec (.bayCalStage .reg blk) s = .next t ∧ t.bayAnswers 2 ∧ t.bay.models = s.bay.models) ∧
      (m.st ≠ .free → (s.num.installing = true ∨ s.num.pending = true) → ∃ t, exec (.bayCalStage .reg blk) s = .next t ∧ t.bayAnswers 9 ∧
        t.bay.models = s.bay.models) ∧
      (m.st ≠ .free → s.num.installing = false → s.num.pending = false →
        ((r.inWindow (cmdAddr b) (cmdLen b) false = false ∨ blk = none) → ∃ t, exec (.bayCalStage .reg blk) s = .next t ∧
          t.bayAnswers 11 ∧ t.bay.models = s.bay.models) ∧
        (∀ d, r.inWindow (cmdAddr b) (cmdLen b) false = true → blk = some d →
          (calBlockOk (d.take (cmdLen b)) h = true → ∃ t, exec (.bayCalStage .reg blk) s = .next t ∧ t.bayAnswers 0 ∧ modelsBut s t h ∧
            t.model h = { m with stagedCal := d.take (cmdLen b) }) ∧
          (calBlockOk (d.take (cmdLen b)) h = false → ∃ t, exec (.bayCalStage .reg blk) s = .next t ∧ t.bayAnswers 4 ∧
            t.bay.models = s.bay.models)))) ∧
    (s.bayHolds 10 b →
      (slotRange b = none → ∃ t, exec (.baySlotGrant .reg) s = .next t ∧ t.bayAnswers 2 ∧ t.bay.slots = s.bay.slots) ∧
      (∀ f n, slotRange b = some (f, n) → ∃ t, exec (.baySlotGrant .reg) s = .next t ∧ t.bayAnswers 0 ∧
        (∀ i, f ≤ i → i < f + n → t.bay.slots.get i = { s.bay.slots.get i with domain := cmdDomain b, epoch := (s.bay.slots.get i).epoch + 1 }) ∧
        (∀ i, i < f ∨ f + n ≤ i → t.bay.slots.get i = s.bay.slots.get i))) ∧
    (s.bayHolds 11 b →
      (slotRange b = none → ∃ t, exec (.baySlotReset .reg) s = .next t ∧ t.bayAnswers 2 ∧ t.bay.slots = s.bay.slots) ∧
      (∀ f n, slotRange b = some (f, n) → ∃ t, exec (.baySlotReset .reg) s = .next t ∧ t.bayAnswers 0 ∧
        (∀ i, f ≤ i → i < f + n → t.bay.slots.get i = { s.bay.slots.get i with epoch := (s.bay.slots.get i).epoch + 1, tag := 0, tagGen := 0 }) ∧
        (∀ i, i < f ∨ f + n ≤ i → t.bay.slots.get i = s.bay.slots.get i)))

/-- R176, R220, R222, R230, R232, R233: the steps of a page-in. -/
def Obligations.PageInsRunStepByStep : Prop :=
  ∀ (h : Nat) (s : State),
    let m := s.model h
    (s.flag Reg.BAY_CTRL_enable = false → exec (.pageInStart h) s = .next s) ∧
    (s.runs none = true → s.flag Reg.BAY_CTRL_enable = true → s.nextPage = some h → s.pagesRunning < s.fld Reg.BAY_PAGE_MAX_n → m.replacing = none → m.prev = .staged →
      (∀ f x y u, s.findPlace h m.hdr = (.place f x y, u) →
        ∃ t, exec (.pageInStart h) s = .next t ∧ (t.model h).plot = some u.nextId ∧ (t.model h).page = .loading ∧ h ∉ t.bay.queue ∧
          (t.plot u.nextId).used = true ∧ (t.plot u.nextId).ready = false ∧ (t.plot u.nextId).handle = h ∧
          (t.plot u.nextId).x0 = 32 * (f % 2) + x ∧ (t.plot u.nextId).y0 = 32 * (f / 2) + y ∧
          (∀ k ∈ (t.plot u.nextId).tiles, t.tile k = { plot := some u.nextId }) ∧
          (∀ k, k ∉ (t.plot u.nextId).tiles → t.tile k = u.tile k)) ∧
      (∀ u, s.findPlace h m.hdr = (.blocked, u) → ∃ t, exec (.pageInStart h) s = .next t ∧ (t.model h).page = .queued ∧
        (t.model h).placeSince = some u.now)) ∧
    (s.runs none = true → m.st = .paging → m.page = .copying → ∀ img, (s.domRights m.domain).inWindow m.addr m.len false = true → m.len ≤ img.length →
      exec (.imageCopyDone h (some img)) s = .next (s.updModel h (fun m => { m with copied := img.take m.len, page := .copied }))) ∧
    (s.runs none = true → m.st = .host → m.page = .copying → exec (.imageCopyDone h none) s =
      .next ((s.bumpFld Reg.BAY_PAGE_FAIL_count).updModel h (fun m => { m with page := .none }))) ∧
    (m.page ≠ .copying → ∀ img, exec (.imageCopyDone h img) s = .next s) ∧
    (m.page ≠ .copied → exec (.digestVerdict h) s = .next s) ∧
    (s.runs none = true → m.st = .paging → m.page = .copied → sha384 m.copied = m.digest → ∃ t, exec (.digestVerdict h) s = .next t ∧
      (t.model h).image = m.copied ∧ (t.model h).page = .loading ∧ (t.model h).st = .paging ∧ modelsBut s t h ∧ t.regs = s.regs ∧
      (∀ p, m.plot = some p → (t.plot p).image = m.copied)) ∧
    (s.runs none = true → m.st = .paging → m.page = .copied → sha384 m.copied ≠ m.digest →
      exec (.digestVerdict h) s = .next ((s.bump Reg.BAY_DIGEST_FAIL).faultModel h 5)) ∧
    (s.runs none = true → m.st = .host → m.page = .copied → sha384 m.copied = m.digest → exec (.digestVerdict h) s =
      .next (s.updModel h (fun m => { m with image := m.copied, copied := [], page := .none, st := .hbm }))) ∧
    (∀ p, s.runs none = true → m.st = .paging → m.page = .loading → m.plot = some p → s.imageFenced p = true →
      exec (.pageInLoadsDone h) s = .next (s.pageFenced h p)) ∧
    (∀ p, s.runs none = true → m.st = .paging → m.page = .loading → m.plot = some p → s.imageFenced p = false →
      let check := if m.prev = .staged then none else loadCheck m.image (s.sliceBox h)
      (check = none → ∃ t, exec (.pageInLoadsDone h) s = .next t ∧ (t.model h).page = .adding ∧ (t.model h).st = .paging ∧
        (t.field (s.plot p).field).waiting = (s.field (s.plot p).field).waiting ++ [.add p] ∧ t.regs = s.regs) ∧
      (∀ code row, check = some (code, row) → exec (.pageInLoadsDone h) s =
        .next ((((s.setReg Reg.FAB_LOAD_STAT (BitVec.ofNat 64 (code ||| row <<< 4 ||| h <<< 16))).bump
          Reg.FAB_LOAD_REFUSED).bumpFld Reg.BAY_LOAD_FAIL_count).faultModel h 10)))

/-- R225 to R227, R235, R241, R244: dispatch, stalls, pins and revocation. -/
def Obligations.BayDispatchesAndRevokes : Prop :=
  (∀ (s : State) (m m2 : Model) (o : Bool) (r : Nat), s.pickRow m o = some (r, m2) →
    (∃ c, r ∈ s.classRows m c ∧ m2.q.get c = (m.q.get c).erase r) ∧
    (∀ c, c < 8 → s.strict c = true → (s.classRows m c).isEmpty = false →
      ∃ d, d ≤ c ∧ s.strict d = true ∧ (s.classRows m d).head? = some r)) ∧
  (∀ (h : Nat) (s : State),
    ((s.flag Reg.BAY_CTRL_enable && s.flag Reg.FAB_CTRL_enable) = false → exec (.rowPop h) s = .next s) ∧
    (s.popServing h = none → s.popJob h = none → exec (.rowPop h) s = .next s) ∧
    (∀ pi, s.servingPlot h = some pi → (s.plot pi).pass = true → s.popServing h = none) ∧
    (∀ pi r m2, s.runs none = true → s.flag Reg.BAY_CTRL_enable = true → s.flag Reg.FAB_CTRL_enable = true → s.servingPlot h = some pi →
      (s.model h).st = .resident → s.plotFree pi = true → s.pow.gate = 0 → s.strictGated = false →
      s.pickRow (s.model h) true = some (r, m2) → (s.plot pi).prog = none →
      ∃ t, exec (.rowPop h) s = .next t ∧ (t.plot pi).pass = true ∧ (t.plot pi).row = some r ∧ (t.row r).st = .taken ∧
        t.reg Reg.BAY_ROWS = s.reg Reg.BAY_ROWS + 1)) ∧
  (∀ (p : Nat) (s : State),
    let due := (s.plot p).used && (s.plot p).pass && !s.bay.revokes.contains (.plot p)
    ((due = false ∨ s.now ≤ (s.plot p).since + s.fld Reg.BAY_PLOT_STALL_ns) → exec (.plotStall p) s = .next s) ∧
    (s.runs none = true → due = true → (s.plot p).since + s.fld Reg.BAY_PLOT_STALL_ns < s.now → ∃ t, exec (.plotStall p) s = .next t ∧
      t.bay = { s.bay with revokes := s.bay.revokes ++ [.plot p] } ∧ t.reg Reg.BAY_STALL_REVOKE = s.reg Reg.BAY_STALL_REVOKE + 1 ∧
      t.reg Reg.BAY_REVOKE = s.reg Reg.BAY_REVOKE + 1 ∧ regsBut s t [Reg.BAY_STALL_REVOKE, Reg.BAY_REVOKE])) ∧
  (∀ (h : Nat) (s : State) (x : Nat), (s.model h).pinUntil = some x → (s.model h).pinned = true →
    (s.now ≤ x → exec (.pinExpiry h) s = .next s) ∧
    (x < s.now → s.runs none = true → ∃ t, exec (.pinExpiry h) s = .next t ∧ t.model h = { s.model h with pinned := false, pinUntil := none } ∧
      modelsBut s t h ∧ t.reg Reg.BAY_PIN_EXPIRED = s.reg Reg.BAY_PIN_EXPIRED + 1)) ∧
  (∀ s : State, (s.bay.revokes = [] → exec .revocationFence s = .next s) ∧
    (∀ p rest, s.runs none = true → s.bay.revokes = .plot p :: rest →
      exec .revocationFence s = .next ((s.updBay (fun b => { b with revokes := rest })).fencePlot p)) ∧
    (∀ f c rest, s.runs none = true → s.bay.revokes = .grant f c :: rest →
      exec .revocationFence s = .next ((s.updBay (fun b => { b with revokes := rest })).fenceGrant f c))) ∧
  (∀ (s : State) (p : Nat),
    let t := s.abandonPass p
    (t.plot p).pass = false ∧ (t.plot p).row = none ∧ (t.plot p).held = [] ∧ (t.plot p).backs = [] ∧ t.bay.slots = s.bay.slots ∧
    (∀ k ∈ t.fab.packets, k.plot ≠ p) ∧ (∀ r ∈ t.fab.reqs, r.plot ≠ p) ∧ (∀ c ∈ t.fab.credits, c.tile ∉ (s.plot p).tiles) ∧
    (∀ k ∈ (s.plot p).tiles, (t.tile k).phase = .off ∧ (t.tile k).nxt = none ∧ (t.tile k).acc = [])) ∧
  (∀ (v : Word) (s : State), s.busOk none →
    (4 < v.toNat % 8 → exec (.serveReserveWrite v) s = .next s) ∧
    (v.toNat % 8 ≤ 4 → (∀ f, f < 4 → s.grantee f = none) → ∃ t, exec (.serveReserveWrite v) s = .next t ∧
      t.fld Reg.BAY_SERVE_RESERVE_fields = v.toNat % 8 ∧ t.bay = s.bay) ∧
    (v.toNat % 8 ≤ s.fld Reg.BAY_SERVE_RESERVE_fields → v.toNat % 8 ≤ 4 → ∃ t, exec (.serveReserveWrite v) s = .next t ∧ t.bay = s.bay) ∧
    (∀ f, s.fld Reg.BAY_SERVE_RESERVE_fields < v.toNat % 8 → v.toNat % 8 ≤ 4 → s.servingFields.length + s.returning.length < v.toNat % 8 →
      f < 4 → (s.grantee f).isSome = true → s.grantGoing f = false → (∀ g, f < g → g < 4 → s.grantee g = none) →
      ∃ t, exec (.serveReserveWrite v) s = .next t ∧ .grant f 3 ∈ t.bay.revokes)) ∧
  (∀ s : State, s.busOk none →
    let m := s.model (s.fld Reg.BAY_CAT_SEL_handle)
    ∃ t, exec .bayCatRead s = .next t ∧ t.bay = s.bay ∧ bits (t.fld (Reg.BAY_CAT_DATA_word 0)) 2 0 = m.st.code ∧
      t.fld (Reg.BAY_CAT_DATA_word 6) = m.misses.toNat ∧ t.fld (Reg.BAY_CAT_DATA_word 7) = m.pageIns.toNat ∧
      t.fld (Reg.BAY_CAT_DATA_word 4) = m.lastUse.toNat % 2 ^ 32)

/-- R242 to R244, R260, R261: the adaptation commands. -/
def Obligations.AdaptationCommandsCheckInOrder : Prop :=
  ∀ (s : State) (b : List Byte) (n : Nat) (set map noise : HostData),
    let j := s.job n
    let r := s.domRights (byteAt b 53)
    (∀ e ∈ [(1, Instr.adpOpen .reg set map noise), (2, .adpRun .reg), (3, .adpStop .reg), (4, .adpClose .reg), (5, .adpRenew .reg)],
      (s.adpHolds e.1 n b → 3 < n → (e.1 ≤ 2 → s.flag Reg.ADP_CTRL_enable = true) →
        ∃ t, exec e.2 s = .next t ∧ t.adpAnswers 4 ∧ t.adp.jobs = s.adp.jobs) ∧
      (s.adpHolds e.1 n b → e.1 ≤ 2 → s.flag Reg.ADP_CTRL_enable = false →
        ∃ t, exec e.2 s = .next t ∧ t.adpAnswers 1 ∧ t.adp.jobs = s.adp.jobs) ∧
      (s.adpHolds e.1 n b → n ≤ 3 → e.1 ≠ 5 → (e.1 ≤ 2 → s.flag Reg.ADP_CTRL_enable = true) →
        j.st ≠ (if e.1 = 1 then 0 else if e.1 = 3 then 2 else 1) →
        ∃ t, exec e.2 s = .next t ∧ t.adpAnswers 2 ∧ t.adp.jobs = s.adp.jobs)) ∧
    (s.adpHolds 1 n b → s.flag Reg.ADP_CTRL_enable = true → n ≤ 3 → j.st = 0 →
      (s.openChecks b r set map noise ≠ 0 → ∃ t, exec (.adpOpen .reg set map noise) s = .next t ∧
        t.adpAnswers (s.openChecks b r set map noise) ∧ t.adp.jobs = s.adp.jobs) ∧
      (s.openChecks b r set map noise = 0 → ∃ t, exec (.adpOpen .reg set map noise) s = .next t ∧ t.adpAnswers 0 ∧ jobsBut s t n ∧
        (t.job n).st = 1 ∧ (t.job n).handle = le b 2 2 ∧ (t.job n).step = 0 ∧ (t.job n).tEpoch = 0 ∧ (t.job n).block = b ∧
        (∀ c ∈ (t.job n).mCode, c = 0))) ∧
    (s.adpHolds 2 n b → s.flag Reg.ADP_CTRL_enable = true → n ≤ 3 → j.st = 1 →
      let k := byteAt b 4
      let fields := (([3, 2, 1, 0].filter ((List.range 4).filter (fun f => (hdrMask (s.model j.handle).hdr).testBit f)).contains).filter s.placeable).take k
      ((k < 1 ∨ 4 < k ∨ le b 42 2 = 0) → ∃ t, exec (.adpRun .reg) s = .next t ∧ t.adpAnswers 4 ∧ t.adp.jobs = s.adp.jobs) ∧
      (1 ≤ k → k ≤ 4 → le b 42 2 ≠ 0 →
        (s.servingFields.length < k + s.fld Reg.BAY_SERVE_RESERVE_fields → ∃ t, exec (.adpRun .reg) s = .next t ∧ t.adpAnswers 8 ∧
          t.adp.jobs = s.adp.jobs) ∧
        (k + s.fld Reg.BAY_SERVE_RESERVE_fields ≤ s.servingFields.length → fields.length < k → ∃ t, exec (.adpRun .reg) s = .next t ∧
          t.adpAnswers 7 ∧ t.adp.jobs = s.adp.jobs) ∧
        (k + s.fld Reg.BAY_SERVE_RESERVE_fields ≤ s.servingFields.length → k ≤ fields.length →
          (s.lockedFit fields ((s.residentIn fields).filter s.locked) []).length < ((s.residentIn fields).filter s.locked).length →
          ∃ t, exec (.adpRun .reg) s = .next t ∧ t.adpAnswers 8 ∧ t.adp.jobs = s.adp.jobs ∧ t.fab = s.fab) ∧
        (k + s.fld Reg.BAY_SERVE_RESERVE_fields ≤ s.servingFields.length → k ≤ fields.length →
          (s.lockedFit fields ((s.residentIn fields).filter s.locked) []).length = ((s.residentIn fields).filter s.locked).length → j.order = [] →
          ∃ t, exec (.adpRun .reg) s = .next t ∧ t.adpAnswers 0 ∧ jobsBut s t n ∧ (t.job n).st = 2 ∧ (t.job n).toRun = le b 42 2 ∧
            (t.job n).ordering = true ∧ (t.job n).grants = fields.map (fun f => (f, s.grantEnd)) ∧
            (∀ f ∈ fields, (t.field f).leaving = some n)))) ∧
    (s.adpHolds 3 n b → n ≤ 3 → j.st = 2 → j.reduced = false → ∃ t, exec (.adpStop .reg) s = .next t ∧ t.adpAnswers 0 ∧ jobsBut s t n ∧
      (t.job n).st = 3 ∧ (t.job n).rows = [] ∧ (t.job n).acc = [] ∧ (t.job n).wCode = j.wCode ∧ (t.job n).step = j.step) ∧
    (s.adpHolds 4 n b → n ≤ 3 → j.st = 1 → ∃ t, exec (.adpClose .reg) s = .next t ∧ t.adpAnswers 0 ∧ t.job n = {} ∧ jobsBut s t n) ∧
    (s.adpHolds 5 n b → n ≤ 3 → ∃ t, exec (.adpRenew .reg) s = .next t ∧ t.adpAnswers 0 ∧ jobsBut s t n ∧
      t.job n = { j with grants := j.grants.map (fun g => if (∃ x, g.2 = some x ∧ x < s.now) then g else (g.1, s.grantEnd)) }) ∧
    (∀ f : Fin 4, (s.grantee f.val = none → exec (.grantExpiry f) s = .next s) ∧
      (∀ m x, s.grantee f.val = some m → (s.job m).grants.find? (fun g => g.1 == f.val) = some (f.val, some x) →
        (s.now ≤ x → exec (.grantExpiry f) s = .next s) ∧
        (x < s.now → s.bay.revokes = [] → exec (.grantExpiry f) s = .next (s.updBay (fun y => { y with revokes := [.grant f.val 4] })))))

/-- R246, R252, R254 to R257: a run of adaptation. -/
def Obligations.AdaptationBatchesAreReduced : Prop :=
  ∀ (n : Fin 4) (s : State),
    let j := s.job n.val
    ((j.st ≠ 2 ∨ j.ordering = false ∨ j.ckptDue = true) → exec (.epochOrderReady n) s = .next s) ∧
    (j.st = 2 → j.ordering = true → j.ckptDue = false → ∃ t, exec (.epochOrderReady n) s = .next t ∧ (t.job n.val).ordering = false ∧
      (t.job n.val).batch = 0 ∧ ((t.job n.val).order).Perm (List.range j.samples.length) ∧
      (j.aug 0 = false → (t.job n.val).order = List.range j.samples.length)) ∧
    (∀ i a l, ((j.st ≠ 2 ∨ j.wants i = false) → exec (.sampleDecode n i a l) s = .next s) ∧
      (j.st = 2 → j.wants i = true → exec (.sampleDecode n i none l) s = .next (s.endRun n.val 5))) ∧
    (∀ i a l, j.st = 2 → j.wants i = true →
      let x := j.sample i
      let r := s.domRights j.domain
      let y := atWorkRate x.rate (s.sfe.profiles.get j.profile).wrate (List.replicate 32 0) (decodeSamples x.codec (a.take x.len))
      let fits := s.cacheBytes + 2 * y.length ≤ s.fld Reg.ADP_CACHE_GIB_gib * 2 ^ 30
      x.len ≤ a.length → r.inWindow x.audio x.len false = true →
      (j.labelBytes = 0 ∨ (j.labelBytes ≤ l.length ∧ r.inWindow x.label j.labelBytes false = true)) →
      ∃ t, exec (.sampleDecode n i (some a) (some l)) s = .next t ∧ jobsBut s t n.val ∧ (t.job n.val).st = 2 ∧
        (t.job n.val).labels = j.labels ++ [(i, l.take j.labelBytes)] ∧
        (fits → (t.job n.val).cache = j.cache ++ [(i, y)] ∧ (t.job n.val).fresh = j.fresh) ∧
        (¬ fits → (t.job n.val).cache = j.cache ∧ (t.job n.val).fresh = j.fresh ++ [(i, y)]) ∧
        t.reg Reg.ADP_CACHE_MISS = s.reg Reg.ADP_CACHE_MISS + (if 0 < j.tEpoch then 1 else 0)) ∧
    (∀ c, (s.endRun n.val c).job n.val = { (s.endRun n.val c).job n.val with st := 1, cause := c, rows := [], ordering := false }) ∧
    (∀ row, (row ≠ j.nextReduce ∨ j.st ≠ 2) → exec (.gradientReduce n row) s = .next s) ∧
    (∀ row r, j.rows[row]? = some r → j.st = 2 → row = j.nextReduce → r.complete = true →
      ∃ t, exec (.gradientReduce n row) s = .next t ∧ (t.job n.val).nextReduce = row + 1 ∧ (t.job n.val).acc.length = j.acc.length ∧
        ((∀ x ∈ j.acc, -(2 ^ 47) ≤ x ∧ x ≤ 2 ^ 47 - 1) → ∀ x ∈ (t.job n.val).acc, -(2 ^ 47) ≤ x ∧ x ≤ 2 ^ 47 - 1) ∧
        (t.job n.val).wCode = j.wCode ∧ jobsBut s t n.val) ∧
    ((j.reduced = false ∨ (j.st ≠ 2 ∧ j.stopping = false)) → exec (.optimiserUpdate n) s = .next s) ∧
    (j.reduced = true → j.st = 2 → j.stopping = false → j.samples.length ≤ (j.batch + 1) * (j.batchRows * hdrMaxSpans (s.model j.handle).hdr) →
      ∃ t, exec (.optimiserUpdate n) s = .next t ∧ (t.job n.val).step = j.step + 1 ∧ (t.job n.val).rows = [] ∧
        (t.job n.val).tEpoch = j.tEpoch + 1 ∧ (t.job n.val).ckptDue = true ∧ (t.job n.val).toRun = j.toRun - 1 ∧
        (∀ c ∈ (t.job n.val).wCode, -32768 ≤ c ∧ c ≤ 32767) ∧ (∀ c ∈ (t.job n.val).mCode, -32768 ≤ c ∧ c ≤ 32767) ∧
        (∀ c ∈ (t.job n.val).sCode, -128 ≤ c ∧ c ≤ 127) ∧ (∀ c ∈ (t.job n.val).sNib, c ≤ 7) ∧
        t.reg Reg.ADP_BATCHES = s.reg Reg.ADP_BATCHES + 1) ∧
    (j.ckptDue = false → exec (.checkpointWrite n) s = .next s) ∧
    (j.ckptDue = true →
      let c := j.checkpoint n.val (j.ckpt + 1)
      let a := j.ckptAddr + (if (j.ckpt + 1) % 2 = 0 then c.length else 0)
      (j.toRun ≠ 0 → ∃ t, exec (.checkpointWrite n) s = .next t ∧ (t.job n.val).ckpt = j.ckpt + 1 ∧ (t.job n.val).ckptDue = false ∧
        ((j.st = 2) → (t.job n.val).ordering = true) ∧ t.reg Reg.ADP_CKPT = s.reg Reg.ADP_CKPT + 1 ∧
        ((s.domRights j.domain).inWindow a c.length true = true → (s.func (s.qp j.qpNo).func).busMaster = true →
          ∃ l, t.out = s.out ++ [.hostWrite (s.qp j.qpNo).func (a + 8) (c.drop 8) true, .hostWrite (s.qp j.qpNo).func a (c.take 8) false] ++ l)))

/-- R262, R264, R268, R269, R274, R278, R283: doorbells, fetch and moderation. -/
def Obligations.DoorbellsAndDescriptorFetch : Prop :=
  (∀ (f : Fin 128) (off size : Nat) (v : DWord) (s : State),
    ((s.reachable = false ∨ 4096 ≤ off ∨ (s.rst.coreReady = false ∧ (s.func f.val).d3hot = false)) → exec (.doorbell f off size v) s = .next s) ∧
    (s.reachable = true → off < 4096 → (s.func f.val).d3hot = true → exec (.doorbell f off size v) s = .next { s with out := s.out ++ [.aer f.val .unsupported] }) ∧
    (s.reachable = true → s.rst.coreReady = true → (s.func f.val).d3hot = false → off < 4096 →
      (¬ ((size = 8 ∧ off % 8 = 0) ∨ (size = 4 ∧ off % 4 = 0)) → exec (.doorbell f off size v) s = .next (s.bump Reg.HIF_DB_BAD)) ∧
      (((size = 8 ∧ off % 8 = 0) ∨ (size = 4 ∧ off % 4 = 0)) → s.localQp f.val (off / 8) = none →
        exec (.doorbell f off size v) s = .next (s.bump Reg.HIF_DB_IGNORED)) ∧
      (∀ q, size = 4 → off % 8 = 0 → s.localQp f.val (off / 8) = some q →
        ((s.qp q).sqSize ≤ v.toNat % 65536 → exec (.doorbell f off size v) s = .next (s.bump Reg.HIF_DB_BAD)) ∧
        (v.toNat % 65536 < (s.qp q).sqSize → exec (.doorbell f off size v) s =
          .next (s.updQp q (fun p => { p with sqTail := v.toNat % 65536 })))) ∧
      (∀ q, size = 4 → off % 8 = 4 → s.localQp f.val (off / 8) = some q → v.toNat % 65536 < (s.qp q).cqSize → bit v.toNat 16 = false →
        exec (.doorbell f off size v) s = .next (s.updQp q (fun p => { p with
          cqUsed := p.cqUsed - (v.toNat % 65536 + p.cqSize - p.cqHead) % p.cqSize, cqHead := v.toNat % 65536 }))) ∧
      (∀ q, size = 8 → off % 8 = 0 → s.localQp f.val (off / 8) = some q → exec (.doorbell f off size v) s =
        .next ((s.sqDoorbell q (v.toNat % 2 ^ 32)).cqDoorbell q (v.toNat / 2 ^ 32))))) ∧
  (∀ (q : Fin 16384) (s : State),
    let p := s.qp q.val
    (s.nextFetch ≠ some q.val → exec (.descriptorFetch q) s = .next s) ∧
    (s.nextFetch = some q.val → ∃ t n, exec (.descriptorFetch q) s = .next t ∧ 1 ≤ n ∧ n ≤ 8 ∧ n ≤ p.sqSize - p.sqHead ∧
      n ≤ (p.sqTail + p.sqSize - p.sqHead) % p.sqSize ∧ n + p.cqUsed + p.reserved ≤ p.cqSize ∧
      t.qp q.val = { p with inflight := n, readEpoch := p.epoch, reserved := p.reserved + n } ∧ qpsBut s t q.val ∧ t.hif.rrQp = q.val ∧
      t.out = s.out ++ [.hostRead p.func (p.sqBase + 64 * p.sqHead) (64 * n)] ∧ t.regs = s.regs)) ∧
  (∀ (q : Fin 16384) (s : State) (b : List Byte),
    let p := s.qp q.val
    (p.inflight = 0 → ∀ d, exec (.descriptorArrival q d) s = .next s) ∧
    (0 < p.inflight → (p.readEpoch ≠ p.epoch ∨ p.fenced = true) → ∀ d, exec (.descriptorArrival q d) s =
      .next (s.updQp q.val (fun p => { p with inflight := 0, reserved := p.reserved - p.inflight }))) ∧
    (0 < p.inflight → p.readEpoch = p.epoch → p.fenced = false → p.st = .active ∨ p.st = .draining → ∃ t, exec (.descriptorArrival q none) s = .next t ∧ (t.qp q.val).st = .error ∧
      (t.qp q.val).inflight = 0 ∧ (t.qp q.val).reserved = p.reserved - p.inflight ∧ (t.qp q.val).sqHead = p.sqHead) ∧
    (0 < p.inflight → p.readEpoch = p.epoch → p.fenced = false → p.st = .active → ∃ t, exec (.descriptorArrival q (some b)) s = .next t ∧ (t.qp q.val).inflight = 0 ∧
      (t.qp q.val).sqHead = (p.sqHead + p.inflight) % p.sqSize ∧ t.reg Reg.HIF_DESC = s.reg Reg.HIF_DESC + BitVec.ofNat 64 p.inflight ∧
      (∀ i, i < p.inflight → (t.desc (s.nextId + i)).bytes = slice b (64 * i) 64 ∧ (t.desc (s.nextId + i)).qp = q.val ∧
        (t.desc (s.nextId + i)).domEpoch = (s.hif.doms.get p.domain).ver))) ∧
  (∀ (r : Rights) (dom : Nat) (b : List Byte), (opKnown (byteAt b 0) = false → descCheck r dom b = 7) ∧
    ((byteAt b 0 = 0x14 → (byteAt b 1 = 0 ∨ 3 < byteAt b 1) → descCheck r dom b = 8) ∧
    ((byteAt b 0 = 0x1A ∨ byteAt b 0 = 0x1B) → (le b 16 4 = 0 ∨ 1048576 < le b 16 4) → descCheck r dom b = 8) ∧
    (byteAt b 0 = 0x22 → bit r.flags 2 = true → byteAt b 4 = 0 → descCheck r dom b = 8))) ∧
  (∀ (q : Fin 16384) (s : State),
    let p := s.qp q.val
    (p.firstAt = none → exec (.modTimerExpiry q) s = .next s) ∧
    (∀ x, p.firstAt = some x → (p.armed = false ∨ s.now < x + p.modNs) → exec (.modTimerExpiry q) s = .next s) ∧
    (∀ x, p.firstAt = some x → p.armed = true → x + p.modNs ≤ s.now → ∃ t, exec (.modTimerExpiry q) s = .next t ∧
      t.qp q.val = { p with armed := false, sinceArm := 0, firstAt := none } ∧ qpsBut s t q.val ∧
      ((s.hif.funcs.get p.func).busMaster = true → t.out = s.out ++ [.msix p.func p.vector])))

/-- R270, R280 to R284, R424: descriptors. -/
def Obligations.DescriptorsCompleteOnce : Prop :=
  (∀ (i k st len : Nat) (c v : DWord) (info h : Nat) (ph : Bool), (cqRecord i k st len c v info h ph).length = 32) ∧
  (∀ (p : Qp) (now : Nat), p.cqTail < p.cqSize → (p.wrote now).cqTail = (p.cqTail + 1) % p.cqSize ∧ (p.wrote now).cqUsed = p.cqUsed + 1 ∧
    (p.wrote now).phase = (if p.cqTail + 1 = p.cqSize then !p.phase else p.phase)) ∧
  (∀ (d : Nat) (s : State),
    let x := s.desc d
    let p := s.qp x.qp
    (∀ e ∈ [(0, Instr.descNop d), (1, .infer d), (2, .txFrame d), (3, .rxBuf d), (4, .counterDump d), (5, .commitRules d)],
      s.mayStart d e.1 = false → exec e.2 s = .next s) ∧
    (s.mayStart d x.op = false → exec (.adaptBatch d) s = .next s) ∧
    (s.mayStart d 0 = true → p.st = .active → p.armed = false → x.noCq = false → ∃ t, exec (.descNop d) s = .next t ∧
      (t.desc d).st = .done ∧ (t.qp x.qp).reserved = p.reserved - 1 ∧ t.out = s.out ++ [.hostWrite p.func (p.cqBase + 32 * p.cqTail)
        (cqRecord x.sqIndex 0 0 0 (BitVec.ofNat 64 (le x.bytes 8 8)) 0 0 p.sqHead p.phase) false]) ∧
    (s.mayStart d 0 = true → p.st = .active → x.noCq = true → ∃ t, exec (.descNop d) s = .next t ∧ (t.desc d).st = .done ∧
      t.out = s.out) ∧
    (s.mayStart d 1 = true → ∃ t, exec (.infer d) s = .next t ∧ t.desc d = { x with st := .reading s.now } ∧
      t.out = s.out ++ [.hostRead p.func (descAddr x.bytes) (descLen x.bytes)] ∧ t.regs = s.regs) ∧
    (s.mayStart d 2 = true → ∃ t, exec (.txFrame d) s = .next t ∧ t.desc d = { x with st := .reading s.now } ∧
      t.out = s.out ++ [.hostRead p.func (descAddr x.bytes) (descLen x.bytes)] ∧ t.regs = s.regs) ∧
    (s.mayStart d 3 = true → p.st = .active → ∃ t r, exec (.rxBuf d) s = .next t ∧ (t.desc d).st = .done ∧ t.out = s.out ∧
      t.qp x.qp = { p with rx := p.rx ++ [r] } ∧ r.addr = descAddr x.bytes ∧ r.len = descLen x.bytes ∧ r.sqIndex = x.sqIndex) ∧
    (s.mayStart d 4 = true → ∃ t data l, exec (.counterDump d) s = .next t ∧ (t.desc d).st = .done ∧
      t.out = s.out ++ [.hostWrite p.func (descAddr x.bytes) data true] ++ l ∧ data.length = 8 * le x.bytes 28 4 ∧ t.rul = s.rul) ∧
    (s.mayStart d 5 = true → s.rul.pending = none → s.rul.executing = none → s.rul.draining = none →
      ∃ t, exec (.commitRules d) s = .next t ∧ t.rul = { s.rul with executing := some (.desc d) } ∧ (t.desc d).st = .running) ∧
    (0x21 ≤ x.op → x.op ≤ 0x25 → s.mayStart d x.op = true →
      (b2n s.adp.latched.isSome + s.adp.cmds.length < 2 → ∃ t, exec (.adaptBatch d) s = .next t ∧
        t.adp = { s.adp with cmds := s.adp.cmds ++ [d] } ∧ (t.desc d).st = .running ∧ t.out = s.out) ∧
      (2 ≤ b2n s.adp.latched.isSome + s.adp.cmds.length → ∃ t, exec (.adaptBatch d) s = .next t ∧ t.adp = s.adp ∧ (t.desc d).st = .done)) ∧
    (∀ n, x.st = .reading n → s.descLive d = true →
      (∃ t, exec (.dmaReadCompletion d none) s = .next t ∧ (t.desc d).st = .done ∧ t.rul = s.rul ∧ t.mac = s.mac) ∧
      (∀ b, x.op = 1 → ∃ t i, exec (.dmaReadCompletion d (some b)) s = .next t ∧ t.rul.lookups = s.rul.lookups ++ [i] ∧
        (t.desc d).st = .running ∧ (t.seg i).desc = some d ∧ (t.seg i).st = .lookup ∧ (t.seg i).len = descLen x.bytes ∧
        (t.seg i).epoch = x.calEpoch ∧ (t.seg i).ns = byteAt x.bytes 48) ∧
      (∀ b, x.op = 2 → s.portUp (le x.bytes 2 2 % 16) = true → ∃ t e, exec (.dmaReadCompletion d (some b)) s = .next t ∧
        (t.port (le x.bytes 2 2 % 16)).egress = (s.port (le x.bytes 2 2 % 16)).egress ++ [e] ∧ e.rank = 5 ∧ (t.desc d).st = .running) ∧
      (s.now < n + 50000000 → exec (.completionTimeout d) s = .next s) ∧
      (n + 50000000 ≤ s.now → ∃ t l, exec (.completionTimeout d) s = .next t ∧ (t.desc d).st = .done ∧
        t.out = s.out ++ [.completionTimeout p.func] ++ l)) ∧
    (x.st = .waiting → exec (.completionTimeout d) s = .next s ∧ ∀ b, exec (.dmaReadCompletion d b) s = .next s))

/-- R264 to R266, R269, R271, R286, R290, R422: queue pairs and functions. -/
def Obligations.QueuePairCommandsAndFences : Prop :=
  (∀ (q : Fin 16384) (s : State), s.busOk none →
    let p := s.qp q.val
    let ends (t : State) (st : Nat) : Prop := t.fld Reg.HIF_QP_STAT_status = st ∧ t.flag Reg.HIF_QP_STAT_done = true ∧ qpsBut s t q.val
    (s.flag Reg.HIF_QP_STAT_done = false → ∀ c ∈ [Instr.qpCreate q, .qpDestroy q, .qpRevoke q, .qpSetBase q, .qpSetMod q, .qpRead q],
      exec c s = .next (s.setFld Reg.HIF_QP_STAT_status 1)) ∧
    (s.flag Reg.HIF_QP_STAT_done = true →
      (p.st ≠ .free → ∃ t, exec (.qpCreate q) s = .next t ∧ ends t 4 ∧ t.hif = s.hif) ∧
      (p.st = .free → (∀ c ∈ s.hif.qps.cells, c.2.st = .free) →
        let ok := ringSizeOk (bits (s.qpData 5) 16 0) && ringSizeOk (bits (s.qpData 6) 16 0)
        (ok = false → ∃ t, exec (.qpCreate q) s = .next t ∧ ends t 2 ∧ t.hif = s.hif) ∧
        (ok = true → s.basesOk = false → ∃ t, exec (.qpCreate q) s = .next t ∧ ends t 3 ∧ t.hif = s.hif) ∧
        (ok = true → s.basesOk = true → s.modOk (bits (s.qpData 0) 6 0) = false → ∃ t, exec (.qpCreate q) s = .next t ∧ ends t 6 ∧
          t.hif = s.hif) ∧
        (ok = true → s.basesOk = true → s.modOk (bits (s.qpData 0) 6 0) = true → ∃ t, exec (.qpCreate q) s = .next t ∧ ends t 0 ∧
          (t.qp q.val).st = .active ∧ (t.qp q.val).func = bits (s.qpData 0) 6 0 ∧ (t.qp q.val).loc = bits (s.qpData 0) 15 7 ∧
          (t.qp q.val).domain = bits (s.qpData 0) 23 16 ∧ (t.qp q.val).sqHead = 0 ∧ (t.qp q.val).sqTail = 0 ∧ (t.qp q.val).cqUsed = 0 ∧
          (t.qp q.val).sqSize = bits (s.qpData 5) 16 0 ∧ (t.qp q.val).epoch = p.epoch ∧ (t.qp q.val).sqBase % 4096 = 0)) ∧
      (p.st = .free → ∀ c ∈ [Instr.qpDestroy q, .qpRevoke q, .qpSetBase q, .qpSetMod q],
        ∃ t, exec c s = .next t ∧ ends t 5 ∧ t.hif = s.hif) ∧
      (p.st = .active → s.openDescs q.val ≠ [] → ∃ t, exec (.qpDestroy q) s = .next t ∧ ends t 0 ∧ t.qp q.val = { p with st := .draining }) ∧
      (p.st = .active → s.openDescs q.val = [] → p.inflight = 0 → p.rx = [] → ∃ t, exec (.qpDestroy q) s = .next t ∧ ends t 0 ∧
        (t.qp q.val).st = .free) ∧
      (p.st ≠ .free → ∃ t, exec (.qpRevoke q) s = .next t ∧ ends t 0 ∧ t.qp q.val = { p with epoch := p.epoch + 1, fenced := true }) ∧
      (p.st ≠ .free → s.basesOk = true → ∃ t, exec (.qpSetBase q) s = .next t ∧ ends t 0 ∧
        t.qp q.val = { p with sqBase := s.qpBases.1, cqBase := s.qpBases.2 }) ∧
      (p.st ≠ .free → s.modOk p.func = true → ∃ t, exec (.qpSetMod q) s = .next t ∧ ends t 0 ∧ t.qp q.val = s.withMod p) ∧
      (∃ t, exec (.qpRead q) s = .next t ∧ ends t 0 ∧ t.hif = s.hif ∧ t.qpData 5 = p.sqSize % 2 ^ 64 ∧ t.qpData 1 = p.sqBase % 2 ^ 32))) ∧
  (∀ (q : Fin 16384) (s : State), ((s.qp q.val).fenced = false → exec (.qpFenceDrained q) s = .next s) ∧
    ((s.qp q.val).fenced = true → ∃ t, exec (.qpFenceDrained q) s = .next t ∧ (t.qp q.val).st = .free ∧ (t.qp q.val).fenced = false ∧
      (t.qp q.val).rx = [] ∧ (t.qp q.val).cqUsed = (s.qp q.val).cqUsed ∧ (∀ d ∈ s.openDescs q.val, (t.desc d).st = .done))) ∧
  (∀ (v : Fin 128) (s : State), (v.val = 0 → exec (.vfFlr v) s = .next s) ∧
    (v.val ≠ 0 → s.hif.qps.wf = true → ∃ t, exec (.vfFlr v) s = .next t ∧
      (∀ q ∈ s.hif.qps.keys, (s.qp q).func = v.val → (s.qp q).st ≠ .free → (s.qp q).fenced = false →
        (t.qp q).fenced = true ∧ (t.qp q).epoch = (s.qp q).epoch + 1) ∧
      (∀ q, (s.qp q).func ≠ v.val → (t.qp q).fenced = (s.qp q).fenced ∧ (t.qp q).epoch = (s.qp q).epoch ∧ (t.qp q).st = (s.qp q).st))) ∧
  (∀ (f : Fin 128) (on : Bool) (s : State),
    (∃ t, exec (.busMasterChange f on) s = .next t ∧ t.func f.val = { s.func f.val with busMaster := on } ∧
      (∀ g, g ≠ f.val → t.func g = s.func g) ∧
      t.out = s.out ++ (if on then (s.hif.blocked.filter (fun b => b.func == f.val && s.heldLive b)).map (·.out) else []) ∧
      t.hif.blocked = (if on then s.hif.blocked.filter (fun b => b.func != f.val) else s.hif.blocked)) ∧
    (∃ t, exec (.d3hotTransition f on) s = .next t ∧ t.func f.val = { s.func f.val with d3hot := on } ∧
      (∀ g, g ≠ f.val → t.func g = s.func g) ∧ t.hif.qps = s.hif.qps ∧ t.out = s.out))

/-- R272 to R275: protection domains. -/
def Obligations.DomainEpochsChangeRightsAtOnce : Prop :=
  (∀ (v : Word) (s : State), s.busOk none →
    let i := s.fld Reg.HIF_DOM_SEL_domain
    let d := s.hif.doms.get i
    let w : EpochWrite := ⟨v.toNat % 65536, bit v.toNat 16, d.staged⟩
    (d.pending = none → d.starting = none → d.draining = false →
      exec (.domainEpochWrite v) s = .next (s.updDom i (fun d => { d with starting := some w }))) ∧
    (d.pending = none → (d.starting.isSome = true ∨ d.draining = true) → w.abort = false →
      exec (.domainEpochWrite v) s = .next (s.updDom i (fun d => { d with pending := some w }))) ∧
    (d.pending.isSome = true → exec (.domainEpochWrite v) s = .next (s.updDom i (fun d => { d with busy := true })))) ∧
  (∀ (i : Fin 256) (s : State),
    let d := s.hif.doms.get i.val
    (d.starting = none → exec (.epochInForce i) s = .next s) ∧
    (∀ w, d.starting = some w → w.abort = false → ∃ t, exec (.epochInForce i) s = .next t ∧
      (t.hif.doms.get i.val).rights = w.rights ∧ (t.hif.doms.get i.val).epoch = w.epoch ∧ (t.hif.doms.get i.val).ver = d.ver + 1 ∧
      (t.hif.doms.get i.val).draining = true ∧ (t.hif.doms.get i.val).starting = none ∧
      (∀ x : Desc, x.domain = i.val → x.domEpoch = d.ver → t.rightsOf x = d.rights) ∧
      (∀ x : Desc, x.domain = i.val → x.domEpoch = d.ver + 1 → t.rightsOf x = w.rights) ∧
      (∀ j, j ≠ i.val → t.hif.doms.get j = s.hif.doms.get j) ∧ t.hif.descs = s.hif.descs) ∧
    (∀ w, d.starting = some w → s.bay.slots.wf = true → ∃ t, exec (.epochInForce i) s = .next t ∧
      ∀ k, t.bay.slots.get k = if w.abort = true ∧ (s.bay.slots.get k).domain = i.val then
        { s.bay.slots.get k with epoch := (s.bay.slots.get k).epoch + 1 } else s.bay.slots.get k)) ∧
  (∀ (i : Fin 256) (s : State),
    let d := s.hif.doms.get i.val
    ((d.draining = false ∨ s.domHeld i.val = true) → exec (.domainDrained i) s = .next s) ∧
    (d.draining = true → s.domHeld i.val = false → exec (.domainDrained i) s = .next (s.updDom i.val (fun d =>
      { d with draining := false, old := [], starting := d.pending, pending := none }))))

/-- R45, R288, R337, R350, R351, R362, R377: the Sage mailbox. -/
def Obligations.SageMailboxRunsOneCommand : Prop :=
  (∀ (s : State) (im : HostData), s.hif.mbox = none → ∀ c ∈ [Instr.getInfo, .getSensors, .ledgerRead, .hbKick, .capsuleClear, .optionWrite im,
    .fwStage im, .mailboxComplete], exec c s = .next s) ∧
  (∀ s : State, s.sensorBytes.length = 64 ∧ (leWords 16 s.sensorBytes).length = 16) ∧
  (∀ (s : State) (m : Mbox) (im : HostData),
    (s.mboxAt 1 m → ∃ t a b c, exec .getInfo s = .next t ∧ t.mboxHas 0 [a, b, c] ∧ a = s.wreg Reg.SAG_FW_VER ∧ c = s.wreg Reg.GLB_FUSE_VER ∧
      t.regs = s.regs) ∧
    (s.mboxAt 2 m → ∃ t, exec .getSensors s = .next t ∧ t.mboxHas 0 (leWords 16 s.sensorBytes) ∧ t.regs = s.regs) ∧
    (s.mboxAt 3 m → (m.arg 1 < 512 → ∃ t, exec .ledgerRead s = .next t ∧
      t.mboxHas 0 (leWords 16 (flashBytes s.rst.flash.ledgerHalf (64 * m.arg 1) 64)) ∧ t.rst = s.rst) ∧
      (512 ≤ m.arg 1 → ∃ t, exec .ledgerRead s = .next t ∧ t.mboxHas 2 [])) ∧
    (s.mboxAt 4 m → ∃ t, exec .hbKick s = .next t ∧ t.mboxHas 0 [] ∧ t.regs = s.regs ∧
      (∀ k, k < 8 → (t.pair k).hbKick = bit (m.arg 1) k ∧ (t.pair k).hbKickAt = s.now ∧ (t.pair k).st = (s.pair k).st ∧
        (bit (m.arg 1) k = true → s.flag (Reg.MAC_PAIR_CTRL_hb_src k) = true → (t.pair k).lastKick = some s.now) ∧
        (bit (m.arg 1) k = false → (t.pair k).lastKick = (s.pair k).lastKick))) ∧
    (s.mboxAt 5 m → ∃ t, exec .capsuleClear s = .next t ∧ t.mboxHas 0 [] ∧ t.rst.flash = { s.rst.flash with capsule := [] }) ∧
    (∀ c limit, (c = 6 ∧ limit = 65536) ∨ (c = 7 ∧ limit = 2097152) → s.mboxAt c m →
      let i : Instr := if c = 6 then .optionWrite im else .fwStage im
      let win := (s.domRights (m.arg 0 % 256)).inWindow (m.arg 2 + 4294967296 * m.arg 3) (m.arg 4) false
      ((m.arg 4 = 0 ∨ limit < m.arg 4) → ∃ t, exec i s = .next t ∧ t.mboxHas 2 [] ∧ t.rst = s.rst) ∧
      (0 < m.arg 4 → m.arg 4 ≤ limit → ((s.phase ≠ 8 ∧ win = false) ∨ im = none) → ∃ t, exec i s = .next t ∧ t.mboxHas 3 [] ∧ t.rst = s.rst)) ∧
    (∀ b, s.mboxAt 6 m → 0 < m.arg 4 → m.arg 4 ≤ 65536 → im = some b →
      (s.domRights (m.arg 0 % 256)).inWindow (m.arg 2 + 4294967296 * m.arg 3) (m.arg 4) false = true →
      ∃ t, exec (.optionWrite im) s = .next t ∧ t.mboxHas 0 [] ∧
        (s.fld Reg.RST_OPT_STAT_source = 1 → t.rst.flash = { s.rst.flash with optB := [] } ∧ ∃ x w, t.hif.mbox = some x ∧ x.writing = some w ∧
          w = patch (fit b (m.arg 4)) 4 (toLe 4 (flashNat s.rst.flash.optA 4 4 + 1))) ∧
        (s.fld Reg.RST_OPT_STAT_source = 2 → t.rst.flash = { s.rst.flash with optA := [] })) ∧
    (∀ b, s.mboxAt 7 m → 0 < m.arg 4 → m.arg 4 ≤ 2097152 → im = some b →
      (s.phase = 8 ∨ (s.domRights (m.arg 0 % 256)).inWindow (m.arg 2 + 4294967296 * m.arg 3) (m.arg 4) false = true) →
      ∃ t x, exec (.fwStage im) s = .next t ∧ t.mboxHas 0 [] ∧ t.hif.mbox = some x ∧ x.writing = some (fit b (m.arg 4)) ∧
        (s.flag Reg.RST_FW_STAT_rom_only = false → s.fld Reg.RST_FW_STAT_slot = 1 → t.rst.flash = { s.rst.flash with fwA := [] }) ∧
        (s.flag Reg.RST_FW_STAT_rom_only = false → s.fld Reg.RST_FW_STAT_slot = 0 → t.rst.flash = { s.rst.flash with fwB := [] })) ∧
    (s.hif.mbox = some m → s.rst.fwStopped = false → s.mboxKnown m.code = true → m.waits = true → exec .mailboxComplete s = .next s) ∧
    (s.hif.mbox = some m → s.rst.fwStopped = false → (s.mboxKnown m.code = false ∨ m.waits = false) → m.status < 16 →
      ∃ t, exec .mailboxComplete s = .next t ∧ t.hif.mbox = none ∧ t.flag Reg.SAG_MBOX_STAT_busy = false ∧
        t.fld Reg.SAG_MBOX_STAT_status = (if s.mboxKnown m.code then m.status else 1) ∧
        (∀ j, j < 16 → t.fld (Reg.SAG_MBOX_RSP_rsp j) = (wordAt m.rsp j).toNat) ∧
        (s.flag Reg.SAG_MBOX_VEC_enable = true → (s.hif.funcs.get 0).busMaster = true →
          t.out = s.out ++ [.msix 0 (s.fld Reg.SAG_MBOX_VEC_vector)]) ∧
        (s.flag Reg.SAG_MBOX_VEC_enable = false → t.out = s.out))) ∧
  (∀ s : State, (s.rst.fwStopped = true → exec .hbKickTick s = .next s) ∧
    (s.rst.fwStopped = false → ∃ t, exec .hbKickTick s = .next t ∧ t.regs = s.regs ∧
      ∀ k, k < 8 → ((s.pair k).hbKick = true → (s.pair k).hbKickAt + 25000000 ≤ s.now → (t.pair k).hbKickAt = s.now) ∧
        (((s.pair k).hbKick = false ∨ s.now < (s.pair k).hbKickAt + 25000000) → t.pair k = s.pair k)))

/-- R293 to R298, R300, R304, R305: the link layer. -/
def Obligations.LinksReplayAndTrain : Prop :=
  (∀ (l : Fin 16) (n : Nat) (ok : Bool) (b : List Byte) (s : State),
    let k := s.link l.val
    let answer := Output.linkFrame l.val (linkFrame k.txSeq k.rxSeq true k.giving [])
    let refused (t : State) : Prop := (t.link l.val).rxSeq = k.rxSeq ∧
      (if k.retry.length < 64 then t.out = s.out ++ [answer] ∧ (t.link l.val).retry = k.retry ++ [⟨k.txSeq, [], k.giving⟩] ∧ (t.link l.val).txSeq = k.txSeq + 1
        else t.out = s.out ∧ t.link l.val = { k with nak := true }) ∧ t.reg (Reg.OSL_FEC_CORR l.val) = s.reg (Reg.OSL_FEC_CORR l.val) + BitVec.ofNat 64 n ∧ t.fab = s.fab ∧
      t.reg (Reg.OSL_FRAMES_RX l.val) = s.reg (Reg.OSL_FRAMES_RX l.val)
    (k.st ≠ 2 → exec (.linkFrameRx l n ok b) s = .next s) ∧
    (k.st = 2 → s.pow.devWaking = none →
      (∃ t, exec (.linkFrameRx l n false b) s = .next t ∧ refused t ∧ t.reg (Reg.OSL_FEC_UNCORR l.val) = s.reg (Reg.OSL_FEC_UNCORR l.val) + 1) ∧
      (be (fit b 512) 496 4 ≠ crc32c ((fit b 512).take 496) → ∃ t, exec (.linkFrameRx l n true b) s = .next t ∧ refused t ∧
        t.reg (Reg.OSL_CRC_ERR l.val) = s.reg (Reg.OSL_CRC_ERR l.val) + 1) ∧
      (be (fit b 512) 496 4 = crc32c ((fit b 512).take 496) → be (fit b 512) 0 4 ≠ (k.rxSeq + 1).toNat →
        ∃ t, exec (.linkFrameRx l n true b) s = .next t ∧ refused t) ∧
      (be (fit b 512) 496 4 = crc32c ((fit b 512).take 496) → be (fit b 512) 0 4 = (k.rxSeq + 1).toNat → byteAt (fit b 512) 8 = 0 →
        byteAt (fit b 512) 9 = 0 → k.waiting = [] → s.nothingToReturn → ∃ t, exec (.linkFrameRx l n true b) s = .next t ∧ t.out = s.out ∧ t.fab = s.fab ∧
          (t.link l.val).rxSeq = k.rxSeq + 1 ∧ (t.link l.val).retry = (k.ack (BitVec.ofNat 32 (be (fit b 512) 4 4)) s.now).retry ∧
          t.reg (Reg.OSL_FRAMES_RX l.val) = s.reg (Reg.OSL_FRAMES_RX l.val) + 1))) ∧
  (∀ (k : LinkSt) (a : Word) (now : Nat) (x : TxLink) (xs ys : List TxLink), k.retry = xs ++ x :: ys → x.seq = a → (∀ z ∈ xs, z.seq ≠ a) →
    (k.ack a now).retry = ys ∧ (k.ack a now).replays = 0 ∧ (k.ack a now).progress = now) ∧
  (∀ (l : Fin 16) (s : State),
    let k := s.link l.val
    ((k.st ≠ 2 ∨ k.retry = [] ∨ s.now < k.progress + 2000) → exec (.replayTimeout l) s = .next s) ∧
    (k.st = 2 → k.retry ≠ [] → k.progress + 2000 ≤ s.now →
      (k.replays + 1 < 16 → ∃ t, exec (.replayTimeout l) s = .next t ∧ t.out = s.out ++ k.retry.map (fun x =>
          Output.linkFrame l.val (linkFrame x.seq k.rxSeq k.nak x.freed x.recs)) ∧ t.link l.val = { k with replays := k.replays + 1, progress := s.now, nak := false } ∧
        t.reg (Reg.OSL_REPLAY l.val) = s.reg (Reg.OSL_REPLAY l.val) + 1) ∧
      (15 ≤ k.replays → ∃ t, exec (.replayTimeout l) s = .next t ∧ t.out = s.out ∧ (t.link l.val).st = 3 ∧ (t.link l.val).retry = k.retry ∧
        t.reg (Reg.OSL_REPLAY l.val) = s.reg (Reg.OSL_REPLAY l.val) + 1 ∧ t.reg (Reg.OSL_RETRAIN l.val) = s.reg (Reg.OSL_RETRAIN l.val) + 1))) ∧
  (∀ (g : BitVec 4), (lanesFor g).1 = (if g = 15 then 3 else if g &&& 3 = 3 ∨ g &&& 12 = 12 then 2 else if g = 0 then 0 else 1) ∧
    (lanesFor g).2 &&& g = (lanesFor g).2) ∧
  (∀ (l : Fin 16) (lanes : BitVec 4) (p : PeerIdent) (s : State),
    let k := s.link l.val
    let w := lanesFor (lanes &&& p.lanes)
    (k.st ≠ 1 → exec (.linkTrained l lanes p) s = .next s) ∧
    (k.st = 1 → k.retry = [] → k.waiting = [] → s.noneHeld l.val →
      (w.1 = 0 → exec (.linkTrained l lanes p) s = .next (s.updLink l.val (fun _ => { st := 4, fail := 1, failedAt := s.now, era := k.era + 1 }))) ∧
      (w.1 ≠ 0 → s.peerOk l.val p = false →
        exec (.linkTrained l lanes p) s = .next (s.updLink l.val (fun _ => { st := 4, fail := 2, failedAt := s.now, era := k.era + 1 }))) ∧
      (w.1 ≠ 0 → s.peerOk l.val p = true → ∃ t, exec (.linkTrained l lanes p) s = .next t ∧ t.out = s.out ∧ t.regs = s.regs ∧
        t.link l.val = { st := 2, width := w.1, lanes := w.2, good := lanes, era := k.era, peer := some p.addr, progress := s.now }))) ∧
  (∀ (l : Fin 16) (i : Fin 4) (peer : BitVec 4) (s : State),
    let k := s.link l.val
    let rest := k.good &&& ~~~ (BitVec.ofNat 4 (1 <<< i.val))
    let w := lanesFor (k.good &&& peer)
    (k.st ≠ 2 → k.st ≠ 3 → exec (.laneBad l i) s = .next s ∧ exec (.linkSignalLoss l) s = .next s) ∧
    (k.good.getLsbD i.val = false → exec (.laneBad l i) s = .next s) ∧
    (k.st = 2 → k.good.getLsbD i.val = true → exec (.laneBad l i) s = .next ((s.updLink l.val (fun x => { x with good := rest, st := 3, replays := 0 })).bump (Reg.OSL_RETRAIN l.val))) ∧
    (k.st ≠ 3 → exec (.linkRetrained l peer) s = .next s) ∧
    (k.st = 3 → w.1 ≠ 0 → k.waiting = [] → s.nothingToReturn → ∃ t, exec (.linkRetrained l peer) s = .next t ∧ (t.link l.val).st = 2 ∧ (t.link l.val).width = w.1 ∧
      (t.link l.val).lanes = w.2 ∧ (t.link l.val).good = k.good ∧ (t.link l.val).retry = k.retry ∧ t.out = s.out ++ k.retry.map (fun x =>
        Output.linkFrame l.val (linkFrame x.seq k.rxSeq k.nak x.freed x.recs))) ∧
    (k.st = 3 → w.1 = 0 → k.retry = [] → k.waiting = [] → s.noneHeld l.val → exec (.linkRetrained l peer) s = .next ((s.updLink l.val (fun _ =>
      { st := 4, fail := 4, failedAt := s.now, era := k.era + 1 })).bump (Reg.OSL_DOWN l.val))) ∧
    ((k.st = 2 ∨ k.st = 3) → k.retry = [] → k.waiting = [] → s.noneHeld l.val → exec (.linkSignalLoss l) s = .next ((s.updLink l.val (fun _ =>
      { st := 4, fail := 1, failedAt := s.now, era := k.era + 1 })).bump (Reg.OSL_DOWN l.val))) ∧
    ((k.st ≠ 4 ∨ s.now < k.failedAt + s.fld Reg.OSL_RETRY_NS_ns) → exec (.linkRetry l) s = .next s) ∧
    (k.st = 4 → k.failedAt + s.fld Reg.OSL_RETRY_NS_ns ≤ s.now → exec (.linkRetry l) s = .next (s.updLink l.val (fun x => { x with st := 1 }))) ∧
    (s.busOk (some 6) → (k.st = 2 → exec (.linkRetrainRequest l) s = .next ((s.updLink l.val (fun x =>
      { x with good := 15, st := 3, replays := 0 })).bump (Reg.OSL_RETRAIN l.val))) ∧ (k.st ≠ 2 → exec (.linkRetrainRequest l) s = .next s))) ∧
  (∀ (d : Fin 3) (plus : Bool) (s : State),
    let i := dirIndex d.val (!plus)
    ((s.osl.dirs.get i).links = s.activeLinks d.val (!plus) → (s.osl.dirs.get i).heldBack = [] → exec (.linkSetSwitch d plus) s = .next s) ∧
    (s.dirQuiet i = false → exec (.linkSetSwitch d plus) s = .next s) ∧
    ((s.osl.dirs.get i).links ≠ s.activeLinks d.val (!plus) → s.dirQuiet i = true → (s.osl.dirs.get i).heldBack = [] → s.nothingToReturn → ∃ t,
      exec (.linkSetSwitch d plus) s = .next t ∧ (t.osl.dirs.get i).links = s.activeLinks d.val (!plus) ∧ t.osl.links = s.osl.links ∧ t.out = s.out) ∧
    (∀ c, (s.osl.dirs.get i).heldBack = [c] → s.dirQuiet i = true → s.activeLinks d.val (!plus) = [] →
      (s.route (some d.val) c.r).1 = .undeliverable → ∃ t, exec (.linkSetSwitch d plus) s = .next t ∧ (t.osl.dirs.get i).heldBack = [] ∧
        t.reg Reg.OSL_UNDELIVERABLE = s.reg Reg.OSL_UNDELIVERABLE + 1)) ∧
  (∀ (from' : Option Nat) (r : OslRec) (s : State),
    ((∀ k, k < 3 → chipCoord s.me k = chipCoord r.dst k) → s.route from' r = (.localChip, r, false)) ∧
    (∀ d m q det, s.route from' r = (.dir d m, q, det) → chipCoord s.me d ≠ chipCoord r.dst d ∧
      (∀ k, k < d → chipCoord s.me k = chipCoord r.dst k) ∧ s.activeLinks d m ≠ [] ∧ q.data = r.data))

/-- R309 to R316, R318, R125, R301: floods, notices and program entries. -/
def Obligations.FloodsNoticesAndPrograms : Prop :=
  (∀ (i : Nat) (s : State), s.osl.arrived[i]? = none → exec (.progAbort i) s = .next s ∧ exec (.chipAbsent i) s = .next s ∧
    exec (.passNotice i) s = .next s ∧ exec (.spanNotice i) s = .next s ∧ exec (.verdict i) s = .next s) ∧
  (∀ (i : Nat) (s : State) (r : OslRec), s.osl.arrived[i]? = some r →
    let less : OslSt := { s.osl with arrived := s.osl.arrived.eraseIdx i }
    let p := bits r.data.toNat 123 120
    let g := bits r.data.toNat 119 112
    (r.kind = 4 →
      ((p, g) ∈ s.osl.abortsSeen → exec (.progAbort i) s = .next { s with osl := less }) ∧
      ((p, g) ∉ s.osl.abortsSeen → (∀ l, l < 16 → (s.link l).st ≠ 2) →
        (¬ ((s.prog p).st ≠ 0 ∧ (s.prog p).gen = g) →
          exec (.progAbort i) s = .next { s with osl := { less with abortsSeen := s.osl.abortsSeen ++ [(p, g)] } }) ∧
        ((s.prog p).st ≠ 0 → (s.prog p).gen = g → s.slicePlot p = none → (s.prog p).notices = [] → ∃ t,
          exec (.progAbort i) s = .next t ∧ (t.prog p).st = (if (s.prog p).st = 3 then 3 else 2) ∧ (t.prog p).gen = (g + 1) % 256 ∧
          (t.prog p).since = (if (s.prog p).st = 3 then (s.prog p).since else s.now) ∧
          t.reg Reg.OSL_PROG_ABORT = s.reg Reg.OSL_PROG_ABORT + 1 ∧ (∀ q, q ≠ p → t.prog q = s.prog q) ∧ t.osl.arrived = less.arrived))) ∧
    (r.kind = 5 → (bits r.data.toNat 126 112, bits r.data.toNat 111 80) ∉ s.osl.absentSeen → (∀ l, l < 16 → (s.link l).st ≠ 2) →
      (∀ q, q < 16 → s.homeChip (s.prog q) ≠ s.me) → ∃ t, exec (.chipAbsent i) s = .next t ∧ t.osl.arrived = less.arrived ∧
        ∀ q, q < 16 → t.prog q = (if ((s.prog q).st = 1 ∨ (s.prog q).st = 2) ∧ s.inBox (s.prog q) (bits r.data.toNat 126 112) = true then
          { s.prog q with st := 3 } else s.prog q)) ∧
    (r.kind = 1 →
      let n := bits r.data.toNat 79 76
      let e := bits r.data.toNat 95 80
      ((s.prog n).st ≠ 1 ∨ (s.prog n).gen % 16 ≠ r.gen → exec (.passNotice i) s = .next ((s.updOsl (fun _ => less)).bump Reg.OSL_STALE_GEN)) ∧
      ((s.prog n).st = 1 → (s.prog n).gen % 16 = r.gen → e ∉ s.liveEpochs →
        exec (.passNotice i) s = .next (((s.updOsl (fun _ => less)).bump Reg.OSL_EPOCH_MISS).raiseAbort n)) ∧
      ((s.prog n).st = 1 → (s.prog n).gen % 16 = r.gen → e ∈ s.liveEpochs →
        (s.slicePlot n = none → exec (.passNotice i) s = .next s) ∧
        (∀ q, s.slicePlot n = some q → s.sliceFree q = false → exec (.passNotice i) s = .next s) ∧
        (∀ q, s.slicePlot n = some q → s.sliceFree q = true →
          exec (.passNotice i) s = .next ((s.updOsl (fun _ => less)).beginPass q none e (bits r.data.toNat 127 96) [])))) ∧
    (r.kind = 2 → bit r.hdr.toNat 36 = false → exec (.spanNotice i) s = .next ((s.updOsl (fun _ => less)).updProg (bits r.hdr.toNat 35 32)
      (fun x => { x with notices := x.notices ++ [{ first := r }] }))) ∧
    (r.kind = 3 →
      let k := s.remoteBundle (BitVec.ofNat 64 (bits r.data.toNat 127 64)) (BitVec.ofNat 32 (bits r.data.toNat 63 32)) (BitVec.ofNat 32 (bits r.data.toNat 31 0))
      (k = none → exec (.verdict i) s = .next { s with osl := less }) ∧
      (∀ b, k = some b → (s.bundle b).verdict = some .verdictLost → exec (.verdict i) s = .next ((s.updOsl (fun _ => less)).bump Reg.ERP_VERDICT_LATE)) ∧
      (∀ b, k = some b → (s.bundle b).verdict = none → ∃ t, exec (.verdict i) s = .next t ∧ t.osl = less ∧
        (t.bundle b).verdict = some (if bits r.hdr.toNat 31 24 = 1 then .fcsBad else if bits r.hdr.toNat 31 24 = 2 then .truncated else .none) ∧
        (t.bundle b).rcond = bits r.hdr.toNat 17 16 ∧ (t.bundle b).rfirst = bits r.hdr.toNat 15 8))) ∧
  (∀ (s : State) (p : Nat), (s.raiseAbort p).osl.arrived.length = s.osl.arrived.length + 1 ∧ (s.raiseAbort p).regs = s.regs) ∧
  (∀ (p : Fin 16) (s : State),
    ((s.prog p.val).st ≠ 2 ∨ s.now < (s.prog p.val).since + 2 * s.fld Reg.OSL_ABSENT_NS_ns → exec (.recoverEnd p) s = .next s) ∧
    ((s.prog p.val).st = 2 → (s.prog p.val).since + 2 * s.fld Reg.OSL_ABSENT_NS_ns ≤ s.now →
      exec (.recoverEnd p) s = .next (s.updProg p.val (fun e => { e with st := 1 })))) ∧
  (∀ (d : Fin 3) (plus : Bool) (s : State),
    let l := (s.facing d.val (s.neighbour ((dirLinks s.oslMode d.val (!plus)).headD 0))).filter (fun l => s.flag (Reg.OSL_LINK_CTRL_enable l))
    ((l = [] ∨ ∃ k ∈ l, (s.link k).st ≠ 4 ∨ s.now < (s.link k).failedAt + s.fld Reg.OSL_ABSENT_NS_ns) → exec (.absentTimeout d plus) s = .next s) ∧
    (s.flag Reg.OSL_CTRL_enable = true → l ≠ [] → (s.osl.dirs.get (dirIndex d.val (!plus))).absent = false →
      (∀ k ∈ l, (s.link k).st = 4 ∧ (s.link k).failedAt + s.fld Reg.OSL_ABSENT_NS_ns ≤ s.now) → ∃ t, exec (.absentTimeout d plus) s = .next t ∧
        (t.osl.dirs.get (dirIndex d.val (!plus))).absent = true ∧ t.osl.arrived.length = s.osl.arrived.length + 1 ∧ t.osl.links = s.osl.links)) ∧
  (∀ (s : State), s.busOk (some 6) →
    let p := s.fld Reg.OSL_PROG_SEL_prog
    let e := s.prog p
    let ends (t : State) (c : Nat) : Prop := t.fld Reg.OSL_PROG_STAT_status = c ∧ t.flag Reg.OSL_PROG_STAT_done = true ∧
      regsBut s t [Reg.OSL_PROG_STAT] ∧ ∀ q, q ≠ p → t.prog q = s.prog q
    let check := s.sliceCheck e
    (s.flag Reg.OSL_PROG_STAT_done = false → ∀ c ∈ [Instr.progWrite, .progEnable, .progDisable, .progResume, .progRemap],
      exec c s = .next (s.setFld Reg.OSL_PROG_STAT_status 1)) ∧
    (s.flag Reg.OSL_PROG_STAT_done = true →
      (e.st ≠ 0 → ∀ c ∈ [Instr.progWrite, .progEnable], ∃ t, exec c s = .next t ∧ ends t 6 ∧ t.osl = s.osl) ∧
      (e.st = 0 → ∃ t, exec .progWrite s = .next t ∧ ends t 0 ∧ t.prog p = { e with words := s.progData }) ∧
      (e.st = 0 → s.progBad e = true → ∃ t, exec .progEnable s = .next t ∧ ends t 2 ∧ t.osl = s.osl) ∧
      (e.st = 0 → s.progBad e = false → check ≠ 0 → ∃ t, exec .progEnable s = .next t ∧ ends t check ∧ t.osl = s.osl) ∧
      (e.st = 0 → s.progBad e = false → check = 0 → ∃ t, exec .progEnable s = .next t ∧ ends t 0 ∧ t.prog p = { e with st := 1 }) ∧
      (e.notices = [] → ∃ t, exec .progDisable s = .next t ∧ ends t 0 ∧ t.prog p = { e with st := 0, results := [] }) ∧
      (e.st ≠ 3 → ∃ t, exec .progResume s = .next t ∧ ends t 6 ∧ t.osl = s.osl) ∧
      (e.st = 3 → check ≠ 0 → ∃ t, exec .progResume s = .next t ∧ ends t check ∧ t.osl = s.osl) ∧
      (e.st = 3 → check = 0 → ∃ t, exec .progResume s = .next t ∧ ends t 0 ∧ t.prog p = { e with gen := (e.gen + 1) % 256, st := 1 }) ∧
      (e.st = 1 ∨ e.st = 2 → ∃ t, exec .progRemap s = .next t ∧ ends t 6 ∧ t.osl = s.osl) ∧
      (e.st = 0 ∨ e.st = 3 → ∃ t, exec .progRemap s = .next t ∧ ends t 0 ∧
        t.prog p = { e with words := e.words.take 4 ++ s.progData.drop 4 }))) ∧
  (∀ (m : BitVec 8) (s : State), s.busOk (some 6) →
    exec (.lbypClose m) s = .next (s.updOsl (fun o => { o with pins := o.pins &&& ~~~ m })) ∧
    ((∀ k, k < 8 → m.getLsbD k = true → s.lbypAllowed k = true) →
      exec (.lbypOpen m) s = .next (s.updOsl (fun o => { o with pins := o.pins ||| m }))) ∧
    ((∃ k, k < 8 ∧ m.getLsbD k = true ∧ s.lbypAllowed k = false) → ∃ t, exec (.lbypOpen m) s = .next t ∧ t.osl = s.osl ∧
      regsBut s t [Reg.OSL_LBYP_STAT] ∧
      ∀ k, k < 8 → (t.fld Reg.OSL_LBYP_STAT_open_refused).testBit k =
        ((s.fld Reg.OSL_LBYP_STAT_open_refused).testBit k || (m.getLsbD k && !s.lbypAllowed k)))) ∧
  (∀ (x : BitVec 15) (s : State), s.busOk (some 6) → s.me = x.toNat → ∃ t r, exec (.rrstGo x) s = .next t ∧ t.osl = { s.osl with arrived := s.osl.arrived ++ [r] } ∧
    r.type = 4 ∧ r.kind = 6 ∧ r.dst = x.toNat ∧ bits r.data.toNat 127 96 = s.fld Reg.OSL_RRST_CODE_code ∧ t.fld Reg.OSL_RRST_target = x.toNat)

/-- R321, R324, R327 to R330, R336: the governor. -/
def Obligations.GovernorStepsSetpointAndGate : Prop :=
  (∀ (p : FieldPow) (q : Nat), p.pace = some q → (∃ r, r < 4 ∧ p.rings.get r = some q) ∧ ∀ r x, r < 4 → p.rings.get r = some x → q ≤ x) ∧
  (∀ (r : Fin 16) (p : BitVec 16) (s : State),
    let f := r.val / 4
    ((2 ≤ (s.fieldPow f).st ∨ s.rst.coreReady = false) → exec (.paceFallLatch r p) s = .next s) ∧
    ((s.fieldPow f).st < 2 → s.rst.coreReady = true → ∃ t, exec (.paceFallLatch r p) s = .next t ∧
      t.fieldPow f = { s.fieldPow f with rings := (s.fieldPow f).rings.set (r.val % 4) (some p.toNat) } ∧
      (∀ g, g ≠ f → t.fieldPow g = s.fieldPow g) ∧ t.pow.low = lower s.pow.low t.measured ∧ t.pow.mv = s.pow.mv ∧
      regsBut s t [Reg.PAC_PACE f])) ∧
  (∀ (c h d : Nat) (s : State), (s.pow.on = false → exec (.powerSample c h d) s = .next s) ∧
    (∀ x, s.pow.sampledAt = some x → s.now < x + 1000 → exec (.powerSample c h d) s = .next s) ∧
    (s.pow.on = true → (∀ x, s.pow.sampledAt = some x → x + 1000 ≤ s.now) → exec (.powerSample c h d) s = .next { s with pow := { s.pow with
      samples := ((c * s.pow.mv / 1000 + (s.pow.rails.map (fun r => r.2)).sum + h) :: s.pow.samples).take 1000, current := c, dieMv := d, sampledAt := some s.now } })) ∧
  (∀ (a : BitVec 9) (l : List (Nat × Nat)) (s : State), (s.pow.on = false → exec (.pmbusPoll a l) s = .next s) ∧
    (∀ x, s.pow.polledAt = some x → s.now < x + 1000000 → exec (.pmbusPoll a l) s = .next s) ∧
    (s.pow.on = true → (∀ x, s.pow.polledAt = some x → x + 1000000 ≤ s.now) → s.pow.rails.length = 8 →
      ∃ t, exec (.pmbusPoll a l) s = .next t ∧ t.pow.polledAt = some s.now ∧
        (t.pow.coreRail = if bit s.rst.probed.toNat 0 && bit a.toNat 0 then (l[0]?).getD (0, 0) else s.pow.coreRail) ∧
        (∀ r, r < 8 → t.pow.rails[r]? = (if bit s.rst.probed.toNat (r + 1) && bit a.toNat (r + 1) then some ((l[r + 1]?).getD (0, 0)) else s.pow.rails[r]?)) ∧
        t.reg Reg.PAC_PMBUS_ERR = s.reg Reg.PAC_PMBUS_ERR +
          BitVec.ofNat 64 ((List.range 9).filter (fun k => bit s.rst.probed.toNat k && !bit a.toNat k)).length ∧
        t.out = s.out ++ ((List.range 9).filter (fun k => bit s.rst.probed.toNat k)).flatMap (fun k => pollCommands.map (fun c => Output.pmbusRead k c)) ∧
        regsBut s t [Reg.PAC_PMBUS_ERR])) ∧
  (∀ (s : State),
    let pace := lower s.pow.low s.measured
    let v := s.pow.mv
    let w := s.moveCeil.nextMv pace
    let heat := s.pow.throttle && decide (v = s.fld Reg.PAC_VLIM_vmin_mv)
    ((s.pow.on = false ∨ s.thyme.toNat % 1000 ≠ 0 ∨ s.pow.lastAt = some s.now) → exec .governorDecision s = .next s) ∧
    (s.pow.on = true → s.thyme.toNat % 1000 = 0 → s.pow.lastAt ≠ some s.now → ∃ t, exec .governorDecision s = .next t ∧ t.pow.mv = w ∧
      t.pow.lastAt = some s.now ∧ t.reg Reg.PAC_DECISIONS = s.reg Reg.PAC_DECISIONS + 1 ∧
      t.reg Reg.PAC_VSTEP_UP = s.reg Reg.PAC_VSTEP_UP + (if v < w then 1 else 0) ∧
      t.reg Reg.PAC_VSTEP_DOWN = s.reg Reg.PAC_VSTEP_DOWN + (if w < v then 1 else 0) ∧ t.pow.capOver = s.overCap ∧ t.fab = s.fab ∧
      (s.overCap = true → s.flag Reg.PAC_CTRL_gate_en = true → v = s.fld Reg.PAC_VLIM_vmin_mv →
        t.pow.gate = (if s.pow.gate = 0 then 1024 else min 65536 (2 * s.pow.gate))) ∧
      (heat = true → t.pow.gate = (if s.pow.gate = 0 then 1024 else min 65536 (2 * s.pow.gate))) ∧
      (s.overCap = false → heat = false → t.pow.gate = (if (s.pow.gateCap = true ∧ s.flag Reg.PAC_CTRL_gate_en = false) ∨ s.pow.gate / 2 < 1024 then 0
        else s.pow.gate / 2)))) ∧
  (∀ (s : State) (pace : Option Nat),
    let vmin := s.fld Reg.PAC_VLIM_vmin_mv
    let step := s.fld Reg.PAC_STEP_step_mv
    let target := s.fld Reg.PAC_TARGET_target_mgs
    let hyst := s.fld Reg.PAC_TARGET_hyst_mgs
    (s.flag Reg.PAC_STAT_avs_fault = true → s.nextMv pace = s.pow.mv) ∧
    (s.flag Reg.PAC_STAT_avs_fault = false → vmin ≤ s.govCeil →
      (vmin ≤ s.nextMv pace ∧ s.nextMv pace ≤ s.govCeil) ∧
      (s.overCap = false → vmin ≤ s.pow.mv → s.pow.mv ≤ s.govCeil → s.nextMv none = s.pow.mv) ∧
      (∀ p, s.overCap = false → s.flag Reg.PAC_CTRL_enable = true → p + hyst < target → vmin ≤ s.pow.mv → s.pow.mv + step ≤ s.govCeil →
        s.nextMv (some p) = s.pow.mv + step) ∧
      (∀ p, s.overCap = false → s.flag Reg.PAC_CTRL_enable = true → target + hyst < p → vmin + step ≤ s.pow.mv → s.pow.mv ≤ s.govCeil →
        s.nextMv (some p) = s.pow.mv - step) ∧
      (s.overCap = true → s.farOver = false → s.nextMv pace = max vmin (min (s.pow.mv - step) s.govCeil)) ∧
      (s.farOver = true → s.nextMv pace = max vmin (min (s.pow.mv - 2 * step) s.govCeil)))) ∧
  (∀ (s : State), (s.pow.ceil = none → s.moveCeil = s) ∧
    ∀ c, s.pow.ceil = some c → s.pow.throttle = true → 100 ≤ s.fld Reg.PAC_TJ_MAX_tj → (s.pow.thrCount + 1) % 100 = 0 →
      s.moveCeil.pow.ceil = some (max (s.fld Reg.PAC_VLIM_vmin_mv) (c - s.fld Reg.PAC_STEP_step_mv))) ∧
  (∀ (ok : Bool) (s : State), (s.pow.writing = false → exec (.avsWriteComplete ok) s = .next s) ∧
    (s.pow.writing = true →
      exec (.avsWriteComplete true) s = .next { s with pow := { s.pow with writing := false, retry := false, tries := 0, acked := s.pow.mv } } ∧
      (s.pow.tries + 1 < 3 → exec (.avsWriteComplete false) s = .next ((s.updPow (fun p => { p with writing := false, tries := p.tries + 1, retry := true })).bump
        Reg.PAC_AVS_ERR)) ∧
      (2 ≤ s.pow.tries → ∃ t, exec (.avsWriteComplete false) s = .next t ∧ t.pow.mv = s.pow.acked ∧ t.pow.retry = false ∧
        t.pow.writing = false ∧ t.flag Reg.PAC_STAT_avs_fault = true ∧ t.rep.triggers = s.rep.triggers ++ [.avsFault]))) ∧
  (∀ (v : Word) (s : State), s.busOk none →
    let x := bits v.toNat 15 0
    let w : Word := BitVec.ofNat 32 (v.toNat % 2 ^ 24)
    (x < 900 ∨ 2000 < x → exec (.pacTargetWrite v) s = .next s) ∧
    (900 ≤ x → x ≤ 2000 → s.pow.running = false → ∃ t, exec (.pacTargetWrite v) s = .next t ∧ t.pow = { s.pow with running := true } ∧
      t.fld Reg.PAC_TARGET_target_mgs = x ∧ t.fld Reg.PAC_TARGET_hyst_mgs = bits v.toNat 23 16 ∧ regsBut s t [Reg.PAC_TARGET]) ∧
    (900 ≤ x → x ≤ 2000 → s.pow.running = true → s.pow.pendTarget = none → exec (.pacTargetWrite v) s = .next { s with pow := { s.pow with pendTarget := some w } }) ∧
    (900 ≤ x → x ≤ 2000 → s.pow.running = true → s.pow.pendTarget ≠ none → exec (.pacTargetWrite v) s = .next (s.stick Reg.PAC_STAT_busy)))

/-- R287, R325, R326, R332 to R336, R338: power states and sensors. -/
def Obligations.PowerStatesAndSensors : Prop :=
  (∀ (f : Fin 4) (s : State),
    let p := s.fieldPow f.val
    ((s.rst.coreReady = false ∨ p.waking ≠ none) → exec (.powerStateEntry f) s = .next s) ∧
    (s.rst.coreReady = true → p.waking = none →
      ((∀ x, 1 ≤ x → x ≤ 3 → p.st < x → s.mayEnter f.val x = false) → exec (.powerStateEntry f) s = .next s) ∧
      (∀ x, 1 ≤ x → x ≤ 3 → p.st < x → s.mayEnter f.val x = true → (∀ y, x < y → y ≤ 3 → s.mayEnter f.val y = false) →
        exec (.powerStateEntry f) s = .next (s.updFieldPow f.val (fun q =>
          { q with st := x, entered := if (q.entered.map Prod.fst) = some s.now then q.entered else some (s.now, q.st) })))) ∧
    (∀ x, s.mayEnter f.val x = true → s.flag Reg.PAC_CTRL_sleep_en = true ∧ s.flag (Reg.PAC_FLD_STATE_hold_active f.val) = false ∧
      exitNs x ≤ s.fld (Reg.HIF_WAKE_BUDGET_budget_ns f.val) ∧ s.fieldRows f.val = false ∧ s.fieldCommits f.val = false ∧
      (s.field f.val).adaptation = false) ∧
    ((p.st = 0 ∨ s.fieldWork f.val = false) → exec (.fieldWake f) s = .next s) ∧
    (0 < p.st → s.fieldWork f.val = true → p.waking = none → (∀ y, p.entered ≠ some (s.now, y)) → ∃ t, exec (.fieldWake f) s = .next t ∧
      t.fieldPow f.val = { p with goal := 0, waking := some s.now } ∧ (∀ g, g ≠ f.val → t.fieldPow g = s.fieldPow g) ∧ t.pow.idle = false ∧
      (s.pow.idle = false → t = s.updFieldPow f.val (fun q => { q with goal := 0, waking := some s.now })) ∧
      (s.pow.idle = true → s.pow.idleFrom ≠ some s.now → t.pow.devWaking = some s.now)) ∧
    (∀ y, 0 < p.st → s.fieldWork f.val = true → p.waking = none → p.entered = some (s.now, y) → s.pow.idle = false →
      (y = 0 → exec (.fieldWake f) s = .next (s.updFieldPow f.val (fun q => { q with st := 0, entered := none }))) ∧
      (0 < y → exec (.fieldWake f) s = .next (s.updFieldPow f.val (fun q => { q with st := y, entered := none, goal := 0, waking := some s.now })))) ∧
    (0 < p.st → (s.fieldRows f.val = true ∨ s.fieldCommits f.val = true ∨ s.noticeFor f.val = true ∨ (2 ≤ p.st ∧ s.keptLight f.val = true)) →
      s.fieldWork f.val = true)) ∧
  (∀ (s : State),
    ((s.flag Reg.PAC_CTRL_sleep_en = false ∨ s.idleOk = false ∨ s.pow.idleAt = none ∨ s.rst.coreReady = false) → exec .deviceIdleEntry s = .next s) ∧
    (∀ x, s.rst.coreReady = true → s.flag Reg.PAC_CTRL_sleep_en = true → s.pow.idle = false → s.pow.devWaking = none → s.idleOk = true →
      s.pow.idleAt = some x → x + s.fld Reg.PAC_DWELL_RET_ns ≤ s.now → exec .deviceIdleEntry s = .next { s with pow := { s.pow with idle := true, idleFrom := some s.now } }) ∧
    (s.idleOk = true → s.inlineOpen = false ∧ s.flag Reg.OSL_CTRL_enable = false ∧ ∀ f, f < 4 → 2 ≤ (s.fieldPow f).st) ∧
    ∀ c, (s.pow.idle = false → exec (.deviceWake c) s = .next s) ∧
      (s.pow.idle = true → exec (.deviceWake c) s = .next { s with pow := { s.pow with
        idle := false, idleAt := none, devWaking := if s.pow.idleFrom = some s.now then none else some s.now } })) ∧
  (∀ (s : State) (i : Instr), (s.pow.idle = true ∨ s.pow.devWaking.isSome = true ∨ s.rst.coreReady = false) → i ∈ coreRows → exec i s = .next s) ∧
  (∀ (s : State) (i : Instr) (b : Nat), s.isolated (some b) = true → i ∈ blockRows b → exec i s = .next s) ∧
  (∀ (f : Fin 4) (v : Word) (s : State), s.busOk none →
    let s1 := s.setReg (Reg.HIF_WAKE_BUDGET f.val) (v.setWidth 64)
    (exitNs (s.fieldPow f.val).st ≤ v.toNat → exec (.wakeBudgetWrite f v) s = .next s1) ∧
    (v.toNat < exitNs (s.fieldPow f.val).st → (s.fieldPow f.val).waking = none → ∃ t g, exec (.wakeBudgetWrite f v) s = .next t ∧
      t.fieldPow f.val = { s.fieldPow f.val with goal := g, waking := some s.now } ∧ t.regs = s1.regs ∧ g < (s.fieldPow f.val).st ∧
      exitNs g ≤ v.toNat)) ∧
  (∀ (s : State),
    (s.pow.devWaking = none → exec (.wakeComplete .device) s = .next s) ∧
    (∀ x, s.pow.devWaking = some x → (∀ k, k < 8 → (s.pair k).openWait = false) → ∃ t, exec (.wakeComplete .device) s = .next t ∧
      t.pow = { s.pow with devWaking := none } ∧
      t.reg Reg.PAC_WAKES = s.reg Reg.PAC_WAKES + 1 ∧
      t.reg Reg.PAC_WAKE_LATE = s.reg Reg.PAC_WAKE_LATE + (if x + 15000 < s.now then 1 else 0)) ∧
    ∀ f : Fin 4,
      ((s.fieldPow f.val).waking = none → exec (.wakeComplete (.field f)) s = .next s) ∧
      (∀ x, (s.fieldPow f.val).waking = some x → (s.fieldPow f.val).st < 3 → ∃ t, exec (.wakeComplete (.field f)) s = .next t ∧
        t.fieldPow f.val = { s.fieldPow f.val with
          st := (s.fieldPow f.val).goal, waking := none, goal := 0, quietAt := none, retAt := none, offAt := none,
          rings := if (s.fieldPow f.val).st = 2 then (s.fieldPow f.val).rings.clear else (s.fieldPow f.val).rings } ∧ t.pow.low = lower s.pow.low t.measured ∧
        (∀ g, g ≠ f.val → t.fieldPow g = s.fieldPow g) ∧ t.reg Reg.PAC_WAKES = s.reg Reg.PAC_WAKES + 1 ∧
        t.reg Reg.PAC_WAKE_LATE = s.reg Reg.PAC_WAKE_LATE + (if x + exitNs (s.fieldPow f.val).st < s.now then 1 else 0))) ∧
  (∀ (l : List (Option Int)) (s : State), (l.length ≠ 16 → exec (.sensorSweep l) s = .fault .illFormed) ∧
    (l.length = 16 → s.phase = 0 ∨ s.thyme.toNat % 10000 ≠ 0 → exec (.sensorSweep l) s = .next s) ∧
    (l.length = 16 → s.phase ≠ 0 → s.thyme.toNat % 10000 = 0 → ∃ t, exec (.sensorSweep l) s = .next t ∧
      (∀ i x, l[i]? = some (some x) → -40 ≤ x → x ≤ 150 → t.fld (Reg.PAC_TJ_tj i) = x.toNat ∧ t.flag (Reg.PAC_TJ_fault i) = false) ∧
      (∀ i x, l[i]? = some x → (x = none ∨ ∃ y, x = some y ∧ (y < -40 ∨ 150 < y)) → t.fld (Reg.PAC_TJ_tj i) = 100 ∧ t.flag (Reg.PAC_TJ_fault i) = true) ∧
      (∀ i, i < 16 → t.fld (Reg.PAC_TJ_tj i) ≤ t.fld Reg.PAC_TJ_MAX_tj) ∧ t.fld Reg.PAC_TJ_MAX_sensor < 16 ∧
      t.fld (Reg.PAC_TJ_tj (t.fld Reg.PAC_TJ_MAX_sensor)) = t.fld Reg.PAC_TJ_MAX_tj ∧ t.pow.swept = true ∧ t.pow.mv = s.pow.mv ∧
      t.pow.hot = (if 115 ≤ t.fld Reg.PAC_TJ_MAX_tj then s.pow.hot + 1 else 0) ∧
      t.pow.throttle = (if s.pow.throttle then decide (97 < t.fld Reg.PAC_TJ_MAX_tj) else decide (100 ≤ t.fld Reg.PAC_TJ_MAX_tj)) ∧
      (s.pow.throttle = false → t.pow.throttle = true → t.pow.ceil = some s.pow.mv)))

/-- R340 to R345, R348, R354, R378, R316, R336: resets. -/
def Obligations.ResetSourcesAndStretch : Prop :=
  (∀ (s : State),
    exec .powerOn s = .next (s.takeLevel .powerOn 0 true) ∧ exec .brownOut s = .next (s.takeLevel .brownOut 1 true) ∧
    exec .perst s = .next (s.takeLevel .perst 3 false) ∧
    (∀ n, 10000 ≤ n → exec (.rstin n) s = .next (s.takeLevel .rstin 2 false)) ∧
    (∀ n, n < 2000 → exec (.rstin n) s = .next s) ∧
    (∀ n, 2000 ≤ n → n < 10000 → exec (.rstin n) s = .next s.free.2 ∨ exec (.rstin n) s = .next (s.free.2.takeLevel .rstin 2 false)) ∧
    (2 ≤ s.pow.hot → exec .thermalTrip s = .next (s.takeLevel .thermal 6 false)) ∧ (s.pow.hot < 2 → exec .thermalTrip s = .next s) ∧
    (s.rst.dlActive = true → exec .pcieHotReset s = .next (s.takeReset 4 false)) ∧ (s.rst.dlActive = false → exec .pcieHotReset s = .next s) ∧
    (1 ≤ s.phase → s.rst.kickAt + s.wdogNs ≤ s.aon → exec .sageWatchdog s = .next (s.takeReset 5 false)) ∧
    (s.phase = 0 ∨ s.aon < s.rst.kickAt + s.wdogNs → exec .sageWatchdog s = .next s) ∧
    (∀ v : Word, (s.reachable = false ∨ bit v.toNat 0 = false → exec (.softwareFullReset v) s = .next s) ∧
      (s.reachable = true → bit v.toNat 0 = true →
        exec (.softwareFullReset v) s = .next (if bits v.toNat 15 8 = 0xA5 then s.takeReset 7 false else s.stick Reg.RST_STAT_bad_key))) ∧
    (∀ i r, s.osl.arrived[i]? = some r → r.kind = 6 →
      let t := s.updOsl (fun o => { o with arrived := o.arrived.eraseIdx i })
      let ok : Prop := s.flag Reg.OSL_CTRL_rrst_en = true ∧ bits r.data.toNat 127 96 = s.fld Reg.OSL_RRST_KEY_key
      (ok → exec (.remoteReset i) s = .next (t.takeReset 8 false)) ∧ (¬ ok → exec (.remoteReset i) s = .next (t.bump Reg.OSL_RRST_REFUSED)))) ∧
  (∀ (s : State) (src : LevelSource) (c : Nat) (cold : Bool), (s.takeLevel src c cold).rst.asserted = (if src ∈ s.rst.asserted then s.rst.asserted
      else s.rst.asserted ++ [src]) ∧ (s.takeLevel src c cold).regs = (s.takeReset c cold).regs) ∧
  (∀ (s : State) (c : Nat) (cold : Bool), c ≤ 8 →
    let t := s.takeReset c cold
    t.phase = 0 ∧ t.rst.coreReady = false ∧ t.rst.since = s.aon ∧ t.rst.dlActive = false ∧ t.rst.hung = false ∧ t.rst.flash = s.rst.flash ∧
    t.rst.tap = s.rst.tap ∧ t.rst.asserted = s.rst.asserted ∧ t.rst.cold = cold ∧ t.rst.pins = (if cold then List.replicate 24 0 else s.rst.pins) ∧
    t.pending = s.pending ∧ t.aon = s.aon ∧ t.now = 0 ∧ t.thyme = 0 ∧
    t.mac = {} ∧ t.thy = {} ∧ t.prs = {} ∧ t.rul = {} ∧ t.erp = {} ∧ t.sfe = {} ∧ t.fab = {} ∧ t.num = {} ∧ t.bay = {} ∧ t.adp = {} ∧
    t.hif = {} ∧ t.osl = {} ∧ t.pow = {} ∧ t.rep = {} ∧
    t.fld Reg.RST_CAUSE_cause = (if c = 0 then 1 else s.fld Reg.RST_CAUSE_cause ||| 1 <<< c) ∧
    (∀ j, j < 4 → t.scr j = (if c = 0 then 0 else s.scr j)) ∧
    (∀ a, a ≠ Reg.RST_CAUSE → (∀ j, j < 4 → a ≠ Reg.RST_AON_SCR j) → t.reg a = regReset a) ∧
    t.out = s.out ++ (if s.thy.ppsOut then [.ppsOut false] else []) ++ (if s.phase = 0 then [] else [.rstOut false])) ∧
  (∀ (src : LevelSource) (s : State), (src ∉ s.rst.asserted → exec (.levelSourceDeassertion src) s = .next s) ∧
    (src ∈ s.rst.asserted → exec (.levelSourceDeassertion src) s = .next { s with rst := { s.rst with
      asserted := s.rst.asserted.filter (fun x => x != src), since := s.aon } })) ∧
  (∀ (te : Bool) (s : State),
    (s.phase ≠ 0 ∨ s.rst.asserted ≠ [] ∨ s.rst.held = true ∨ s.aon < s.rst.since + 20000000 → exec (.stretchEnd te) s = .next s) ∧
    (s.phase = 0 → s.rst.asserted = [] → s.rst.held = false → s.rst.since + 20000000 ≤ s.aon →
      exec (.stretchEnd true) s = .next { s with rst := { s.rst with held := true } } ∧
      ∃ t, exec (.stretchEnd false) s = .next t ∧ t.phase = 1 ∧ t.now = 0 ∧ t.thyme = 0 ∧ t.rst.kickAt = s.aon ∧
        t.out = s.out ++ [.rstOut true] ∧ regsBut s t [Reg.RST_STAT])) ∧
  (∀ (n : Option (BitVec 14)) (s : State),
    (s.phase = 0 ∨ s.rst.fwStopped = true → exec (.watchdogKick n) s = .next s) ∧
    (s.phase ≠ 0 → s.rst.fwStopped = false → ∃ t, exec (.watchdogKick n) s = .next t ∧ t.rst = { s.rst with kickAt := s.aon } ∧
      regsBut s t [Reg.RST_WDOG] ∧ t.fld Reg.RST_WDOG_run_ms = (match n with
        | none => s.fld Reg.RST_WDOG_run_ms
        | some m => if 3 ≤ s.phase ∧ 100 ≤ m.toNat ∧ m.toNat ≤ 10000 then m.toNat else s.fld Reg.RST_WDOG_run_ms))) ∧
  (∀ (k : TlpError) (f : Fin 128) (s : State), (s.reachable = false → exec .dlActive s = .next s ∧ ∀ q, exec (.tlpError k f q) s = .next s) ∧
    (s.reachable = true → exec .dlActive s = .next { s with rst := { s.rst with dlActive := true } } ∧
      exec (.tlpError k f none) s = .next { s with out := s.out ++ [.aer f.val k] } ∧
      ∀ q : Fin 16384,
        ((s.qp q.val).st = .free ∨ (s.qp q.val).st = .error → exec (.tlpError k f (some q)) s = .next { s with out := s.out ++ [.aer f.val k] }) ∧
        ((s.qp q.val).st = .active ∨ (s.qp q.val).st = .draining → ∃ t, exec (.tlpError k f (some q)) s = .next t ∧ (t.qp q.val).st = .error ∧
          ∀ r, r ≠ q.val → (t.qp r).st = (s.qp r).st)))

/-- R322, R341, R346, R347, R351 to R353, R356, R357, R361, R363, R395: bring-up, isolation and bus timeouts. -/
def Obligations.BringUpPhasesIsolationAndTimeouts : Prop :=
  (∀ (s : State),
    (∀ b, s.phase ≠ 1 → exec (.fusePhaseDone b) s = .next s) ∧ (s.phase ≠ 2 → exec .repairPhaseDone s = .next s) ∧
    (∀ a, s.phase ≠ 3 → exec (.optionPhaseDone a) s = .next s) ∧ (∀ l, s.phase ≠ 4 → exec (.bistPhaseDone l) s = .next s) ∧
    (∀ b, s.phase ≠ 5 → exec (.hbmPhaseDone b) s = .next s) ∧ (s.phase ≠ 6 → exec .coreReady s = .next s) ∧
    (s.phase = 1 → (∃ t, exec (.fusePhaseDone false) s = .next t ∧ t.phase = 8 ∧ t.fld Reg.RST_STAT_halt_reason = 1 ∧ t.reachable = false) ∧
      ∃ t, exec (.fusePhaseDone true) s = .next t ∧ t.phase = 2 ∧ t.reg Reg.GLB_SERIAL = Config.fuseSerial ∧
        t.fld Reg.PAC_CAP_cap_w = (if Config.fuseBinB then 120 else 150) ∧ t.fld Reg.GLB_PART_bin = b2n Config.fuseBinB ∧ t.rst.kickAt = s.aon) ∧
    (s.phase = 2 → ∃ t, exec .repairPhaseDone s = .next t ∧ t.phase = 3 ∧ (∀ f, f < 4 → (t.repField f).defects = s.defectsOf f ∧
      (t.repField f).map.rows = bootRows (s.defectsOf f)) ∧ t.scr 0 % 256 = min 255 (s.scr 0 % 256 + 1) ∧ t.scr 0 / 256 = s.scr 0 / 256) ∧
    (∀ a, s.phase = 3 → s.rst.fwFirst < 2 →
      let ok (i : Nat) : Bool := if i = 0 then fwAuth s.rst.flash.fwA else fwAuth s.rst.flash.fwB
      let i := if ok s.rst.fwFirst then s.rst.fwFirst else 1 - s.rst.fwFirst
      ∃ t, exec (.optionPhaseDone a) s = .next t ∧ t.rst.probed = a ∧
        (if ok 0 = false ∧ ok 1 = false then t.phase = 8 ∧ t.fld Reg.RST_STAT_halt_reason = 2 ∧ t.flag Reg.RST_FW_STAT_rom_only = true
          else t.phase = 4 ∧ t.fld Reg.RST_FW_STAT_slot = i ∧ t.pow.on = true)) ∧
    (∀ l, s.phase = 4 → ∃ t, exec (.bistPhaseDone l) s = .next t ∧ t.phase = 5 ∧ t.pow.mv = 780 ∧ t.pow.writing = true ∧ t.out = s.out ++ [.avs 780]) ∧
    (s.phase = 5 → (∃ t, exec (.hbmPhaseDone false) s = .next t ∧ t.phase = 8 ∧ t.fld Reg.RST_STAT_halt_reason = 3) ∧
      ∃ t, exec (.hbmPhaseDone true) s = .next t ∧ t.phase = 6 ∧ t.rul = { s.rul with em := s.rul.em.clear, emCache := [], images := s.rul.images.clear } ∧
        t.bay = { s.bay with slots := s.bay.slots.clear, models := s.bay.models.clear }) ∧
    (s.phase = 6 → ∃ t, exec .coreReady s = .next t ∧ t.phase = 7 ∧ t.rst = { s.rst with coreReady := true } ∧ t.scr 0 = s.scr 0 / 256 * 256 ∧
      (s.flag Reg.RST_FW_STAT_fallback = true → t.scr 1 = fwVer (s.rst.flash.fw (1 - s.fld Reg.RST_FW_STAT_slot))))) ∧
  (∀ (d : List (Nat × Nat)) (w : Nat), (bootRows d).length = 2 ∧ (bootMap d w).rows = bootRows d ∧
    (∀ r c, r < 34 → r ∉ bootRows d → defectsIn d r = [c] → (bootMap d w).cols.get r = c) ∧
    (∀ r c, (r, c) ∈ d → r < 34 → (∀ q, q < 34 → (defectsIn d q).length ≤ 1) → (bootMap d w).covers (r, c) = true)) ∧
  (∀ (b : Nat) (s : State), b < 7 → s.reachable = true → s.fld Reg.RST_ISO_iso = 0 →
    ∃ t, exec (.isolate (BitVec.ofNat 32 (1 <<< b))) s = .next t ∧
      (∀ a, (isoSpan b).1 ≤ a → a < (isoSpan b).2 → t.reg a = regReset a) ∧ (b ≠ 5 → t.fld Reg.RST_ISO_iso = 1 <<< b ∧
        ((s.setFld Reg.RST_ISO_iso (1 <<< b)).blockIdle b = true → t.rst = s.rst)) ∧
      (b = 0 → t.prs = {}) ∧ (b = 1 → t.rul = { em := s.rul.em, images := s.rul.images }) ∧ (b = 3 → t.erp = {}) ∧ (b = 4 → t.num = {}) ∧
      (b = 5 → t.adp = {}) ∧ (b = 6 → t.osl = {}) ∧ (b = 2 → t.sfe.queue = [] ∧ t.sfe.cache = [] ∧ t.sfe.epoch = s.sfe.epoch + 1 ∧ t.mac = s.mac)) ∧
  (∀ (v : Word) (s : State), (s.reachable = false → exec (.isolate v) s = .next s) ∧
    (s.reachable = true → (∀ b, b < 7 → bit v.toNat b = true → bit (s.fld Reg.RST_ISO_iso) b = true) →
      exec (.isolate v) s = .next (s.setFld Reg.RST_ISO_iso (v.toNat % 128)))) ∧
  (∀ (s : State) (n : Nat) (rd : Option (Requester × Nat)) (rest : List (Nat × Option (Requester × Nat))),
    (s.rst.stuck = [] → exec .busTimeout s = .next s) ∧
    (s.rst.stuck = (n, rd) :: rest →
      (s.now < n + 1000000 → exec .busTimeout s = .next s) ∧
      (n + 1000000 ≤ s.now → ∃ t l, exec .busTimeout s = .next t ∧ t.rst = { s.rst with stuck := rest } ∧
        t.reg Reg.RST_BUS_TIMEOUT = s.reg Reg.RST_BUS_TIMEOUT + 1 ∧ t.flag Reg.RST_STAT_bus_hang = true ∧
        t.out = s.out ++ (match rd with
          | none => []
          | some (who, a) => [.regData who a 0]) ++ l ∧ (s.flag Reg.RST_STAT_bus_hang = true → l = [] ∧ t.rep = s.rep))))

/-- R361 to R369, R372: repair. -/
def Obligations.TilesRetireRemapAndLedger : Prop :=
  (∀ (tile : Fin 4096) (s : State),
    let f := tileField tile.val
    let r := s.repField f
    let p := r.map.phys (tileX tile.val % 32) (tileY tile.val % 32)
    let retired (t : State) (code cause : Nat) : Prop := (t.repField f).retired = r.retired ++ [tile.val] ∧ (f, p.1, p.2) ∈ t.rep.sink ∧
      (t.repField f).toMerge = r.toMerge ++ [⟨p.1, p.2, cause, s.thyme⟩] ∧ (t.repField f).map = r.map ∧
      t.reg Reg.REP_RETIRE = s.reg Reg.REP_RETIRE + 1 ∧ t.rep.triggers = s.rep.triggers ++ [.retire] ∧
      (s.rep.log.length < 256 → ∃ d, t.rep.log = s.rep.log ++ [⟨code, f, tileX tile.val % 32, tileY tile.val % 32, s.thyme, d⟩])
    (s.flag Reg.REP_CTRL_wdog_en = false ∨ (s.tile tile.val).readyNs < s.fld Reg.REP_WDOG_NS_ns ∨ tile.val ∈ r.retired →
      exec (.tileWdog tile) s = .next s) ∧
    (s.flag Reg.REP_CTRL_wdog_en = true → s.fld Reg.REP_WDOG_NS_ns ≤ (s.tile tile.val).readyNs → tile.val ∉ r.retired → s.fieldPlots f = [] →
      ∃ t, exec (.tileWdog tile) s = .next t ∧ retired t 1 2 ∧ t.reg Reg.REP_WDOG_FIRED = s.reg Reg.REP_WDOG_FIRED + 1 ∧
        (∀ k ∈ t.fab.packets, tileIx k.x k.y ≠ tile.val)) ∧
    (∀ w b, ((s.noteTile tile.val w b).tile tile.val).readyNs =
      (s.tile tile.val).readyNs + (if b = true ∧ s.flag Reg.REP_CTRL_wdog_en = true then 1 else 0)) ∧
    (s.busOk none →
      (s.flag Reg.REP_CMD_STAT_done = false → exec (.retireCmd tile) s = .next (s.setFld Reg.REP_CMD_STAT_status 1)) ∧
      (s.flag Reg.REP_CMD_STAT_done = true → tile.val ∈ r.retired → ∃ t, exec (.retireCmd tile) s = .next t ∧ t.rep = s.rep ∧
        t.fld Reg.REP_CMD_STAT_status = 2 ∧ t.flag Reg.REP_CMD_STAT_done = true) ∧
      (s.flag Reg.REP_CMD_STAT_done = true → tile.val ∉ r.retired → s.fieldPlots f = [] → ∃ t, exec (.retireCmd tile) s = .next t ∧
        retired t 4 5 ∧ t.fld Reg.REP_CMD_STAT_status = 0 ∧ t.flag Reg.REP_CMD_STAT_done = true)) ∧
    (s.rst.coreReady = false → exec (.ueDetected (.tile tile)) s = .next s ∧ exec (.ceDetected (.tile tile)) s = .next s) ∧
    (s.rst.coreReady = true → s.rep.ues.get (s.physKey tile.val) = 0 → (s.tile tile.val).plot = none → ∃ t, exec (.ueDetected (.tile tile)) s = .next t ∧
      t.rep = { s.rep with ues := s.rep.ues.upd (s.physKey tile.val) (fun _ => 1) } ∧ t.reg Reg.REP_TILE_UE = s.reg Reg.REP_TILE_UE + 1) ∧
    (s.rst.coreReady = true → 1 ≤ s.rep.ues.get (s.physKey tile.val) → (s.tile tile.val).plot = none → tile.val ∉ r.retired → s.fieldPlots f = [] →
      ∃ t, exec (.ueDetected (.tile tile)) s = .next t ∧ retired t 2 3 ∧ t.reg Reg.REP_TILE_UE = s.reg Reg.REP_TILE_UE + 1) ∧
    (s.rst.coreReady = true → s.rep.ceWindow = s.thyme.toNat / 1000000000 →
      (s.flag Reg.REP_CTRL_ce_retire = false ∨ s.rep.ces.get (s.physKey tile.val) + 1 ≤ s.fld Reg.REP_CE_THR_count → ∃ t,
        exec (.ceDetected (.tile tile)) s = .next t ∧ t.rep.ces.get (s.physKey tile.val) = s.rep.ces.get (s.physKey tile.val) + 1 ∧ t.rep.fields = s.rep.fields ∧
        t.reg Reg.REP_TILE_CE = s.reg Reg.REP_TILE_CE + 1) ∧
      (s.flag Reg.REP_CTRL_ce_retire = true → s.fld Reg.REP_CE_THR_count < s.rep.ces.get (s.physKey tile.val) + 1 → tile.val ∉ r.retired →
        s.fieldPlots f = [] → ∃ t, exec (.ceDetected (.tile tile)) s = .next t ∧ retired t 3 4))) ∧
  (∀ (f : Fin 4) (s : State),
    let r := s.repField f.val
    let last := (r.pending.or r.running).getD r.map
    let m := r.toMerge.foldl (fun (m : Merge) n => m.add f.val n) ({ map := last, defects := r.defects, extra := r.extra } : Merge)
    (r.toMerge = [] → exec (.remapSubmit f) s = .next s) ∧
    (r.toMerge ≠ [] → m.map ≠ last → r.running ≠ none → r.pending ≠ none → exec (.remapSubmit f) s = .next (s.bump Reg.REP_REMAP_BUSY)) ∧
    (r.toMerge ≠ [] → (m.map = last ∨ r.running = none ∨ r.pending = none) → m.lost = [] → s.fieldPlots f.val = [] → ∃ t,
      exec (.remapSubmit f) s = .next t ∧ t.rep.ledger = s.rep.ledger ++ m.entries ∧ t.repField f.val = { r with
        toMerge := [], defects := m.defects, extra := m.extra, running := if m.map ≠ last ∧ r.running = none then some m.map else r.running,
        pending := if m.map ≠ last ∧ r.running ≠ none then some m.map else r.pending }) ∧
    ((r.running = none ∨ (s.nextReport f.val).isSome = true) → exec (.remapApply f) s = .next s) ∧
    (∀ k, r.running = some k → s.nextReport f.val = none →
      (∀ t ∈ r.map.affected k f.val, (s.tile t).plot ≠ none → exec (.remapApply f) s = .next s) ∧
      ((∀ t ∈ r.map.affected k f.val, (s.tile t).plot = none) → (∀ h ∈ s.handles, (s.model h).st ≠ .paging ∧ (s.model h).replacing = none) →
        ∃ t, exec (.remapApply f) s = .next t ∧ (t.repField f.val).map = k ∧ (t.repField f.val).running = r.pending ∧
          (t.repField f.val).pending = none ∧ (∀ x ∈ (t.repField f.val).retired, x ∈ r.retired) ∧ (∀ g, g ≠ f.val → t.repField g = s.repField g) ∧
          t.reg Reg.REP_REMAP = s.reg Reg.REP_REMAP + 1))) ∧
  (∀ (m k : RepMap) (d : List (Nat × Nat)) (r c : Nat), r < 34 → m.cover d r c = some k → k.covers (r, c) = true ∧
    ∀ p ∈ d, p.1 < 34 → m.covers p = true → k.covers p = true) ∧
  (∀ (s : State) (e : LedgerEntry) (rest : List LedgerEntry),
    (s.rep.ledger = [] → ∀ b, exec (.ledgerWriteDone b) s = .next s) ∧
    (s.rep.ledger = e :: rest → exec (.ledgerWriteDone false) s = .next ((s.updRep (fun r => { r with ledger := rest })).bump Reg.REP_LEDGER_FULL) ∧
      (∀ h, s.rst.flash.activeHalf = some h → s.rst.flash.entries.length < 1023 → s.rep.ledgerSeq < 2 ^ 32 →
        e.field < 256 → e.prow < 256 → e.pcol < 256 → e.cause < 256 → e.action < 256 → ∃ t, exec (.ledgerWriteDone true) s = .next t ∧
          t.rep = { s.rep with ledger := rest, ledgerSeq := s.rep.ledgerSeq + 1 } ∧ t.rst.flash.activeHalf = some h ∧
          t.rst.flash.entries = s.rst.flash.entries ++ [(s.rep.ledgerSeq, e)])))

/-- R280, R364, R369 to R372, R374 to R377, R379, R410: faults, capsules and the challenge. -/
def Obligations.FaultsCapsulesAndChallenge : Prop :=
  (∀ (s : State) (c f x y d : Nat), (256 ≤ s.rep.log.length → s.addFault c f x y d = s.stick Reg.REP_FAULT_STAT_overflow) ∧
    (s.rep.log.length < 256 → (s.addFault c f x y d).rep = { s.rep with log := s.rep.log ++ [⟨c, f, x, y, s.thyme, d⟩] } ∧
      (s.addFault c f x y d).regs = s.regs)) ∧
  (∀ (s : State), exec .patrolScrub s = .next s ∧ (s.busOk none → (s.rep.log = [] → exec .faultPop s = .next s) ∧
    ∀ r rest, s.rep.log = r :: rest → ∃ t, exec .faultPop s = .next t ∧ t.rep = { s.rep with log := rest } ∧
      t.fld (Reg.REP_FAULT_DATA_word 0) = (r.code ||| r.field <<< 8 ||| r.x <<< 10 ||| r.y <<< 16) % 2 ^ 32 ∧
      t.fld (Reg.REP_FAULT_DATA_word 1) = r.thyme.toNat % 2 ^ 32 ∧ t.fld (Reg.REP_FAULT_DATA_word 2) = r.thyme.toNat / 2 ^ 32 ∧
      t.fld (Reg.REP_FAULT_DATA_word 3) = r.detail % 2 ^ 32)) ∧
  (∀ (s : State),
    let logs (t : State) (c : Nat) : Prop := s.rep.log.length < 256 → ∃ x, t.rep.log = s.rep.log ++ [x] ∧ x.code = c
    let hbmUp : Prop := 6 ≤ s.phase ∧ s.phase ≠ 8
    (s.rst.coreReady = false → (∀ c, c ≠ .hbm → exec (.ceDetected c) s = .next s) ∧
      ∀ u, u ≠ .sageMemory → (∀ p x, u ≠ .hbm p x) → exec (.ueDetected u) s = .next s) ∧
    (¬ hbmUp → exec (.ceDetected .hbm) s = .next s ∧ ∀ p x, exec (.ueDetected (.hbm p x)) s = .next s) ∧
    (s.phase = 0 → exec (.ueDetected .sageMemory) s = .next s) ∧
    (hbmUp → exec (.ceDetected .hbm) s = .next (s.bump Reg.REP_HBM_CE)) ∧
    (s.rst.coreReady = true → exec (.ceDetected .sectionStore) s = .next (s.bump Reg.REP_SS_CE) ∧
      exec (.ceDetected .table) s = .next (s.bump Reg.REP_TABLE_CE)) ∧
    (∀ b l, s.rst.coreReady = true → (b.val, l.val) ∉ s.rep.ssDead → s.rep.ssLines.get b.val + 1 < 64 → ∃ t, exec (.ueDetected (.sectionStore b l .other)) s = .next t ∧
      t.reg Reg.REP_SS_UE = s.reg Reg.REP_SS_UE + 1 ∧ t.rep.ssLines.get b.val = s.rep.ssLines.get b.val + 1 ∧ (b.val, l.val) ∈ t.rep.ssDead ∧ logs t 7) ∧
    (∀ h, s.rst.coreReady = true → (s.model h).plot = none → ((s.model h).st = .hbm ∨ (s.model h).st = .host) → ∃ t, exec (.ueDetected (.config h)) s = .next t ∧
      t.reg Reg.FAB_CFG_CRC = s.reg Reg.FAB_CFG_CRC + 1 ∧ t.bay = s.bay ∧ logs t 8) ∧
    (∀ p, hbmUp → ∃ t, exec (.ueDetected (.hbm p .other)) s = .next t ∧ t.reg Reg.REP_HBM_UE = s.reg Reg.REP_HBM_UE + 1 ∧
      (t.rep.hbmPages = if p ∈ s.rep.hbmDead then s.rep.hbmPages else s.rep.hbmPages + 1) ∧ p ∈ t.rep.hbmDead ∧ logs t 9 ∧ t.rep.triggers = s.rep.triggers ++ [.ue]) ∧
    (∀ p n, hbmUp → ∃ t, exec (.ueDetected (.hbm p (.counter n))) s = .next t ∧ t.rul.images.get n = 0 ∧ t.reg Reg.REP_HBM_UE = s.reg Reg.REP_HBM_UE + 1) ∧
    (∀ i, s.rst.coreReady = true → ∃ t, exec (.ueDetected (.ternary i)) s = .next t ∧ t.reg Reg.REP_TABLE_UE = s.reg Reg.REP_TABLE_UE + 1 ∧ t.rul = s.rul ∧ logs t 10) ∧
    (∀ p : Fin 4096, s.rst.coreReady = true → ∃ t, exec (.ueDetected (.table (.replyProfile p))) s = .next t ∧ bit (t.erp.profiles.get p.val).d0.toNat 0 = false ∧
      t.reg Reg.REP_TABLE_UE = s.reg Reg.REP_TABLE_UE + 1 ∧ logs t 10) ∧
    (∀ f, s.rst.coreReady = true → exec (.ueDetected (.network f)) s = .next (s.updFrame f (fun x => { x with corrupt := true }))) ∧
    (s.phase ≠ 0 → exec (.ueDetected .sageMemory) s = .next { s with rst := { s.rst with fwStopped := true } })) ∧
  (∀ (c : CapTrigger) (s : State),
    (c ∉ s.rep.triggers → exec (.capsuleTrigger c) s = .next s) ∧
    (c ∈ s.rep.triggers → ∃ t, exec (.capsuleTrigger c) s = .next t ∧ t.rep.triggers = s.rep.triggers.erase c ∧ t.regs = s.regs ∧
      t.rep.capturing = (if bit (s.fld Reg.REP_CTRL_capsule_auto) (capCode c - 2) = true ∧ s.rep.capturing = none ∧ s.rep.storing = none ∧
        (s.rst.flash.capsuleOk = false ∨ s.flag Reg.REP_CTRL_keep_first = false) ∧ s.rst.fwStopped = false then some c else s.rep.capturing))) ∧
  (∀ (s : State),
    (s.rep.capturing = none → exec .capsuleCaptured s = .next s) ∧
    (∀ c, s.rep.capturing = some c → ∃ t, exec .capsuleCaptured s = .next t ∧ t.rep.storing = some (s.capsule c s.nextCapSeq) ∧
      t.rep.capturing = none ∧ t.rep.capSeq = s.nextCapSeq ∧ t.rst.flash = { s.rst.flash with capsule := [] } ∧ t.regs = s.regs) ∧
    (s.rep.storing = none → exec .capsuleStored s = .next s) ∧
    (∀ b, s.rep.storing = some b → ∃ t, exec .capsuleStored s = .next t ∧ t.rep.storing = none ∧ t.rst.flash = { s.rst.flash with capsule := b } ∧
      t.reg Reg.REP_CAPSULE = s.reg Reg.REP_CAPSULE + 1) ∧
    (∀ d, s.mayStart d 6 = false → exec (.capsule d) s = .next s) ∧
    (∀ d, s.mayStart d 6 = true → ∃ t, exec (.capsule d) s = .next t ∧ (t.desc d).st = .done ∧ t.rst = s.rst)) ∧
  (∀ (s : State) (c : CapTrigger) (n : Nat) (f : Flash), n < 2 ^ 32 → f.capsule = s.capsule c n → f.capsuleOk = true ∧ le f.capsule 4 4 = n ∧
    byteAt f.capsule 3 = capCode c) ∧
  (∀ (a b : Bool) (s : State), exec (.busStuck .smbus false false) s = .next s ∧ exec (.busStuck .pmbus false false) s = .next s ∧
    (s.challengeOpen = false → exec (.busStuck .smbus a b) s = .next s) ∧ ((s.reachable = false ∨ s.phase < 3) → exec (.busStuck .pmbus a b) s = .next s) ∧
    ((a || b) = true →
      (s.challengeOpen = true → exec (.busStuck .smbus a b) s = .next ((s.bump Reg.REP_SMB_STUCK).addFault 13 0 0 0 (b2n a + 2 * b2n b))) ∧
      (s.reachable = true → 3 ≤ s.phase → ∃ t, exec (.busStuck .pmbus a b) s = .next t ∧
        { t with out := s.out } = (s.bump Reg.REP_PMB_STUCK).addFault 14 0 0 0 (b2n a + 2 * b2n b) ∧
        t.out = s.out ++ (if a = true ∧ b = false then [.pmbusRecover] else [])))) ∧
  (∀ (x y : List Byte) (s : State),
    let signed := ecdsaVerify (sha384 (s.challenge ++ y.take 1)) (y.drop 1) Config.challengeKey
    (x.length ≠ 32 → exec (.chalGet x) s = .fault .illFormed) ∧ (y.length ≠ 97 → exec (.chalResp y) s = .fault .illFormed) ∧
    (s.challengeOpen = false → exec .chalStat s = .next { s with out := s.out ++ [.smbus none] } ∧
      (x.length = 32 → exec (.chalGet x) s = .next { s with out := s.out ++ [.smbus none] }) ∧
      (y.length = 97 → exec (.chalResp y) s = .next { s with out := s.out ++ [.smbus none] })) ∧
    (s.challengeOpen = true → exec .chalStat s = .next { s with out := s.out ++ [.smbus (some (toLe 1 s.rep.chal))] } ∧
      (x.length = 32 → ∃ t, exec (.chalGet x) s = .next t ∧ t.out = s.out ++ [.smbus (some (toLe 8 Config.fuseSerial.toNat ++ x))] ∧
        t.rep = { s.rep with nonce := x, chal := if s.rep.chal = 4 then 4 else 1 }) ∧
      (y.length = 97 → exec (.chalResp y) s = .next (if s.rep.chal = 1 ∧ signed = true then { s with rep := { s.rep with chal := 2 } }
        else (s.updRep (fun r => { r with refusals := r.refusals + 1, chal := if 2 ≤ r.refusals then 4 else 3 })).bump Reg.REP_CHAL_FAIL))))

/-- R13, R14, R346, R353, R356, R357, R373, R382, R384 to R386, R418: the register bus. -/
def Obligations.RegisterBusReadsAndWrites : Prop :=
  (∀ (w : Requester) (a : Nat) (wide : Bool) (v : DWord) (s : State),
    let read : Instr := .registerRead w a wide
    let write : Instr := .registerWrite w a wide v
    (0x2000000 ≤ a ∨ s.asleep w = true → s.reachable = false → exec read s = .next s ∧ exec write s = .next s) ∧
    (0x2000000 ≤ a ∨ s.asleep w = true → s.reachable = true → exec read s = .next { s with out := s.out ++ [.aer 0 .unsupported] } ∧
      exec write s = .next { s with out := s.out ++ [.aer 0 .unsupported] }) ∧
    (a < 0x2000000 → s.asleep w = false → a % (if wide then 8 else 4) ≠ 0 → s.reachable = false → exec read s = .next s ∧ exec write s = .next s) ∧
    (a < 0x2000000 → s.asleep w = false → a % (if wide then 8 else 4) ≠ 0 → s.reachable = true → ∃ t, exec write s = .next t ∧
      t.reg Reg.GLB_ACC_ERR = s.reg Reg.GLB_ACC_ERR + 1 ∧ t.flag Reg.GLB_ACC_STAT_bad_access = true ∧ t.fld Reg.GLB_ACC_ADDR_addr = a ∧
      regsBut s t [Reg.GLB_ACC_ERR, Reg.GLB_ACC_STAT, Reg.GLB_ACC_ADDR] ∧ t.out = s.out ∧
      exec read s = .next { t with out := s.out ++ [.regData w a 0] }) ∧
    (a < 0x2000000 → s.asleep w = false → a % 4 = 0 → wide = false →
      let s0 := s.setShadow w none
      (s0.gate w a = .unreachable → exec write s = .next s0 ∧ exec read s = .next s) ∧
      (s0.gate w a = .empty → exec write s = .next s0 ∧ exec read s = .next { s0 with out := s.out ++ [.regData w a 0] }) ∧
      (s0.gate w a = .isolated → exec write s = .next s0) ∧
      (s0.gate w a = .early → exec write s = .next (s0.stick Reg.RST_STAT_early_access) ∧ ∃ t, exec read s = .next t ∧
        t.flag Reg.RST_STAT_early_access = true ∧ t.out = s.out ++ [.regData w a 0]) ∧
      (s0.gate w a = .hung → exec write s = .next (s0.updRst (fun r => { r with stuck := r.stuck ++ [(s.now, none)] })) ∧
        exec read s = .next (s0.updRst (fun r => { r with stuck := r.stuck ++ [(s.now, some (w, a))] }))) ∧
      (s0.gate w a = .ready → findReg a = none → exec write s = .next s0 ∧ exec read s = .next { s0 with out := s.out ++ [.regData w a 0] }) ∧
      (∀ l, s0.gate w a = .ready → findReg a = some l → exec write s = .next (s0.writeReg w l false v))) ∧
    (a < 0x2000000 → s.asleep w = false → a % 8 = 0 → wide = true → isWide a = false → exec write s =
      .next (((s.setShadow w none).busWrite w a false (v &&& 0xFFFFFFFF)).busWrite w (a + 4) false (v >>> 32)))) ∧
  (∀ (a : Nat) (s : State), (s.reachable = false → exec (.badAccess a) s = .next s) ∧
    (s.reachable = true → s.asleep .pf = false → ∃ t, exec (.badAccess a) s = .next t ∧ t.reg Reg.GLB_ACC_ERR = s.reg Reg.GLB_ACC_ERR + 1 ∧
      t.fld Reg.GLB_ACC_ADDR_addr = a % 0x2000000 ∧ t.out = s.out)) ∧
  (∀ (w : Requester) (a : Nat) (s : State), s.rst.coreReady = false → ∀ b, findBlock a = some b → b.core = true → s.reachable = true →
    s.gate w a = .early) ∧
  (∀ (s : State) (w : Requester) (l : Loc) (v : DWord), l.upper = false → l.reg.accMask .rw = 0xFFFFFFFF → s.refuses l (v &&& 0xFFFFFFFF) = true →
    s.writeReg w l false v = s) ∧
  (∀ (i : Nat) (w : Requester) (v : DWord) (s : State), i < 4 → s.reachable = true → s.asleep w = false → ∃ t, exec (.registerWrite w (Reg.GLB_SCRATCH i) false v) s = .next t ∧
    (t.reg (Reg.GLB_SCRATCH i)).setWidth 32 = v.setWidth 32 ∧ regsBut s t [Reg.GLB_SCRATCH i] ∧ t.out = s.out ∧
    ∃ u, exec (.registerRead w (Reg.GLB_SCRATCH i) false) t = .next u ∧ u.out = s.out ++ [.regData w (Reg.GLB_SCRATCH i) (v &&& 0xFFFFFFFF)] ∧
      u.regs = t.regs) ∧
  (∀ (w : Requester) (v : DWord) (s : State), s.reachable = true → s.asleep w = false →
    (∃ t, exec (.registerWrite w Reg.RST_STAT false v) (s.stick Reg.RST_STAT_bad_key) = .next t ∧ t.flag Reg.RST_STAT_bad_key = true) ∧
    (s.raisedNow Reg.RST_STAT = 0 → bit v.toNat 7 = true → ∃ t, exec (.registerWrite w Reg.RST_STAT false v) s = .next t ∧
      t.flag Reg.RST_STAT_bad_key = false)) ∧
  (∀ (w : Requester) (s s' : State), s.reachable = true → s'.reachable = true → s.asleep w = false → s'.asleep w = false → ∃ t, exec (.registerRead w Reg.GLB_SERIAL false) s = .next t ∧
    t.out = s.out ++ [.regData w Reg.GLB_SERIAL (s.reg Reg.GLB_SERIAL &&& 0xFFFFFFFF)] ∧
    (s'.shadow w = t.shadow w → ∃ u, exec (.registerRead w (Reg.GLB_SERIAL + 4) false) s' = .next u ∧
      u.out = s'.out ++ [.regData w (Reg.GLB_SERIAL + 4) (s.reg Reg.GLB_SERIAL >>> 32)] ∧ u.shadow w = none))

/-- R342, R355, R378, R400, R409, R414: the pins, the SMBus target's reads and JTAG. -/
def Obligations.SlowPortsAndBoundaryScan : Prop :=
  (∀ (s : State) (c : Nat) (cold : Bool), c ≤ 8 →
    let t := s.takeReset c cold
    t.pin .rstOut = .low ∧ t.pin .ppsOut = .low ∧ (∀ k, t.pin (.byp k) = .low) ∧ (∀ k, t.pin (.lbyp k) = .low) ∧
    t.pin .smbus = .floating ∧ t.pin .pmbus = .floating ∧ t.pin .avs = .floating ∧ t.pin .spi = .floating ∧ t.pin .spiCs = .high ∧
    (∀ p, t.pin (.ethTx p) = .idle) ∧ (∀ l, t.pin (.oslTx l) = .idle) ∧
    (∀ i, t.pin (.gpio i) = if cold then .floating else s.pin (.gpio i)) ∧ (∀ i, t.pin (.led i) = if cold then .floating else s.pin (.led i))) ∧
  (∀ (s : State),
    (s.reachable = false → ∀ c ∈ [Instr.devId, .smbTj, .smbState, .smbCause], exec c s = .next { s with out := s.out ++ [.smbus none] }) ∧
    (s.reachable = true →
      (∃ b, exec .devId s = .next { s with out := s.out ++ [.smbus (some b)] } ∧ b.length = 16 ∧ le b 0 4 = (s.reg Reg.GLB_ID).toNat % 2 ^ 32 ∧
        le b 8 8 = (s.reg Reg.GLB_SERIAL).toNat) ∧
      exec .smbTj s = .next { s with out := s.out ++ [.smbus (some (toLe 1 (if s.pow.swept then s.fld Reg.PAC_TJ_MAX_tj else 0xFF)))] } ∧
      (∃ b, exec .smbState s = .next { s with out := s.out ++ [.smbus (some b)] } ∧ b.length = 2 ∧ byteAt b 0 = s.phase + 16 * b2n s.coreReadyBit ∧
        ∀ k, k < 8 → bit (byteAt b 1) k = s.bypPin k) ∧
      exec .smbCause s = .next { s with out := s.out ++ [.smbus (some (toLe 2 (s.fld Reg.RST_CAUSE_cause)))] })) ∧
  (∀ (s : State),
    let at_ (n : Nat) : State := { s with rst := { s.rst with tap := n } }
    exec .extest s = .next (at_ 0) ∧ exec .samplePreload s = .next (at_ 1) ∧ exec .idcode s = .next (at_ 2) ∧ exec .tapReset s = .next (at_ 2) ∧
    exec .clamp s = .next (at_ 3) ∧ exec .highz s = .next (at_ 4) ∧
    (∀ c : BitVec 5, exec (.jtagBypass c) s = (if c.toNat < 5 then .next s else .next (at_ 31))) ∧
    s.pin .clkreq = .low ∧ s.pin .testEn = .floating ∧ (s.scanDrives = true → (∀ k, s.pin (.byp k) = .low) ∧ ∀ k, s.pin (.lbyp k) = .low) ∧
    (s.scanDrives = true ↔ s.rst.tap = 0 ∨ s.rst.tap = 3 ∨ s.rst.tap = 4) ∧ ((at_ 0).scanDrives = true ∧ (at_ 2).scanDrives = false))
end

