-- ==== Sys2Proof/Laws/Tab.lean ====
section
/-! SUPPORT. Sparse tables: reading after writing, and the canonical form. -/

namespace Sys2Proof.Machine

theorem cellsGet_del_self {α : Type} (l : List (Nat × α)) (k : Nat) : cellsGet (cellsDel l k) k = none := by
  induction l with
  | nil => rfl
  | cons c r ih =>
    obtain ⟨j, v⟩ := c
    by_cases h : j = k <;> simp [cellsDel, cellsGet, h, ih]

theorem cellsGet_del_ne {α : Type} (l : List (Nat × α)) {k j : Nat} (h : j ≠ k) :
    cellsGet (cellsDel l k) j = cellsGet l j := by
  induction l with
  | nil => rfl
  | cons c r ih =>
    obtain ⟨i, v⟩ := c
    by_cases hi : i = k
    · have : i ≠ j := fun e => h (e.symm.trans hi)
      simp [cellsDel, cellsGet, hi, ih, Ne.symm h]
    · by_cases hj : i = j <;> simp [cellsDel, cellsGet, hi, hj, ih]
      simp [hj] at hi; simp [hi, cellsGet]

theorem cellsGet_ins_self {α : Type} (l : List (Nat × α)) (k : Nat) (v : α) : cellsGet (cellsIns l k v) k = some v := by
  induction l with
  | nil => simp [cellsIns, cellsGet]
  | cons c r ih =>
    obtain ⟨i, x⟩ := c
    simp only [cellsIns]
    split
    · simp [cellsGet]
    · split <;> simp [cellsGet, *]

theorem cellsGet_ins_ne {α : Type} (l : List (Nat × α)) {k j : Nat} (v : α) (h : j ≠ k) :
    cellsGet (cellsIns l k v) j = cellsGet l j := by
  induction l with
  | nil => simp [cellsIns, cellsGet, Ne.symm h]
  | cons c r ih =>
    obtain ⟨i, x⟩ := c
    simp only [cellsIns]
    split
    · simp [cellsGet, Ne.symm h]
    · split
      · rename_i e; subst e; simp [cellsGet, Ne.symm h]
      · simp only [cellsGet, ih]

/-- Every key of a list is above a bound. -/
theorem cellsRising_tail {α : Type} {c : Nat × α} {r : List (Nat × α)} (h : cellsRising (c :: r) = true) :
    cellsRising r = true := by
  obtain ⟨k, v⟩ := c
  cases r with
  | nil => rfl
  | cons d t => obtain ⟨j, y⟩ := d; simp [cellsRising] at h; exact h.2

/-- Rising keys, said by the bound the first key gives. -/
theorem cellsRising_cons {α : Type} (c : Nat × α) (r : List (Nat × α)) :
    cellsRising (c :: r) = true ↔ (∀ d ∈ r, c.1 < d.1) ∧ cellsRising r = true := by
  induction r generalizing c with
  | nil => obtain ⟨k, v⟩ := c; simp [cellsRising]
  | cons d t ih =>
    obtain ⟨k, v⟩ := c
    obtain ⟨j, y⟩ := d
    constructor
    · intro h
      simp [cellsRising] at h
      have h2 := (ih (j, y)).1 h.2
      refine ⟨?_, h.2⟩
      intro e he
      rcases List.mem_cons.1 he with rfl | he
      · exact h.1
      · exact lt_trans h.1 (h2.1 e he)
    · intro h
      simp only [cellsRising, Bool.and_eq_true, decide_eq_true_eq]
      exact ⟨h.1 (j, y) (by simp), h.2⟩

theorem cellsDel_sub {α : Type} (l : List (Nat × α)) (k : Nat) : ∀ d ∈ cellsDel l k, d ∈ l := by
  induction l with
  | nil => simp [cellsDel]
  | cons c r ih =>
    obtain ⟨i, x⟩ := c
    intro d hd
    simp only [cellsDel] at hd
    split at hd
    · exact List.mem_cons_of_mem _ (ih d hd)
    · rcases List.mem_cons.1 hd with rfl | hd
      · simp
      · exact List.mem_cons_of_mem _ (ih d hd)

theorem cellsIns_sub {α : Type} (l : List (Nat × α)) (k : Nat) (v : α) :
    ∀ d ∈ cellsIns l k v, d = (k, v) ∨ d ∈ l := by
  induction l with
  | nil => simp [cellsIns]
  | cons c r ih =>
    obtain ⟨i, x⟩ := c
    intro d hd
    simp only [cellsIns] at hd
    split at hd
    · rcases List.mem_cons.1 hd with rfl | hd
      · simp
      · exact Or.inr hd
    · split at hd
      · rcases List.mem_cons.1 hd with rfl | hd
        · simp
        · exact Or.inr (List.mem_cons_of_mem _ hd)
      · rcases List.mem_cons.1 hd with rfl | hd
        · simp
        · rcases ih d hd with h | h
          · exact Or.inl h
          · exact Or.inr (List.mem_cons_of_mem _ h)

theorem cellsRising_del {α : Type} (l : List (Nat × α)) (k : Nat) (h : cellsRising l = true) :
    cellsRising (cellsDel l k) = true := by
  induction l with
  | nil => exact h
  | cons c r ih =>
    obtain ⟨i, x⟩ := c
    have h2 := (cellsRising_cons _ _).1 h
    simp only [cellsDel]
    split
    · exact ih h2.2
    · exact (cellsRising_cons _ _).2 ⟨fun d hd => h2.1 d (cellsDel_sub r k d hd), ih h2.2⟩

theorem cellsRising_ins {α : Type} (l : List (Nat × α)) (k : Nat) (v : α) (h : cellsRising l = true) :
    cellsRising (cellsIns l k v) = true := by
  induction l with
  | nil => rfl
  | cons c r ih =>
    obtain ⟨i, x⟩ := c
    have h2 := (cellsRising_cons _ _).1 h
    simp only [cellsIns]
    split
    · rename_i hk
      refine (cellsRising_cons _ _).2 ⟨?_, h⟩
      intro d hd
      rcases List.mem_cons.1 hd with rfl | hd
      · exact hk
      · exact lt_trans hk (h2.1 d hd)
    · split
      · rename_i e; subst e
        exact (cellsRising_cons _ _).2 ⟨h2.1, h2.2⟩
      · rename_i hk e
        refine (cellsRising_cons _ _).2 ⟨?_, ih h2.2⟩
        intro d hd
        rcases cellsIns_sub r k v d hd with rfl | hd
        · show i < k; omega
        · exact h2.1 d hd

theorem cellsRising_filter {α : Type} (l : List (Nat × α)) (p : Nat × α → Bool) (h : cellsRising l = true) :
    cellsRising (l.filter p) = true := by
  induction l with
  | nil => exact h
  | cons c r ih =>
    have h2 := (cellsRising_cons _ _).1 h
    simp only [List.filter_cons]
    split
    · exact (cellsRising_cons _ _).2 ⟨fun d hd => h2.1 d (List.mem_of_mem_filter hd), ih h2.2⟩
    · exact ih h2.2

/-! #### Tables -/

@[simp] theorem Tab.get_set_self {α : Type} [DecidableEq α] (t : Tab α) (k : Nat) (v : α) : (t.set k v).get k = v := by
  unfold Tab.set Tab.get
  split
  · rename_i h; simp [cellsGet_del_self, h]
  · simp [cellsGet_ins_self]

theorem Tab.get_set_ne {α : Type} [DecidableEq α] (t : Tab α) {k j : Nat} (v : α) (h : j ≠ k) :
    (t.set k v).get j = t.get j := by
  unfold Tab.set Tab.get
  split
  · simp [cellsGet_del_ne _ h]
  · simp [cellsGet_ins_ne _ _ h]

@[simp] theorem Tab.get_upd_self {α : Type} [DecidableEq α] (t : Tab α) (k : Nat) (f : α → α) :
    (t.upd k f).get k = f (t.get k) := by simp [Tab.upd]

theorem Tab.get_upd_ne {α : Type} [DecidableEq α] (t : Tab α) {k j : Nat} (f : α → α) (h : j ≠ k) :
    (t.upd k f).get j = t.get j := by simp [Tab.upd, Tab.get_set_ne _ _ h]

theorem Tab.get_upd {α : Type} [DecidableEq α] (t : Tab α) (k j : Nat) (f : α → α) :
    (t.upd k f).get j = if j = k then f (t.get k) else t.get j := by
  by_cases h : j = k
  · subst h; simp
  · simp [h, Tab.get_upd_ne]

/-- Writing a table keeps its canonical form. -/
theorem Tab.wf_set {α : Type} [DecidableEq α] (t : Tab α) (k : Nat) (v : α) (h : t.wf = true) : (t.set k v).wf = true := by
  simp only [Tab.wf, Bool.and_eq_true, List.all_eq_true, decide_eq_true_eq] at h
  unfold Tab.set
  split
  · simp only [Tab.wf, Bool.and_eq_true, List.all_eq_true, decide_eq_true_eq]
    exact ⟨cellsRising_del _ _ h.1, fun d hd => h.2 d (cellsDel_sub _ _ d hd)⟩
  · rename_i hv
    simp only [Tab.wf, Bool.and_eq_true, List.all_eq_true, decide_eq_true_eq]
    refine ⟨cellsRising_ins _ _ _ h.1, fun d hd => ?_⟩
    rcases cellsIns_sub _ _ _ d hd with rfl | hd
    · exact hv
    · exact h.2 d hd

theorem Tab.wf_upd {α : Type} [DecidableEq α] (t : Tab α) (k : Nat) (f : α → α) (h : t.wf = true) : (t.upd k f).wf = true :=
  Tab.wf_set t k _ h

theorem Tab.wf_clear {α : Type} [DecidableEq α] (t : Tab α) : t.clear.wf = true := rfl

end Sys2Proof.Machine
end

