-- ==== Sys2Proof/Laws/Regs.lean ====
section
/-! SUPPORT. The register file: reading after writing, fields, counters, and the canonical form. -/

namespace Sys2Proof.Machine

@[simp] theorem Regs.get_set_self (r : Regs) (a : Nat) (v : DWord) : (r.set a v).get a = v := by
  unfold Regs.set Regs.get
  split
  · rename_i h; simp [cellsGet_del_self, h]
  · simp [cellsGet_ins_self]

theorem Regs.get_set_ne (r : Regs) {a b : Nat} (v : DWord) (h : b ≠ a) : (r.set a v).get b = r.get b := by
  unfold Regs.set Regs.get
  split
  · simp [cellsGet_del_ne _ h]
  · simp [cellsGet_ins_ne _ _ h]

/-- Storing a register keeps the canonical form. -/
theorem Regs.wf_set (r : Regs) (a : Nat) (v : DWord) (h : r.wf = true) : (r.set a v).wf = true := by
  simp only [Regs.wf, Bool.and_eq_true, List.all_eq_true, decide_eq_true_eq] at h
  unfold Regs.set
  split
  · simp only [Regs.wf, Bool.and_eq_true, List.all_eq_true, decide_eq_true_eq]
    exact ⟨cellsRising_del _ _ h.1, fun d hd => h.2 d (cellsDel_sub _ _ d hd)⟩
  · rename_i hv
    simp only [Regs.wf, Bool.and_eq_true, List.all_eq_true, decide_eq_true_eq]
    refine ⟨cellsRising_ins _ _ _ h.1, fun d hd => ?_⟩
    rcases cellsIns_sub _ _ _ d hd with rfl | hd
    · exact hv
    · exact h.2 d hd

/-- Clearing a span of registers keeps the canonical form. -/
theorem Regs.wf_clearSpan (r : Regs) (lo hi : Nat) (h : r.wf = true) : (r.clearSpan lo hi).wf = true := by
  simp only [Regs.wf, Bool.and_eq_true, List.all_eq_true] at h
  simp only [Regs.wf, Regs.clearSpan, Bool.and_eq_true, List.all_eq_true]
  exact ⟨cellsRising_filter _ _ h.1, fun d hd => h.2 d (List.mem_of_mem_filter hd)⟩

@[simp] theorem State.reg_setReg_self (s : State) (a : Nat) (v : DWord) : (s.setReg a v).reg a = v :=
  Regs.get_set_self _ _ _

theorem State.reg_setReg_ne (s : State) {a b : Nat} (v : DWord) (h : b ≠ a) : (s.setReg a v).reg b = s.reg b :=
  Regs.get_set_ne _ _ h

theorem State.reg_setReg (s : State) (a b : Nat) (v : DWord) : (s.setReg a v).reg b = if b = a then v else s.reg b := by
  by_cases h : b = a
  · subst h; simp
  · simp [h, State.reg_setReg_ne]

@[simp] theorem State.reg_addCnt_self (s : State) (a n : Nat) : (s.addCnt a n).reg a = s.reg a + BitVec.ofNat 64 n := by
  simp [State.addCnt]

theorem State.reg_addCnt_ne (s : State) {a b : Nat} (n : Nat) (h : b ≠ a) : (s.addCnt a n).reg b = s.reg b := by
  simp [State.addCnt, State.reg_setReg_ne _ _ h]

@[simp] theorem State.reg_bump_self (s : State) (a : Nat) : (s.bump a).reg a = s.reg a + 1 := by simp [State.bump]

theorem State.reg_bump_ne (s : State) {a b : Nat} (h : b ≠ a) : (s.bump a).reg b = s.reg b := by
  simp [State.bump, State.reg_addCnt_ne _ _ h]

theorem State.reg_bump (s : State) (a b : Nat) : (s.bump a).reg b = if b = a then s.reg a + 1 else s.reg b := by
  by_cases h : b = a
  · subst h; simp
  · simp [h, State.reg_bump_ne]

theorem State.reg_setFld_ne (s : State) (f : Fld) (n : Nat) {b : Nat} (h : b ≠ f.addr) : (s.setFld f n).reg b = s.reg b := by
  simp [State.setFld, State.reg_setReg_ne _ _ h]

theorem State.fld_setFld_ne (s : State) (f g : Fld) (n : Nat) (h : g.addr ≠ f.addr) : (s.setFld f n).fld g = s.fld g := by
  simp [State.fld, State.reg_setFld_ne _ _ _ h]

theorem State.fld_bump_ne (s : State) (a : Nat) (g : Fld) (h : g.addr ≠ a) : (s.bump a).fld g = s.fld g := by
  simp [State.fld, State.reg_bump_ne _ h]

/-! #### Ties of one nanosecond -/

theorem State.ties_cells (s : State) : s.ties.cells = s.regs.cells := by
  unfold State.ties; split <;> rfl

/-- Noting a write changes no register. -/
@[simp] theorem State.reg_noteWrite (s : State) (a b : Nat) (m : DWord) : (s.noteWrite a m).reg b = s.reg b := by
  simp [State.reg, State.noteWrite, Regs.get, State.ties_cells]

/-- Setting a sticky bit writes its field; noting the instant changes no register. -/
theorem State.reg_stick (s : State) (f : Fld) (b : Nat) : (s.stick f).reg b = (s.setFld f 1).reg b := by
  simp [State.reg, State.stick, Regs.get, State.ties_cells]

theorem State.reg_stick_ne (s : State) (f : Fld) {b : Nat} (h : b ≠ f.addr) : (s.stick f).reg b = s.reg b := by
  rw [State.reg_stick, State.reg_setFld_ne s f 1 h]

/-- Where no access wrote in this nanosecond, the block's update is the whole of it. -/
theorem State.hwUpdate_of_none (s : State) (k : State → State) (h : s.ties.wrote = []) : s.hwUpdate k = k s := by
  simp [State.hwUpdate, h]

/-- A register that no access wrote in this nanosecond takes what the block puts there. -/
theorem State.reg_hwUpdate_ne (s : State) (k : State → State) (b : Nat) (h : ∀ w ∈ s.ties.wrote, b ≠ w.1) :
    (s.hwUpdate k).reg b = (k s).reg b := by
  unfold State.hwUpdate
  generalize s.ties.wrote = l at h
  generalize k s = u
  induction l generalizing u with
  | nil => rfl
  | cons w r ih =>
    rw [List.foldl_cons, ih (fun x hx => h x (List.mem_cons_of_mem _ hx)), State.reg_setReg_ne _ _ (h w (List.mem_cons_self ..))]

end Sys2Proof.Machine
end

