-- ==== Sys2Proof/Laws/State.lean ====
section
/-! SUPPORT. What each update of State leaves alone, field by field, and what it writes; each is true by definition. -/

namespace Sys2Proof.Machine

@[simp] theorem State.setReg_rest (s : State) (a : Nat) (v : DWord) :
    (s.setReg a v).shadowPf = s.shadowPf ∧ (s.setReg a v).shadowSage = s.shadowSage ∧ (s.setReg a v).now = s.now ∧
    (s.setReg a v).thyme = s.thyme ∧ (s.setReg a v).aon = s.aon ∧ (s.setReg a v).nextId = s.nextId ∧
    (s.setReg a v).freeIdx = s.freeIdx ∧ (s.setReg a v).mac = s.mac ∧ (s.setReg a v).thy = s.thy ∧
    (s.setReg a v).prs = s.prs ∧ (s.setReg a v).rul = s.rul ∧ (s.setReg a v).erp = s.erp ∧
    (s.setReg a v).sfe = s.sfe ∧ (s.setReg a v).fab = s.fab ∧ (s.setReg a v).num = s.num ∧
    (s.setReg a v).bay = s.bay ∧ (s.setReg a v).adp = s.adp ∧ (s.setReg a v).hif = s.hif ∧
    (s.setReg a v).osl = s.osl ∧ (s.setReg a v).pow = s.pow ∧ (s.setReg a v).rst = s.rst ∧
    (s.setReg a v).rep = s.rep ∧ (s.setReg a v).out = s.out ∧ (s.setReg a v).pending = s.pending :=
  ⟨rfl, rfl, rfl, rfl, rfl, rfl, rfl, rfl, rfl, rfl, rfl, rfl, rfl, rfl, rfl, rfl, rfl, rfl, rfl, rfl, rfl, rfl, rfl, rfl⟩

@[simp] theorem State.setFld_rest (s : State) (f : Fld) (n : Nat) :
    (s.setFld f n).shadowPf = s.shadowPf ∧ (s.setFld f n).shadowSage = s.shadowSage ∧ (s.setFld f n).now = s.now ∧
    (s.setFld f n).thyme = s.thyme ∧ (s.setFld f n).aon = s.aon ∧ (s.setFld f n).nextId = s.nextId ∧
    (s.setFld f n).freeIdx = s.freeIdx ∧ (s.setFld f n).mac = s.mac ∧ (s.setFld f n).thy = s.thy ∧
    (s.setFld f n).prs = s.prs ∧ (s.setFld f n).rul = s.rul ∧ (s.setFld f n).erp = s.erp ∧
    (s.setFld f n).sfe = s.sfe ∧ (s.setFld f n).fab = s.fab ∧ (s.setFld f n).num = s.num ∧
    (s.setFld f n).bay = s.bay ∧ (s.setFld f n).adp = s.adp ∧ (s.setFld f n).hif = s.hif ∧
    (s.setFld f n).osl = s.osl ∧ (s.setFld f n).pow = s.pow ∧ (s.setFld f n).rst = s.rst ∧
    (s.setFld f n).rep = s.rep ∧ (s.setFld f n).out = s.out ∧ (s.setFld f n).pending = s.pending :=
  ⟨rfl, rfl, rfl, rfl, rfl, rfl, rfl, rfl, rfl, rfl, rfl, rfl, rfl, rfl, rfl, rfl, rfl, rfl, rfl, rfl, rfl, rfl, rfl, rfl⟩

@[simp] theorem State.stick_rest (s : State) (f : Fld) :
    (s.stick f).shadowPf = s.shadowPf ∧ (s.stick f).shadowSage = s.shadowSage ∧ (s.stick f).now = s.now ∧
    (s.stick f).thyme = s.thyme ∧ (s.stick f).aon = s.aon ∧ (s.stick f).nextId = s.nextId ∧
    (s.stick f).freeIdx = s.freeIdx ∧ (s.stick f).mac = s.mac ∧ (s.stick f).thy = s.thy ∧
    (s.stick f).prs = s.prs ∧ (s.stick f).rul = s.rul ∧ (s.stick f).erp = s.erp ∧
    (s.stick f).sfe = s.sfe ∧ (s.stick f).fab = s.fab ∧ (s.stick f).num = s.num ∧
    (s.stick f).bay = s.bay ∧ (s.stick f).adp = s.adp ∧ (s.stick f).hif = s.hif ∧
    (s.stick f).osl = s.osl ∧ (s.stick f).pow = s.pow ∧ (s.stick f).rst = s.rst ∧
    (s.stick f).rep = s.rep ∧ (s.stick f).out = s.out ∧ (s.stick f).pending = s.pending :=
  ⟨rfl, rfl, rfl, rfl, rfl, rfl, rfl, rfl, rfl, rfl, rfl, rfl, rfl, rfl, rfl, rfl, rfl, rfl, rfl, rfl, rfl, rfl, rfl, rfl⟩

@[simp] theorem State.addCnt_rest (s : State) (a n : Nat) :
    (s.addCnt a n).shadowPf = s.shadowPf ∧ (s.addCnt a n).shadowSage = s.shadowSage ∧ (s.addCnt a n).now = s.now ∧
    (s.addCnt a n).thyme = s.thyme ∧ (s.addCnt a n).aon = s.aon ∧ (s.addCnt a n).nextId = s.nextId ∧
    (s.addCnt a n).freeIdx = s.freeIdx ∧ (s.addCnt a n).mac = s.mac ∧ (s.addCnt a n).thy = s.thy ∧
    (s.addCnt a n).prs = s.prs ∧ (s.addCnt a n).rul = s.rul ∧ (s.addCnt a n).erp = s.erp ∧
    (s.addCnt a n).sfe = s.sfe ∧ (s.addCnt a n).fab = s.fab ∧ (s.addCnt a n).num = s.num ∧
    (s.addCnt a n).bay = s.bay ∧ (s.addCnt a n).adp = s.adp ∧ (s.addCnt a n).hif = s.hif ∧
    (s.addCnt a n).osl = s.osl ∧ (s.addCnt a n).pow = s.pow ∧ (s.addCnt a n).rst = s.rst ∧
    (s.addCnt a n).rep = s.rep ∧ (s.addCnt a n).out = s.out ∧ (s.addCnt a n).pending = s.pending :=
  ⟨rfl, rfl, rfl, rfl, rfl, rfl, rfl, rfl, rfl, rfl, rfl, rfl, rfl, rfl, rfl, rfl, rfl, rfl, rfl, rfl, rfl, rfl, rfl, rfl⟩

@[simp] theorem State.bump_rest (s : State) (a : Nat) :
    (s.bump a).shadowPf = s.shadowPf ∧ (s.bump a).shadowSage = s.shadowSage ∧ (s.bump a).now = s.now ∧
    (s.bump a).thyme = s.thyme ∧ (s.bump a).aon = s.aon ∧ (s.bump a).nextId = s.nextId ∧
    (s.bump a).freeIdx = s.freeIdx ∧ (s.bump a).mac = s.mac ∧ (s.bump a).thy = s.thy ∧
    (s.bump a).prs = s.prs ∧ (s.bump a).rul = s.rul ∧ (s.bump a).erp = s.erp ∧
    (s.bump a).sfe = s.sfe ∧ (s.bump a).fab = s.fab ∧ (s.bump a).num = s.num ∧
    (s.bump a).bay = s.bay ∧ (s.bump a).adp = s.adp ∧ (s.bump a).hif = s.hif ∧
    (s.bump a).osl = s.osl ∧ (s.bump a).pow = s.pow ∧ (s.bump a).rst = s.rst ∧
    (s.bump a).rep = s.rep ∧ (s.bump a).out = s.out ∧ (s.bump a).pending = s.pending :=
  ⟨rfl, rfl, rfl, rfl, rfl, rfl, rfl, rfl, rfl, rfl, rfl, rfl, rfl, rfl, rfl, rfl, rfl, rfl, rfl, rfl, rfl, rfl, rfl, rfl⟩

@[simp] theorem State.bumpFld_rest (s : State) (f : Fld) :
    (s.bumpFld f).shadowPf = s.shadowPf ∧ (s.bumpFld f).shadowSage = s.shadowSage ∧ (s.bumpFld f).now = s.now ∧
    (s.bumpFld f).thyme = s.thyme ∧ (s.bumpFld f).aon = s.aon ∧ (s.bumpFld f).nextId = s.nextId ∧
    (s.bumpFld f).freeIdx = s.freeIdx ∧ (s.bumpFld f).mac = s.mac ∧ (s.bumpFld f).thy = s.thy ∧
    (s.bumpFld f).prs = s.prs ∧ (s.bumpFld f).rul = s.rul ∧ (s.bumpFld f).erp = s.erp ∧
    (s.bumpFld f).sfe = s.sfe ∧ (s.bumpFld f).fab = s.fab ∧ (s.bumpFld f).num = s.num ∧
    (s.bumpFld f).bay = s.bay ∧ (s.bumpFld f).adp = s.adp ∧ (s.bumpFld f).hif = s.hif ∧
    (s.bumpFld f).osl = s.osl ∧ (s.bumpFld f).pow = s.pow ∧ (s.bumpFld f).rst = s.rst ∧
    (s.bumpFld f).rep = s.rep ∧ (s.bumpFld f).out = s.out ∧ (s.bumpFld f).pending = s.pending :=
  ⟨rfl, rfl, rfl, rfl, rfl, rfl, rfl, rfl, rfl, rfl, rfl, rfl, rfl, rfl, rfl, rfl, rfl, rfl, rfl, rfl, rfl, rfl, rfl, rfl⟩

@[simp] theorem State.emit_rest (s : State) (o : Output) :
    (s.emit o).regs = s.regs ∧ (s.emit o).shadowPf = s.shadowPf ∧ (s.emit o).shadowSage = s.shadowSage ∧
    (s.emit o).now = s.now ∧ (s.emit o).thyme = s.thyme ∧ (s.emit o).aon = s.aon ∧
    (s.emit o).nextId = s.nextId ∧ (s.emit o).freeIdx = s.freeIdx ∧ (s.emit o).mac = s.mac ∧
    (s.emit o).thy = s.thy ∧ (s.emit o).prs = s.prs ∧ (s.emit o).rul = s.rul ∧
    (s.emit o).erp = s.erp ∧ (s.emit o).sfe = s.sfe ∧ (s.emit o).fab = s.fab ∧
    (s.emit o).num = s.num ∧ (s.emit o).bay = s.bay ∧ (s.emit o).adp = s.adp ∧
    (s.emit o).hif = s.hif ∧ (s.emit o).osl = s.osl ∧ (s.emit o).pow = s.pow ∧
    (s.emit o).rst = s.rst ∧ (s.emit o).rep = s.rep ∧ (s.emit o).pending = s.pending :=
  ⟨rfl, rfl, rfl, rfl, rfl, rfl, rfl, rfl, rfl, rfl, rfl, rfl, rfl, rfl, rfl, rfl, rfl, rfl, rfl, rfl, rfl, rfl, rfl, rfl⟩

@[simp] theorem State.updPort_rest (s : State) (p : Nat) (f : PortSt → PortSt) :
    (s.updPort p f).regs = s.regs ∧ (s.updPort p f).shadowPf = s.shadowPf ∧ (s.updPort p f).shadowSage = s.shadowSage ∧
    (s.updPort p f).now = s.now ∧ (s.updPort p f).thyme = s.thyme ∧ (s.updPort p f).aon = s.aon ∧
    (s.updPort p f).nextId = s.nextId ∧ (s.updPort p f).freeIdx = s.freeIdx ∧ (s.updPort p f).thy = s.thy ∧
    (s.updPort p f).prs = s.prs ∧ (s.updPort p f).rul = s.rul ∧ (s.updPort p f).erp = s.erp ∧
    (s.updPort p f).sfe = s.sfe ∧ (s.updPort p f).fab = s.fab ∧ (s.updPort p f).num = s.num ∧
    (s.updPort p f).bay = s.bay ∧ (s.updPort p f).adp = s.adp ∧ (s.updPort p f).hif = s.hif ∧
    (s.updPort p f).osl = s.osl ∧ (s.updPort p f).pow = s.pow ∧ (s.updPort p f).rst = s.rst ∧
    (s.updPort p f).rep = s.rep ∧ (s.updPort p f).out = s.out ∧ (s.updPort p f).pending = s.pending :=
  ⟨rfl, rfl, rfl, rfl, rfl, rfl, rfl, rfl, rfl, rfl, rfl, rfl, rfl, rfl, rfl, rfl, rfl, rfl, rfl, rfl, rfl, rfl, rfl, rfl⟩

@[simp] theorem State.updPair_rest (s : State) (k : Nat) (f : PairSt → PairSt) :
    (s.updPair k f).regs = s.regs ∧ (s.updPair k f).shadowPf = s.shadowPf ∧ (s.updPair k f).shadowSage = s.shadowSage ∧
    (s.updPair k f).now = s.now ∧ (s.updPair k f).thyme = s.thyme ∧ (s.updPair k f).aon = s.aon ∧
    (s.updPair k f).nextId = s.nextId ∧ (s.updPair k f).freeIdx = s.freeIdx ∧ (s.updPair k f).thy = s.thy ∧
    (s.updPair k f).prs = s.prs ∧ (s.updPair k f).rul = s.rul ∧ (s.updPair k f).erp = s.erp ∧
    (s.updPair k f).sfe = s.sfe ∧ (s.updPair k f).fab = s.fab ∧ (s.updPair k f).num = s.num ∧
    (s.updPair k f).bay = s.bay ∧ (s.updPair k f).adp = s.adp ∧ (s.updPair k f).hif = s.hif ∧
    (s.updPair k f).osl = s.osl ∧ (s.updPair k f).pow = s.pow ∧ (s.updPair k f).rst = s.rst ∧
    (s.updPair k f).rep = s.rep ∧ (s.updPair k f).out = s.out ∧ (s.updPair k f).pending = s.pending :=
  ⟨rfl, rfl, rfl, rfl, rfl, rfl, rfl, rfl, rfl, rfl, rfl, rfl, rfl, rfl, rfl, rfl, rfl, rfl, rfl, rfl, rfl, rfl, rfl, rfl⟩

@[simp] theorem State.updFrame_rest (s : State) (f : Nat) (g : Frame → Frame) :
    (s.updFrame f g).regs = s.regs ∧ (s.updFrame f g).shadowPf = s.shadowPf ∧ (s.updFrame f g).shadowSage = s.shadowSage ∧
    (s.updFrame f g).now = s.now ∧ (s.updFrame f g).thyme = s.thyme ∧ (s.updFrame f g).aon = s.aon ∧
    (s.updFrame f g).nextId = s.nextId ∧ (s.updFrame f g).freeIdx = s.freeIdx ∧ (s.updFrame f g).thy = s.thy ∧
    (s.updFrame f g).prs = s.prs ∧ (s.updFrame f g).rul = s.rul ∧ (s.updFrame f g).erp = s.erp ∧
    (s.updFrame f g).sfe = s.sfe ∧ (s.updFrame f g).fab = s.fab ∧ (s.updFrame f g).num = s.num ∧
    (s.updFrame f g).bay = s.bay ∧ (s.updFrame f g).adp = s.adp ∧ (s.updFrame f g).hif = s.hif ∧
    (s.updFrame f g).osl = s.osl ∧ (s.updFrame f g).pow = s.pow ∧ (s.updFrame f g).rst = s.rst ∧
    (s.updFrame f g).rep = s.rep ∧ (s.updFrame f g).out = s.out ∧ (s.updFrame f g).pending = s.pending :=
  ⟨rfl, rfl, rfl, rfl, rfl, rfl, rfl, rfl, rfl, rfl, rfl, rfl, rfl, rfl, rfl, rfl, rfl, rfl, rfl, rfl, rfl, rfl, rfl, rfl⟩

@[simp] theorem State.updThy_rest (s : State) (f : ThySt → ThySt) :
    (s.updThy f).regs = s.regs ∧ (s.updThy f).shadowPf = s.shadowPf ∧ (s.updThy f).shadowSage = s.shadowSage ∧
    (s.updThy f).now = s.now ∧ (s.updThy f).thyme = s.thyme ∧ (s.updThy f).aon = s.aon ∧
    (s.updThy f).nextId = s.nextId ∧ (s.updThy f).freeIdx = s.freeIdx ∧ (s.updThy f).mac = s.mac ∧
    (s.updThy f).prs = s.prs ∧ (s.updThy f).rul = s.rul ∧ (s.updThy f).erp = s.erp ∧
    (s.updThy f).sfe = s.sfe ∧ (s.updThy f).fab = s.fab ∧ (s.updThy f).num = s.num ∧
    (s.updThy f).bay = s.bay ∧ (s.updThy f).adp = s.adp ∧ (s.updThy f).hif = s.hif ∧
    (s.updThy f).osl = s.osl ∧ (s.updThy f).pow = s.pow ∧ (s.updThy f).rst = s.rst ∧
    (s.updThy f).rep = s.rep ∧ (s.updThy f).out = s.out ∧ (s.updThy f).pending = s.pending :=
  ⟨rfl, rfl, rfl, rfl, rfl, rfl, rfl, rfl, rfl, rfl, rfl, rfl, rfl, rfl, rfl, rfl, rfl, rfl, rfl, rfl, rfl, rfl, rfl, rfl⟩

@[simp] theorem State.updChive_rest (s : State) (c : Nat) (f : Chive → Chive) :
    (s.updChive c f).regs = s.regs ∧ (s.updChive c f).shadowPf = s.shadowPf ∧ (s.updChive c f).shadowSage = s.shadowSage ∧
    (s.updChive c f).now = s.now ∧ (s.updChive c f).thyme = s.thyme ∧ (s.updChive c f).aon = s.aon ∧
    (s.updChive c f).nextId = s.nextId ∧ (s.updChive c f).freeIdx = s.freeIdx ∧ (s.updChive c f).mac = s.mac ∧
    (s.updChive c f).thy = s.thy ∧ (s.updChive c f).rul = s.rul ∧ (s.updChive c f).erp = s.erp ∧
    (s.updChive c f).sfe = s.sfe ∧ (s.updChive c f).fab = s.fab ∧ (s.updChive c f).num = s.num ∧
    (s.updChive c f).bay = s.bay ∧ (s.updChive c f).adp = s.adp ∧ (s.updChive c f).hif = s.hif ∧
    (s.updChive c f).osl = s.osl ∧ (s.updChive c f).pow = s.pow ∧ (s.updChive c f).rst = s.rst ∧
    (s.updChive c f).rep = s.rep ∧ (s.updChive c f).out = s.out ∧ (s.updChive c f).pending = s.pending :=
  ⟨rfl, rfl, rfl, rfl, rfl, rfl, rfl, rfl, rfl, rfl, rfl, rfl, rfl, rfl, rfl, rfl, rfl, rfl, rfl, rfl, rfl, rfl, rfl, rfl⟩

@[simp] theorem State.updRul_rest (s : State) (f : RulSt → RulSt) :
    (s.updRul f).regs = s.regs ∧ (s.updRul f).shadowPf = s.shadowPf ∧ (s.updRul f).shadowSage = s.shadowSage ∧
    (s.updRul f).now = s.now ∧ (s.updRul f).thyme = s.thyme ∧ (s.updRul f).aon = s.aon ∧
    (s.updRul f).nextId = s.nextId ∧ (s.updRul f).freeIdx = s.freeIdx ∧ (s.updRul f).mac = s.mac ∧
    (s.updRul f).thy = s.thy ∧ (s.updRul f).prs = s.prs ∧ (s.updRul f).erp = s.erp ∧
    (s.updRul f).sfe = s.sfe ∧ (s.updRul f).fab = s.fab ∧ (s.updRul f).num = s.num ∧
    (s.updRul f).bay = s.bay ∧ (s.updRul f).adp = s.adp ∧ (s.updRul f).hif = s.hif ∧
    (s.updRul f).osl = s.osl ∧ (s.updRul f).pow = s.pow ∧ (s.updRul f).rst = s.rst ∧
    (s.updRul f).rep = s.rep ∧ (s.updRul f).out = s.out ∧ (s.updRul f).pending = s.pending :=
  ⟨rfl, rfl, rfl, rfl, rfl, rfl, rfl, rfl, rfl, rfl, rfl, rfl, rfl, rfl, rfl, rfl, rfl, rfl, rfl, rfl, rfl, rfl, rfl, rfl⟩

@[simp] theorem State.updSeg_rest (s : State) (i : Nat) (f : Seg → Seg) :
    (s.updSeg i f).regs = s.regs ∧ (s.updSeg i f).shadowPf = s.shadowPf ∧ (s.updSeg i f).shadowSage = s.shadowSage ∧
    (s.updSeg i f).now = s.now ∧ (s.updSeg i f).thyme = s.thyme ∧ (s.updSeg i f).aon = s.aon ∧
    (s.updSeg i f).nextId = s.nextId ∧ (s.updSeg i f).freeIdx = s.freeIdx ∧ (s.updSeg i f).mac = s.mac ∧
    (s.updSeg i f).thy = s.thy ∧ (s.updSeg i f).prs = s.prs ∧ (s.updSeg i f).rul = s.rul ∧
    (s.updSeg i f).erp = s.erp ∧ (s.updSeg i f).fab = s.fab ∧ (s.updSeg i f).num = s.num ∧
    (s.updSeg i f).bay = s.bay ∧ (s.updSeg i f).adp = s.adp ∧ (s.updSeg i f).hif = s.hif ∧
    (s.updSeg i f).osl = s.osl ∧ (s.updSeg i f).pow = s.pow ∧ (s.updSeg i f).rst = s.rst ∧
    (s.updSeg i f).rep = s.rep ∧ (s.updSeg i f).out = s.out ∧ (s.updSeg i f).pending = s.pending :=
  ⟨rfl, rfl, rfl, rfl, rfl, rfl, rfl, rfl, rfl, rfl, rfl, rfl, rfl, rfl, rfl, rfl, rfl, rfl, rfl, rfl, rfl, rfl, rfl, rfl⟩

@[simp] theorem State.updErp_rest (s : State) (f : ErpSt → ErpSt) :
    (s.updErp f).regs = s.regs ∧ (s.updErp f).shadowPf = s.shadowPf ∧ (s.updErp f).shadowSage = s.shadowSage ∧
    (s.updErp f).now = s.now ∧ (s.updErp f).thyme = s.thyme ∧ (s.updErp f).aon = s.aon ∧
    (s.updErp f).nextId = s.nextId ∧ (s.updErp f).freeIdx = s.freeIdx ∧ (s.updErp f).mac = s.mac ∧
    (s.updErp f).thy = s.thy ∧ (s.updErp f).prs = s.prs ∧ (s.updErp f).rul = s.rul ∧
    (s.updErp f).sfe = s.sfe ∧ (s.updErp f).fab = s.fab ∧ (s.updErp f).num = s.num ∧
    (s.updErp f).bay = s.bay ∧ (s.updErp f).adp = s.adp ∧ (s.updErp f).hif = s.hif ∧
    (s.updErp f).osl = s.osl ∧ (s.updErp f).pow = s.pow ∧ (s.updErp f).rst = s.rst ∧
    (s.updErp f).rep = s.rep ∧ (s.updErp f).out = s.out ∧ (s.updErp f).pending = s.pending :=
  ⟨rfl, rfl, rfl, rfl, rfl, rfl, rfl, rfl, rfl, rfl, rfl, rfl, rfl, rfl, rfl, rfl, rfl, rfl, rfl, rfl, rfl, rfl, rfl, rfl⟩

@[simp] theorem State.updBundle_rest (s : State) (b : Nat) (f : Bundle → Bundle) :
    (s.updBundle b f).regs = s.regs ∧ (s.updBundle b f).shadowPf = s.shadowPf ∧ (s.updBundle b f).shadowSage = s.shadowSage ∧
    (s.updBundle b f).now = s.now ∧ (s.updBundle b f).thyme = s.thyme ∧ (s.updBundle b f).aon = s.aon ∧
    (s.updBundle b f).nextId = s.nextId ∧ (s.updBundle b f).freeIdx = s.freeIdx ∧ (s.updBundle b f).mac = s.mac ∧
    (s.updBundle b f).thy = s.thy ∧ (s.updBundle b f).prs = s.prs ∧ (s.updBundle b f).rul = s.rul ∧
    (s.updBundle b f).sfe = s.sfe ∧ (s.updBundle b f).fab = s.fab ∧ (s.updBundle b f).num = s.num ∧
    (s.updBundle b f).bay = s.bay ∧ (s.updBundle b f).adp = s.adp ∧ (s.updBundle b f).hif = s.hif ∧
    (s.updBundle b f).osl = s.osl ∧ (s.updBundle b f).pow = s.pow ∧ (s.updBundle b f).rst = s.rst ∧
    (s.updBundle b f).rep = s.rep ∧ (s.updBundle b f).out = s.out ∧ (s.updBundle b f).pending = s.pending :=
  ⟨rfl, rfl, rfl, rfl, rfl, rfl, rfl, rfl, rfl, rfl, rfl, rfl, rfl, rfl, rfl, rfl, rfl, rfl, rfl, rfl, rfl, rfl, rfl, rfl⟩

@[simp] theorem State.updSfe_rest (s : State) (f : SfeSt → SfeSt) :
    (s.updSfe f).regs = s.regs ∧ (s.updSfe f).shadowPf = s.shadowPf ∧ (s.updSfe f).shadowSage = s.shadowSage ∧
    (s.updSfe f).now = s.now ∧ (s.updSfe f).thyme = s.thyme ∧ (s.updSfe f).aon = s.aon ∧
    (s.updSfe f).nextId = s.nextId ∧ (s.updSfe f).freeIdx = s.freeIdx ∧ (s.updSfe f).mac = s.mac ∧
    (s.updSfe f).thy = s.thy ∧ (s.updSfe f).prs = s.prs ∧ (s.updSfe f).rul = s.rul ∧
    (s.updSfe f).erp = s.erp ∧ (s.updSfe f).fab = s.fab ∧ (s.updSfe f).num = s.num ∧
    (s.updSfe f).bay = s.bay ∧ (s.updSfe f).adp = s.adp ∧ (s.updSfe f).hif = s.hif ∧
    (s.updSfe f).osl = s.osl ∧ (s.updSfe f).pow = s.pow ∧ (s.updSfe f).rst = s.rst ∧
    (s.updSfe f).rep = s.rep ∧ (s.updSfe f).out = s.out ∧ (s.updSfe f).pending = s.pending :=
  ⟨rfl, rfl, rfl, rfl, rfl, rfl, rfl, rfl, rfl, rfl, rfl, rfl, rfl, rfl, rfl, rfl, rfl, rfl, rfl, rfl, rfl, rfl, rfl, rfl⟩

@[simp] theorem State.updRow_rest (s : State) (r : Nat) (f : Row → Row) :
    (s.updRow r f).regs = s.regs ∧ (s.updRow r f).shadowPf = s.shadowPf ∧ (s.updRow r f).shadowSage = s.shadowSage ∧
    (s.updRow r f).now = s.now ∧ (s.updRow r f).thyme = s.thyme ∧ (s.updRow r f).aon = s.aon ∧
    (s.updRow r f).nextId = s.nextId ∧ (s.updRow r f).freeIdx = s.freeIdx ∧ (s.updRow r f).mac = s.mac ∧
    (s.updRow r f).thy = s.thy ∧ (s.updRow r f).prs = s.prs ∧ (s.updRow r f).rul = s.rul ∧
    (s.updRow r f).erp = s.erp ∧ (s.updRow r f).fab = s.fab ∧ (s.updRow r f).num = s.num ∧
    (s.updRow r f).bay = s.bay ∧ (s.updRow r f).adp = s.adp ∧ (s.updRow r f).hif = s.hif ∧
    (s.updRow r f).osl = s.osl ∧ (s.updRow r f).pow = s.pow ∧ (s.updRow r f).rst = s.rst ∧
    (s.updRow r f).rep = s.rep ∧ (s.updRow r f).out = s.out ∧ (s.updRow r f).pending = s.pending :=
  ⟨rfl, rfl, rfl, rfl, rfl, rfl, rfl, rfl, rfl, rfl, rfl, rfl, rfl, rfl, rfl, rfl, rfl, rfl, rfl, rfl, rfl, rfl, rfl, rfl⟩

@[simp] theorem State.updSlot_rest (s : State) (i : Nat) (f : Slot → Slot) :
    (s.updSlot i f).regs = s.regs ∧ (s.updSlot i f).shadowPf = s.shadowPf ∧ (s.updSlot i f).shadowSage = s.shadowSage ∧
    (s.updSlot i f).now = s.now ∧ (s.updSlot i f).thyme = s.thyme ∧ (s.updSlot i f).aon = s.aon ∧
    (s.updSlot i f).nextId = s.nextId ∧ (s.updSlot i f).freeIdx = s.freeIdx ∧ (s.updSlot i f).mac = s.mac ∧
    (s.updSlot i f).thy = s.thy ∧ (s.updSlot i f).prs = s.prs ∧ (s.updSlot i f).rul = s.rul ∧
    (s.updSlot i f).erp = s.erp ∧ (s.updSlot i f).fab = s.fab ∧ (s.updSlot i f).num = s.num ∧
    (s.updSlot i f).sfe = s.sfe ∧ (s.updSlot i f).adp = s.adp ∧ (s.updSlot i f).hif = s.hif ∧
    (s.updSlot i f).osl = s.osl ∧ (s.updSlot i f).pow = s.pow ∧ (s.updSlot i f).rst = s.rst ∧
    (s.updSlot i f).rep = s.rep ∧ (s.updSlot i f).out = s.out ∧ (s.updSlot i f).pending = s.pending :=
  ⟨rfl, rfl, rfl, rfl, rfl, rfl, rfl, rfl, rfl, rfl, rfl, rfl, rfl, rfl, rfl, rfl, rfl, rfl, rfl, rfl, rfl, rfl, rfl, rfl⟩

@[simp] theorem State.updFab_rest (s : State) (f : FabSt → FabSt) :
    (s.updFab f).regs = s.regs ∧ (s.updFab f).shadowPf = s.shadowPf ∧ (s.updFab f).shadowSage = s.shadowSage ∧
    (s.updFab f).now = s.now ∧ (s.updFab f).thyme = s.thyme ∧ (s.updFab f).aon = s.aon ∧
    (s.updFab f).nextId = s.nextId ∧ (s.updFab f).freeIdx = s.freeIdx ∧ (s.updFab f).mac = s.mac ∧
    (s.updFab f).thy = s.thy ∧ (s.updFab f).prs = s.prs ∧ (s.updFab f).rul = s.rul ∧
    (s.updFab f).erp = s.erp ∧ (s.updFab f).sfe = s.sfe ∧ (s.updFab f).num = s.num ∧
    (s.updFab f).bay = s.bay ∧ (s.updFab f).adp = s.adp ∧ (s.updFab f).hif = s.hif ∧
    (s.updFab f).osl = s.osl ∧ (s.updFab f).pow = s.pow ∧ (s.updFab f).rst = s.rst ∧
    (s.updFab f).rep = s.rep ∧ (s.updFab f).out = s.out ∧ (s.updFab f).pending = s.pending :=
  ⟨rfl, rfl, rfl, rfl, rfl, rfl, rfl, rfl, rfl, rfl, rfl, rfl, rfl, rfl, rfl, rfl, rfl, rfl, rfl, rfl, rfl, rfl, rfl, rfl⟩

@[simp] theorem State.updTile_rest (s : State) (t : Nat) (f : Tile → Tile) :
    (s.updTile t f).regs = s.regs ∧ (s.updTile t f).shadowPf = s.shadowPf ∧ (s.updTile t f).shadowSage = s.shadowSage ∧
    (s.updTile t f).now = s.now ∧ (s.updTile t f).thyme = s.thyme ∧ (s.updTile t f).aon = s.aon ∧
    (s.updTile t f).nextId = s.nextId ∧ (s.updTile t f).freeIdx = s.freeIdx ∧ (s.updTile t f).mac = s.mac ∧
    (s.updTile t f).thy = s.thy ∧ (s.updTile t f).prs = s.prs ∧ (s.updTile t f).rul = s.rul ∧
    (s.updTile t f).erp = s.erp ∧ (s.updTile t f).sfe = s.sfe ∧ (s.updTile t f).num = s.num ∧
    (s.updTile t f).bay = s.bay ∧ (s.updTile t f).adp = s.adp ∧ (s.updTile t f).hif = s.hif ∧
    (s.updTile t f).osl = s.osl ∧ (s.updTile t f).pow = s.pow ∧ (s.updTile t f).rst = s.rst ∧
    (s.updTile t f).rep = s.rep ∧ (s.updTile t f).out = s.out ∧ (s.updTile t f).pending = s.pending :=
  ⟨rfl, rfl, rfl, rfl, rfl, rfl, rfl, rfl, rfl, rfl, rfl, rfl, rfl, rfl, rfl, rfl, rfl, rfl, rfl, rfl, rfl, rfl, rfl, rfl⟩

@[simp] theorem State.updPlot_rest (s : State) (p : Nat) (f : PlotSt → PlotSt) :
    (s.updPlot p f).regs = s.regs ∧ (s.updPlot p f).shadowPf = s.shadowPf ∧ (s.updPlot p f).shadowSage = s.shadowSage ∧
    (s.updPlot p f).now = s.now ∧ (s.updPlot p f).thyme = s.thyme ∧ (s.updPlot p f).aon = s.aon ∧
    (s.updPlot p f).nextId = s.nextId ∧ (s.updPlot p f).freeIdx = s.freeIdx ∧ (s.updPlot p f).mac = s.mac ∧
    (s.updPlot p f).thy = s.thy ∧ (s.updPlot p f).prs = s.prs ∧ (s.updPlot p f).rul = s.rul ∧
    (s.updPlot p f).erp = s.erp ∧ (s.updPlot p f).sfe = s.sfe ∧ (s.updPlot p f).num = s.num ∧
    (s.updPlot p f).bay = s.bay ∧ (s.updPlot p f).adp = s.adp ∧ (s.updPlot p f).hif = s.hif ∧
    (s.updPlot p f).osl = s.osl ∧ (s.updPlot p f).pow = s.pow ∧ (s.updPlot p f).rst = s.rst ∧
    (s.updPlot p f).rep = s.rep ∧ (s.updPlot p f).out = s.out ∧ (s.updPlot p f).pending = s.pending :=
  ⟨rfl, rfl, rfl, rfl, rfl, rfl, rfl, rfl, rfl, rfl, rfl, rfl, rfl, rfl, rfl, rfl, rfl, rfl, rfl, rfl, rfl, rfl, rfl, rfl⟩

@[simp] theorem State.updField_rest (s : State) (f : Nat) (g : FieldSt → FieldSt) :
    (s.updField f g).regs = s.regs ∧ (s.updField f g).shadowPf = s.shadowPf ∧ (s.updField f g).shadowSage = s.shadowSage ∧
    (s.updField f g).now = s.now ∧ (s.updField f g).thyme = s.thyme ∧ (s.updField f g).aon = s.aon ∧
    (s.updField f g).nextId = s.nextId ∧ (s.updField f g).freeIdx = s.freeIdx ∧ (s.updField f g).mac = s.mac ∧
    (s.updField f g).thy = s.thy ∧ (s.updField f g).prs = s.prs ∧ (s.updField f g).rul = s.rul ∧
    (s.updField f g).erp = s.erp ∧ (s.updField f g).sfe = s.sfe ∧ (s.updField f g).num = s.num ∧
    (s.updField f g).bay = s.bay ∧ (s.updField f g).adp = s.adp ∧ (s.updField f g).hif = s.hif ∧
    (s.updField f g).osl = s.osl ∧ (s.updField f g).pow = s.pow ∧ (s.updField f g).rst = s.rst ∧
    (s.updField f g).rep = s.rep ∧ (s.updField f g).out = s.out ∧ (s.updField f g).pending = s.pending :=
  ⟨rfl, rfl, rfl, rfl, rfl, rfl, rfl, rfl, rfl, rfl, rfl, rfl, rfl, rfl, rfl, rfl, rfl, rfl, rfl, rfl, rfl, rfl, rfl, rfl⟩

@[simp] theorem State.updNum_rest (s : State) (f : NumSt → NumSt) :
    (s.updNum f).regs = s.regs ∧ (s.updNum f).shadowPf = s.shadowPf ∧ (s.updNum f).shadowSage = s.shadowSage ∧
    (s.updNum f).now = s.now ∧ (s.updNum f).thyme = s.thyme ∧ (s.updNum f).aon = s.aon ∧
    (s.updNum f).nextId = s.nextId ∧ (s.updNum f).freeIdx = s.freeIdx ∧ (s.updNum f).mac = s.mac ∧
    (s.updNum f).thy = s.thy ∧ (s.updNum f).prs = s.prs ∧ (s.updNum f).rul = s.rul ∧
    (s.updNum f).erp = s.erp ∧ (s.updNum f).sfe = s.sfe ∧ (s.updNum f).fab = s.fab ∧
    (s.updNum f).bay = s.bay ∧ (s.updNum f).adp = s.adp ∧ (s.updNum f).hif = s.hif ∧
    (s.updNum f).osl = s.osl ∧ (s.updNum f).pow = s.pow ∧ (s.updNum f).rst = s.rst ∧
    (s.updNum f).rep = s.rep ∧ (s.updNum f).out = s.out ∧ (s.updNum f).pending = s.pending :=
  ⟨rfl, rfl, rfl, rfl, rfl, rfl, rfl, rfl, rfl, rfl, rfl, rfl, rfl, rfl, rfl, rfl, rfl, rfl, rfl, rfl, rfl, rfl, rfl, rfl⟩

@[simp] theorem State.updBay_rest (s : State) (f : BaySt → BaySt) :
    (s.updBay f).regs = s.regs ∧ (s.updBay f).shadowPf = s.shadowPf ∧ (s.updBay f).shadowSage = s.shadowSage ∧
    (s.updBay f).now = s.now ∧ (s.updBay f).thyme = s.thyme ∧ (s.updBay f).aon = s.aon ∧
    (s.updBay f).nextId = s.nextId ∧ (s.updBay f).freeIdx = s.freeIdx ∧ (s.updBay f).mac = s.mac ∧
    (s.updBay f).thy = s.thy ∧ (s.updBay f).prs = s.prs ∧ (s.updBay f).rul = s.rul ∧
    (s.updBay f).erp = s.erp ∧ (s.updBay f).sfe = s.sfe ∧ (s.updBay f).fab = s.fab ∧
    (s.updBay f).num = s.num ∧ (s.updBay f).adp = s.adp ∧ (s.updBay f).hif = s.hif ∧
    (s.updBay f).osl = s.osl ∧ (s.updBay f).pow = s.pow ∧ (s.updBay f).rst = s.rst ∧
    (s.updBay f).rep = s.rep ∧ (s.updBay f).out = s.out ∧ (s.updBay f).pending = s.pending :=
  ⟨rfl, rfl, rfl, rfl, rfl, rfl, rfl, rfl, rfl, rfl, rfl, rfl, rfl, rfl, rfl, rfl, rfl, rfl, rfl, rfl, rfl, rfl, rfl, rfl⟩

@[simp] theorem State.updModel_rest (s : State) (h : Nat) (f : Model → Model) :
    (s.updModel h f).regs = s.regs ∧ (s.updModel h f).shadowPf = s.shadowPf ∧ (s.updModel h f).shadowSage = s.shadowSage ∧
    (s.updModel h f).now = s.now ∧ (s.updModel h f).thyme = s.thyme ∧ (s.updModel h f).aon = s.aon ∧
    (s.updModel h f).nextId = s.nextId ∧ (s.updModel h f).freeIdx = s.freeIdx ∧ (s.updModel h f).mac = s.mac ∧
    (s.updModel h f).thy = s.thy ∧ (s.updModel h f).prs = s.prs ∧ (s.updModel h f).rul = s.rul ∧
    (s.updModel h f).erp = s.erp ∧ (s.updModel h f).sfe = s.sfe ∧ (s.updModel h f).fab = s.fab ∧
    (s.updModel h f).num = s.num ∧ (s.updModel h f).adp = s.adp ∧ (s.updModel h f).hif = s.hif ∧
    (s.updModel h f).osl = s.osl ∧ (s.updModel h f).pow = s.pow ∧ (s.updModel h f).rst = s.rst ∧
    (s.updModel h f).rep = s.rep ∧ (s.updModel h f).out = s.out ∧ (s.updModel h f).pending = s.pending :=
  ⟨rfl, rfl, rfl, rfl, rfl, rfl, rfl, rfl, rfl, rfl, rfl, rfl, rfl, rfl, rfl, rfl, rfl, rfl, rfl, rfl, rfl, rfl, rfl, rfl⟩

@[simp] theorem State.updAdp_rest (s : State) (f : AdpSt → AdpSt) :
    (s.updAdp f).regs = s.regs ∧ (s.updAdp f).shadowPf = s.shadowPf ∧ (s.updAdp f).shadowSage = s.shadowSage ∧
    (s.updAdp f).now = s.now ∧ (s.updAdp f).thyme = s.thyme ∧ (s.updAdp f).aon = s.aon ∧
    (s.updAdp f).nextId = s.nextId ∧ (s.updAdp f).freeIdx = s.freeIdx ∧ (s.updAdp f).mac = s.mac ∧
    (s.updAdp f).thy = s.thy ∧ (s.updAdp f).prs = s.prs ∧ (s.updAdp f).rul = s.rul ∧
    (s.updAdp f).erp = s.erp ∧ (s.updAdp f).sfe = s.sfe ∧ (s.updAdp f).fab = s.fab ∧
    (s.updAdp f).num = s.num ∧ (s.updAdp f).bay = s.bay ∧ (s.updAdp f).hif = s.hif ∧
    (s.updAdp f).osl = s.osl ∧ (s.updAdp f).pow = s.pow ∧ (s.updAdp f).rst = s.rst ∧
    (s.updAdp f).rep = s.rep ∧ (s.updAdp f).out = s.out ∧ (s.updAdp f).pending = s.pending :=
  ⟨rfl, rfl, rfl, rfl, rfl, rfl, rfl, rfl, rfl, rfl, rfl, rfl, rfl, rfl, rfl, rfl, rfl, rfl, rfl, rfl, rfl, rfl, rfl, rfl⟩

@[simp] theorem State.updJob_rest (s : State) (n : Nat) (f : Job → Job) :
    (s.updJob n f).regs = s.regs ∧ (s.updJob n f).shadowPf = s.shadowPf ∧ (s.updJob n f).shadowSage = s.shadowSage ∧
    (s.updJob n f).now = s.now ∧ (s.updJob n f).thyme = s.thyme ∧ (s.updJob n f).aon = s.aon ∧
    (s.updJob n f).nextId = s.nextId ∧ (s.updJob n f).freeIdx = s.freeIdx ∧ (s.updJob n f).mac = s.mac ∧
    (s.updJob n f).thy = s.thy ∧ (s.updJob n f).prs = s.prs ∧ (s.updJob n f).rul = s.rul ∧
    (s.updJob n f).erp = s.erp ∧ (s.updJob n f).sfe = s.sfe ∧ (s.updJob n f).fab = s.fab ∧
    (s.updJob n f).num = s.num ∧ (s.updJob n f).bay = s.bay ∧ (s.updJob n f).hif = s.hif ∧
    (s.updJob n f).osl = s.osl ∧ (s.updJob n f).pow = s.pow ∧ (s.updJob n f).rst = s.rst ∧
    (s.updJob n f).rep = s.rep ∧ (s.updJob n f).out = s.out ∧ (s.updJob n f).pending = s.pending :=
  ⟨rfl, rfl, rfl, rfl, rfl, rfl, rfl, rfl, rfl, rfl, rfl, rfl, rfl, rfl, rfl, rfl, rfl, rfl, rfl, rfl, rfl, rfl, rfl, rfl⟩

@[simp] theorem State.updHif_rest (s : State) (f : HifSt → HifSt) :
    (s.updHif f).regs = s.regs ∧ (s.updHif f).shadowPf = s.shadowPf ∧ (s.updHif f).shadowSage = s.shadowSage ∧
    (s.updHif f).now = s.now ∧ (s.updHif f).thyme = s.thyme ∧ (s.updHif f).aon = s.aon ∧
    (s.updHif f).nextId = s.nextId ∧ (s.updHif f).freeIdx = s.freeIdx ∧ (s.updHif f).mac = s.mac ∧
    (s.updHif f).thy = s.thy ∧ (s.updHif f).prs = s.prs ∧ (s.updHif f).rul = s.rul ∧
    (s.updHif f).erp = s.erp ∧ (s.updHif f).sfe = s.sfe ∧ (s.updHif f).fab = s.fab ∧
    (s.updHif f).num = s.num ∧ (s.updHif f).bay = s.bay ∧ (s.updHif f).adp = s.adp ∧
    (s.updHif f).osl = s.osl ∧ (s.updHif f).pow = s.pow ∧ (s.updHif f).rst = s.rst ∧
    (s.updHif f).rep = s.rep ∧ (s.updHif f).out = s.out ∧ (s.updHif f).pending = s.pending :=
  ⟨rfl, rfl, rfl, rfl, rfl, rfl, rfl, rfl, rfl, rfl, rfl, rfl, rfl, rfl, rfl, rfl, rfl, rfl, rfl, rfl, rfl, rfl, rfl, rfl⟩

@[simp] theorem State.updQp_rest (s : State) (q : Nat) (f : Qp → Qp) :
    (s.updQp q f).regs = s.regs ∧ (s.updQp q f).shadowPf = s.shadowPf ∧ (s.updQp q f).shadowSage = s.shadowSage ∧
    (s.updQp q f).now = s.now ∧ (s.updQp q f).thyme = s.thyme ∧ (s.updQp q f).aon = s.aon ∧
    (s.updQp q f).nextId = s.nextId ∧ (s.updQp q f).freeIdx = s.freeIdx ∧ (s.updQp q f).mac = s.mac ∧
    (s.updQp q f).thy = s.thy ∧ (s.updQp q f).prs = s.prs ∧ (s.updQp q f).rul = s.rul ∧
    (s.updQp q f).erp = s.erp ∧ (s.updQp q f).sfe = s.sfe ∧ (s.updQp q f).fab = s.fab ∧
    (s.updQp q f).num = s.num ∧ (s.updQp q f).bay = s.bay ∧ (s.updQp q f).adp = s.adp ∧
    (s.updQp q f).osl = s.osl ∧ (s.updQp q f).pow = s.pow ∧ (s.updQp q f).rst = s.rst ∧
    (s.updQp q f).rep = s.rep ∧ (s.updQp q f).out = s.out ∧ (s.updQp q f).pending = s.pending :=
  ⟨rfl, rfl, rfl, rfl, rfl, rfl, rfl, rfl, rfl, rfl, rfl, rfl, rfl, rfl, rfl, rfl, rfl, rfl, rfl, rfl, rfl, rfl, rfl, rfl⟩

@[simp] theorem State.updDesc_rest (s : State) (i : Nat) (f : Desc → Desc) :
    (s.updDesc i f).regs = s.regs ∧ (s.updDesc i f).shadowPf = s.shadowPf ∧ (s.updDesc i f).shadowSage = s.shadowSage ∧
    (s.updDesc i f).now = s.now ∧ (s.updDesc i f).thyme = s.thyme ∧ (s.updDesc i f).aon = s.aon ∧
    (s.updDesc i f).nextId = s.nextId ∧ (s.updDesc i f).freeIdx = s.freeIdx ∧ (s.updDesc i f).mac = s.mac ∧
    (s.updDesc i f).thy = s.thy ∧ (s.updDesc i f).prs = s.prs ∧ (s.updDesc i f).rul = s.rul ∧
    (s.updDesc i f).erp = s.erp ∧ (s.updDesc i f).sfe = s.sfe ∧ (s.updDesc i f).fab = s.fab ∧
    (s.updDesc i f).num = s.num ∧ (s.updDesc i f).bay = s.bay ∧ (s.updDesc i f).adp = s.adp ∧
    (s.updDesc i f).osl = s.osl ∧ (s.updDesc i f).pow = s.pow ∧ (s.updDesc i f).rst = s.rst ∧
    (s.updDesc i f).rep = s.rep ∧ (s.updDesc i f).out = s.out ∧ (s.updDesc i f).pending = s.pending :=
  ⟨rfl, rfl, rfl, rfl, rfl, rfl, rfl, rfl, rfl, rfl, rfl, rfl, rfl, rfl, rfl, rfl, rfl, rfl, rfl, rfl, rfl, rfl, rfl, rfl⟩

@[simp] theorem State.updDom_rest (s : State) (d : Nat) (f : Dom → Dom) :
    (s.updDom d f).regs = s.regs ∧ (s.updDom d f).shadowPf = s.shadowPf ∧ (s.updDom d f).shadowSage = s.shadowSage ∧
    (s.updDom d f).now = s.now ∧ (s.updDom d f).thyme = s.thyme ∧ (s.updDom d f).aon = s.aon ∧
    (s.updDom d f).nextId = s.nextId ∧ (s.updDom d f).freeIdx = s.freeIdx ∧ (s.updDom d f).mac = s.mac ∧
    (s.updDom d f).thy = s.thy ∧ (s.updDom d f).prs = s.prs ∧ (s.updDom d f).rul = s.rul ∧
    (s.updDom d f).erp = s.erp ∧ (s.updDom d f).sfe = s.sfe ∧ (s.updDom d f).fab = s.fab ∧
    (s.updDom d f).num = s.num ∧ (s.updDom d f).bay = s.bay ∧ (s.updDom d f).adp = s.adp ∧
    (s.updDom d f).osl = s.osl ∧ (s.updDom d f).pow = s.pow ∧ (s.updDom d f).rst = s.rst ∧
    (s.updDom d f).rep = s.rep ∧ (s.updDom d f).out = s.out ∧ (s.updDom d f).pending = s.pending :=
  ⟨rfl, rfl, rfl, rfl, rfl, rfl, rfl, rfl, rfl, rfl, rfl, rfl, rfl, rfl, rfl, rfl, rfl, rfl, rfl, rfl, rfl, rfl, rfl, rfl⟩

@[simp] theorem State.updOsl_rest (s : State) (f : OslSt → OslSt) :
    (s.updOsl f).regs = s.regs ∧ (s.updOsl f).shadowPf = s.shadowPf ∧ (s.updOsl f).shadowSage = s.shadowSage ∧
    (s.updOsl f).now = s.now ∧ (s.updOsl f).thyme = s.thyme ∧ (s.updOsl f).aon = s.aon ∧
    (s.updOsl f).nextId = s.nextId ∧ (s.updOsl f).freeIdx = s.freeIdx ∧ (s.updOsl f).mac = s.mac ∧
    (s.updOsl f).thy = s.thy ∧ (s.updOsl f).prs = s.prs ∧ (s.updOsl f).rul = s.rul ∧
    (s.updOsl f).erp = s.erp ∧ (s.updOsl f).sfe = s.sfe ∧ (s.updOsl f).fab = s.fab ∧
    (s.updOsl f).num = s.num ∧ (s.updOsl f).bay = s.bay ∧ (s.updOsl f).adp = s.adp ∧
    (s.updOsl f).hif = s.hif ∧ (s.updOsl f).pow = s.pow ∧ (s.updOsl f).rst = s.rst ∧
    (s.updOsl f).rep = s.rep ∧ (s.updOsl f).out = s.out ∧ (s.updOsl f).pending = s.pending :=
  ⟨rfl, rfl, rfl, rfl, rfl, rfl, rfl, rfl, rfl, rfl, rfl, rfl, rfl, rfl, rfl, rfl, rfl, rfl, rfl, rfl, rfl, rfl, rfl, rfl⟩

@[simp] theorem State.updLink_rest (s : State) (l : Nat) (f : LinkSt → LinkSt) :
    (s.updLink l f).regs = s.regs ∧ (s.updLink l f).shadowPf = s.shadowPf ∧ (s.updLink l f).shadowSage = s.shadowSage ∧
    (s.updLink l f).now = s.now ∧ (s.updLink l f).thyme = s.thyme ∧ (s.updLink l f).aon = s.aon ∧
    (s.updLink l f).nextId = s.nextId ∧ (s.updLink l f).freeIdx = s.freeIdx ∧ (s.updLink l f).mac = s.mac ∧
    (s.updLink l f).thy = s.thy ∧ (s.updLink l f).prs = s.prs ∧ (s.updLink l f).rul = s.rul ∧
    (s.updLink l f).erp = s.erp ∧ (s.updLink l f).sfe = s.sfe ∧ (s.updLink l f).fab = s.fab ∧
    (s.updLink l f).num = s.num ∧ (s.updLink l f).bay = s.bay ∧ (s.updLink l f).adp = s.adp ∧
    (s.updLink l f).hif = s.hif ∧ (s.updLink l f).pow = s.pow ∧ (s.updLink l f).rst = s.rst ∧
    (s.updLink l f).rep = s.rep ∧ (s.updLink l f).out = s.out ∧ (s.updLink l f).pending = s.pending :=
  ⟨rfl, rfl, rfl, rfl, rfl, rfl, rfl, rfl, rfl, rfl, rfl, rfl, rfl, rfl, rfl, rfl, rfl, rfl, rfl, rfl, rfl, rfl, rfl, rfl⟩

@[simp] theorem State.updProg_rest (s : State) (p : Nat) (f : ProgSt → ProgSt) :
    (s.updProg p f).regs = s.regs ∧ (s.updProg p f).shadowPf = s.shadowPf ∧ (s.updProg p f).shadowSage = s.shadowSage ∧
    (s.updProg p f).now = s.now ∧ (s.updProg p f).thyme = s.thyme ∧ (s.updProg p f).aon = s.aon ∧
    (s.updProg p f).nextId = s.nextId ∧ (s.updProg p f).freeIdx = s.freeIdx ∧ (s.updProg p f).mac = s.mac ∧
    (s.updProg p f).thy = s.thy ∧ (s.updProg p f).prs = s.prs ∧ (s.updProg p f).rul = s.rul ∧
    (s.updProg p f).erp = s.erp ∧ (s.updProg p f).sfe = s.sfe ∧ (s.updProg p f).fab = s.fab ∧
    (s.updProg p f).num = s.num ∧ (s.updProg p f).bay = s.bay ∧ (s.updProg p f).adp = s.adp ∧
    (s.updProg p f).hif = s.hif ∧ (s.updProg p f).pow = s.pow ∧ (s.updProg p f).rst = s.rst ∧
    (s.updProg p f).rep = s.rep ∧ (s.updProg p f).out = s.out ∧ (s.updProg p f).pending = s.pending :=
  ⟨rfl, rfl, rfl, rfl, rfl, rfl, rfl, rfl, rfl, rfl, rfl, rfl, rfl, rfl, rfl, rfl, rfl, rfl, rfl, rfl, rfl, rfl, rfl, rfl⟩

@[simp] theorem State.updPow_rest (s : State) (f : PowSt → PowSt) :
    (s.updPow f).regs = s.regs ∧ (s.updPow f).shadowPf = s.shadowPf ∧ (s.updPow f).shadowSage = s.shadowSage ∧
    (s.updPow f).now = s.now ∧ (s.updPow f).thyme = s.thyme ∧ (s.updPow f).aon = s.aon ∧
    (s.updPow f).nextId = s.nextId ∧ (s.updPow f).freeIdx = s.freeIdx ∧ (s.updPow f).mac = s.mac ∧
    (s.updPow f).thy = s.thy ∧ (s.updPow f).prs = s.prs ∧ (s.updPow f).rul = s.rul ∧
    (s.updPow f).erp = s.erp ∧ (s.updPow f).sfe = s.sfe ∧ (s.updPow f).fab = s.fab ∧
    (s.updPow f).num = s.num ∧ (s.updPow f).bay = s.bay ∧ (s.updPow f).adp = s.adp ∧
    (s.updPow f).hif = s.hif ∧ (s.updPow f).osl = s.osl ∧ (s.updPow f).rst = s.rst ∧
    (s.updPow f).rep = s.rep ∧ (s.updPow f).out = s.out ∧ (s.updPow f).pending = s.pending :=
  ⟨rfl, rfl, rfl, rfl, rfl, rfl, rfl, rfl, rfl, rfl, rfl, rfl, rfl, rfl, rfl, rfl, rfl, rfl, rfl, rfl, rfl, rfl, rfl, rfl⟩

@[simp] theorem State.updFieldPow_rest (s : State) (f : Nat) (g : FieldPow → FieldPow) :
    (s.updFieldPow f g).regs = s.regs ∧ (s.updFieldPow f g).shadowPf = s.shadowPf ∧ (s.updFieldPow f g).shadowSage = s.shadowSage ∧
    (s.updFieldPow f g).now = s.now ∧ (s.updFieldPow f g).thyme = s.thyme ∧ (s.updFieldPow f g).aon = s.aon ∧
    (s.updFieldPow f g).nextId = s.nextId ∧ (s.updFieldPow f g).freeIdx = s.freeIdx ∧ (s.updFieldPow f g).mac = s.mac ∧
    (s.updFieldPow f g).thy = s.thy ∧ (s.updFieldPow f g).prs = s.prs ∧ (s.updFieldPow f g).rul = s.rul ∧
    (s.updFieldPow f g).erp = s.erp ∧ (s.updFieldPow f g).sfe = s.sfe ∧ (s.updFieldPow f g).fab = s.fab ∧
    (s.updFieldPow f g).num = s.num ∧ (s.updFieldPow f g).bay = s.bay ∧ (s.updFieldPow f g).adp = s.adp ∧
    (s.updFieldPow f g).hif = s.hif ∧ (s.updFieldPow f g).osl = s.osl ∧ (s.updFieldPow f g).rst = s.rst ∧
    (s.updFieldPow f g).rep = s.rep ∧ (s.updFieldPow f g).out = s.out ∧ (s.updFieldPow f g).pending = s.pending :=
  ⟨rfl, rfl, rfl, rfl, rfl, rfl, rfl, rfl, rfl, rfl, rfl, rfl, rfl, rfl, rfl, rfl, rfl, rfl, rfl, rfl, rfl, rfl, rfl, rfl⟩

@[simp] theorem State.updRst_rest (s : State) (f : RstSt → RstSt) :
    (s.updRst f).regs = s.regs ∧ (s.updRst f).shadowPf = s.shadowPf ∧ (s.updRst f).shadowSage = s.shadowSage ∧
    (s.updRst f).now = s.now ∧ (s.updRst f).thyme = s.thyme ∧ (s.updRst f).aon = s.aon ∧
    (s.updRst f).nextId = s.nextId ∧ (s.updRst f).freeIdx = s.freeIdx ∧ (s.updRst f).mac = s.mac ∧
    (s.updRst f).thy = s.thy ∧ (s.updRst f).prs = s.prs ∧ (s.updRst f).rul = s.rul ∧
    (s.updRst f).erp = s.erp ∧ (s.updRst f).sfe = s.sfe ∧ (s.updRst f).fab = s.fab ∧
    (s.updRst f).num = s.num ∧ (s.updRst f).bay = s.bay ∧ (s.updRst f).adp = s.adp ∧
    (s.updRst f).hif = s.hif ∧ (s.updRst f).osl = s.osl ∧ (s.updRst f).pow = s.pow ∧
    (s.updRst f).rep = s.rep ∧ (s.updRst f).out = s.out ∧ (s.updRst f).pending = s.pending :=
  ⟨rfl, rfl, rfl, rfl, rfl, rfl, rfl, rfl, rfl, rfl, rfl, rfl, rfl, rfl, rfl, rfl, rfl, rfl, rfl, rfl, rfl, rfl, rfl, rfl⟩

@[simp] theorem State.updRep_rest (s : State) (f : RepSt → RepSt) :
    (s.updRep f).regs = s.regs ∧ (s.updRep f).shadowPf = s.shadowPf ∧ (s.updRep f).shadowSage = s.shadowSage ∧
    (s.updRep f).now = s.now ∧ (s.updRep f).thyme = s.thyme ∧ (s.updRep f).aon = s.aon ∧
    (s.updRep f).nextId = s.nextId ∧ (s.updRep f).freeIdx = s.freeIdx ∧ (s.updRep f).mac = s.mac ∧
    (s.updRep f).thy = s.thy ∧ (s.updRep f).prs = s.prs ∧ (s.updRep f).rul = s.rul ∧
    (s.updRep f).erp = s.erp ∧ (s.updRep f).sfe = s.sfe ∧ (s.updRep f).fab = s.fab ∧
    (s.updRep f).num = s.num ∧ (s.updRep f).bay = s.bay ∧ (s.updRep f).adp = s.adp ∧
    (s.updRep f).hif = s.hif ∧ (s.updRep f).osl = s.osl ∧ (s.updRep f).pow = s.pow ∧
    (s.updRep f).rst = s.rst ∧ (s.updRep f).out = s.out ∧ (s.updRep f).pending = s.pending :=
  ⟨rfl, rfl, rfl, rfl, rfl, rfl, rfl, rfl, rfl, rfl, rfl, rfl, rfl, rfl, rfl, rfl, rfl, rfl, rfl, rfl, rfl, rfl, rfl, rfl⟩

@[simp] theorem State.updRepField_rest (s : State) (f : Nat) (g : RepField → RepField) :
    (s.updRepField f g).regs = s.regs ∧ (s.updRepField f g).shadowPf = s.shadowPf ∧ (s.updRepField f g).shadowSage = s.shadowSage ∧
    (s.updRepField f g).now = s.now ∧ (s.updRepField f g).thyme = s.thyme ∧ (s.updRepField f g).aon = s.aon ∧
    (s.updRepField f g).nextId = s.nextId ∧ (s.updRepField f g).freeIdx = s.freeIdx ∧ (s.updRepField f g).mac = s.mac ∧
    (s.updRepField f g).thy = s.thy ∧ (s.updRepField f g).prs = s.prs ∧ (s.updRepField f g).rul = s.rul ∧
    (s.updRepField f g).erp = s.erp ∧ (s.updRepField f g).sfe = s.sfe ∧ (s.updRepField f g).fab = s.fab ∧
    (s.updRepField f g).num = s.num ∧ (s.updRepField f g).bay = s.bay ∧ (s.updRepField f g).adp = s.adp ∧
    (s.updRepField f g).hif = s.hif ∧ (s.updRepField f g).osl = s.osl ∧ (s.updRepField f g).pow = s.pow ∧
    (s.updRepField f g).rst = s.rst ∧ (s.updRepField f g).out = s.out ∧ (s.updRepField f g).pending = s.pending :=
  ⟨rfl, rfl, rfl, rfl, rfl, rfl, rfl, rfl, rfl, rfl, rfl, rfl, rfl, rfl, rfl, rfl, rfl, rfl, rfl, rfl, rfl, rfl, rfl, rfl⟩

@[simp] theorem State.port_updPort_self (s : State) (p : Nat) (f : PortSt → PortSt) : (s.updPort p f).port p = f (s.port p) := by
  simp [State.port, State.updPort]

theorem State.port_updPort_ne (s : State) (p : Nat) (f : PortSt → PortSt) {j : Nat} (hne : j ≠ p) : (s.updPort p f).port j = s.port j := by
  simp [State.port, State.updPort, Tab.get_upd_ne _ _ hne]

@[simp] theorem State.pair_updPair_self (s : State) (k : Nat) (f : PairSt → PairSt) : (s.updPair k f).pair k = f (s.pair k) := by
  simp [State.pair, State.updPair]

theorem State.pair_updPair_ne (s : State) (k : Nat) (f : PairSt → PairSt) {j : Nat} (hne : j ≠ k) : (s.updPair k f).pair j = s.pair j := by
  simp [State.pair, State.updPair, Tab.get_upd_ne _ _ hne]

@[simp] theorem State.frame_updFrame_self (s : State) (f : Nat) (g : Frame → Frame) : (s.updFrame f g).frame f = g (s.frame f) := by
  simp [State.frame, State.updFrame]

theorem State.frame_updFrame_ne (s : State) (f : Nat) (g : Frame → Frame) {j : Nat} (hne : j ≠ f) : (s.updFrame f g).frame j = s.frame j := by
  simp [State.frame, State.updFrame, Tab.get_upd_ne _ _ hne]

@[simp] theorem State.chive_updChive_self (s : State) (c : Nat) (f : Chive → Chive) : (s.updChive c f).chive c = f (s.chive c) := by
  simp [State.chive, State.updChive]

theorem State.chive_updChive_ne (s : State) (c : Nat) (f : Chive → Chive) {j : Nat} (hne : j ≠ c) : (s.updChive c f).chive j = s.chive j := by
  simp [State.chive, State.updChive, Tab.get_upd_ne _ _ hne]

@[simp] theorem State.seg_updSeg_self (s : State) (i : Nat) (f : Seg → Seg) : (s.updSeg i f).seg i = f (s.seg i) := by
  simp [State.seg, State.updSeg]

theorem State.seg_updSeg_ne (s : State) (i : Nat) (f : Seg → Seg) {j : Nat} (hne : j ≠ i) : (s.updSeg i f).seg j = s.seg j := by
  simp [State.seg, State.updSeg, Tab.get_upd_ne _ _ hne]

@[simp] theorem State.bundle_updBundle_self (s : State) (b : Nat) (f : Bundle → Bundle) : (s.updBundle b f).bundle b = f (s.bundle b) := by
  simp [State.bundle, State.updBundle]

theorem State.bundle_updBundle_ne (s : State) (b : Nat) (f : Bundle → Bundle) {j : Nat} (hne : j ≠ b) : (s.updBundle b f).bundle j = s.bundle j := by
  simp [State.bundle, State.updBundle, Tab.get_upd_ne _ _ hne]

@[simp] theorem State.row_updRow_self (s : State) (r : Nat) (f : Row → Row) : (s.updRow r f).row r = f (s.row r) := by
  simp [State.row, State.updRow, State.updSfe]

theorem State.row_updRow_ne (s : State) (r : Nat) (f : Row → Row) {j : Nat} (hne : j ≠ r) : (s.updRow r f).row j = s.row j := by
  simp [State.row, State.updRow, State.updSfe, Tab.get_upd_ne _ _ hne]

@[simp] theorem State.tile_updTile_self (s : State) (t : Nat) (f : Tile → Tile) : (s.updTile t f).tile t = f (s.tile t) := by
  simp [State.tile, State.updTile, State.updFab]

theorem State.tile_updTile_ne (s : State) (t : Nat) (f : Tile → Tile) {j : Nat} (hne : j ≠ t) : (s.updTile t f).tile j = s.tile j := by
  simp [State.tile, State.updTile, State.updFab, Tab.get_upd_ne _ _ hne]

@[simp] theorem State.plot_updPlot_self (s : State) (p : Nat) (f : PlotSt → PlotSt) : (s.updPlot p f).plot p = f (s.plot p) := by
  simp [State.plot, State.updPlot, State.updFab]

theorem State.plot_updPlot_ne (s : State) (p : Nat) (f : PlotSt → PlotSt) {j : Nat} (hne : j ≠ p) : (s.updPlot p f).plot j = s.plot j := by
  simp [State.plot, State.updPlot, State.updFab, Tab.get_upd_ne _ _ hne]

@[simp] theorem State.model_updModel_self (s : State) (h : Nat) (f : Model → Model) : (s.updModel h f).model h = f (s.model h) := by
  simp [State.model, State.updModel, State.updBay]

theorem State.model_updModel_ne (s : State) (h : Nat) (f : Model → Model) {j : Nat} (hne : j ≠ h) : (s.updModel h f).model j = s.model j := by
  simp [State.model, State.updModel, State.updBay, Tab.get_upd_ne _ _ hne]

@[simp] theorem State.job_updJob_self (s : State) (n : Nat) (f : Job → Job) : (s.updJob n f).job n = f (s.job n) := by
  simp [State.job, State.updJob, State.updAdp]

theorem State.job_updJob_ne (s : State) (n : Nat) (f : Job → Job) {j : Nat} (hne : j ≠ n) : (s.updJob n f).job j = s.job j := by
  simp [State.job, State.updJob, State.updAdp, Tab.get_upd_ne _ _ hne]

@[simp] theorem State.qp_updQp_self (s : State) (q : Nat) (f : Qp → Qp) : (s.updQp q f).qp q = f (s.qp q) := by
  simp [State.qp, State.updQp]

theorem State.qp_updQp_ne (s : State) (q : Nat) (f : Qp → Qp) {j : Nat} (hne : j ≠ q) : (s.updQp q f).qp j = s.qp j := by
  simp [State.qp, State.updQp, Tab.get_upd_ne _ _ hne]

@[simp] theorem State.desc_updDesc_self (s : State) (i : Nat) (f : Desc → Desc) : (s.updDesc i f).desc i = f (s.desc i) := by
  simp [State.desc, State.updDesc]

theorem State.desc_updDesc_ne (s : State) (i : Nat) (f : Desc → Desc) {j : Nat} (hne : j ≠ i) : (s.updDesc i f).desc j = s.desc j := by
  simp [State.desc, State.updDesc, Tab.get_upd_ne _ _ hne]

@[simp] theorem State.link_updLink_self (s : State) (l : Nat) (f : LinkSt → LinkSt) : (s.updLink l f).link l = f (s.link l) := by
  simp [State.link, State.updLink, State.updOsl]

theorem State.link_updLink_ne (s : State) (l : Nat) (f : LinkSt → LinkSt) {j : Nat} (hne : j ≠ l) : (s.updLink l f).link j = s.link j := by
  simp [State.link, State.updLink, State.updOsl, Tab.get_upd_ne _ _ hne]

end Sys2Proof.Machine
end

