-- ==== Sys2Proof/Tests/Slice0.lean ====
section
/-! SUPPORT. Tests: ill-formed commands are refused, reference vectors of the manual, and a state that meets the hypotheses of each statement. -/

namespace Sys2Proof.Tests
open Sys2Proof.Machine

set_option Elab.async false

theorem test_wf_sof_empty : Instr.wf (.sofDelimiter 0 []) = false := by decide
theorem test_wf_pfc_quanta : Instr.wf (.pfcRx 0 1 [1]) = false := by decide
theorem test_wf_fetch_partial : Instr.wf (.descriptorArrival 0 (some [0])) = false := by decide
theorem test_wf_link_frame : Instr.wf (.linkFrameRx 0 0 true [0]) = false := by decide
theorem test_wf_rails : Instr.wf (.pmbusPoll 0 []) = false := by decide
theorem test_wf_sweep : Instr.wf (.sensorSweep []) = false := by decide
theorem test_wf_nonce : Instr.wf (.chalGet [1]) = false := by decide
theorem test_wf_response : Instr.wf (.chalResp []) = false := by decide

set_option maxRecDepth 20000 in
/-- The check value of CRC-32C over "123456789" (R84). -/
theorem test_crc32c_check : crc32c [0x31, 0x32, 0x33, 0x34, 0x35, 0x36, 0x37, 0x38, 0x39] = 0xE3069283 := by decide


/-! #### States that meet the hypotheses of the statements

Each theorem below names a statement and shows, clause by clause, a concrete state and operands that meet what the clause assumes. -/

/-- A chip whose core is ready, with a register file and a few parts given. -/
def chip : State := { State.reset.setFld Reg.RST_STAT_phase 7 with rst := { coreReady := true } }

theorem witness_StepRunsFrontCommand : State.reset.pending = [] := rfl

theorem witness_EveryStepKeepsCanonicalForm : State.reset.canonical ∧ ∃ t, step State.reset = .next t :=
  ⟨by unfold State.canonical; decide +kernel, _, rfl⟩

theorem witness_CommandsLeaveQueueToStep : ∃ t, exec .powerOn State.reset = .next t := ⟨_, rfl⟩

/-- Port 0 up in the 16-port mode. -/
def up0 : State := (((chip.setFld Reg.PRS_CTRL_enable 1).setFld Reg.MAC_MODE_mode 2).setFld (Reg.MAC_PORT_CTRL_enable 0) 1).updPort 0 (fun p => { p with pcsLock := true, linkUp := true })

/-- A frame of 64 bytes that arrives at port 0. -/
def rx0 (bytes : List Byte) : State := (up0.updPort 0 (fun p => { p with rx := some 5 })).updFrame 5 (fun f => { f with bytes := bytes, copy := .waiting })

theorem witness_DelimiterAdmitsOrDiscards : up0.portUp 0 = true ∧ (up0.port 0).rx = none ∧ up0.edgeOcc 0 + 9216 ≤ edgeKibOf up0.portMode * 1024 ∧
    up0.copyRoom 0 = true := by decide +kernel

/-- A frame of the bytes given stands whole in port 0's edge buffer. -/
def full0 (b : List Byte) : State := up0.updFrame 3 (fun f => { f with bytes := 0 :: b, tail := .good })

theorem full0_occ (b : List Byte) : (full0 b).edgeOcc 0 = 0 + (b.length + 1) := rfl

theorem witness_DelimiterAdmitsOrDiscards_full : ∃ b, (full0 b).portUp 0 = true ∧ ((full0 b).port 0).rx = none ∧
    edgeKibOf (full0 b).portMode * 1024 < (full0 b).edgeOcc 0 + 9216 ∧ (full0 b).edgeOcc 0 + 9215 = edgeKibOf (full0 b).portMode * 1024 := by
  refine ⟨List.replicate 1039360 0, by decide +kernel, by decide +kernel, ?_, ?_⟩ <;> rw [full0_occ, List.length_replicate] <;> decide +kernel

theorem witness_FrameEndsWithItsVerdict :
    (let s := (rx0 (List.replicate 64 0)).updFrame 6 (fun f => { f with tail := .good, copy := .waiting, bytes := List.replicate 200 0 })
     (s.port 0).rx = some 5 ∧ (s.frame 5).copy = .waiting ∧ (s.frame 5).cut = none) ∧
    (let s := rx0 (List.replicate 64 0); (s.port 0).rx = some 5 ∧ 64 ≤ (s.frame 5).bytes.length ∧ (s.frame 5).bytes.length ≤ 9216) ∧
    (let s := rx0 (List.replicate 63 0); (s.port 0).rx = some 5 ∧ (s.frame 5).bytes.length < 64) := by decide +kernel

/-- A frame of the bytes given, all of them arrived, that waits for a chive. -/
def rx0t (b : List Byte) : State := (up0.updPort 0 (fun p => { p with rx := some 3 })).updFrame 3 (fun f => { f with bytes := 0 :: b, tail := .good, copy := .waiting })

theorem rx0t_arrived (b : List Byte) : (rx0t b).arrived 3 = b.length + 1 := rfl

theorem witness_FrameEndsWithItsVerdict_cut : ∃ b, crossCap ≤ ((rx0t b).crossOcc 0 - (rx0t b).copyBytes 3) + (rx0t b).arrived 3 ∧
    9216 < (rx0t b).arrived 3 ∧ ((rx0t b).port 0).rx = some 3 ∧ ((rx0t b).frame 3).copy = .waiting ∧ ((rx0t b).frame 3).cut = none := by
  refine ⟨List.replicate 32767 0, ?_, ?_, by decide +kernel, by decide +kernel, by decide +kernel⟩ <;> rw [rx0t_arrived, List.length_replicate]
  · have h : crossCap = 32768 := by decide
    omega
  · omega

/-- Port 0 up and a frame of a port with its action record. -/
def rec0 (d : Disp) (now : Nat) : State :=
  { up0.updFrame 5 (fun f => { f with bytes := List.replicate 64 0, record := some d }) with now := now }

theorem witness_DeadlineRecordOrFallback :
    (let s := rec0 .drop 50; (s.frame 5).record = some .drop ∧ (s.frame 5).recBack = false ∧ (s.frame 5).orig = .held ∧ s.now ≤ s.deadlineOf 5) ∧
    (let s := rec0 (.fwd 0 0) 0; (s.frame 5).record = some (.fwd 0 0) ∧ s.portUp 0 = true ∧ s.now ≤ s.deadlineOf 5) ∧
    (let s := rec0 (.fwd 0 0) 100000; (s.frame 5).recBack = false ∧ s.deadlineOf 5 < s.now) ∧
    (let s := { up0.updFrame 5 (fun f => { f with bytes := [0], port := 1 }) with now := 100000 }
     (s.frame 5).orig = .held ∧ (s.frame 5).bytes ≠ [] ∧ (s.frame 5).port < 16 ∧ s.deadlineOf 5 < s.now ∧
       s.fld (Reg.MAC_PAIR_CTRL_fallback 0) = 0 ∧ s.portUp (pairedPort (s.frame 5).port) = true) ∧
    (let s := { (up0.setFld (Reg.MAC_PAIR_CTRL_fallback 0) 1).updFrame 5 (fun f => { f with bytes := [0] }) with now := 100000 }
     s.fld (Reg.MAC_PAIR_CTRL_fallback 0) ≠ 0 ∧ s.deadlineOf 5 < s.now) := by decide +kernel

/-- A frame that waits for port 0. -/
def eg0 : State := up0.updPort 0 (fun p => { p with egress := [⟨.host 1 [1, 2], 5, 0, 0, false⟩] })

theorem witness_EgressArbitrationOrder :
    (eg0.port 0).egress = [⟨.host 1 [1, 2], 5, 0, 0, false⟩] ∧ (eg0.port 0).tx = none ∧ (eg0.port 0).pfcOut = [] ∧ (eg0.port 0).nextFree ≤ eg0.now10 ∧
    eg0.portUp 0 = true ∧ eg0.flag (Reg.MAC_PORT_CTRL_pfc_tx_en 0) = false ∧ (eg0.port 0).heldPrio 0 = false ∧ eg0.pick 0 = some (⟨.host 1 [1, 2], 5, 0, 0, false⟩, []) ∧
    (let s := { up0.updFrame 5 (fun f => { f with mirror := some ⟨1, 0, 0, 0⟩, tail := .good }) with now := 100000000 }
     let s := s.updPort 1 (fun p => { p with egress := [⟨.mirror 5, 5, 0, 0, false⟩] })
     (s.frame 5).mirror = some ⟨1, 0, 0, 0⟩ ∧ s.mirrorWaits 1 5 = true ∧ s.passed (s.frame 5).tailAt (s.fld Reg.RUL_MIRROR_WAIT_wait_ns) = true) := by
  decide +kernel

theorem witness_PauseAndPfcHolds :
    (let s := up0.setFld (Reg.MAC_PORT_CTRL_pause_rx_en 0) 1; s.reachable = true ∧ s.flag (Reg.MAC_PORT_CTRL_pause_rx_en 0) = true) ∧
    (let s := up0.setFld (Reg.MAC_PORT_CTRL_pfc_rx_en 0) 1; s.reachable = true ∧ s.flag (Reg.MAC_PORT_CTRL_pfc_rx_en 0) = true ∧ ([1, 0, 3, 4, 5, 6, 7, 8] : List (BitVec 16)).length = 8) ∧
    ([] : List (BitVec 16)).length ≠ 8 ∧ State.reset.reachable = false ∧
    (let s := { (((up0.setFld (Reg.MAC_PORT_CTRL_pfc_tx_en 0) 1).setFld (Reg.MAC_PFC_THR_xoff_kib 0) 1).setFld (Reg.MAC_PFC_THR_xon_kib 0) 0).updFrame 5
       (fun f => { f with bytes := [0], tail := .good }) with now := 167773 }
     let s := s.updPort 0 (fun p => { p with xoffAt := some 80, xoffSent := some 84 })
     s.flag (Reg.MAC_PORT_CTRL_pfc_tx_en 0) = true ∧ (s.port 0).xoffAt = some 80 ∧ (s.port 0).xoffSent = some 84 ∧
       (s.pfcThr 0).2 < s.edgeOcc 0 ∧ 84 + 32768 * (64 * s.byteTime) ≤ s.now10) ∧
    (let s := ((up0.setFld (Reg.MAC_PORT_CTRL_pfc_tx_en 0) 1).setFld (Reg.MAC_PFC_THR_xoff_kib 0) 0).setFld (Reg.MAC_PFC_THR_xon_kib 0) 0
     s.flag (Reg.MAC_PORT_CTRL_pfc_tx_en 0) = true ∧ (s.port 0).xoffAt = none ∧ (s.pfcThr 0).1 ≤ s.edgeOcc 0) := by decide +kernel

theorem witness_LinkStateAndPortMode :
    (up0.reachable = true ∧ 0 < up0.portCount ∧ (up0.port 0).pcsLock = true ∧ up0.flag (Reg.MAC_PORT_CTRL_enable 0) = true) ∧
    (let s := (up0.setFld (Reg.MAC_PAIR_CTRL_auto_close_link 0) 1).updPair 0 (fun p => { p with st := .open })
     (s.port 0).pcsLock = true ∧ (s.port 0).linkUp = true ∧ (s.pair 0).st = .open ∧ s.flag (Reg.MAC_PAIR_CTRL_auto_close_link 0) = true) ∧
    (chip.reachable = true ∧ chip.modeWritable = true ∧ (2 : Word).toNat % 4 ≠ 3) ∧ (up0.reachable = true ∧ up0.modeWritable = false) ∧ (3 : Word).toNat % 4 = 3 := by
  decide +kernel

/-- Both ports of pair 0 up and its heartbeat fresh. -/
def pair0 (st : BypSt) : State :=
  let s := ((up0.setFld (Reg.MAC_PORT_CTRL_enable 1) 1).setFld (Reg.MAC_MODE_mode) 2).updPort 1 (fun p => { p with pcsLock := true, linkUp := true })
  s.updPair 0 (fun p => { p with st := st, lastKick := some 0 })

theorem witness_BypassOpensAndCloses :
    (let s := pair0 .engaged; s.reachable = true ∧ s.gated = false ∧ (s.pair 0).st = .engaged ∧ s.openRefusal 0 = 0) ∧
    (let s := up0; s.reachable = true ∧ s.gated = false ∧ (s.pair 0).st = .engaged ∧ s.openRefusal 0 ≠ 0) ∧
    (let s := pair0 .open; s.reachable = true ∧ s.pow.idle = false ∧ (s.pair 0).st ≠ .engaged) ∧
    (let s := (pair0 .engaged).updPow (fun p => { p with idle := true }); s.reachable = true ∧ s.pow.idle = true ∧ s.pow.idleFrom ≠ some s.now ∧ (s.pair 0).st = .engaged) ∧
    (let s := (pair0 .engaged).updPair 0 (fun p => { p with openWait := true })
     (s.pair 0).openWait = true ∧ (s.pair 0).st = .engaged ∧ (∀ j, j < 8 → j ≠ 0 → (s.pair j).openWait = false) ∧ (s.updPair 0 (fun q => { q with openWait := false })).openRefusal 0 = 0) ∧
    (let s := up0.updPair 0 (fun p => { p with openWait := true })
     (s.pair 0).openWait = true ∧ (s.pair 0).st = .engaged ∧ (∀ j, j < 8 → j ≠ 0 → (s.pair j).openWait = false) ∧ (s.updPair 0 (fun q => { q with openWait := false })).openRefusal 0 ≠ 0) ∧
    (let s := up0.updPair 0 (fun p => { p with st := .open }); (s.pair 0).st ≠ .engaged ∧ s.hbFresh 0 = false) ∧
    (let s := { pair0 .opening with now := 4000000001 }; (s.pair 0).st = .opening ∧ (s.pair 0).openAt + s.fld (Reg.MAC_BYP_OPEN_WAIT_wait_ns 0) < s.now) ∧
    (let s := ((pair0 .engaged).setFld (Reg.MAC_BYP_STAT_last_close_cause 0) 3).updPair 0 (fun p => { p with closedAt := some 0, closedFrom := .open })
     s.reachable = true ∧ (s.pair 0).st = .engaged ∧ (s.pair 0).closedAt = some s.now ∧ (s.pair 0).closedFrom ≠ .engaged ∧
       2 < s.fld (Reg.MAC_BYP_STAT_last_close_cause 0)) := by
  decide +kernel

theorem witness_ThymeStepsAndSlews :
    (chip.reachable = true ∧ bits (2 : Word).toNat 1 0 ≠ 3 ∧ bits (3 : Word).toNat 1 0 = 3) ∧
    (let v := BitVec.ofInt 32 (-1000000); -1000000 ≤ v.toInt ∧ v.toInt ≤ 1000000 ∧ chip.thy.slew = none) ∧
    (let s := chip.updThy (fun t => { t with slew := some (5, 0) }); s.thy.slew = some (5, 0) ∧ s.thy.slewNext = none) ∧
    (let s := chip.updThy (fun t => { t with slew := some (5, 0), slewNext := some 6 }); s.thy.slewNext = some 6) ∧
    (1000001 : Word).toInt > 1000000 ∧
    (let s := { chip.updThy (fun t => { t with slew := some (-5, 0) }) with now := 50000 }; s.thy.slew = some (-5, 0) ∧ 0 + (-5 : Int).natAbs * 10000 ≤ s.now) ∧
    (chip.pending = [] ∧ chip.phase ≠ 0 ∧ chip.thy.slew = none ∧ chip.fld Reg.THY_CTRL_src ≠ 1) ∧
    (let s := { chip.updThy (fun t => { t with slew := some (-5, 0) }) with now := 9999 }
     s.pending = [] ∧ s.phase ≠ 0 ∧ s.thyRate = nsParts ∧ s.thy.slew = some (-5, 0)) := by
  decide +kernel

/-- R53: with THY_ADJ_FREQ at +1,000 ppm the reference clock's thousandth nanosecond gives two, and a negative slew leaves out one at each 10,000 elapsed. -/
theorem test_thymeRate :
    ((chip.setFld Reg.THY_ADJ_FREQ_freq 256000000).updThy (fun t => { t with frac := 999 * 256000000 })).tickNs.1 = 2 ∧
    ({ chip.updThy (fun t => { t with slew := some (-5, 0) }) with now := 9999 } : State).tickNs.1 = 0 ∧
    ({ chip.updThy (fun t => { t with slew := some (5, 0) }) with now := 9998 } : State).tickNs.1 = 1 := by
  decide +kernel

/-- Thyme follows PPS_IN. -/
def pps : State := chip.setFld Reg.THY_CTRL_src 1

theorem witness_PpsServoAndOutput :
    (let s := { pps.updThy (fun t => { t with lastValid := some 0 }) with now := 499999999 }; s.fld Reg.THY_CTRL_src = 1 ∧ s.thy.lastValid = some 0 ∧ s.now < 0 + 500000000) ∧
    (let s := { pps.updThy (fun t => { t with lastValid := some 0 }) with now := 500000000 }; s.thy.lastValid = some 0 ∧ 0 + 500000000 ≤ s.now) ∧
    pps.thy.phaseUntil ≤ pps.now ∧
    (let s := { pps.updThy (fun t => { t with lock := 1 }) with now := 1500000000 }; s.fld Reg.THY_CTRL_src = 1 ∧ s.thy.lock = 1 ∧ s.thy.acqSince + 1500000000 ≤ s.now) ∧
    (let s := chip.setFld Reg.THY_CTRL_pps_out_en 1; s.flag Reg.THY_CTRL_pps_out_en = true ∧ s.thyme.toNat % 1000000000 = 0) ∧
    (let s := { chip.updThy (fun t => { t with ppsOut := true }) with now := 1000000000 }; s.thy.ppsOut = true ∧ s.thy.ppsRoseAt + s.fld Reg.THY_PPS_OUT_W_width ≤ s.now) ∧
    pps.phase ≠ 0 ∧ pps.thy.refLost = false ∧ (pps.updThy (fun t => { t with refLost := true })).thy.refLost = true ∧
    (let s := ((chip.setFld (Reg.THY_PTP_CTRL_mode 0) 1).setFld (Reg.THY_PTP_CTRL_l2 0) 1).updFrame 5 (fun f => { f with
       bytes := zeros 12 ++ [0x88, 0xF7, 0, 2] ++ zeros 60 })
     s.fld (Reg.THY_PTP_CTRL_mode (s.frame 5).port) = 1 ∧ (s.ptpOf (s.frame 5).port (s.frame 5).bytes).isSome = true ∧ (s.frame 5).ptpDone = false) := by
  decide +kernel

/-- An instruction word of the program store by its fields (R64). -/
def pw (op ga gb w n poff imm target : Nat) : DWord :=
  BitVec.ofNat 64 (op <<< 58 + ga <<< 55 + gb <<< 52 + w <<< 50 + n <<< 46 + poff <<< 38 + imm <<< 12 + target)

/-- Chive 3 runs a program whose first word is given, on frame 5 of `n` bytes that has ended. -/
def par (w : DWord) (n : Nat) : State :=
  let s := up0.updFrame 5 (fun f => { f with bytes := List.replicate n 0, tail := .good, copy := .dispatched, prv := zeros 128 })
  let s := s.updChive 3 (fun h => { h with phase := .running, frame := 5 })
  { s with prs := { s.prs with bank0 := s.prs.bank0.set 0 w } }

theorem witness_ParseArithmeticAndBranches : ∀ op ∈ [0, 2, 3, 4, 5, 6, 7, 8, 9, 10, 11],
    (par (pw op 2 3 0 0 0 0xFFFF 9) 64).atParse 3 op ⟨op, 2, 3, 0, 0, 0, 0xFFFF, 9⟩ := by
  unfold State.atParse; decide +kernel

theorem witness_ParseReadsMarksAndLimits :
    (let s := par (pw 1 2 0 2 0 0 508 0) 512; s.atParse 3 1 ⟨1, 2, 0, 2, 0, 0, 508, 0⟩ ∧ 0 + 508 + widthOf 2 ≤ (s.chive 3).depth ∧
      0 + 508 + widthOf 2 ≤ s.copyBytes 5) ∧
    (let s := par (pw 1 2 0 2 0 0 508 0) 511; s.atParse 3 1 ⟨1, 2, 0, 2, 0, 0, 508, 0⟩ ∧ s.copyBytes 5 < 0 + 508 + widthOf 2 ∧ s.copyEnded 5 = true) ∧
    (let s := (par (pw 1 2 0 2 0 0 508 0) 511).updFrame 5 (fun f => { f with tail := .none }); s.atParse 3 1 ⟨1, 2, 0, 2, 0, 0, 508, 0⟩ ∧
      s.copyBytes 5 < 0 + 508 + widthOf 2 ∧ s.copyEnded 5 = false) ∧
    (let s := par (pw 1 2 0 2 0 0 509 0) 513; s.atParse 3 1 ⟨1, 2, 0, 2, 0, 0, 509, 0⟩ ∧ (s.chive 3).depth < 0 + 509 + widthOf 2) ∧
    (par (pw 0x0F 2 0 0 0 71 0 0) 64).atParse 3 0x0F ⟨0x0F, 2, 0, 0, 0, 71, 0, 0⟩ ∧ prvWritable 71 (widthOf 0) = true ∧
    (let s := par (pw 0x10 0 0 0 15 108 496 0) 512; s.atParse 3 0x10 ⟨0x10, 0, 0, 0, 15, 108, 496, 0⟩ ∧ prvWritable 108 16 = true ∧
      0 + 496 + 15 + 1 ≤ (s.chive 3).depth ∧ 0 + 496 + 15 + 1 ≤ s.copyBytes 5) ∧
    (∀ k ∈ [0, 2, 4], (par (pw 0x0E 0 0 0 0 0 k 0) 64).atParse 3 0x0E ⟨0x0E, 0, 0, 0, 0, 0, k, 0⟩) ∧
    (par (pw 0x0C 2 0 0 0 0 0 0) 64).atParse 3 0x0C ⟨0x0C, 2, 0, 0, 0, 0, 0, 0⟩ ∧
    (∀ k ∈ [512, 513], (par (pw 0x0D 0 0 0 0 0 k 0) 64).atParse 3 0x0D ⟨0x0D, 0, 0, 0, 0, 0, k, 0⟩) ∧
    (∀ k ∈ [0, 1, 2], (par (pw 0x11 0 0 0 0 0 k 0) 64).atParse 3 0x11 ⟨0x11, 0, 0, 0, 0, 0, k, 0⟩) := by
  unfold State.atParse; decide +kernel

/-- Chive 3 at UBP of a frame with a bundle header of two segments at byte 42, on the bundle port. -/
def ubp3 : State :=
  ((par (pw 0x12 0 0 0 0 0 0 0) 106).updFrame 5 (fun f => { f with
    bytes := zeros 38 ++ [0, 72, 0, 0] ++ [0xC7, 0xA1, 0x10, 0, 0, 0, 2, 0] ++ zeros 56
    prv := patch (zeros 128) 38 [0xAB, 0xCD] })).updChive 3 (fun h => { h with cursor := 42, ubpEn := true, ubpPort := 0xABCD })

theorem witness_ProgramEndStampsVersionAndEpoch :
    ((par 0 64).frame 5).runt = false ∧ ((par 0 64).frame 5).prv.length = 128 ∧
    (∀ op ∈ [0x13, 0x14, 0x15], (par (pw op 0 0 0 0 0 5 0) 64).atParse 3 op ⟨op, 0, 0, 0, 0, 0, 5, 0⟩) ∧
    (let s := par (pw 0x16 0 0 0 0 0 0 0) 64; s.runs (some 0) = true ∧ (s.chive 3).phase = .running ∧ (s.chive 3).steps < 256 ∧ 0x15 < (s.fetchParse 3).op) ∧
    (let s := (par 0 64).updChive 3 (fun h => { h with steps := 256 }); s.runs (some 0) = true ∧ (s.chive 3).phase = .running ∧ 256 ≤ (s.chive 3).steps) ∧
    ((par (pw 0x12 0 0 0 0 0 0 0) 64).atParse 3 0x12 ⟨0x12, 0, 0, 0, 0, 0, 0, 0⟩ ∧ ((par (pw 0x12 0 0 0 0 0 0 0) 64).chive 3).ubpEn = false) ∧
    (let s := ubp3
     let h := s.chive 3
     let b := s.frameBytes 3 h.cursor 32
     s.atParse 3 0x12 ⟨0x12, 0, 0, 0, 0, 0, 0, 0⟩ ∧ h.ubpEn = true ∧ be (s.prvOf 3) 38 2 = h.ubpPort ∧ 8 ≤ h.cursor ∧
     h.cursor + 32 ≤ h.depth ∧ h.cursor + 32 ≤ s.copyBytes h.frame ∧ 40 ≤ beNat (s.frameBytes 3 (h.cursor - 4) 2) ∧ be b 0 2 = 0xC7A1 ∧
     be b 2 2 / 4096 = 1 ∧ 1 ≤ be b 6 1 ∧ be b 6 1 ≤ 32 ∧ (s.frame h.frame).runt = false) := by
  unfold State.atParse; decide +kernel

/-- Chive 3 walks a bundle of frame 5 whose UDP payload ends after the one segment of no bytes at 74. -/
def walk3 (pos : Nat) : State :=
  (ubp3.updFrame 5 (fun f => { f with ubp := some { off := 42, stop := 90, udpLen := 56, segCount := 1 } })).updChive 3 (fun h => { h with
    phase := .walking, pos := pos })

theorem witness_SegmentWalkHandsOnInOrder :
    (let s : State := { (up0.updFrame 5 (fun f => { f with bytes := [0], copy := .waiting })) with prs := { up0.prs with waiting := [5] }, now := 1 }
     s.nextIdle = some 0 ∧ s.nextCopy = some 5 ∧ s.runs (some 0) = true) ∧
    (let s := walk3 74
     let h := s.chive 3
     s.runs (some 0) = true ∧ (s.frame h.frame).ubp.isSome = true ∧ h.phase = .walking ∧ h.pos + 16 ≤ 90 ∧ s.ready 3 (h.pos + 16) = .go ∧
       h.pos + 16 + be (s.frameBytes 3 h.pos 16) 6 2 ≤ 90) ∧
    (let s := walk3 75; s.runs (some 0) = true ∧ (s.frame 5).ubp.isSome = true ∧ (s.chive 3).phase = .walking ∧ 90 < (s.chive 3).pos + 16) ∧
    (let s := (walk3 90).updChive 3 (fun h => { h with phase := .waitTail })
     s.runs (some 0) = true ∧ (s.chive 3).phase = .waitTail ∧ (s.chive 3).tailSeen = false ∧ (s.frame 5).ubp.isSome = true ∧ s.copyEnded 5 = true) ∧
    (let s := (up0.updPort 0 (fun p => { p with rob := [5] })).updFrame 5 (fun f => { f with bytes := [0] })
     (s.port 0).rob = 5 :: [] ∧ (s.frame 5).prvReady = false) ∧
    (let s := (up0.updPort 0 (fun p => { p with rob := [5] })).updFrame 5 (fun f => { f with prvReady := true })
     s.runs (some 1) = true ∧ (s.port 0).rob = [5] ∧ (s.frame 5).prvReady = true) := by decide +kernel

theorem witness_ProgramBanksSwapAndDrain :
    (chip.reachable = true ∧ chip.rst.coreReady = true ∧ chip.rst.hung = false ∧ chip.isolated (some 0) = false ∧ chip.prs.draining = false) ∧
    (let s : State := { chip with prs := { chip.prs with draining := true, active := 1 } }
     s.runs (some 0) = true ∧ s.reachable = true ∧ s.isolated (some 0) = false ∧ s.prs.draining = true ∧ s.prs.active = 1) := by decide +kernel

theorem chip_busOk (b : Option Nat) (hb : b ∈ [none, some 0, some 1, some 2, some 3, some 4, some 5, some 6, some 7, some 8]) : chip.busOk b := by
  unfold State.busOk; revert b; decide +kernel

theorem witness_RuleCommitsSerialise :
    (chip.rul.pending = none ∧ chip.rul.executing = none ∧ chip.rul.draining = none) ∧
    (let s := chip.updRul (fun r => { r with draining := some 0, pending := some (.desc 7) })
     s.runs (some 1) = true ∧ s.rul.pending = some (.desc 7) ∧ s.rul.draining = some 0 ∧ s.verHeld 0 = false) ∧
    (let s := chip.updRul (fun r => { r with draining := some 0 }); s.rul.pending = none ∧ s.rul.draining.isSome = true) ∧
    (let s := (chip.updRul (fun r => { r with executing := some (.desc 7) })).updDesc 7 (fun d => { d with st := .running })
     s.runs (some 1) = true ∧ s.rul.executing = some (.desc 7) ∧ s.rul.draining = none ∧ s.descLive 7 = true) := by decide +kernel

theorem witness_VersionRetiresWhenUnheld :
    (let s := (chip.updRul (fun r => { r with draining := some 15 })).updFrame 5 (fun f => { f with holdsVer := true, version := 15 })
     s.rul.draining = some 15 ∧ s.verHeld 15 = true) ∧
    (let s := chip.updRul (fun r => { r with draining := some 15 }); s.runs (some 1) = true ∧ s.rul.draining = some 15 ∧ s.verHeld 15 = false ∧ s.rul.pending = none) ∧
    (let e : TEntry := { used := true, del := true, delVer := 15 }; (15 < 16) ∧ e.visible 15 15 = false) ∧
    chip.rul.tcam.wf = true ∧ chip.rul.tcam.dflt = {} ∧
    (let s := chip.updRul (fun r => { r with tcam := r.tcam.set 7 { used := true } }); s.tcamLookup 0 0 0 = some { used := true }) := by decide +kernel

/-- A ternary command is under way on entry 7, which holds `e`. -/
def tcam7 (op : Nat) (e : TEntry) (slots : List DWord) : State :=
  chip.updRul (fun r => { r with tcam := r.tcam.set 7 e, tcamCmd := some ⟨7, op, { slots := slots }⟩ })

theorem witness_TernaryCommandsTwoStages :
    chip.busOk (some 1) ∧ chip.flag Reg.RUL_TCAM_STAT_done = true ∧ (chip.setFld Reg.RUL_TCAM_STAT_done 0).flag Reg.RUL_TCAM_STAT_done = false ∧
    (tcam7 0 {} []).runs (some 1) = true ∧ ((tcam7 0 {} []).updRul (fun r => { r with pending := some .reg })).rul.pending.isSome = true ∧
    ((tcam7 0 { used := true } []).rul.tcam.get 7).used = true ∧ (tcam7 0 { used := true } []).rul.pending = none ∧
    badAction [BitVec.allOnes 64, 0, 0, 0] = true ∧ badAction [0, 0, 0, 0] = false ∧ ((tcam7 0 {} []).rul.tcam.get 7).used = false ∧
    ((tcam7 1 {} []).rul.tcam.get 7).visible (tcam7 1 {} []).rul.oldest (tcam7 1 {} []).rul.staged = false ∧
    ((tcam7 1 { used := true } []).rul.tcam.get 7).visible 0 1 = true ∧
    ((tcam7 1 { used := true, addVer := 1, addLive := true } []).rul.tcam.get 7).visible 0 1 = true := by
  refine ⟨chip_busOk _ (by decide), ?_⟩; decide +kernel

/-- An entry of stream 9, namespace 0, for model 3, whose buckets are those of key 9. -/
def ent9 : StreamEntry := ⟨[9, 0x30000, 0, 0, 0, 0, 0, 0]⟩

theorem witness_StreamTableCommands :
    chip.busOk (some 1) ∧ chip.flag Reg.RUL_EM_STAT_done = true ∧ (chip.setFld Reg.RUL_EM_STAT_done 0).flag Reg.RUL_EM_STAT_done = false ∧
    (let s := chip.updRul (fun r => { r with emCmd := some ⟨0, ent9⟩ })
     s.runs (some 1) = true ∧ s.rul.emCmd = some ⟨0, ent9⟩ ∧ s.emStatus ⟨0, ent9⟩ = 0 ∧ s.emStatus ⟨1, ent9⟩ = 2 ∧ s.emStatus ⟨2, ent9⟩ = 2 ∧ ent9.bad = false) ∧
    (let s := chip.updRul (fun r => { r with emCmd := some ⟨1, ent9⟩, em := r.em.set (emB1 9) [ent9] })
     s.emStatus ⟨1, ent9⟩ = 0 ∧ s.emStatus ⟨2, ent9⟩ = 0 ∧ (s.emFind ent9.key).isSome = true) ∧
    ({} : StreamEntry).bad = true ∧
    (let s := chip.updRul (fun r => { r with em := (r.em.set (emB1 9) (List.replicate 8 {})).set (emB0 9) (List.replicate 8 {}) })
     s.emFind ent9.key = none ∧ 8 ≤ (s.rul.em.get (emB0 ent9.key)).length ∧ 8 ≤ (s.rul.em.get (emB1 ent9.key)).length) := by
  refine ⟨chip_busOk _ (by decide), ?_⟩; decide +kernel

/-- Segment 8 of stream 9 stands at the head of the lookups; its entry and the cached keys are as given. -/
def look8 (cache : List Nat) (em : List StreamEntry) (ms : Word) : State :=
  let s := (chip.updRul (fun r => { r with lookups := [8], emCache := cache, em := r.em.set (emB0 9) em })).updSeg 8 (fun g => { g with streamId := 9, st := .lookup })
  s.updDom 0 (fun d => { d with rights := { d.rights with mset := d.rights.mset.set 0 ms } })

theorem witness_StreamLookupHitMissOrWait :
    (let s := look8 [] [] 0; s.runs (some 1) = true ∧ s.rul.lookups = 8 :: [] ∧ s.lookupReady 8 = true ∧ s.segNs 8 = some (0, false) ∧ s.rul.emCache.contains 9 = false) ∧
    (let s := look8 [9] [] 0; s.runs (some 1) = true ∧ s.rul.emCache.contains (0 <<< 32 + (s.seg 8).streamId.toNat) = true ∧ s.emFind 9 = none) ∧
    (let s := look8 [9] [ent9] 8; s.runs (some 1) = true ∧ s.rul.emCache.contains (0 <<< 32 + (s.seg 8).streamId.toNat) = true ∧ s.emFind 9 = some ent9 ∧ ent9.hintOk = false ∧
      (s.domRights ent9.domain).hasHandle ent9.model = true) ∧
    (let s := look8 [9] [ent9] 4; s.runs (some 1) = true ∧ s.emFind 9 = some ent9 ∧ (s.domRights ent9.domain).hasHandle ent9.model = false) ∧
    (let s := chip.updRul (fun r => { r with misses := [4, 8] }); s.runs (some 1) = true ∧ s.rul.misses[1]? = some 8 ∧ s.rul.emCache.length < 65536) := by decide +kernel

theorem witness_CountersLoseNoEvent :
    chip.canonical ∧ chip.busOk (some 1) ∧
    (let s : State := { chip.updRul (fun r => { r with sweepTs := some 7 }) with now := 10000000000 }
     s.runs (some 1) = true ∧ s.canonical ∧ s.rul.sweepTs = some 7 ∧ s.passed s.rul.lastSweep (s.fld Reg.RUL_CNT_PERIOD_period_ns) = true) ∧
    (let s : State := { chip with now := 10000000000 }; s.runs (some 1) = true ∧ s.rul.sweepTs = none ∧ s.passed s.rul.lastSweep (s.fld Reg.RUL_CNT_PERIOD_period_ns) = true) ∧
    (let s := ((chip.setFld Reg.RUL_MTR_CBS_size 1).setFld Reg.RUL_MTR_PBS_size 1).setFld Reg.RUL_MTR_PIR_rate 5
     s.fld Reg.RUL_MTR_CIR_rate ≤ s.fld Reg.RUL_MTR_PIR_rate ∧ s.fld Reg.RUL_MTR_CBS_size ≠ 0 ∧ s.fld Reg.RUL_MTR_PBS_size ≠ 0) ∧
    chip.fld Reg.RUL_MTR_CBS_size = 0 ∧
    (let m : Meter := { cbs := 100, tc := 100000000000 }; m.tc ≤ m.cbs * 1000000000 ∧ m.tp ≤ m.pbs * 1000000000) := by
  refine ⟨by unfold State.canonical; decide +kernel, chip_busOk _ (by decide), ?_⟩; unfold State.canonical; decide +kernel

/-- A result of segment 8 of bundle 5 stands at the early reply unit; its profile's words and its bundle's verdict are as given. -/
def res8 (d0 : Word) (d1 : Word) (v : Option Cause) : State :=
  let s := chip.updErp (fun e => { e with results := [{ bundle := 5, seg := 8 }], profiles := e.profiles.set 0 { d0 := d0, d1 := d1 } })
  (s.setFld Reg.ERP_CTRL_enable 1).updBundle 5 (fun b => { b with frame := some 5, verdict := v })

theorem witness_ResultsCoalesceAndLeave :
    (let s := res8 0 0 none; s.runs (some 3) = true ∧ takeFirst s.streamClear s.erp.results = some ({ bundle := 5, seg := 8 }, []) ∧ (s.seg 8).desc = none ∧ profValid (s.profile 0).d0 = false) ∧
    (let s := (res8 1 0 none).setFld Reg.ERP_CTRL_enable 0; s.flag Reg.ERP_CTRL_enable = false) ∧
    (let s := res8 0x00020001 500 (some .truncated); s.runs (some 3) = true ∧ takeFirst s.streamClear s.erp.results = some ({ bundle := 5, seg := 8 }, []) ∧
      s.flag Reg.ERP_CTRL_enable = true ∧ profValid (s.profile 0).d0 = true ∧ (s.bundle 5).verdict = some .truncated) ∧
    (let s := res8 0x00020101 500 none; s.runs (some 3) = true ∧ s.flag Reg.ERP_CTRL_enable = true ∧ (s.bundle 5).verdict = none ∧ profSeal (s.profile 0).d0 = 2 ∧ (s.bundle 5).fromHost = false) ∧
    (let s := res8 0x00020001 1 none; s.runs (some 3) = true ∧ takeFirst s.streamClear s.erp.results = some ({ bundle := 5, seg := 8 }, []) ∧ s.flag Reg.ERP_CTRL_enable = true ∧
      profSeal (s.profile 0).d0 ≠ 2 ∧ s.erp.coal.get 0 = none ∧ (s.profile 0).d1 ≠ 0 ∧ 1 < profMax (s.profile 0).d0) ∧
    (let s : State := { (pair0 .open).updErp (fun e => { e with coal := e.coal.set 4095 (some ⟨0, { d1 := 500 }⟩) }) with now := 500 }
     s.runs (some 3) = true ∧ s.erp.coal.get 4095 = some ⟨0, { d1 := 500 }⟩ ∧ 0 + ({ d1 := 500 } : ReplyFrame).d1.toNat ≤ s.now ∧ s.replyPort 0 = true) ∧
    chip.busOk (some 3) ∧ chip.flag Reg.ERP_PROF_STAT_done = true ∧
    badReplyProfile 0x00010000 0 1000 0x00220E2A = false ∧ badReplyProfile 0x00010000 0 999 0x00220E2A = true ∧
    (chip.setFld Reg.ERP_PROF_STAT_done 0).flag Reg.ERP_PROF_STAT_done = false := by
  refine ⟨?_, ?_, ?_, ?_, ?_, ?_, chip_busOk _ (by decide), ?_⟩ <;> decide +kernel

theorem witness_BadVerdictWithdrawsBundle :
    (let s := (chip.updFrame 5 (fun f => { f with verdict := some (.truncated, true), ubp := some {} })).updBundle 5 (fun b => { b with frame := some 5 })
     let s := (s.setFld Reg.ERP_CTRL_enable 1).updErp (fun e => { e with held := [(0, { bundle := 5 }), (0, { bundle := 6 })] })
     s.runs (some 3) = true ∧ (s.frame 5).verdictReady = some .truncated ∧ (s.bundle 5).frame = some 5 ∧ (s.bundle 5).verdict = none ∧ s.flag Reg.ERP_CTRL_enable = true ∧
       s.erp.coal.dflt = none ∧ s.sfe.segs.wf = true) ∧
    (let s := chip.updPort 3 (fun p => { p with tx := some ⟨⟨.reply { records := [{ bundle := 5 }] }, 3, 0, 0, false⟩, 0, [0], false, false, 0⟩ })
     let s := s.updFrame 5 (fun f => { f with verdict := some (.fcsBad, true) })
     s.runs (some 3) = true ∧ (s.frame 5).verdict = some (.fcsBad, true) ∧ (s.port 3).tx.isSome = true ∧ s.now10 < 0 + 1 * s.byteTime) ∧
    (let s : State := { chip.updBundle 5 (fun b => { b with firstProv := some 0, remote := true }) with now := chip.fld Reg.ERP_REMOTE_WAIT_wait_ns }
     s.runs (some 3) = true ∧ (s.bundle 5).firstProv = some 0 ∧ (s.bundle 5).remote = true ∧ (s.bundle 5).verdict = none ∧ 0 + s.fld Reg.ERP_REMOTE_WAIT_wait_ns ≤ s.now) := by
  decide +kernel

/-- Segment 8, as given, stands at the head of the front end's queue; slot 0 belongs to its stream, with sequence number 5 last. -/
def adm8 (f : Seg → Seg) : State :=
  let s := ((chip.setFld Reg.SFE_CTRL_enable 1).updSfe (fun e => { e with queue := [8] })).updSeg 8 (fun _ => f {
    streamId := 9, seq := 6, len := 2, codec := 1, rate := 1, st := .admission, prof := { d0 := 0x00E48FFF } })
  s.setRegion 0 (s.seg 8).prof { streamId := 9, lastSeq := 5, valid := true }

theorem witness_AdmissionChecksInOrder :
    (let s := adm8 (fun g => { g with st := .alloc }); s.runs (some 2) = true ∧ (8, s.seg 8) ∈ s.sfe.segs.cells ∧ (s.seg 8).st = .alloc) ∧
    (let s := adm8 id
     s.runs (some 2) = true ∧ s.sfe.segs.cells.any (fun c => decide (c.2.st = .alloc)) = false ∧ s.rowStarved = false ∧ s.sfe.queue = 8 :: [] ∧ (s.seg 8).withdrawn = false ∧ (s.seg 8).len ≠ 0 ∧
       isHostCodec (s.seg 8).codec = false ∧ s.flag Reg.SFE_CTRL_enable = true ∧ bit (s.seg 8).prof.d0.toNat 0 = true ∧ (s.seg 8).prof.codecOk 1 = true ∧
       (s.seg 8).prof.rateOk 1 1 = true ∧ (s.seg 8).prof.lenOk 1 2 = true ∧ (s.seg 8).len ≤ (s.seg 8).prof.maxSeg ∧ s.age 0 0 0 = .fresh ∧
       reorder (s.region 0 (s.seg 8).prof) 9 6 false 0 0 (s.seg 8).prof.gapMax = .accept 0) ∧
    (let s := ((adm8 (fun g => { g with st := .features, codec := 0x20, len := 64 })).updSfe (fun e => { e with order := [8] })).updRow 1
       (fun r => { r with st := .closed, size := chip.fld Reg.SFE_ROW_REGION_mib * 1048576 })
     s.rowStarved = true) ∧
    (let r := (adm8 id).region 0 { d0 := 0x00E48FFF }
     reorder r 9 5 false 0 0 8 = .dup ∧ reorder r 9 0x8005 false 0 0 8 = .late ∧ reorder r 9 13 false 0 0 8 = .accept 7 ∧
       reorder r 9 14 false 0 0 8 = .restart) ∧
    ((adm8 id).setFld Reg.SFE_CTRL_enable 0).flag Reg.SFE_CTRL_enable = false ∧ (adm8 id).seg 8 ≠ {} ∧ ((adm8 id).seg 8).prof.codecOk 0x22 = false ∧
    ((adm8 id).seg 8).prof.rateOk 1 5 = false ∧ ((adm8 id).seg 8).prof.lenOk 1 3 = false ∧ ((adm8 id).seg 8).prof.maxSeg < 8001 ∧
    ((adm8 id).setReg (Reg.SFE_STALE_EN 0) 1).age 0 0 2000000 = .skew := by decide +kernel

theorem witness_LinesLoadAndFramesFollowOrder :
    (let s := (adm8 (fun g => { g with st := .alloc })).setFld Reg.SFE_CTRL_enable 0; s.runs (some 2) = true ∧ s.waitingSeg = some 8 ∧ s.flag Reg.SFE_CTRL_enable = false) ∧
    (let s := adm8 (fun g => { g with st := .alloc })
     s.runs (some 2) = true ∧ s.waitingSeg = some 8 ∧ s.flag Reg.SFE_CTRL_enable = true ∧ s.spaceThere 8 = true ∧ s.sfe.cache.any (fun c => c.1 == (s.seg 8).slot) = false ∧ s.cacheUsed + s.lineNeed 8 ≤ s.cacheLines) ∧
    (let s := (adm8 (fun g => { g with st := .alloc })).updSfe (fun e => { e with cache := [(0, 1)] })
     s.waitingSeg = some 8 ∧ s.spaceThere 8 = true ∧ s.cached (s.seg 8).slot = true ∧ s.lineNeed 8 = 0) ∧
    (let s := (adm8 (fun g => { g with st := .alloc })).updRow 1 (fun r => { r with st := .closed, size := chip.fld Reg.SFE_ROW_REGION_mib * 1048576 })
     s.waitingSeg = some 8 ∧ s.spaceThere 8 = false) ∧
    (let s := (adm8 (fun g => { g with st := .line })).updSfe (fun e => { e with order := [8], loading := [0], cache := [(0, 1)] })
     s.runs (some 2) = true ∧ s.sfe.loading.contains 0 = true ∧ s.sfe.cache.any (fun c => c.1 == 0) = true ∧ 8 ∈ s.sfe.order ∧ (s.seg 8).slot = 0 ∧ (s.seg 8).st = .line) ∧
    (let s := (adm8 (fun g => { g with st := .features, codec := 0x20, len := 64 })).updSfe (fun e => { e with order := [8] })
     s.runs (some 2) = true ∧ s.slotTurn 8 = true ∧ (s.seg 8).withdrawn = false ∧ (s.seg 8).made < s.frameTotal 8 ∧ s.frameThere 8 = true ∧ s.rowReady 8 = true) ∧
    (let s := (adm8 (fun g => { g with st := .features })).updSfe (fun e => { e with order := [7, 8] })
     (7 ≠ 8) ∧ (s.seg 8).st = .features ∧ s.sfe.order.find? (fun j => decide ((s.seg j).slot = (s.seg 8).slot)) = some 7) ∧
    (let s : State := { chip.updRow 1 (fun r => { r with st := .opened }) with now := chip.fld (Reg.SFE_PACK_WAIT_wait_ns 0) }
     s.runs (some 2) = true ∧ (s.row 1).st = .opened ∧ (s.row 1).full = false ∧ s.fld (Reg.SFE_PACK_WAIT_wait_ns (s.row 1).cls) + (s.row 1).openAt ≤ s.now) ∧
    (let s := chip.updRow 1 (fun r => { r with st := .opened, openAt := 1 })
     (s.row 1).full = false ∧ s.now < s.fld (Reg.SFE_PACK_WAIT_wait_ns (s.row 1).cls) + (s.row 1).openAt) := by decide +kernel

theorem witness_NormProfilesWrittenWholeOrRefused :
    chip.busOk (some 2) ∧ chip.flag Reg.SFE_PROF_STAT_done = true ∧ (chip.setFld Reg.SFE_PROF_STAT_done 0).flag Reg.SFE_PROF_STAT_done = false ∧
    (⟨0x00E483FE, 0x01450190, 0x00100040, 0x00080000, 0x1F40, 1⟩ : SfeProfile).bad = false ∧
    (⟨0x00E483FE, 0x01450190, 0x00100000, 0x00080000, 0x1F40, 1⟩ : SfeProfile).bad = true := by
  refine ⟨chip_busOk _ (by decide), ?_⟩; decide +kernel

/-- An image with two section table entries that name one section (R217), its numeric descriptor's words (R204), the words of its section descriptor (R175), and what follows. -/
def img (sections num0 num1 num2 d0 d1 : Nat) (rest : List Byte) : List Byte :=
  zeros 8 ++ [1, 1, 15, BitVec.ofNat 8 sections] ++ zeros 12 ++ toLe 4 4 ++ zeros 36 ++ toLe 4 7 ++ toLe 4 7 ++ zeros 24 ++
    toLe 4 num0 ++ toLe 4 num1 ++ toLe 4 num2 ++ zeros 4 ++ toLe 4 d0 ++ toLe 4 d1 ++ rest

/-- An image whose section retains region slot 0 and may widen. -/
def keepImg : List Byte := img 1 0x10000 1 0 0 0 []

/-- An image whose section of one tile declares one region of one line. -/
def regImg : List Byte := img 1 0 0 0 0x10400 1 (toLe 4 0 ++ toLe 4 1)

/-- A microinstruction by its fields (R171). -/
def mi (op dst dk sa ak sb bk imm func lanes : Nat) : Nat :=
  op <<< 122 + dst <<< 116 + dk <<< 114 + sa <<< 108 + ak <<< 106 + sb <<< 100 + bk <<< 98 + imm <<< 82 + func <<< 56 + lanes <<< 40

/-- A context of one instruction, with a header of the flags given and channel 0, valid with the credits given, to queue 0 of tile (0, 0). -/
def ctx1 (flags i credits : Nat) : Ctx := { flits := [BitVec.ofNat 128 flags, BitVec.ofNat 128 i, BitVec.ofNat 128 (credits <<< 25 + 1 <<< 22)] }

/-- Tile 4095 runs a context of one instruction. -/
def tl (flags i credits : Nat) : State := chip.updTile 4095 (fun x => { x with phase := .running, ctx := ctx1 flags i credits })

/-- A queue of tile 4095 is as given. -/
def tlq (s : State) (q : Nat) (l : List Tok) : State := s.updTile 4095 (fun x => { x with queues := x.queues.set q l })

theorem witness_TilesFireInProgramOrder :
    ((tl 0 0 0).updTile 4095 (fun x => { x with phase := .ended })).tile 4095 ≠ (tl 0 0 0).tile 4095 ∧
    (∀ op ∈ [0, 1, 2, 3, 4, 5, 6, 7, 8, 9, 10, 11], (tl 0 (mi op 0 0 0 0 0 0 0 0 0) 0).atTile 4095 op (mi op 0 0 0 0 0 0 0 0 0)) ∧
    (∀ op ∈ [0, 1, 2, 3, 7, 9, 10, 11], inNeeds ((tl 0 0 0).tile 4095) (mi op 0 0 0 0 0 0 0 0 0) = []) ∧
    (∀ op ∈ [0, 1, 7, 8, 10, 11], let i := mi op 0 0 3 1 0 0 0 0 0
      let s := tlq (tl 0 i 0) 3 [{ flit := 7, src := some ⟨0x7FFF, 9, 0, 0⟩ }]
      s.atTile 4095 op i ∧ inNeeds (s.tile 4095) i = [(3, 1)] ∧ (∀ k ∈ (s.tile 4095).queues.get 3, k.src.map (·.chip) = some 0x7FFF)) ∧
    (∀ op ∈ [2, 4, 5, 6, 8], ((tl 0 (mi op 0 0 3 1 0 0 0 0 0) 0).tile 4095).sourcesReady (mi op 0 0 3 1 0 0 0 0 0) none = false) ∧
    (∀ op ∈ [4, 5, 6, 9], (tl 0 (mi op 0 1 0 0 0 0 0 0 0) 0).atTile 4095 op (mi op 0 1 0 0 0 0 0 0 0) ∧
      (tl 0 (mi op 0 1 0 0 0 0 0 0 0) 0).fire 4095 0 (mi op 0 1 0 0 0 0 0 0 0) none = none) ∧
    (let i := mi 6 0 0 3 1 0 0 0 0 0
     let s := tlq (tl (1 <<< 17) i 0) 3 [{ flit := 7, tag := 65535 }]
     (s.tile 4095).phase = .running ∧ (s.tile 4095).ctx.tag = true ∧ (s.tile 4095).readyInstr = some (0, [65535]) ∧ miOp i = 6 ∧
       (s.fire 4095 0 ((s.tile 4095).ctx.instr 0) (some 65535)).isSome = true) ∧
    (let i := mi 0x0B 0 0 0 0 0 0 65535 0 0; miCop i = 0 ∧ miCtr i < ((tl 0 i 0).tile 4095).ctrs.length) ∧
    ((tl 0 (mi 9 0 0 0 0 0 0 1 0 0) 1).atTile 4095 9 (mi 9 0 0 0 0 0 0 1 0 0) ∧ (tl 0 (mi 9 0 0 0 0 0 0 1 0 0) 1).canSend 4095 0 1 = true) ∧
    (tl 0 (mi 9 0 0 0 0 0 0 1 0 0) 0).canSend 4095 0 1 = false ∧
    (let i := 1 <<< 76 + 7 <<< 68; miCop i = 1 ∧ miOp i ≠ 0x0A ∧ miTarget i = 7 ∧
      (((tl 0 i 0).updTile 4095 (fun x => { x with ctrs := [(5, 1)] })).tile 4095).ctrs[miCtr i]? = some (5, 1)) := by
  unfold State.atTile; decide +kernel

theorem witness_MovesAndSectionStore :
    (∀ ak ∈ [0, 2, 3], ∀ dk ∈ [0, 1, 2], (tl 0 (mi 6 0 dk 0 ak 0 0 0 0 0) 1).atTile 4095 6 (mi 6 0 dk 0 ak 0 0 0 0 0) ∧
      inNeeds ((tl 0 0 0).tile 4095) (mi 6 0 dk 0 ak 0 0 0 0 0) = []) ∧
    (tl 0 (mi 6 0 1 0 0 0 0 0 0 0) 1).canSend 4095 0 1 = true ∧ (tl 0 (mi 7 0 0 0 0 0 0 0 0 0) 1).atTile 4095 7 (mi 7 0 0 0 0 0 0 0 0 0) ∧
    (let s := (tl 0 (mi 8 0 0 0 0 0 0 0 0 0) 1).updPlot 0 (fun p => { p with image := keepImg })
     s.atTile 4095 8 (mi 8 0 0 0 0 0 0 0 0 0) ∧ widenEn (s.plot 0).image (descOff (s.plot 0).image 0 false) = true ∧
       bit (retainMask (s.plot 0).image (descOff (s.plot 0).image 0 false)) 0 = true) ∧
    (let s := (tl 0 (mi 8 0 0 0 0 0 0 0 0 0) 1).updPlot 0 (fun p => { p with image := regImg })
     s.atTile 4095 8 (mi 8 0 0 0 0 0 0 0 0 0) ∧ widenEn (s.plot 0).image (descOff (s.plot 0).image 0 false) = false ∧
       127 < regionLines (s.plot 0).image ((s.plot 0).desc ((s.tile 4095).ctx)) 0 * 128) ∧
    (let r : SecReq := ⟨4095, 3, 0, 0, 127, 9, 0, none, 0⟩
     let s := ((tl 0 0 0).updTile 4095 (fun x => { x with plot := some 0 })).updFab (fun b => { b with reqs := [r] })
     s.fab.reqs[0]? = some r ∧ (s.tile 4095).plot = some r.plot ∧ (s.tile 4095).inst = r.inst ∧ (s.tile 4095).phase ≠ .off ∧
       (s.tile 4095).ctx.tag = false ∧ (s.tile 4095).tagBad 3 0 = false ∧ (s.plot 0).lease ≠ r.lease ∧ s.bankTurn 0 r = true ∧
       (∀ e ∈ s.fab.reqs, e.write = none)) ∧
    (let r : SecReq := ⟨4095, 3, 0, 0, 127, 0, 0, none, 0⟩
     let s := (tl 0 0 0).updFab (fun b => { b with reqs := [r, { r with off := 0 }] }); s.fab.reqs[1]? = some { r with off := 0 } ∧ s.bankTurn 1 { r with off := 0 } = false) ∧
    (let r : SecReq := ⟨4095, 3, 0, 0, 127, 0, 0, some 5, 0⟩; chip.fab.reqs = [] ∧ (chip.plot 0).lease = r.lease ∧ (chip.plot 0).lease ≠ 9) ∧
    (let r : SecReq := ⟨4095, 3, 0, 0, 127, 0, 0, none, 0⟩
     let s := (((tl 0 0 0).updTile 4095 (fun x => { x with plot := some 0 })).updFab (fun b => { b with reqs := [r] })).updPlot 0 (fun p => { p with image := regImg })
     s.rowFenced r = false ∧ (s.plot 0).lease = r.lease ∧ (s.plot 0).row = none ∧ r.off < slotLines (s.plot 0).image r.slot * 128) ∧
    (let r : SecReq := ⟨4095, 3, 0, 0, 127, 0, 0, none, 1⟩
     let s := (tl 0 0 0).updFab (fun b => { b with reqs := [r] }); s.fab.reqs[0]? = some r ∧ (s.tile 4095).inst ≠ r.inst) ∧
    (let r : SecReq := ⟨4095, 3, 0, 0, 0, 0, 0, none, 0⟩
     let s := ((((((tl 0 0 0).updTile 4095 (fun x => { x with plot := some 0, phase := .running })).updFab (fun b => { b with reqs := [r] })).updPlot 0
       (fun p => { p with image := regImg, row := some 4 })).updRow 4 (fun x => { x with st := .taken })).updSfe (fun e => { e with epoch := 1 }))
     s.bankTurn 0 r = true ∧ (s.tile 4095).plot = some 0 ∧ (s.tile 4095).phase ≠ .off ∧ s.rowFenced r = true) := by
  unfold State.atTile; decide +kernel

theorem witness_MultiplierAndRequantisation :
    (∀ f ∈ [0, 1], (tl 0 (mi 1 0 0 0 0 0 0 0 f 0) 0).atTile 4095 1 (mi 1 0 0 0 0 0 0 0 f 0)) ∧ ((tl 0 0 0).tile 4095).ctx.fmt ≠ 2 ∧
    ((tl (2 <<< 19) 0 0).tile 4095).ctx.fmt = 2 ∧
    ((tl 0 (mi 2 0 0 0 0 0 0 0x200 0 0) 0).atTile 4095 2 (mi 2 0 0 0 0 0 0 0x200 0 0) ∧ ((tl 0 0 0).tile 4095).ctx.fused = false) ∧
    (let s := (tl (1 <<< 21 + 1 <<< 22) (mi 2 0 0 0 0 0 0 0 0 0) 0).updTile 4031 (fun x => { x with ctx := ctx1 (1 <<< 21) 0 0 })
     s.atTile 4095 2 (mi 2 0 0 0 0 0 0 0 0 0) ∧ (s.tile 4095).ctx.fused = true ∧ (s.tile 4095).ctx.fCol = 0 ∧ s.eastTile 4095 = none ∧
       s.array 4095 = (63, 62, 2, 1) ∧ (s.tile (tileIx 63 62)).west = []) ∧
    (let i := mi 3 0 0 0 0 0 0 0x1800 0x10 0
     (tl 0 i 0).atTile 4095 3 i ∧ inNeeds ((tl 0 i 0).tile 4095) i = [] ∧ ((tl 0 i 0).tile 4095).ctx.fused = false ∧ miDk i = 0 ∧ bit (miImm i) 10 = false ∧
       128 ≤ ((tl 0 i 0).tile 4095).width * fmtBits (miFunc i % 4)) ∧
    (-(2 ^ (accWidth 0 + 7) - 1) ≤ (2 ^ 47 - 2 : Int) + 1 ∧ (2 ^ 47 - 2 : Int) + 1 ≤ 2 ^ (accWidth 0 + 7) - 1) ∧
    (let p : ReqPar := ⟨0, 0, 0, true, false, true, true⟩
     let l : List ReqIn := List.replicate 4 { acc := 14, sat := false, m := 1, s := 0, r := 0 }
     0 < (p.requant l).e ∧ (p.requant l).e < 7) := by
  unfold State.atTile; decide +kernel

theorem witness_VectorAluAndFunctionTable :
    (∀ f ∈ [0, 11], let i := mi 4 0 0 4 0 8 0 0 f 0x8001
      miDk i = 0 ∧ miAk i = 0 ∧ (tl 0 i 0).atTile 4095 4 i ∧ miBk i = 0 ∧ miFunc i < 0x0C ∧ (quadLanes (((tl 0 i 0).tile 4095).quad 8))[15]? = some 0) ∧
    (∀ f ∈ [0x10, 0x1A], let i := mi 4 0 0 4 0 8 0 0 f 0x8001; (tl 0 i 0).atTile 4095 4 i ∧ 0x10 ≤ miFunc i ∧ miBk i ≠ 1) ∧
    (let i := mi 5 0 0 4 0 0 0 0 0 0x8001; miDk i = 0 ∧ miAk i = 0 ∧ (tl 0 i 0).atTile 4095 5 i ∧ miBk i ≠ 1) := by
  unfold State.atTile; decide +kernel

/-- A packet at router (x, y) for tile (63, 63). -/
def pk (x y : Nat) (d : Dest) (k : PktKind) : Packet :=
  { x := x, y := y, port := 4, vc := 0, kind := k, dest := d, tagged := false, tok := {}, plot := 0, inst := 0 }

/-- Tile 4095 with a flow unit of the configuration given; queue 0 holds a data token and queue 1 a control token. -/
def fu (c credits ctl : Nat) : State :=
  let x : Ctx := { flits := [0, 0, BitVec.ofNat 128 (credits <<< 25 + 1 <<< 22)] ++ List.replicate 11 0 ++ [BitVec.ofNat 128 c] }
  let s := chip.updTile 4095 (fun t => { t with phase := .running, ctx := x })
  tlq (tlq s 0 [{ flit := 7 }]) 1 [{ flit := BitVec.ofNat 128 ctl }]

theorem witness_RoutersCreditsAndFlowUnits :
    (hopTo 0 0 63 63 = some (1, 0, 3) ∧ hopTo 63 63 63 63 = none) ∧
    (let s := chip.updFab (fun b => { b with packets := [pk 0 0 (.tile 63 63 0) .data, pk 0 0 (.tile 63 63 0) .data] })
     s.fab.packets[1]? = some (pk 0 0 (.tile 63 63 0) .data) ∧ isHead s.fab.packets 1 (pk 0 0 (.tile 63 63 0) .data) = false ∧
       isHead s.fab.packets 0 (pk 0 0 (.tile 63 63 0) .data) = true ∧ s.sunk 0 0 = false ∧ s.sunk 1 0 = false ∧ bufferLoad s.fab.packets 1 0 3 0 < 4) ∧
    (let s := chip.updFab (fun b => { b with packets := pk 0 0 (.tile 63 63 0) .data :: List.replicate 4 { pk 1 0 (.tile 63 63 0) .data with port := 3 } })
     isHead s.fab.packets 0 (pk 0 0 (.tile 63 63 0) .data) = true ∧ 4 ≤ bufferLoad s.fab.packets 1 0 3 0 ∧ s.sunk 1 0 = false) ∧
    (∀ x ∈ [0, 1], let s := (chip.updFab (fun b => { b with packets := [pk 0 0 (.tile 63 63 0) .data] })).updRep (fun r => { r with sink := [(0, 0, x)] })
      s.sunk x 0 = true ∧ s.sunk (1 - x) 0 = false) ∧
    (let k := pk 63 63 (.tile 63 63 15) .data
     let s := ((tl 0 0 0).updFab (fun b => { b with packets := [k] })).updTile 4095 (fun x => { x with plot := some 0 })
     let d := s.tile (tileIx 63 63)
     s.fab.packets[0]? = some k ∧ isHead s.fab.packets 0 k = true ∧ s.sunk 63 63 = false ∧ d.plot = some k.plot ∧ d.inst = k.inst ∧ d.phase ≠ .off ∧
       d.ctx.tag = false ∧ d.tagBad 15 k.tok.tag = false) ∧
    (let k := pk 63 63 .reply .data
     let s := (chip.updFab (fun b => { b with packets := [k] })).updPlot 0 (fun p => { p with image := keepImg, expect := [(4, 0)], pass := true })
     s.fab.packets[0]? = some k ∧ isHead s.fab.packets 0 k = true ∧ s.sunk 63 63 = false ∧ k.x = edgeX k.x ∧ k.tok.src = none ∧ (s.plot 0).job = none ∧ (s.plot 0).prog = none ∧
       (s.plot 0).expect = (4, 0) :: [] ∧ (s.plot 0).pass = true ∧ k.inst = (s.plot 0).inst ∧
       widenEn (s.plot 0).image (secOff (s.plot 0).image (s.plot 0).sec) = true) ∧
    (let s := chip.updFab (fun b => { b with credits := [⟨0x7FFF, 4095, 15, 0⟩, ⟨0x7FFF, 4095, 15, 1⟩] })
     s.fab.credits[1]? = some ⟨0x7FFF, 4095, 15, 1⟩ ∧ (s.tile 4095).inst = 0) ∧
    (bits ((fu 0 0 0).tile 4095 |>.ctx.unit 0) 3 0 = 0) ∧
    (let s := fu (1 + 1 <<< 17) 1 0
     let x := s.tile 4095
     x.phase ≠ .off ∧ bits (x.ctx.unit 0) 3 0 = 1 ∧ bits (x.ctx.unit 0) 16 12 ≠ bits (x.ctx.unit 0) 21 17 ∧ (x.front 0).isSome = true ∧ (x.front 1).isSome = true ∧
       bits (x.ctx.unit 0) 26 22 < 16 ∧ s.canSend 4095 0 1 = true) ∧
    (let s := fu (4 + 1 <<< 17) 1 0
     let x := s.tile 4095
     x.phase ≠ .off ∧ bits (x.ctx.unit 0) 3 0 = 4 ∧ (x.front 0).isSome = true ∧ (x.front 1).map (·.ctl) = some false) ∧
    (let s := (fu (6 + 255 <<< 4) 1 0).updTile 4095 (fun x => { x with units := x.units.set 0 255 })
     let x := s.tile 4095
     x.phase ≠ .off ∧ bits (x.ctx.unit 0) 3 0 = 6 ∧ (x.front 0).isSome = true ∧ x.units.get 0 = 255 ∧ bits (x.ctx.unit 0) 11 4 = 255) := by decide +kernel

theorem witness_SectionsEndAndFlip :
    (chip.tile 4095).phase ≠ .running ∧
    (let s := tl (1 <<< 17) 0 0; (s.tile 4095).phase = .running ∧ (s.tile 4095).ctx.tag = true ∧ (s.tile 4095).allEnds = true) ∧
    (let s := (tl (1 <<< 17) 0 0).updTile 4095 (fun x => { x with ctx := { flits := x.ctx.flits ++ List.replicate 7 (0 : Flit) ++ [BitVec.ofNat 128 (1 <<< 21)] } })
     (s.tile 4095).ctx.tag = true ∧ (s.tile 4095).allEnds = false) ∧
    (let s := (tl 0 (mi 0x0D 0 0 0 0 0 0 0 0 0) 0).setFld Reg.FAB_CTRL_trail_en 0
     (s.tile 4095).phase = .running ∧ (s.tile 4095).ctx.tag = false ∧ (s.tile 4095).pc < (s.tile 4095).ctx.n ∧
       miOp ((s.tile 4095).ctx.instr 0) = 0x0D ∧ inNeeds (s.tile 4095) ((s.tile 4095).ctx.instr 0) = [] ∧ s.flag Reg.FAB_CTRL_trail_en = false) ∧
    (((tl 0 (mi 0x0D 0 0 3 1 0 0 0 0 0) 0).tile 4095).sourcesReady (mi 0x0D 0 0 3 1 0 0 0 0 0) none = false) ∧
    chip.nextReport 3 = none ∧
    (let r : Report := ⟨0, 0, 7, {}⟩
     let s := (chip.updField 3 (fun f => { f with reports := [r] })).updPlot 0 (fun p => { p with pass := true, inst := 7, image := keepImg, w := 2 })
     s.nextReport 3 = some (r, []) ∧ (s.plot 0).done.length + 1 ≠ (s.plot 0).tiles.length) ∧
    (let r : Report := ⟨0, 0, 7, {}⟩
     let s := (chip.updField 3 (fun f => { f with reports := [r] })).updPlot 0 (fun p => { p with pass := true, inst := 7, image := keepImg })
     s.nextReport 3 = some (r, []) ∧ (s.plot 0).done.length + 1 = (s.plot 0).tiles.length ∧ (s.plot 0).removing = false ∧ (s.plot 0).wide = false ∧
       widenEn (s.plot 0).image (secOff (s.plot 0).image (s.plot 0).sec) = true) ∧
    ((chip.plot 0).used && (chip.plot 0).ready && !(chip.plot 0).fault) = false ∧
    (let s := chip.updPlot 0 (fun p => { p with used := true, ready := true, image := regImg, gen := 5 })
     let p := s.plot 0
     p.used = true ∧ p.ready = true ∧ p.fault = false ∧ s.linesFenced p = false ∧ p.pass = false ∧ (∀ t ∈ p.tiles, (ctxOf (s.followOf 0 t).1 (s.followOf 0 t).2.1
       (tileX t - p.x0) (tileY t - p.y0) (s.followOf 0 t).2.2.1 (s.followOf 0 t).2.2.2).crcOk = true)) ∧
    (let s := chip.updPlot 0 (fun p => { p with used := true, ready := true, image := regImg, lineLease := 1 })
     (s.plot 0).used = true ∧ (s.plot 0).ready = true ∧ (s.plot 0).fault = false ∧ s.linesFenced (s.plot 0) = true) ∧
    ((chip.plot 0).pass && (chip.plot 0).flipAll && chip.contextsReady 0) = false ∧
    (let s := (chip.updPlot 0 (fun p => { p with pass := true, flipAll := true, x0 := 63, y0 := 63 })).updTile 4095 (fun x => { x with plot := some 0, nxt := some {} })
     (s.plot 0).pass = true ∧ (s.plot 0).flipAll = true ∧ s.contextsReady 0 = true ∧ (s.plot 0).x0 + (s.plot 0).w ≤ 64 ∧
       (∀ t ∈ (s.plot 0).tiles, (s.tile t).plot = some 0)) := by decide +kernel

theorem witness_CommitsRunOneAtATime :
    (chip.runs none = true ∧ (chip.field 3).leaving = none ∧ (chip.field 3).waiting = []) ∧
    (let s := (chip.setFld Reg.FAB_CTRL_enable 1).updField 3 (fun f => { f with waiting := List.replicate 17 (.remove 0) })
     let x := s.field 3
     s.runs none = true ∧ x.leaving = none ∧ x.waiting ≠ [] ∧ s.flag Reg.FAB_CTRL_enable = true ∧ x.running = none ∧ x.accepted = none) ∧
    (let s := (chip.setFld Reg.FAB_CTRL_enable 1).updField 3 (fun f => { f with waiting := [.remove 0], running := some ⟨[], [], 0⟩ })
     let x := s.field 3
     s.runs none = true ∧ x.leaving = none ∧ x.waiting ≠ [] ∧ x.running.isSome = true ∧ x.pending = none) ∧
    (let s := (chip.setFld Reg.FAB_CTRL_enable 1).updField 3 (fun f => { f with waiting := [.remove 0], accepted := some ⟨[], [], 0⟩, pending := some ⟨[], [], 0⟩ })
     let x := s.field 3
     s.runs none = true ∧ x.leaving = none ∧ x.waiting ≠ [] ∧ x.accepted.isSome = true ∧ x.pending.isSome = true) ∧
    (let s := (chip.updField 3 (fun f => { f with accepted := some ⟨[(.remove 0, false)], [], 0⟩ })).updPlot 0 (fun p => { p with used := true, pass := true })
     (s.fieldPow 3).st = 0 ∧ (s.field 3).running = none ∧ s.nextReport 3 = none ∧ (s.field 3).accepted = some ⟨[(.remove 0, false)], [], 0⟩ ∧ (s.plot 0).used = true ∧ (s.plot 0).pass = true) ∧
    (let s := (chip.updField 3 (fun f => { f with accepted := some ⟨[(.add 0, false)], [], 0⟩ })).updPlot 0 (fun p => { p with used := true, job := some 2 })
     (s.fieldPow 3).st = 0 ∧ (s.field 3).running = none ∧ s.nextReport 3 = none ∧ (s.field 3).accepted = some ⟨[(.add 0, false)], [], 0⟩ ∧ (s.plot 0).used = true ∧ (s.plot 0).job.isSome = true) ∧
    (let s := (chip.updField 3 (fun f => { f with accepted := some ⟨[(.role true, false)], [], 0⟩ })).updPlot 0 (fun p => { p with used := true, field := 3 })
     (s.fieldPow 3).st = 0 ∧ (s.field 3).running = none ∧ s.nextReport 3 = none ∧ s.fieldPlots 3 ≠ []) ∧
    (let s := (chip.updField 3 (fun f => { f with reports := [⟨0, 0, 7, {}⟩] })).updPlot 0 (fun p => { p with pass := true, inst := 7 }); (s.nextReport 3).isSome = true) ∧
    ((chip.updFieldPow 3 (fun p => { p with st := 1 })).fieldPow 3).st ≠ 0 := by
  decide +kernel

/-- An image whose one section of one tile has one state channel, on tile (0, 0), and a state of 16 bytes. -/
def stImg : List Byte := patch (img 1 0 0 0 0x10400 (1 <<< 5 + 16 <<< 16) (zeros 12)) 16 [16, 0]

/-- A pass on plot 0, whose row 4 holds one span of slot 9 under the lease epoch given. -/
def ld (e : BitVec 16) : State :=
  let s := chip.updRow 4 (fun r => { r with st := .taken, spans := [{ seg := 8, slot := 9, slotEpoch := e }] })
  (s.updPlot 0 (fun p => { p with used := true, pass := true, row := some 4, image := stImg, inst := 7 })).updTile 0 (fun x => { x with
    plot := some 0, inst := 7, phase := .running })

theorem takeState_one (f : Flit) : takeState 1 1 1 [(0, 7, f)] = some ([(7, f)], []) := by simp [takeState, takeFirst, Nat.mod_one]

theorem witness_RecurrentStateFollowsItsSlot :
    (chip.nextSpan 0 = none ∧ (chip.plot 0).backs = [] ∧ chip.thyme.toNat % 1000 = 0) ∧
    (let s := ld 0
     let p := s.plot 0
     (s.nextSpan 0).isSome = true ∧ p.wide = false ∧ p.pass = true ∧ p.deciding = false ∧ secStates p.image (descOff p.image p.sec p.wide) ≠ 0 ∧
       s.injectReady 0 (descOff p.image p.sec p.wide) = true ∧ s.slotWaits 0 9 = false) ∧
    (let s := (ld 0).updPlot 0 (fun p => { p with backs := [⟨4, 0, 9, 0, 0, 0, 1⟩] }); s.slotWaits 0 9 = true) ∧
    (∀ j q, qOrdered (((ld 0).tile j).ctx.queue q) = false) ∧
    (let s := (ld 0).updPlot 0 (fun p => { p with backs := [⟨4, 0, 9, 0, 0, 0, 1⟩] })
     let p := s.plot 0
     hdrStateBytes (p.image.take 64) / 16 = 1 ∧ takeState 1 1 1 p.collected = none ∧ (s.bay.slots.get 9).epoch = 0 ∧ p.wide = false ∧
       widenEn p.image (secOff p.image p.sec) = false) ∧
    (let s := (ld 0).updPlot 0 (fun p => { p with backs := [⟨4, 0, 9, 1, 0, 0, 1⟩] }); (s.bay.slots.get 9).epoch ≠ 1) ∧
    (let s := (ld 0).updPlot 0 (fun p => { p with image := patch (patch keepImg 16 [16, 0]) 0 [0] })
     widenEn (s.plot 0).image (secOff (s.plot 0).image 0) = true) ∧
    (let s : State := { (chip.setFld Reg.FAB_QD_PERIOD_period_ns 1000) with thyme := 3000 }
     s.fld Reg.FAB_QD_PERIOD_period_ns ≠ 0 ∧ s.thyme.toNat % s.fld Reg.FAB_QD_PERIOD_period_ns = 0) := by
  refine ⟨by decide +kernel, by decide +kernel, by decide +kernel, ?_, by decide +kernel, by decide +kernel, by decide +kernel, by decide +kernel⟩
  intro j q
  have h : ((ld 0).tile j).ctx = {} := by
    show (((cellsGet [(0, { plot := some 0, inst := 7, phase := .running })] j).getD {} : Tile)).ctx = {}
    unfold cellsGet; split <;> rfl
  rw [h]; simp [Ctx.queue, Ctx.at, qOrdered, bits, bit]

theorem witness_WideningFollowsTheThreshold :
    (let p : PlotSt := { image := img 1 0x10005 1 12 0x10400 0 (zeros 4), sats := 5 }; p.sats ≤ satThresh p.image (secOff p.image p.sec)) ∧
    (chip.plot 0).deciding = false ∧
    (let p : PlotSt := { image := img 1 0x10005 1 12 0x10400 0 (zeros 4), sats := 6, deciding := true, ctrl := 1 }
     p.deciding = true ∧ p.overThresh = true ∧ p.mayWiden p.sec p.wide = true) ∧
    (let p : PlotSt := { image := img 2 0x10005 1 0 0x10400 0 (zeros 4), sats := 5, deciding := true, ctrl := 1 }
     p.deciding = true ∧ (p.overThresh && p.mayWiden p.sec p.wide) = false ∧ p.held = [] ∧ p.sec + 1 < hdrSections p.image) := by decide +kernel

theorem witness_EpochsInstallAdvanceAndRetire :
    chip.busOk (some 4) ∧ (chip.num.installing || chip.num.draining.isSome) = false ∧
    (let s := chip.updNum (fun n => { n with draining := some 65535 }); (s.num.installing || s.num.draining.isSome) = true ∧ s.num.pending = false ∧
      s.epochHeld 65535 = false) ∧
    (let s := (chip.updNum (fun n => { n with installing := true, pending := true, draining := some 65535 })).updSeg 8 (fun g => { g with epoch := 65535, st := .line })
     s.num.installing = true ∧ s.num.pending = true ∧ s.epochHeld 65535 = true) ∧
    (let s := chip.updModel 0 (fun m => { m with st := .resident, plot := some 0, image := regImg }); s.statSel = some (0, 0)) := by
  refine ⟨chip_busOk _ (by decide), ?_⟩; decide +kernel

/-- A command block of Bay by its op, handle, address and length, with the digest after the image. -/
def blk (op h addr len : Nat) : List Byte :=
  [BitVec.ofNat 8 op, 1] ++ toLe 2 h ++ zeros 4 ++ toLe 8 addr ++ toLe 4 len ++ zeros 4 ++ toLe 8 65536 ++ zeros 32

/-- A write of BAY_CMD gave the block; model 7 is as given. -/
def bay7 (b : List Byte) (m : Model) : State := (chip.updBay (fun y => { y with latched := some b })).updModel 7 (fun _ => m)

/-- A small image that keeps every format rule (R217): one section of one tile, whose record is 24 flits of zeros. -/
def okImg : List Byte :=
  toLe 4 0x0001C7A4 ++ toLe 4 4096 ++ toLe 4 0x010F0101 ++ toLe 2 16 ++ toLe 2 1 ++ zeros 8 ++ toLe 4 4 ++ zeros 36 ++ toLe 4 7 ++ zeros 44 ++
    toLe 4 0x10410 ++ zeros 4 ++ toLe 4 (8 + 24 <<< 20) ++ zeros 3972

/-- Function 0 may master the bus. -/
def bm0 (s : State) : State := s.updHif (fun h => { h with funcs := h.funcs.upd 0 (fun f => { f with busMaster := true }) })

theorem witness_BayCommandsOnModels :
    (∀ op ∈ [2, 3, 4, 5, 6, 7], (bay7 (blk op 7 0 0) {}).bayHolds op (blk op 7 0 0) ∧ ((bay7 (blk op 7 0 0) {}).model 7).st = .free ∧
      cmdHandle (blk op 7 0 0) = 7 ∧ byteAt (blk 1 7 0 0) 0 ≠ op) ∧
    (chip.bay.cmds.head? ≠ some 3) ∧
    (let s := bay7 (blk 6 7 0 0) { st := .hbm, pinned := true }; (s.model 7).st ≠ .free ∧ s.progOf 7 = none) ∧
    (let s := (bay7 (blk 6 7 0 0) { st := .hbm }).updProg 15 (fun p => { p with st := 1, words := [7] }); (s.progOf 7).isSome = true) ∧
    (∀ st ∈ [CatSt.host, .hbm, .staged, .paging, .resident, .faulted], (bay7 (blk 3 7 0 0) { st := st, fault := 15 }).bayHolds 3 (blk 3 7 0 0) ∧
      ((bay7 (blk 3 7 0 0) { st := st, fault := 15 }).model 7).st = st) ∧
    (let s := bay7 (blk 4 7 0 0) { st := .resident, plot := some 0 }; s.bayHolds 4 (blk 4 7 0 0) ∧ s.locked 7 = false ∧ (s.model 7).plot = some 0 ∧ (s.model 7).replacing = none) ∧
    (bay7 (blk 4 7 0 0) { st := .resident, pinned := true }).locked 7 = true ∧
    (let s := bay7 (blk 4 7 0 0) { st := .hbm }; s.locked 7 = false ∧ (s.model 7).st = .hbm ∧ byteAt (blk 4 7 0 0) 1 = 1) ∧
    (let s := ((chip.updBay (fun y => { y with cmds := [3, 4] })).updDesc 3 (fun d => { d with bytes := blk 0x15 7 0 0, st := .running })).updModel 7 (fun m => { m with st := .hbm })
     let s := s.setFld Reg.BAY_CTRL_enable 1
     s.bay.cmds.head? = some 3 ∧ s.bay.busy = none ∧ s.bay.latched = none ∧ (s.desc 3).op = 0x15 ∧ s.descLive 3 = true ∧ s.flag Reg.BAY_CTRL_enable = true ∧
       (s.model (cmdHandle (s.desc 3).bytes)).st ≠ .free ∧ (s.func (s.qp (s.desc 3).qp).func).busMaster = false ∧
       ((bm0 s).func ((bm0 s).qp ((bm0 s).desc 3).qp).func).busMaster = true) := by
  unfold State.bayHolds; decide +kernel

/-- Domain 0 may read the first MiB of host memory. -/
def win0 (s : State) : State :=
  s.updDom 0 (fun d => { d with rights := { d.rights with wins := d.rights.wins.set 63 ⟨0, 1048576, true, false, true⟩ } })

theorem witness_PageInsRunStepByStep :
    chip.flag Reg.BAY_CTRL_enable = false ∧
    (let s := ((chip.setFld Reg.BAY_CTRL_enable 1).updModel 7 (fun m => { m with st := .paging, prev := .staged, page := .queued, hdr := okImg.take 64 })).updBay (fun b => { b with queue := [7] })
     s.runs none = true ∧ s.flag Reg.BAY_CTRL_enable = true ∧ s.nextPage = some 7 ∧ s.pagesRunning < s.fld Reg.BAY_PAGE_MAX_n ∧ (s.model 7).replacing = none ∧ (s.model 7).prev = .staged) ∧
    (let s := win0 (chip.updModel 7 (fun m => { m with st := .paging, page := .copying, len := 16 }))
     s.runs none = true ∧ (s.model 7).st = .paging ∧ (s.model 7).page = .copying ∧ (s.domRights 0).inWindow (s.model 7).addr (s.model 7).len false = true ∧ (s.model 7).len ≤ (zeros 16).length) ∧
    (let s := chip.updModel 7 (fun m => { m with st := .host, page := .copying }); s.runs none = true ∧ (s.model 7).st = .host ∧ (s.model 7).page = .copying) ∧
    (let s := chip.updModel 7 (fun m => { m with st := .paging, page := .copied, copied := [1], digest := sha384 [1] })
     s.runs none = true ∧ (s.model 7).st = .paging ∧ (s.model 7).page = .copied ∧ sha384 (s.model 7).copied = (s.model 7).digest) ∧
    (let s := chip.updModel 7 (fun m => { m with st := .host, page := .copied, copied := [1], digest := sha384 [2] })
     s.runs none = true ∧ (s.model 7).st = .host ∧ (s.model 7).page = .copied ∧ sha384 (s.model 7).copied ≠ (s.model 7).digest) ∧
    (let s := chip.updModel 7 (fun m => { m with st := .paging, page := .loading, plot := some 0, prev := .hbm, image := regImg })
     (s.model 7).st = .paging ∧ (s.model 7).page = .loading ∧ (s.model 7).plot = some 0 ∧ s.runs none = true ∧ s.imageFenced 0 = false ∧ (loadCheck (s.model 7).image (s.sliceBox 7)).isSome = true) ∧
    (let s := chip.updModel 7 (fun m => { m with st := .paging, page := .loading, plot := some 0, prev := .staged }); (s.model 7).prev = .staged ∧ s.runs none = true ∧ s.imageFenced 0 = false) ∧
    (let s := (chip.updModel 7 (fun m => { m with st := .paging, page := .loading, plot := some 0, prev := .staged })).updPlot 0 (fun p => { p with imgLease := 1 })
     (s.model 7).st = .paging ∧ (s.model 7).page = .loading ∧ (s.model 7).plot = some 0 ∧ s.runs none = true ∧ s.imageFenced 0 = true) := by
  decide +kernel

theorem witness_BayDispatchesAndRevokes :
    (let s := ((((chip.setFld Reg.BAY_CTRL_enable 1).setFld Reg.FAB_CTRL_enable 1).updRow 4 (fun r => { r with st := .closed })).updPlot 0 (fun p => { p with used := true, ready := true })).updModel 7
       (fun m => { m with st := .resident, plot := some 0, q := m.q.set 0 [4] })
     s.runs none = true ∧ s.flag Reg.BAY_CTRL_enable = true ∧ s.flag Reg.FAB_CTRL_enable = true ∧ s.servingPlot 7 = some 0 ∧ (s.model 7).st = .resident ∧ s.plotFree 0 = true ∧
       s.pow.gate = 0 ∧ s.strictGated = false ∧ (s.pickRow (s.model 7) true).map (·.1) = some 4 ∧ (s.plot 0).prog = none) ∧
    (let s := chip.updPlot 0 (fun p => { p with pass := true }); let s := s.updModel 7 (fun m => { m with plot := some 0 }); s.servingPlot 7 = some 0 ∧ (s.plot 0).pass = true) ∧
    (let s := (chip.setFld (Reg.BAY_CLASS_strict 7) 1).updRow 4 (fun r => { r with st := .closed })
     let m : Model := { q := ⟨[], [(7, [4])]⟩ }
     (s.pickRow m false).map (·.1) = some 4 ∧ s.strict 7 = true ∧ (s.classRows m 7).isEmpty = false) ∧
    ((chip.setFld Reg.BAY_CTRL_enable 1).flag Reg.FAB_CTRL_enable = false ∧ chip.popServing 7 = none ∧ chip.popJob 7 = none) ∧
    (let s : State := { chip.updPlot 0 (fun p => { p with used := true, pass := true }) with now := chip.fld Reg.BAY_PLOT_STALL_ns }
     s.now ≤ (s.plot 0).since + s.fld Reg.BAY_PLOT_STALL_ns ∧ ((s.plot 0).used && (s.plot 0).pass && !s.bay.revokes.contains (.plot 0)) = true) ∧
    (let s : State := { chip.updPlot 0 (fun p => { p with used := true, pass := true }) with now := chip.fld Reg.BAY_PLOT_STALL_ns + 1 }
     s.runs none = true ∧ (s.plot 0).since + s.fld Reg.BAY_PLOT_STALL_ns < s.now) ∧
    (let s : State := { chip.updModel 7 (fun m => { m with pinned := true, pinUntil := some 5 }) with now := 5 }; (s.model 7).pinUntil = some 5 ∧ s.now ≤ 5) ∧
    (let s : State := { chip.updModel 7 (fun m => { m with pinned := true, pinUntil := some 5 }) with now := 6 }; s.runs none = true ∧ (s.model 7).pinned = true ∧ (s.model 7).pinUntil = some 5 ∧ 5 < s.now) ∧
    chip.bay.revokes = [] ∧ (chip.updBay (fun b => { b with revokes := [.plot 3, .grant 1 4] })).runs none = true ∧ (chip.updBay (fun b => { b with revokes := [.plot 3, .grant 1 4] })).bay.revokes = [.plot 3, .grant 1 4] ∧
    (chip.updBay (fun b => { b with revokes := [.grant 1 4] })).runs none = true ∧ (chip.updBay (fun b => { b with revokes := [.grant 1 4] })).bay.revokes = [.grant 1 4] ∧
    4 < (5 : Word).toNat % 8 ∧ (4 : Word).toNat % 8 ≤ 4 ∧ (4 : Word).toNat % 8 ≤ chip.fld Reg.BAY_SERVE_RESERVE_fields ∧ (∀ f, f < 4 → chip.grantee f = none) ∧ chip.isolated none = false ∧ chip.reachable = true ∧
    (let s := ((chip.setFld Reg.BAY_SERVE_RESERVE_fields 0).updJob 3 (fun j => { j with st := 2, grants := [(3, none)] })).updField 3 (fun x => { x with adaptation := true })
     s.fld Reg.BAY_SERVE_RESERVE_fields < (4 : Word).toNat % 8 ∧ s.servingFields.length + s.returning.length < (4 : Word).toNat % 8 ∧
       (s.grantee 3).isSome = true ∧ s.grantGoing 3 = false) := by
  decide +kernel

/-- `toLe n` gives n bytes. -/
theorem toLe_length (n v : Nat) : (toLe n v).length = n := by
  induction n generalizing v with
  | zero => rfl
  | succ n ih => simp [toLe, ih]

/-- `toBe n` gives n bytes. -/
theorem toBe_length (n v : Nat) : (toBe n v).length = n := by
  induction n generalizing v with
  | zero => rfl
  | succ n ih => simp [toBe, ih]

/-- A SHA-384 digest is 48 bytes. -/
theorem shaRound_length (kw : DWord) (s : List DWord) : (shaRound kw s).length = s.length := by
  unfold shaRound; split <;> simp

theorem shaRounds_length (ks w s : List DWord) : (shaRounds ks w s).length = s.length := by
  induction ks generalizing w s with
  | nil => rfl
  | cons k ks ih => simp [shaRounds, ih, shaRound_length]

theorem shaBlocks_length (n : Nat) (l : List Byte) (s : List DWord) : (shaBlocks n l s).length = s.length := by
  induction n generalizing l s with
  | zero => rfl
  | succ n ih => simp [shaBlocks, ih, shaRounds_length]

theorem sha384_length (l : List Byte) : (sha384 l).length = 48 := by
  have h : (shaBlocks ((shaPad l).length / 128) (shaPad l) shaInit).length = 8 := by
    rw [shaBlocks_length]; decide +kernel
  simp [sha384, List.length_flatMap, toBe_length, h]

set_option maxRecDepth 1000000 in
/-- What the checks of an image ask of `okImg`. -/
theorem okImg_facts : okImg.take 4096 = okImg ∧ okImg.length = 4096 ∧ imageOk okImg = true ∧ le okImg 4 4 = 4096 ∧ hdrStateBytes (okImg.take 64) = 0 ∧
    tier0Ok okImg = true ∧ hdrTier0 (okImg.take 64) = false := by decide +kernel

/-- The checks of an image hold for `okImg` with its digest, where the windows, the pages and the slot size allow it. -/
theorem okImg_checks (s : State) (b : List Byte) (r : Rights) (hl : cmdLen b = 4096) (hw : r.inWindow (cmdAddr b) 4096 false = true)
    (hd : r.inWindow (cmdDigest b) 48 false = true) (hp : s.jobPages + s.lockedPages + 1 ≤ s.hbmTotal) :
    s.imageChecks b r (some okImg) (some (sha384 okImg)) = 0 := by
  obtain ⟨h1, h2, h3, h4, h5, h6, h7⟩ := okImg_facts
  have h8 : (sha384 okImg).take 48 = sha384 okImg := List.take_of_length_le (by rw [sha384_length])
  have h9 : pagesOf 4096 = 1 := by decide
  have h10 : ¬ s.hbmTotal < s.jobPages + s.lockedPages + 1 := by omega
  simp [State.imageChecks, hl, hw, hd, h1, h2, h3, h4, h5, h6, h7, h8, h9, h10, sha384_length]

theorem witness_BayCommandsOnImagesAndSlots :
    (let s := win0 (bay7 (blk 1 7 0 4096) {})
     s.bayHolds 1 (blk 1 7 0 4096) ∧ (s.model 7).st = .free ∧ s.imageChecks (blk 1 7 0 4096) (s.domRights 0) (some okImg) (some (sha384 okImg)) = 0 ∧
       hdrTier0 ((okImg.take 4096).take 64) = false ∧ s.hbmUsed + pagesOf (okImg.take 4096).length ≤ s.hbmTotal) ∧
    (let s := win0 (bay7 (blk 1 7 0 4096) {}); s.imageChecks (blk 1 7 0 4096) (s.domRights 0) none none = 11 ∧
      s.imageChecks (blk 1 7 0 4095) (s.domRights 0) (some okImg) none = 4) ∧
    (let s := bay7 (blk 1 7 0 4096) { st := .hbm }; s.bayHolds 1 (blk 1 7 0 4096) ∧ (s.model 7).st ≠ .free) ∧
    cmdHandle (blk 1 0 0 0) = 0 ∧
    (let s := win0 (bay7 (blk 8 7 0 4096) { st := .hbm })
     s.bayHolds 8 (blk 8 7 0 4096) ∧ (s.model 7).st = .hbm ∧ s.progOf 7 = none ∧ (s.model 7).replacing = none ∧
       s.imageChecks (blk 8 7 0 4096) (s.domRights 0) (some okImg) (some (sha384 okImg)) = 0) ∧
    (let s := bay7 (blk 8 7 0 4096) { st := .resident, replacing := some {}, nextImage := some {} }
     s.progOf 7 = none ∧ (s.model 7).replacing.isSome = true ∧ (s.model 7).nextImage.isSome = true) ∧
    (let s := (bay7 (blk 8 7 0 4096) { st := .hbm }).updProg 0 (fun p => { p with st := 1, words := [7] }); (s.progOf 7).isSome = true) ∧
    (let s := win0 (bay7 (blk 9 7 0 24) { st := .hbm })
     s.bayHolds 9 (blk 9 7 0 24) ∧ (s.model 7).st ≠ .free ∧ s.num.installing = false ∧ s.num.pending = false ∧ (s.domRights 0).inWindow 0 24 false = true ∧
       calBlockOk (toLe 4 0x1C7A5 ++ toLe 4 7 ++ toLe 4 1 ++ zeros 12) 7 = true ∧ calBlockOk ([0xA5, 0xC7, 1, 0, 7, 0, 0, 0, 1, 0, 0, 0] ++ zeros 11) 7 = false) ∧
    (let s := (bay7 (blk 9 7 0 24) { st := .hbm }).updNum (fun n => { n with pending := true })
     (s.model 7).st ≠ .free ∧ s.num.pending = true ∧ (s.domRights 0).inWindow 0 24 false = false) ∧
    (bay7 (blk 10 7 1048575 1) {}).bayHolds 10 (blk 10 7 1048575 1) ∧ slotRange (blk 10 7 1048575 1) = some (1048575, 1) ∧ slotRange (blk 10 7 1048575 2) = none ∧
    (bay7 (blk 11 7 0 1) {}).bayHolds 11 (blk 11 7 0 1) ∧ slotRange (blk 11 7 0 0) = none := by
  unfold State.bayHolds
  refine ⟨⟨?_, ?_, okImg_checks _ _ _ ?_ ?_ ?_ ?_, ?_, ?_⟩, ?_, ?_, ?_, ⟨?_, ?_, ?_, ?_, okImg_checks _ _ _ ?_ ?_ ?_ ?_⟩, ?_⟩ <;> decide +kernel

/-- A command block of adaptation for model 7: its op, job, field count and training epochs. -/
def ablk (op job k epochs : Nat) : List Byte :=
  [BitVec.ofNat 8 op, BitVec.ofNat 8 job] ++ toLe 2 7 ++ [BitVec.ofNat 8 k] ++ zeros 37 ++ toLe 2 epochs ++ [1, 0, 0, 0, 0, 0, 1] ++ zeros 13

/-- A sample set of one sample without audio (R245). -/
def set1 : List Byte := toLe 2 0xC7A6 ++ toLe 1 1 ++ toLe 1 0 ++ toLe 4 1 ++ toLe 2 16 ++ zeros 54

/-- An adapter map of one group of 32 elements (R249). -/
def map1 : List Byte := toLe 2 0xC7A7 ++ toLe 1 1 ++ toLe 1 0 ++ toLe 4 1 ++ zeros 88

/-- Adaptation on, a block given, job 3 as given, and model 7 resident with an image that keeps its regions. -/
def adp3 (b : List Byte) (j : Job) : State :=
  win0 (((((chip.setFld Reg.ADP_CTRL_enable 1).updSfe (fun e => { e with profiles := e.profiles.set 0 { d0 := 0x00E483FF } })).updAdp
    (fun a => { a with latched := some b })).updJob 3 (fun _ => j)).updModel 7
    (fun m => { m with st := .hbm, image := regImg, hdr := regImg.take 64, decl := imageDecl regImg }))

theorem witness_AdaptationCommandsCheckInOrder :
    (∀ op ∈ [1, 2, 3, 4, 5], (adp3 (ablk op 4 1 1) {}).adpHolds op 4 (ablk op 4 1 1) ∧ (adp3 (ablk op 4 1 1) {}).flag Reg.ADP_CTRL_enable = true ∧
      ((adp3 (ablk op 3 1 1) {}).setFld Reg.ADP_CTRL_enable 0).adpHolds op 3 (ablk op 3 1 1) ∧
      ((adp3 (ablk op 3 1 1) {}).setFld Reg.ADP_CTRL_enable 0).flag Reg.ADP_CTRL_enable = false ∧
      ((adp3 (ablk op 3 1 1) { st := 3 }).job 3).st ≠ (if op = 1 then 0 else if op = 3 then 2 else 1)) ∧
    (let b := ablk 1 3 1 1; let s := adp3 b {}; s.adpHolds 1 3 b ∧ (s.job 3).st = 0 ∧
      s.openChecks b (s.domRights 0) (some set1) (some map1) none = 0 ∧ s.openChecks b (s.domRights 0) (some set1) none none ≠ 0) ∧
    (let s := adp3 (ablk 2 3 5 1) { st := 1, handle := 7 }; s.adpHolds 2 3 (ablk 2 3 5 1) ∧ (s.job 3).st = 1 ∧ 4 < byteAt (ablk 2 3 5 1) 4) ∧
    (let s := (adp3 (ablk 2 3 4 1) { st := 1, handle := 7 }).setFld Reg.BAY_SERVE_RESERVE_fields 1
     s.adpHolds 2 3 (ablk 2 3 4 1) ∧ s.servingFields.length < byteAt (ablk 2 3 4 1) 4 + s.fld Reg.BAY_SERVE_RESERVE_fields) ∧
    (let s := (adp3 (ablk 2 3 1 1) { st := 1, handle := 5 }).setFld Reg.BAY_SERVE_RESERVE_fields 1
     1 + s.fld Reg.BAY_SERVE_RESERVE_fields ≤ s.servingFields.length ∧
       ((([3, 2, 1, 0].filter ((List.range 4).filter (fun f => (hdrMask (s.model 5).hdr).testBit f)).contains).filter s.placeable).take 1).length < 1) ∧
    (let s := (adp3 (ablk 2 3 4 65535) { st := 1, handle := 7 }).setFld Reg.BAY_SERVE_RESERVE_fields 0
     let fields := (([3, 2, 1, 0].filter ((List.range 4).filter (fun f => (hdrMask (s.model 7).hdr).testBit f)).contains).filter s.placeable).take 4
     s.adpHolds 2 3 (ablk 2 3 4 65535) ∧ s.flag Reg.ADP_CTRL_enable = true ∧ (s.job 3).st = 1 ∧ (s.job 3).order = [] ∧
       4 + s.fld Reg.BAY_SERVE_RESERVE_fields ≤ s.servingFields.length ∧ 4 ≤ fields.length ∧ le (ablk 2 3 4 65535) 42 2 ≠ 0 ∧
       (s.lockedFit fields ((s.residentIn fields).filter s.locked) []).length = ((s.residentIn fields).filter s.locked).length) ∧
    (let s := (((adp3 (ablk 2 3 4 65535) { st := 1, handle := 7 }).setFld Reg.BAY_SERVE_RESERVE_fields 0).updPlot 0 (fun p => { p with used := true, field := 3 })).updModel 9
       (fun m => { m with st := .resident, pinned := true, plot := some 0, hdr := regImg.take 64 })
     let fields := (([3, 2, 1, 0].filter ((List.range 4).filter (fun f => (hdrMask (s.model 7).hdr).testBit f)).contains).filter s.placeable).take 4
     4 + s.fld Reg.BAY_SERVE_RESERVE_fields ≤ s.servingFields.length ∧ 4 ≤ fields.length ∧
       (s.lockedFit fields ((s.residentIn fields).filter s.locked) []).length < ((s.residentIn fields).filter s.locked).length) ∧
    (let s := adp3 (ablk 3 3 0 0) { st := 2 }; s.adpHolds 3 3 (ablk 3 3 0 0) ∧ (s.job 3).st = 2 ∧ (s.job 3).reduced = false) ∧
    (let s := adp3 (ablk 4 3 0 0) { st := 1 }; s.adpHolds 4 3 (ablk 4 3 0 0) ∧ (s.job 3).st = 1) ∧
    chip.grantee 3 = none ∧
    (let s : State := { adp3 [] { st := 2, grants := [(3, some 5)] } with now := 5 }
     s.grantee 3 = some 3 ∧ (s.job 3).grants.find? (fun g => g.1 == 3) = some (3, some 5) ∧ s.now ≤ 5) ∧
    (let s : State := { adp3 [] { st := 2, grants := [(3, some 5)] } with now := 6 }; s.grantee 3 = some 3 ∧ 5 < s.now ∧ s.bay.revokes = []) := by
  unfold State.adpHolds; (repeat' refine And.intro ?_ ?_) <;> decide +kernel

theorem witness_AdaptationBatchesAreReduced :
    (chip.job 3).st ≠ 2 ∧ (chip.job 3).wants 0 = false ∧ (chip.job 3).reduced = false ∧ (chip.job 3).ckptDue = false ∧
    (let s := adp3 [] { st := 2, ordering := true, samples := [{}, {}] }; (s.job 3).st = 2 ∧ (s.job 3).ordering = true ∧ (s.job 3).aug 0 = false) ∧
    (let s := adp3 [] { st := 2, rows := [{ samples := [some 0] }], samples := [{}] }; (s.job 3).st = 2 ∧ (s.job 3).wants 0 = true) ∧
    (let s := adp3 [] { st := 2, rows := [{ samples := [some 0] }], samples := [{ audio := 1048574, len := 2, codec := 1, rate := 1, label := 0 }], labelBytes := 1 }
     let x := (s.job 3).sample 0
     (s.job 3).st = 2 ∧ (s.job 3).wants 0 = true ∧ x.len ≤ (zeros 2).length ∧ (s.domRights 0).inWindow x.audio x.len false = true ∧
       (s.job 3).labelBytes ≤ (zeros 1).length ∧ (s.domRights 0).inWindow x.label 1 false = true ∧
       s.cacheBytes + 2 * (workCount 1 (s.sfe.profiles.get 0).wrate 1) ≤ s.fld Reg.ADP_CACHE_GIB_gib * 2 ^ 30) ∧
    (let s := (adp3 [] { st := 2, rows := [{ samples := [some 0] }], samples := [{ audio := 0, len := 2, codec := 1, rate := 1 }] }).setFld Reg.ADP_CACHE_GIB_gib 0
     (s.job 3).labelBytes = 0 ∧ ¬ s.cacheBytes + 2 * (workCount 1 (s.sfe.profiles.get 0).wrate 1) ≤ s.fld Reg.ADP_CACHE_GIB_gib * 2 ^ 30) ∧
    (let s := adp3 [] { st := 2, rows := [{ samples := [some 0], complete := true, grads := [[]] }], samples := [{}], acc := [-(2 ^ 47), 2 ^ 47 - 1] }
     (s.job 3).rows[0]? = some { samples := [some 0], complete := true, grads := [[]] } ∧ (s.job 3).nextReduce = 0 ∧
       (∀ x ∈ (s.job 3).acc, -(2 ^ 47) ≤ x ∧ x ≤ 2 ^ 47 - 1)) ∧
    (let s := adp3 [] { st := 2, rows := [{ reduced := true }], nextReduce := 1 }
     (s.job 3).reduced = true ∧ (s.job 3).st = 2 ∧ (s.job 3).stopping = false ∧
       (s.job 3).samples.length ≤ ((s.job 3).batch + 1) * ((s.job 3).batchRows * hdrMaxSpans (s.model (s.job 3).handle).hdr)) ∧
    (let s := adp3 [] { st := 3, rows := [{ reduced := true }], nextReduce := 1 }; (s.job 3).st ≠ 2 ∧ (s.job 3).stopping = false) ∧
    (let s := (adp3 [] { st := 2, ckptDue := true, toRun := 1, wCode := [7] }).updDom 0
        (fun d => { d with rights := { d.rights with wins := d.rights.wins.set 63 ⟨0, 1048576, true, true, true⟩ } })
     let s := bm0 s
     (s.job 3).ckptDue = true ∧ (s.job 3).toRun ≠ 0 ∧ (s.func (s.qp (s.job 3).qpNo).func).busMaster = true ∧
       (s.domRights (s.job 3).domain).inWindow (s.job 3).ckptAddr ((s.job 3).checkpoint 3 1).length true = true) := by
  decide +kernel

/-- Queue pair 16383 is as given; the host interface is on and function 0 may master the bus. -/
def qpx (p : Qp) : State := bm0 ((chip.setFld Reg.HIF_CTRL_enable 1).updQp 16383 (fun _ => p))

/-- An ACTIVE queue pair of function 0 with 16 entries in each ring, and the tail given. -/
def act (tail : Nat) : Qp := { st := .active, loc := 511, sqTail := tail }

/-- Descriptor 9 of that queue pair, with an opcode, flags and state. -/
def dsc (op flags : Nat) (st : DescSt) : State :=
  (qpx (act 0)).updDesc 9 (fun _ => { qp := 16383, bytes := [BitVec.ofNat 8 op, BitVec.ofNat 8 flags] ++ zeros 62, st := st })

theorem witness_DoorbellsAndDescriptorFetch :
    (State.reset.rst.coreReady = false ∧ State.reset.reachable = false ∧ (State.reset.func 127).d3hot = false) ∧
    (let s := (qpx (act 0)).updHif (fun h => { h with funcs := h.funcs.upd 127 (fun f => { f with d3hot := true }) })
     (s.func 127).d3hot = true ∧ s.reachable = true ∧ s.rst.coreReady = true ∧ (s.func 0).d3hot = false ∧ s.localQp 126 0 = none ∧
       s.localQp 0 (4088 / 8) = some 16383 ∧ s.localQp 0 (4092 / 8) = some 16383 ∧ (s.qp 16383).sqSize ≤ 16 ∧ 15 < (s.qp 16383).sqSize ∧ 15 < (s.qp 16383).cqSize) ∧
    chip.nextFetch = none ∧ (chip.qp 16383).inflight = 0 ∧ (qpx (act 1)).nextFetch = some 16383 ∧ (qpx { act 5 with sqHead := 15 }).nextFetch = some 16383 ∧
    ((qpx { act 8 with inflight := 8, reserved := 8 }).qp 16383).inflight = 8 ∧
    (let p := (qpx { act 8 with inflight := 8, reserved := 8 }).qp 16383; p.readEpoch = p.epoch ∧ p.fenced = false) ∧
    (let p := (qpx { act 8 with inflight := 8, reserved := 8, epoch := 1 }).qp 16383; 0 < p.inflight ∧ p.readEpoch ≠ p.epoch) ∧
    (byteAt [0x14, 4] 0 = 0x14 ∧ 3 < byteAt [0x14, 4] 1 ∧ byteAt [0x1B] 0 = 0x1B ∧ le [0x1B] 16 4 = 0 ∧ byteAt [0x22] 0 = 0x22 ∧
      bit ({ flags := 4 } : Rights).flags 2 = true ∧ byteAt [0x22] 4 = 0) ∧ opKnown 7 = false ∧ byteAt [7] 0 = 7 ∧
    ((qpx (act 0)).qp 16383).firstAt = none ∧
    (let s : State := { qpx { act 0 with firstAt := some 3, armed := true, modNs := 2 } with now := 4 }
     (s.qp 16383).firstAt = some 3 ∧ s.now < 3 + (s.qp 16383).modNs) ∧
    (let s : State := { qpx { act 0 with firstAt := some 3, armed := true, modNs := 2 } with now := 5 }
     (s.qp 16383).firstAt = some 3 ∧ (s.qp 16383).armed = true ∧ 3 + (s.qp 16383).modNs ≤ s.now ∧ (s.hif.funcs.get (s.qp 16383).func).busMaster = true) := by
  decide +kernel

theorem witness_DescriptorsCompleteOnce :
    (act 0).cqTail < (act 0).cqSize ∧ ({ act 0 with cqTail := 15 } : Qp).cqTail < (act 0).cqSize ∧
    (∀ op ∈ [0, 1, 2, 3, 4, 5, 6], (dsc op 0 .done).mayStart 9 op = false) ∧
    (∀ op ∈ [0, 1, 2, 3, 4, 5], (dsc op 0 .waiting).mayStart 9 op = true ∧ (dsc op 2 .waiting).mayStart 9 op = true) ∧
    (let s := dsc 0 0 .waiting; (s.qp (s.desc 9).qp).st = .active ∧ (s.qp (s.desc 9).qp).armed = false ∧ (s.desc 9).noCq = false) ∧
    (dsc 0 1 .waiting |>.desc 9).noCq = true ∧ (dsc 0 1 .waiting).mayStart 9 0 = true ∧
    (let s := dsc 5 0 .waiting; s.rul.pending = none ∧ s.rul.executing = none ∧ s.rul.draining = none) ∧
    (∀ op ∈ [0x21, 0x25], let s := dsc op 0 .waiting
      (s.desc 9).op = op ∧ s.mayStart 9 op = true ∧ b2n s.adp.latched.isSome + s.adp.cmds.length < 2) ∧
    (let s := (dsc 0x21 0 .waiting).updAdp (fun a => { a with latched := some [], cmds := [8] })
     s.mayStart 9 0x21 = true ∧ 2 ≤ b2n s.adp.latched.isSome + s.adp.cmds.length) ∧
    (let s : State := { dsc 1 0 (.reading 7) with now := 50000007 }
     (s.desc 9).st = .reading 7 ∧ s.descLive 9 = true ∧ (s.desc 9).op = 1 ∧ 7 + 50000000 ≤ s.now) ∧
    (let s : State := { (((up0.updQp 16383 (fun _ => act 0)).updDesc 9 (fun _ => { qp := 16383, bytes := [2] ++ zeros 63, st := .reading 7 }))) with now := 50000006 }
     (s.desc 9).st = .reading 7 ∧ s.descLive 9 = true ∧ (s.desc 9).op = 2 ∧ s.portUp (le (s.desc 9).bytes 2 2 % 16) = true ∧ s.now < 7 + 50000000) ∧
    ((dsc 1 0 .waiting).desc 9).st = .waiting := by
  decide +kernel

/-- Words 5, 6 and 10 of the queue-pair command data: both ring sizes and the burst. -/
def sized (s : State) (sq cq burst : Nat) : State :=
  ((s.setReg (Reg.HIF_QP_DATA0 + 20) (BitVec.ofNat 64 sq)).setReg (Reg.HIF_QP_DATA0 + 24) (BitVec.ofNat 64 cq)).setReg (Reg.HIF_QP_DATA0 + 40) (BitVec.ofNat 64 burst)

theorem witness_QueuePairCommandsAndFences :
    chip.busOk none ∧
    ((chip.setFld Reg.HIF_QP_STAT_done 0).flag Reg.HIF_QP_STAT_done = false ∧ chip.flag Reg.HIF_QP_STAT_done = true ∧ (qpx (act 0)).flag Reg.HIF_QP_STAT_done = true ∧
      ((qpx (act 0)).qp 16383).st = .active ∧ ((qpx (act 0)).qp 16383).st ≠ .free ∧ (chip.qp 16383).st = .free ∧
      (∀ c ∈ chip.hif.qps.cells, c.2.st = .free)) ∧
    (∀ sq ∈ [16, 65536], let s := sized chip sq 65536 1
      (ringSizeOk (bits (s.qpData 5) 16 0) && ringSizeOk (bits (s.qpData 6) 16 0)) = true ∧ s.basesOk = true ∧ s.modOk (bits (s.qpData 0) 6 0) = true) ∧
    (∀ sq ∈ [8, 17, 131071], let s := sized chip sq 65536 1; (ringSizeOk (bits (s.qpData 5) 16 0) && ringSizeOk (bits (s.qpData 6) 16 0)) = false) ∧
    ((sized chip 16 16 1).setReg (Reg.HIF_QP_DATA0 + 4) 4095).basesOk = false ∧
    (let s := sized chip 16 16 0; s.basesOk = true ∧ s.modOk (bits (s.qpData 0) 6 0) = false) ∧
    ((dsc 1 0 .running).openDescs 16383 ≠ [] ∧ (qpx (act 0)).openDescs 16383 = [] ∧ ((qpx (act 0)).qp 16383).inflight = 0 ∧ ((qpx (act 0)).qp 16383).rx = []) ∧
    (let s := sized (qpx (act 0)) 16 16 1; s.basesOk = true ∧ s.modOk (s.qp 16383).func = true) ∧
    ((qpx (act 0)).qp 16383).fenced = false ∧ ((qpx { act 0 with fenced := true }).qp 16383).fenced = true ∧
    (let s := qpx { act 0 with func := 127 }
     s.hif.qps.wf = true ∧ 16383 ∈ s.hif.qps.keys ∧ (s.qp 16383).func = 127 ∧ (s.qp 16383).fenced = false) := by
  refine ⟨chip_busOk _ (by decide), ?_⟩; decide +kernel

/-- Domain 255 is as given. -/
def dm (d : Dom) : State := (chip.setFld Reg.HIF_DOM_SEL_domain 255).updDom 255 (fun _ => d)

theorem witness_DomainEpochsChangeRightsAtOnce :
    (chip.busOk none ∧ (dm {}).busOk none ∧ (dm { draining := true, pending := some ⟨0, false, {}⟩ }).busOk none) ∧
    (let s := dm {}; s.fld Reg.HIF_DOM_SEL_domain = 255 ∧ (s.hif.doms.get 255).pending = none ∧ (s.hif.doms.get 255).starting = none ∧ (s.hif.doms.get 255).draining = false) ∧
    (let s := dm { draining := true }; s.fld Reg.HIF_DOM_SEL_domain = 255 ∧ (s.hif.doms.get 255).pending = none ∧ (s.hif.doms.get 255).draining = true) ∧
    bit (65535 : Word).toNat 16 = false ∧
    (let s := dm { draining := true, pending := some ⟨0, false, {}⟩ }; (s.hif.doms.get 255).pending.isSome = true) ∧
    (let s := dm { starting := some ⟨5, false, {}⟩ }; (s.hif.doms.get 255).starting = some ⟨5, false, {}⟩ ∧ (⟨5, false, {}⟩ : EpochWrite).abort = false ∧ s.bay.slots.wf = true) ∧
    (let s := (dm { starting := some ⟨5, true, {}⟩ }).updSlot 9 (fun x => { x with domain := 255 })
     (s.hif.doms.get 255).starting = some ⟨5, true, {}⟩ ∧ s.bay.slots.wf = true ∧ (s.bay.slots.get 9).domain = 255) ∧
    (let s := (dm { draining := true, ver := 1 }).updDesc 9 (fun d => { d with domain := 255, st := .running }); s.domHeld 255 = true) ∧
    (let s := dm { draining := true, ver := 1 }; (s.hif.doms.get 255).draining = true ∧ s.domHeld 255 = false) := by
  refine ⟨⟨chip_busOk _ (by decide), by unfold State.busOk; decide +kernel, by unfold State.busOk; decide +kernel⟩, ?_⟩; decide +kernel

/-- The mailbox command of a code and arguments waits to run; domain 0 may read the first MiB. -/
def mbx (code : Nat) (args : List Word) : State := win0 (chip.updHif (fun h => { h with mbox := some ⟨code, args, true, [], 0, none⟩ }))

theorem witness_SageMailboxRunsOneCommand :
    chip.hif.mbox = none ∧
    (∀ c ∈ [1, 2, 3, 4, 5, 6, 7], (mbx c []).mboxAt c ⟨c, [], true, [], 0, none⟩) ∧
    (⟨3, [0, 511], true, [], 0, none⟩ : Mbox).arg 1 < 512 ∧ 512 ≤ (⟨3, [0, 512], true, [], 0, none⟩ : Mbox).arg 1 ∧
    (∀ c ∈ [6, 7], let m : Mbox := ⟨c, [0, 0, 0, 0, if c = 6 then 65536 else 1048576], true, [], 0, none⟩
      let s := mbx c m.args
      s.mboxAt c m ∧ 0 < m.arg 4 ∧ m.arg 4 ≤ (if c = 6 then 65536 else 2097152) ∧
        (s.domRights (m.arg 0 % 256)).inWindow (m.arg 2 + 4294967296 * m.arg 3) (m.arg 4) false = true) ∧
    (∀ c ∈ [6, 7], let m : Mbox := ⟨c, [1, 0, 0, 0, 1], true, [], 0, none⟩
      (mbx c m.args).mboxAt c m ∧ 0 < m.arg 4 ∧ ((mbx c m.args).domRights (m.arg 0 % 256)).inWindow (m.arg 2 + 4294967296 * m.arg 3) (m.arg 4) false = false) ∧
    (let m : Mbox := ⟨7, [1, 0, 0, 0, 1], true, [], 0, none⟩
     let s := (mbx 7 m.args).setFld Reg.RST_STAT_phase 8
     s.mboxAt 7 m ∧ s.phase = 8 ∧ 0 < m.arg 4 ∧ (s.domRights (m.arg 0 % 256)).inWindow (m.arg 2 + 4294967296 * m.arg 3) (m.arg 4) false = false) ∧
    (mbx 7 []).phase ≠ 8 ∧
    (⟨6, [1, 0, 0, 0, 65537], true, [], 0, none⟩ : Mbox).arg 4 = 65537 ∧ (⟨6, [], true, [], 0, none⟩ : Mbox).arg 4 = 0 ∧
    (∀ v ∈ [1, 2], ((mbx 6 []).setFld Reg.RST_OPT_STAT_source v).fld Reg.RST_OPT_STAT_source = v) ∧
    (∀ v ∈ [0, 1], let s := ((mbx 7 []).setFld Reg.RST_FW_STAT_slot v).setFld Reg.RST_FW_STAT_rom_only 0
      s.fld Reg.RST_FW_STAT_slot = v ∧ s.flag Reg.RST_FW_STAT_rom_only = false) ∧
    (mbx 7 []).mboxKnown 7 = true ∧ (mbx 8 []).mboxKnown 8 = false ∧
    (∀ v ∈ [0, 1], let s := bm0 ((mbx 8 []).setFld Reg.SAG_MBOX_VEC_enable v)
      s.hif.mbox = some ⟨8, [], true, [], 0, none⟩ ∧ s.rst.fwStopped = false ∧ s.flag Reg.SAG_MBOX_VEC_enable = decide (v = 1) ∧ (s.hif.funcs.get 0).busMaster = true) ∧
    (let s := (mbx 8 []).updRst (fun r => { r with fwStopped := true }); s.rst.fwStopped = true) ∧
    (let s : State := { chip.updPair 7 (fun p => { p with hbKick := true, hbKickAt := 1 }) with now := 25000001 }
     (s.pair 7).hbKick = true ∧ (s.pair 7).hbKickAt + 25000000 ≤ s.now ∧ (s.pair 6).hbKick = false) := by
  unfold State.mboxAt; decide +kernel

/-- Link 15 is as given. -/
def lk (k : LinkSt) : State := chip.updLink 15 (fun _ => k)

/-- An intact link frame that carries no record (R293). -/
def lf (seq : Word) : List Byte := linkFrame seq 0 false [0, 0, 0, 0] []

set_option maxRecDepth 1000000 in
theorem witness_LinksReplayAndTrain :
    ((lk { st := 2 }).nothingToReturn ∧ (lk { st := 3, good := 8 }).nothingToReturn ∧ (lk { st := 1 }).noneHeld 15 ∧
      ¬ ((List.replicate 64 (⟨7, [], []⟩ : TxLink)).length < 64)) ∧
    (let c : Carried := ⟨controlRec (1 <<< 10) 9 0 0, none⟩
     let s := (((lk { st := 4 }).setFld Reg.OSL_CTRL_mode 1).setFld Reg.OSL_TOPO_nx1 1).updOsl (fun o => { o with dirs := o.dirs.upd 0 (fun d => { d with heldBack := [c] }) })
     (s.osl.dirs.get (dirIndex 0 false)).heldBack = [c] ∧ s.dirQuiet (dirIndex 0 false) = true ∧ s.activeLinks 0 false = [] ∧ (s.route (some 0) c.r).1 = .undeliverable) ∧
    ((chip.link 15).st ≠ 2 ∧ chip.pow.devWaking = none ∧ ((lk { st := 2 }).link 15).st = 2) ∧
    be (fit (lf 1) 512) 496 4 = crc32c ((fit (lf 1) 512).take 496) ∧ be (fit (lf 1) 512) 0 4 = ((0 : Word) + 1).toNat ∧ byteAt (fit (lf 1) 512) 8 = 0 ∧
      byteAt (fit (lf 1) 512) 9 = 0 ∧ ((lk { st := 2 }).link 15).waiting = [] ∧ ((lk { st := 2 }).link 15).rxSeq = 0 ∧
    be (fit (lf 2) 512) 496 4 = crc32c ((fit (lf 2) 512).take 496) ∧ be (fit (lf 2) 512) 0 4 ≠ ((0 : Word) + 1).toNat ∧
    be (fit [1] 512) 496 4 ≠ crc32c ((fit [1] 512).take 496) ∧
    (∀ z ∈ [(⟨7, [], []⟩ : TxLink)], z.seq ≠ 8) ∧ ({ retry := [⟨7, [], []⟩] ++ ⟨8, [], []⟩ :: [⟨9, [], []⟩] } : LinkSt).retry = [⟨7, [], []⟩] ++ ⟨8, [], []⟩ :: [⟨9, [], []⟩] ∧
    (let s : State := { lk { st := 2, retry := [⟨7, [], [0, 0, 0, 0]⟩], replays := 14 } with now := 2000 }
     (s.link 15).st = 2 ∧ (s.link 15).retry ≠ [] ∧ (s.link 15).progress + 2000 ≤ s.now ∧ (s.link 15).replays + 1 < 16) ∧
    (let s : State := { lk { st := 2, retry := [⟨7, [], [0, 0, 0, 0]⟩], replays := 15 } with now := 1999 }; 15 ≤ (s.link 15).replays ∧ s.now < (s.link 15).progress + 2000) ∧
    (let s := lk { st := 1 }; (s.link 15).st = 1 ∧ (s.link 15).retry = [] ∧ (s.link 15).waiting = [] ∧ (lanesFor (8 &&& 7)).1 = 0 ∧ (lanesFor (8 &&& 8)).1 ≠ 0 ∧
      s.peerOk 15 ⟨1, 0, 0, 0, 0, 8⟩ = false) ∧
    (let s := (((((lk { st := 1 }).setFld Reg.OSL_CTRL_mode 1).setFld Reg.OSL_SYS_ID_id 9).setFld Reg.OSL_TOPO_nx1 3)).setFld Reg.OSL_CHIP_ADDR_addr 0
     (s.link 15).st = 1 ∧ s.peerOk 15 ⟨9, 2 <<< 10, 1, BitVec.ofNat 15 ((s.reg Reg.OSL_TOPO).toNat), 14, 8⟩ = true) ∧
    (((lk { st := 3, good := 8 }).link 15).st = 3 ∧ ((lk { st := 3, good := 8 }).link 15).good.getLsbD 3 = true ∧
      ((lk { st := 2, good := 8 }).link 15).good.getLsbD 2 = false) ∧ (lanesFor (8 &&& 8)).1 ≠ 0 ∧ (lanesFor (8 &&& 4)).1 = 0 ∧
    (let s : State := { lk { st := 4, failedAt := 1 } with now := 1 + chip.fld Reg.OSL_RETRY_NS_ns }
     (s.link 15).st = 4 ∧ (s.link 15).failedAt + s.fld Reg.OSL_RETRY_NS_ns ≤ s.now ∧ (s.link 15).st ≠ 3) ∧
    (lk { st := 2 }).busOk (some 6) ∧
    (let s := (lk { st := 2 }).setFld Reg.OSL_CTRL_mode 1
     (s.osl.dirs.get (dirIndex 0 false)).links ≠ s.activeLinks 0 false ∧ s.dirQuiet (dirIndex 0 false) = true ∧ (s.osl.dirs.get (dirIndex 0 false)).heldBack = []) ∧
    (chip.osl.dirs.get (dirIndex 2 true)).links = chip.activeLinks 2 true ∧
    (let s := (lk { st := 3, retry := [⟨7, [], []⟩] }).updOsl (fun o => { o with dirs := o.dirs.upd 1 (fun d => { d with links := [15] }) })
     (s.osl.dirs.get (dirIndex 0 true)).links ≠ s.activeLinks 0 true ∧ s.dirQuiet (dirIndex 0 true) = false) ∧
    (∀ k, k < 3 → chipCoord chip.me k = chipCoord (controlRec 0 4 0 0).dst k) ∧
    (let s := ((lk { st := 2 }).setFld Reg.OSL_CTRL_mode 1).setFld Reg.OSL_TOPO_nx1 1
     (s.route none (controlRec (1 <<< 10) 1 0 0)).1 = .dir 0 false) := by
  unfold State.busOk State.nothingToReturn State.noneHeld; (repeat' refine And.intro ?_ ?_) <;> decide +kernel

/-- A record stands at place 1 of those that arrived; program 15 is as given. -/
def arr (r : OslRec) (e : ProgSt) : State :=
  ((chip.setFld Reg.OSL_CTRL_enable 1).updProg 15 (fun _ => e)).updOsl (fun o => { o with arrived := [controlRec 0 9 0 0, r] })

/-- A PROG_ABORT of program 15 and generation 255. -/
def abt : OslRec := controlRec 0 4 0 (BitVec.ofNat 128 (15 <<< 120 + 255 <<< 112))

/-- A PASS_NOTICE of program 15, generation 15 and the epoch given. -/
def pnt (e : Nat) : OslRec := controlRec 0 1 0 (BitVec.ofNat 128 (e <<< 80 + 15 <<< 76 + 255 <<< 68))

/-- A plot that can start a pass for program 15. -/
def plt (p : Nat) : PlotSt := { used := true, ready := true, prog := some p }

/-- Program 15 is selected and as given; a write gave the words. -/
def prg (e : ProgSt) : State := ((chip.setFld Reg.OSL_CTRL_enable 1).setFld Reg.OSL_PROG_SEL_prog 15).updProg 15 (fun _ => e)

theorem witness_FloodsNoticesAndPrograms :
    chip.osl.arrived[0]? = none ∧
    ((arr abt {}).osl.arrived[1]? = some abt ∧ abt.kind = 4 ∧ bits abt.data.toNat 123 120 = 15 ∧ bits abt.data.toNat 119 112 = 255 ∧
      (15, 255) ∉ (arr abt {}).osl.abortsSeen ∧ (∀ l, l < 16 → ((arr abt {}).link l).st ≠ 2) ∧ ((arr abt {}).prog 15).st = 0 ∧
      (15, 255) ∈ ((arr abt {}).updOsl (fun o => { o with abortsSeen := [(15, 255)] })).osl.abortsSeen) ∧
    (∀ st ∈ [1, 2, 3], let s := arr abt { st := st, gen := 255 }; (s.prog 15).st = st ∧ (s.prog 15).gen = 255 ∧ s.slicePlot 15 = none ∧ (s.prog 15).notices = []) ∧
    (let r := controlRec 0 5 0 (BitVec.ofNat 128 (0 <<< 112 + 7 <<< 80))
     let s := (arr r { st := 2 }).setFld Reg.OSL_CHIP_ADDR_addr 5
     r.kind = 5 ∧ (0, 7) ∉ s.osl.absentSeen ∧ (∀ l, l < 16 → (s.link l).st ≠ 2) ∧ (∀ q, q < 16 → s.homeChip (s.prog q) ≠ s.me) ∧
       s.inBox (s.prog 15) (bits r.data.toNat 126 112) = true) ∧
    ((pnt 0).kind = 1 ∧ bits (pnt 0).data.toNat 79 76 = 15 ∧ (pnt 0).gen = 15 ∧ (arr (pnt 0) {}).osl.arrived[1]? = some (pnt 0) ∧ ((arr (pnt 0) {}).prog 15).st ≠ 1) ∧
    (let s := arr (pnt 7) { st := 1, gen := 255 }; (s.prog 15).st = 1 ∧ (s.prog 15).gen % 16 = 15 ∧ bits (pnt 7).data.toNat 95 80 = 7 ∧ 7 ∉ s.liveEpochs ∧
      bits (pnt 0).data.toNat 95 80 ∈ s.liveEpochs ∧ s.slicePlot 15 = none) ∧
    (let s := (arr (pnt 0) { st := 1, gen := 255 }).updPlot 3 (fun _ => plt 15); s.slicePlot 15 = some 3 ∧ s.sliceFree 3 = true) ∧
    (let s := (arr (pnt 0) { st := 1, gen := 255 }).updPlot 3 (fun _ => { plt 15 with pass := true }); s.slicePlot 15 = some 3 ∧ s.sliceFree 3 = false) ∧
    (let r := controlRec 0 2 (15 <<< 32) 0; r.kind = 2 ∧ bit r.hdr.toNat 36 = false) ∧
    (let r := controlRec 0 3 0 (BitVec.ofNat 128 (9 <<< 64)); r.kind = 3 ∧ (arr r {}).remoteBundle 9 0 0 = none ∧
      (let s := (arr r {}).updBundle 6 (fun _ => { remote := true, ingressTs := 9, verdict := some .verdictLost })
       s.remoteBundle (BitVec.ofNat 64 (bits r.data.toNat 127 64)) 0 0 = some 6 ∧ (s.bundle 6).verdict = some .verdictLost) ∧
      (let s := (arr r {}).updBundle 6 (fun _ => { remote := true, ingressTs := 9 })
       s.remoteBundle (BitVec.ofNat 64 (bits r.data.toNat 127 64)) 0 0 = some 6 ∧ (s.bundle 6).verdict = none)) ∧
    (let s : State := { prg { st := 2, since := 3 } with now := 3 + 2 * chip.fld Reg.OSL_ABSENT_NS_ns }
     (s.prog 15).st = 2 ∧ (s.prog 15).since + 2 * s.fld Reg.OSL_ABSENT_NS_ns ≤ s.now ∧ (s.prog 14).st ≠ 2) ∧
    (let s : State := { ((((lk { st := 4 }).setFld Reg.OSL_CTRL_enable 1).setFld Reg.OSL_CTRL_mode 1).setFld (Reg.OSL_LINK_CTRL_enable 15) 1) with now := chip.fld Reg.OSL_ABSENT_NS_ns }
     let l := (s.facing 0 (s.neighbour ((dirLinks s.oslMode 0 false).headD 0))).filter (fun l => s.flag (Reg.OSL_LINK_CTRL_enable l))
     l = [15] ∧ s.flag Reg.OSL_CTRL_enable = true ∧ (s.osl.dirs.get (dirIndex 0 false)).absent = false ∧
       (∀ k ∈ l, (s.link k).st = 4 ∧ (s.link k).failedAt + s.fld Reg.OSL_ABSENT_NS_ns ≤ s.now) ∧
       (s.facing 2 (s.neighbour ((dirLinks s.oslMode 2 false).headD 0))).filter (fun l => s.flag (Reg.OSL_LINK_CTRL_enable l)) = []) ∧
    (chip.busOk (some 6) ∧ (prg {}).busOk (some 6)) ∧
    ((prg {}).fld Reg.OSL_PROG_SEL_prog = 15 ∧ (prg {}).flag Reg.OSL_PROG_STAT_done = true ∧ ((prg {}).prog 15).st = 0 ∧ (prg {}).progBad ((prg {}).prog 15) = true ∧
      ((prg {}).setFld Reg.OSL_PROG_STAT_done 0).flag Reg.OSL_PROG_STAT_done = false ∧ ((prg {}).prog 15).notices = []) ∧
    (∀ st ∈ [0, 3], let s := prg { st := st, words := [7, 0, 0, 0, 0, 0, 0, 0] }
      (s.prog 15).st = st ∧ s.progBad (s.prog 15) = false ∧ s.sliceCheck (s.prog 15) ≠ 0) ∧
    (∀ st ∈ [0, 3], let s := (prg { st := st, words := [7, 0, 0, 0, 0, 0, 0, 0] }).setFld Reg.OSL_CHIP_ADDR_addr 5
      (s.prog 15).st = st ∧ s.progBad (s.prog 15) = false ∧ s.sliceCheck (s.prog 15) = 0) ∧
    ((prg { st := 1 }).prog 15).st = 1 ∧ chip.me = (0 : BitVec 15).toNat := by
  unfold State.busOk; (repeat' refine And.intro ?_ ?_) <;> decide +kernel

/-- The power unit as given. -/
def pst (p : PowSt) : State := { chip with pow := p }

theorem witness_GovernorStepsSetpointAndGate :
    ({ rings := ⟨none, [(0, some 1500), (3, some 1250)]⟩ } : FieldPow).pace = some 1250 ∧
    (chip.fieldPow 3).st < 2 ∧ chip.rst.coreReady = true ∧ State.reset.rst.coreReady = false ∧ ((chip.updFieldPow 3 (fun p => { p with st := 2 })).fieldPow 3).st = 2 ∧ chip.pow.on = false ∧
    (pst { on := true }).pow.on = true ∧ (pst { on := true }).pow.rails.length = 8 ∧
    (let s : State := { pst { on := true, sampledAt := some 5, polledAt := some 5 } with now := 1000005 }
     s.pow.on = true ∧ s.pow.rails.length = 8 ∧ s.pow.sampledAt = some 5 ∧ 5 + 1000 ≤ s.now ∧ s.pow.polledAt = some 5 ∧ 5 + 1000000 ≤ s.now ∧
       ({ s with now := 1000004 } : State).now < 5 + 1000000 ∧ ({ s with now := 1004 } : State).now < 5 + 1000) ∧
    (let s := pst { on := true }; s.thyme.toNat % 1000 = 0 ∧ s.pow.lastAt ≠ some s.now ∧ s.overCap = false ∧ s.flag Reg.PAC_STAT_avs_fault = false ∧
      s.fld Reg.PAC_VLIM_vmin_mv ≤ s.govCeil ∧ s.fld Reg.PAC_VLIM_vmin_mv ≤ s.pow.mv ∧ s.pow.mv ≤ s.govCeil) ∧
    (let s := pst { on := true, lastAt := some 0 }; s.pow.lastAt = some s.now) ∧
    (let s := pst { on := true, mv := chip.fld Reg.PAC_VLIM_vmin_mv, samples := [10001] }
     let s := (s.setFld Reg.PAC_CTRL_gate_en 1).setFld Reg.PAC_CAP_cap_w 100
     s.pow.mv = s.fld Reg.PAC_VLIM_vmin_mv ∧ s.overCap = true ∧ s.farOver = false ∧ s.flag Reg.PAC_CTRL_gate_en = true ∧ s.thyme.toNat % 1000 = 0) ∧
    ((pst { samples := [12501] }).setFld Reg.PAC_CAP_cap_w 100).farOver = true ∧ ((pst { samples := [12500] }).setFld Reg.PAC_CAP_cap_w 100).farOver = false ∧
    (let s := pst { on := true, throttle := true, mv := chip.fld Reg.PAC_VLIM_vmin_mv }
     (s.pow.throttle && decide (s.pow.mv = s.fld Reg.PAC_VLIM_vmin_mv)) = true ∧ s.overCap = false) ∧
    ((chip.stick Reg.PAC_STAT_avs_fault).flag Reg.PAC_STAT_avs_fault = true) ∧
    (let s := (pst { mv := chip.fld Reg.PAC_VLIM_vmin_mv + chip.fld Reg.PAC_STEP_step_mv }).setFld Reg.PAC_CTRL_enable 1
     s.flag Reg.PAC_CTRL_enable = true ∧ 0 + s.fld Reg.PAC_TARGET_hyst_mgs < s.fld Reg.PAC_TARGET_target_mgs ∧ s.overCap = false ∧
       s.fld Reg.PAC_TARGET_target_mgs + s.fld Reg.PAC_TARGET_hyst_mgs < 65535 ∧ s.fld Reg.PAC_VLIM_vmin_mv + s.fld Reg.PAC_STEP_step_mv ≤ s.pow.mv ∧
       s.pow.mv + s.fld Reg.PAC_STEP_step_mv ≤ s.govCeil) ∧
    chip.pow.ceil = none ∧
    (let s := (pst { ceil := some 700, throttle := true, thrCount := 99 }).setFld Reg.PAC_TJ_MAX_tj 100
     s.pow.ceil = some 700 ∧ s.pow.throttle = true ∧ 100 ≤ s.fld Reg.PAC_TJ_MAX_tj ∧ (s.pow.thrCount + 1) % 100 = 0) ∧
    chip.pow.writing = false ∧ (pst { writing := true, tries := 1 }).pow.tries + 1 < 3 ∧ 2 ≤ (pst { writing := true, tries := 2 }).pow.tries ∧
    (chip.busOk none ∧ (pst { running := true, pendTarget := some 900 }).busOk none) ∧
    bits (899 : Word).toNat 15 0 < 900 ∧ bits (900 : Word).toNat 15 0 = 900 ∧ bits (2000 : Word).toNat 15 0 = 2000 ∧ 2000 < bits (2001 : Word).toNat 15 0 ∧
    chip.pow.running = false ∧ (pst { running := true }).pow.pendTarget = none ∧ (pst { running := true, pendTarget := some 900 }).pow.pendTarget ≠ none := by
  unfold State.busOk; (repeat' refine And.intro ?_ ?_) <;> decide +kernel

/-- Field 3's power state as given, with sleep allowed and the greatest wake budget. -/
def slp (p : FieldPow) : State :=
  { ((chip.setFld Reg.PAC_CTRL_sleep_en 1).setFld (Reg.HIF_WAKE_BUDGET_budget_ns 3) 4294967295).updFieldPow 3 (fun _ => p) with
    now := chip.fld Reg.PAC_DWELL_QUIET_ns + chip.fld Reg.PAC_DWELL_RET_ns + chip.fld Reg.PAC_DWELL_OFF_ns }

theorem witness_PowerStatesAndSensors :
    State.reset.rst.coreReady = false ∧ (chip.fieldPow 3).waking = none ∧ (∀ x ∈ [1, 2, 3], chip.mayEnter 3 x = false) ∧
    (let s := slp { quietAt := some 0 }; s.rst.coreReady = true ∧ s.mayEnter 3 1 = true ∧ s.mayEnter 3 2 = false ∧ s.mayEnter 3 3 = false) ∧
    (let s := slp { retAt := some 0, st := 1 }; s.mayEnter 3 2 = true ∧ s.mayEnter 3 3 = false) ∧ (slp { offAt := some 0 }).mayEnter 3 3 = true ∧
    ((chip.fieldPow 3).st = 0 ∧ chip.fieldWork 3 = false) ∧
    (let s := (slp { st := 3 }).setFld (Reg.PAC_FLD_STATE_hold_active 3) 1; 0 < (s.fieldPow 3).st ∧ s.fieldWork 3 = true ∧
      (s.fieldPow 3).waking = none ∧ (s.fieldPow 3).entered = none ∧ s.pow.idle = false) ∧
    (let s := ((slp { st := 3 }).setFld (Reg.PAC_FLD_STATE_hold_active 3) 1).updPow (fun p => { p with idle := true })
     0 < (s.fieldPow 3).st ∧ s.fieldWork 3 = true ∧ (s.fieldPow 3).waking = none ∧ (s.fieldPow 3).entered = none ∧ s.pow.idle = true ∧ s.pow.idleFrom ≠ some s.now) ∧
    (∀ y ∈ [0, 1], let s := (slp { st := 3 }).setFld (Reg.PAC_FLD_STATE_hold_active 3) 1
     let s := s.updFieldPow 3 (fun p => { p with entered := some (s.now, y) })
     0 < (s.fieldPow 3).st ∧ s.fieldWork 3 = true ∧ (s.fieldPow 3).waking = none ∧ (s.fieldPow 3).entered = some (s.now, y) ∧ s.pow.idle = false) ∧
    (Instr.chiveDispatch ∈ coreRows ∧ Instr.resultAtErp ∈ coreRows ∧ (chip.setFld Reg.RST_ISO_iso 1).isolated (some 0) = true ∧ Instr.chiveDispatch ∈ blockRows 0) ∧
    (let s := (slp { st := 3 }).updField 3 (fun f => { f with leaving := some 0 }); 0 < (s.fieldPow 3).st ∧ s.fieldCommits 3 = true ∧ (s.fieldPow 3).waking = none) ∧
    (chip.setFld Reg.PAC_CTRL_sleep_en 0).flag Reg.PAC_CTRL_sleep_en = false ∧ chip.idleOk = false ∧ chip.pow.idle = false ∧ chip.pow.devWaking = none ∧
    (let s := (((chip.setFld Reg.PAC_CTRL_sleep_en 1).setFld Reg.HIF_WAKE_DEV_budget_ns 15000)).updPow (fun p => { p with
        fields := ⟨{ st := 3 }, []⟩, idleAt := some 7 })
     let s : State := { s with now := 7 + s.fld Reg.PAC_DWELL_RET_ns }
     s.rst.coreReady = true ∧ s.flag Reg.PAC_CTRL_sleep_en = true ∧ s.pow.idle = false ∧ s.pow.devWaking = none ∧ s.idleOk = true ∧ s.pow.idleAt = some 7 ∧
       7 + s.fld Reg.PAC_DWELL_RET_ns ≤ s.now) ∧
    (pst { idle := true }).pow.idle = true ∧ (chip.busOk none ∧ (slp { st := 3 }).busOk none) ∧
    exitNs ((slp { st := 3 }).fieldPow 3).st ≤ (50000 : Word).toNat ∧ (49999 : Word).toNat < exitNs ((slp { st := 3 }).fieldPow 3).st ∧
      ((slp { st := 3 }).fieldPow 3).waking = none ∧
    (pst { devWaking := some 7 }).pow.devWaking = some 7 ∧ (∀ k, k < 8 → ((pst { devWaking := some 7 }).pair k).openWait = false) ∧
    (let s := slp { st := 2, waking := some 7 }; (s.fieldPow 3).waking = some 7 ∧ (s.fieldPow 3).st < 3) ∧
    (List.replicate 15 (some 25) : List (Option Int)).length ≠ 16 ∧ State.reset.phase = 0 ∧ chip.phase ≠ 0 ∧ chip.thyme.toNat % 10000 = 0 ∧
      ({ chip with thyme := 1 } : State).thyme.toNat % 10000 ≠ 0 ∧
    (let l : List (Option Int) := [some (-40), some 150, some (-41), some 151, none] ++ List.replicate 11 (some 100)
     l.length = 16 ∧ l[0]? = some (some (-40)) ∧ l[1]? = some (some 150) ∧ l[2]? = some (some (-41)) ∧ l[3]? = some (some 151) ∧ l[4]? = some none) := by
  unfold State.busOk; (repeat' refine And.intro ?_ ?_) <;> decide +kernel

/-- The phase of bring-up. -/
def ph (p : Nat) : State := chip.setFld Reg.RST_STAT_phase p

theorem witness_ResetSourcesAndStretch :
    (2 ≤ (pst { hot := 2 }).pow.hot ∧ chip.pow.hot < 2 ∧ (chip.updRst (fun r => { r with dlActive := true })).rst.dlActive = true ∧ chip.rst.dlActive = false) ∧
    (let s : State := { chip with aon := chip.wdogNs }; 1 ≤ s.phase ∧ s.rst.kickAt + s.wdogNs ≤ s.aon) ∧
    chip.aon < chip.rst.kickAt + chip.wdogNs ∧ State.reset.phase = 0 ∧
    State.reset.reachable = false ∧ chip.reachable = true ∧ bit (0xA501 : Word).toNat 0 = true ∧ bits (0xA501 : Word).toNat 15 8 = 0xA5 ∧
      bits (0x5A01 : Word).toNat 15 8 ≠ 0xA5 ∧ bit (0xA500 : Word).toNat 0 = false ∧
    (let r := controlRec 0 6 0 (BitVec.ofNat 128 (7 <<< 96))
     let s := ((arr r {}).setFld Reg.OSL_CTRL_rrst_en 1).setFld Reg.OSL_RRST_KEY_key 7
     s.osl.arrived[1]? = some r ∧ r.kind = 6 ∧ s.flag Reg.OSL_CTRL_rrst_en = true ∧ bits r.data.toNat 127 96 = s.fld Reg.OSL_RRST_KEY_key ∧
       (s.setFld Reg.OSL_RRST_KEY_key 6).fld Reg.OSL_RRST_KEY_key ≠ 7) ∧
    LevelSource.perst ∉ chip.rst.asserted ∧ LevelSource.perst ∈ (chip.updRst (fun r => { r with asserted := [.rstin, .perst] })).rst.asserted ∧
    (let s : State := { State.reset with aon := 20000000, rst := { since := 0 } }
     s.phase = 0 ∧ s.rst.asserted = [] ∧ s.rst.held = false ∧ s.rst.since + 20000000 ≤ s.aon) ∧
    ({ State.reset with aon := 19999999 } : State).aon < State.reset.rst.since + 20000000 ∧
    (chip.phase ≠ 0 ∧ chip.rst.fwStopped = false ∧ (chip.updRst (fun r => { r with fwStopped := true })).rst.fwStopped = true) := by
  decide +kernel

theorem witness_BringUpPhasesIsolationAndTimeouts :
    (∀ p ∈ [1, 2, 3, 4, 5, 6], (ph p).phase = p ∧ chip.phase ≠ p) ∧ (ph 3).rst.fwFirst < 2 ∧
    ((ph 6).setFld Reg.RST_FW_STAT_fallback 1).flag Reg.RST_FW_STAT_fallback = true ∧
    5 ∉ bootRows [(5, 7)] ∧ defectsIn [(5, 7)] 5 = [7] ∧ (∀ q, q < 34 → (defectsIn [(5, 7)] q).length ≤ 1) ∧
    (chip.reachable = true ∧ chip.fld Reg.RST_ISO_iso = 0 ∧ ∀ b, b < 7 → (chip.setFld Reg.RST_ISO_iso (1 <<< b)).blockIdle b = true) ∧
    State.reset.reachable = false ∧ (∀ b, b < 7 → bit (0xFFFFFF80 : Word).toNat b = true → bit (chip.fld Reg.RST_ISO_iso) b = true) ∧
    (∀ b, b < 7 → bit (127 : Word).toNat b = true → bit ((chip.setFld Reg.RST_ISO_iso 127).fld Reg.RST_ISO_iso) b = true) ∧
    chip.rst.stuck = [] ∧
    (let s : State := { chip.updRst (fun r => { r with stuck := [(5, none), (6, some (.pf, 0))] }) with now := 1000005 }
     s.rst.stuck = (5, none) :: [(6, some (.pf, 0))] ∧ 5 + 1000000 ≤ s.now ∧ ({ s with now := 1000004 } : State).now < 5 + 1000000 ∧
       (s.stick Reg.RST_STAT_bus_hang).flag Reg.RST_STAT_bus_hang = true) := by
  (repeat' refine And.intro ?_ ?_) <;> decide +kernel

/-- A failed record write puts an active or draining queue pair in ERROR (R283); the hypotheses of both cases are met. -/
theorem test_record_write_failed :
    let q (x : QpPhase) : State := chip.updQp 5 (fun p => { p with st := x })
    (match Sys2Proof.Machine.exec (.tlpError .unsupported 0 (some 5)) (q .active) with
      | .next t => (t.qp 5).st
      | _ => .free) = .error ∧ (chip.qp 5).st = .free ∧ ((q .active).qp 5).st = .active ∧ ((q .draining).qp 5).st = .draining ∧
      ((q .error).qp 5).st = .error := by decide +kernel

/-- The repair unit as given. -/
def rp (r : RepSt) : State := { chip with rep := r }

/-- The repair state of field 3 as given. -/
def rf (r : RepField) : State := chip.updRepField 3 (fun _ => r)

theorem witness_TilesRetireRemapAndLedger :
    tileField 4095 = 3 ∧ (chip.tile 4095).readyNs < chip.fld Reg.REP_WDOG_NS_ns ∧
    (let s := (chip.updTile 4095 (fun t => { t with readyNs := chip.fld Reg.REP_WDOG_NS_ns })).setFld Reg.REP_CTRL_wdog_en 1
     s.flag Reg.REP_CTRL_wdog_en = true ∧ s.fld Reg.REP_WDOG_NS_ns ≤ (s.tile 4095).readyNs ∧ 4095 ∉ (s.repField 3).retired ∧
       s.fieldPlots 3 = [] ∧ s.rep.log.length < 256) ∧
    ((chip.setFld Reg.REP_CTRL_wdog_en 0).flag Reg.REP_CTRL_wdog_en = false ∧ 4095 ∈ ((rf { retired := [4095] }).repField 3).retired) ∧
    chip.busOk none ∧ (rf { retired := [4095] }).busOk none ∧ (chip.setFld Reg.REP_CMD_STAT_done 0).flag Reg.REP_CMD_STAT_done = false ∧
      (rf { retired := [4095] }).flag Reg.REP_CMD_STAT_done = true ∧ chip.flag Reg.REP_CMD_STAT_done = true ∧
    State.reset.rst.coreReady = false ∧ chip.rst.coreReady = true ∧ chip.rep.ues.get (chip.physKey 4095) = 0 ∧ (chip.tile 4095).plot = none ∧
      (let s := rp { ues := ⟨0, [(chip.physKey 4095, 1)]⟩ }; s.rst.coreReady = true ∧ 1 ≤ s.rep.ues.get (s.physKey 4095)) ∧
    chip.rep.ceWindow = chip.thyme.toNat / 1000000000 ∧ (chip.setFld Reg.REP_CTRL_ce_retire 0).flag Reg.REP_CTRL_ce_retire = false ∧
    (let s := (rp { ces := ⟨0, [(chip.physKey 4095, 65535)]⟩ }).setFld Reg.REP_CTRL_ce_retire 1
     s.rst.coreReady = true ∧ s.flag Reg.REP_CTRL_ce_retire = true ∧ s.fld Reg.REP_CE_THR_count < s.rep.ces.get (s.physKey 4095) + 1 ∧ s.rep.ceWindow = s.thyme.toNat / 1000000000) ∧
    (chip.repField 3).toMerge = [] ∧ chip.nextReport 3 = none ∧
    (let s := (chip.updField 3 (fun f => { f with reports := [⟨0, 0, 7, {}⟩] })).updPlot 0 (fun p => { p with pass := true, inst := 7 }); (s.nextReport 3).isSome = true) ∧
    (let s := rf { toMerge := [⟨5, 7, 2, 0⟩] }
     let m := (s.repField 3).toMerge.foldl (fun (m : Merge) n => m.add 3 n) ({ map := {}, defects := [] } : Merge)
     (s.repField 3).toMerge ≠ [] ∧ (s.repField 3).running = none ∧ m.map ≠ {} ∧ m.lost = [] ∧ s.fieldPlots 3 = []) ∧
    (let s := rf { toMerge := [⟨5, 7, 2, 0⟩], running := some {}, pending := some {} }
     let m := (s.repField 3).toMerge.foldl (fun (m : Merge) n => m.add 3 n) ({ map := {}, defects := [] } : Merge)
     m.map ≠ {} ∧ (s.repField 3).running ≠ none ∧ (s.repField 3).pending ≠ none) ∧
    (let s := rf { running := some { rows := [5, 33] } }
     (s.repField 3).running = some { rows := [5, 33] } ∧ (s.repField 3).map.affected { rows := [5, 33] } 3 ≠ [] ∧
       (∀ t ∈ (s.repField 3).map.affected { rows := [5, 33] } 3, (s.tile t).plot = none) ∧
       (∀ h ∈ s.handles, (s.model h).st ≠ .paging ∧ (s.model h).replacing = none)) ∧
    (let s := (rf { running := some { rows := [5, 33] } }).updTile 4095 (fun t => { t with plot := some 0 })
     4095 ∈ (s.repField 3).map.affected { rows := [5, 33] } 3 ∧ (s.tile 4095).plot ≠ none) ∧
    ({} : RepMap).cover [(5, 7)] 5 8 = some { cols := ⟨32, [(5, 8)]⟩ } ∧ ({} : RepMap).cover [(5, 32)] 5 8 = some { rows := [5, 32] } ∧
      ({} : RepMap).covers (33, 0) = true ∧
    (let s := { rp { ledger := [⟨3, 33, 32, 2, 0, 9⟩] } with rst := { coreReady := true, flash := { led0 := halfHeader 1 } } }
     s.rep.ledger = ⟨3, 33, 32, 2, 0, 9⟩ :: [] ∧ s.rst.flash.activeHalf = some false ∧ s.rst.flash.entries.length < 1023 ∧ s.rep.ledgerSeq < 2 ^ 32) ∧
    chip.rep.ledger = [] := by
  unfold State.busOk; (repeat' refine And.intro ?_ ?_) <;> decide +kernel

theorem witness_FaultsCapsulesAndChallenge :
    256 ≤ (rp { log := List.replicate 256 ⟨1, 0, 0, 0, 0, 0⟩ }).rep.log.length ∧ (rp { log := List.replicate 255 ⟨1, 0, 0, 0, 0, 0⟩ }).rep.log.length < 256 ∧
    (chip.busOk none ∧ (rp { log := [⟨16, 3, 31, 31, 7, 65535⟩] }).busOk none ∧ chip.rep.log = []) ∧
    (rp { log := [⟨16, 3, 31, 31, 7, 65535⟩] }).rep.log = ⟨16, 3, 31, 31, 7, 65535⟩ :: [] ∧
    (chip.rst.coreReady = true ∧ 6 ≤ chip.phase ∧ chip.phase ≠ 8 ∧ State.reset.rst.coreReady = false ∧ State.reset.phase = 0 ∧ chip.reachable = true ∧ 3 ≤ chip.phase) ∧
    (rp { ssLines := ⟨0, [(47, 62)]⟩ }).rep.ssLines.get 47 + 1 < 64 ∧ (47, 63) ∉ (rp { ssDead := [(47, 62)] }).rep.ssDead ∧
    (let s := chip.updModel 7 (fun m => { m with st := .hbm }); (s.model 7).plot = none ∧ (s.model 7).st = .hbm) ∧
    (let s := chip.updModel 7 (fun m => { m with st := .host }); (s.model 7).plot = none ∧ (s.model 7).st = .host) ∧
    65535 ∈ (rp { hbmDead := [65535] }).rep.hbmDead ∧ 65535 ∉ chip.rep.hbmDead ∧
    CapTrigger.ue ∉ chip.rep.triggers ∧
    (let s := (rp { triggers := [.retire, .ue] }).setFld Reg.REP_CTRL_capsule_auto 31
     CapTrigger.ue ∈ s.rep.triggers ∧ bit (s.fld Reg.REP_CTRL_capsule_auto) (capCode .ue - 2) = true ∧ s.rep.capturing = none ∧ s.rep.storing = none ∧
       s.rst.flash.capsuleOk = false ∧ s.rst.fwStopped = false) ∧
    chip.rep.capturing = none ∧ (rp { capturing := some .ue }).rep.capturing = some .ue ∧ chip.rep.storing = none ∧ (rp { storing := some [1] }).rep.storing = some [1] ∧
    chip.mayStart 9 6 = false ∧ (dsc 6 0 .waiting).mayStart 9 6 = true ∧ (dsc 6 4 .waiting).mayStart 9 6 = true ∧
    (∃ f : Flash, f.capsule = chip.capsule .host 1) ∧ (true || false) = true ∧
    State.reset.challengeOpen = false ∧ chip.challengeOpen = true ∧ (zeros 31).length ≠ 32 ∧ (zeros 32).length = 32 ∧ (zeros 96).length ≠ 97 ∧ (zeros 97).length = 97 := by
  unfold State.busOk; (repeat' refine And.intro ?_ ?_) <;> first | exact ⟨{ capsule := _ }, rfl⟩ | decide +kernel

theorem witness_RegisterBusReadsAndWrites :
    (let s := chip.updHif (fun h => { h with funcs := h.funcs.upd 0 (fun f => { f with d3hot := true }) })
     s.asleep .pf = true ∧ s.reachable = true ∧ s.asleep .sage = false) ∧
    (let s := State.reset.updHif (fun h => { h with funcs := h.funcs.upd 0 (fun f => { f with d3hot := true }) })
     s.asleep .pf = true ∧ s.reachable = false) ∧
    chip.asleep .pf = false ∧ State.reset.asleep .pf = false ∧ chip.raisedNow Reg.RST_STAT = 0 ∧ bit (0x80 : DWord).toNat 7 = true ∧
    (State.reset.reachable = false ∧ chip.reachable = true ∧ 5 % (if true then 8 else 4) ≠ 0 ∧ 0x1FFFFFE % (if false then 8 else 4) ≠ 0) ∧
    (∀ w ∈ [Requester.pf, .sage],
      (State.reset.setShadow w none).gate w 0 = .unreachable ∧ (chip.setShadow w none).gate w 0x1F00000 = .empty ∧
      (((chip.setFld Reg.RST_ISO_iso 1).setShadow w none).gate w Reg.PRS_CTRL = .isolated) ∧
      ((ph 6).updRst (fun r => { r with coreReady := false })).gate w Reg.PRS_CTRL = .early ∧
      (((ph 6).updRst (fun r => { r with coreReady := false })).setShadow w none).gate w Reg.PRS_CTRL = .early ∧
      ((chip.updRst (fun r => { r with hung := true })).setShadow w none).gate w Reg.PRS_CTRL = .hung ∧
      (chip.setShadow w none).gate w 0xFFFFC = .ready ∧ (chip.setShadow w none).gate w Reg.PRS_CTRL = .ready) ∧
    findReg 0xFFFFC = none ∧ (findReg Reg.PRS_CTRL).isSome = true ∧ isWide 0xFFFF8 = false ∧ isWide (Reg.GLB_SCRATCH 0) = false ∧
    (let s := (ph 6).updRst (fun r => { r with coreReady := false })
     s.rst.coreReady = false ∧ s.reachable = true ∧ (findBlock Reg.PRS_CTRL).map (·.core) = some true) ∧
    (findReg (Reg.GLB_SCRATCH 0)).isSome = true ∧
    (findReg Reg.PAC_STEP).map (fun l => (l.upper, chip.refuses l 21)) = some (false, true) ∧
    (∃ l, findReg Reg.OSL_RETRY_NS = some l ∧ l.upper = false ∧ l.reg.accMask .rw = 0xFFFFFFFF ∧ chip.refuses l (0 &&& 0xFFFFFFFF) = true) ∧
    chip.shadow .pf = chip.shadow .pf := by
  (repeat' refine And.intro ?_ ?_) <;> decide +kernel

theorem witness_SlowPortsAndBoundaryScan :
    State.reset.reachable = false ∧ chip.reachable = true ∧ (3 : BitVec 5).toNat < 5 ∧ ¬ (5 : BitVec 5).toNat < 5 ∧
    (chip.updRst (fun r => { r with tap := 4 })).rst.tap = 4 ∧ (chip.updRst (fun r => { r with tap := 4 })).scanDrives = true := by
  decide +kernel

/-- At a warm reset the bypass pins, RSTOUT_N and PPS_OUT are low, the lanes idle, and a GPIO pin keeps its fuse state (R355). -/
theorem test_pins_at_reset :
    (let s := (chip.updThy (fun t => { t with ppsOut := true })).updRst (fun r => { r with pins := [1, 2] })
     let t := s.takeReset 3 false
     t.pin .ppsOut = .low ∧ t.pin .rstOut = .low ∧ t.pin (.byp 0) = .low ∧ t.pin .spiCs = .high ∧ t.pin .smbus = .floating ∧ t.pin (.ethTx 15) = .idle ∧
       t.pin (.oslTx 15) = .idle ∧ t.pin (.gpio 1) = .high ∧ s.pin (.gpio 1) = .high ∧ (s.takeReset 0 true).pin (.gpio 1) = .floating) := by decide +kernel

/-! #### Reference vectors and worked cases of the manual -/

/-- The reference vector of R247. -/
theorem test_sorrel_vector : sorrel 0x0000A5C311131400 2 = [0xAA7716C2, 0xE27951FF, 0x951E508C, 0x63EE12B5] := by decide +kernel

/-- The first reference vector of R199: RNE, and SR with the bytes 0x84 and 0x85. -/
theorem test_requant_rounding :
    let p (rnd : Nat) : ReqPar := ⟨1, rnd, 3, true, false, false, false⟩
    let o (r : Nat) : List ReqIn := [⟨20000, false, 23170, 22, r⟩]
    ((p 0).requant (o 0)).codes = [113] ∧ ((p 1).requant (o 0x84)).codes = [113] ∧ ((p 1).requant (o 0x85)).codes = [114] := by decide +kernel

/-- The second reference vector of R199: dyn and esc raise e to 1, and two outputs escape. -/
theorem test_requant_escapes :
    let o (x : Int) : ReqIn := ⟨x, false, 1, 4, 0⟩
    let r := (⟨0, 2, 0, true, false, true, true⟩ : ReqPar).requant ([o 96, o (-200), o 300, o 260, o (-180)] ++ List.replicate 27 (o 0))
    r.e = 1 ∧ r.codes.take 6 = [3, 10, 8, 8, 10, 0] ∧ r.entries = [(2, 9), (3, 8)] ∧
      sideFlit r.e r.entries = 0x00000000000008030000090200000021 := by decide +kernel

/-- The worked case of chapter 16: the high half read next is the one of the first read's instant; another read between loses it. -/
theorem test_counter_shadow :
    let s := chip.setReg (Reg.MAC_RX_FRAMES 0) 0x1FFFFFFFE
    let read (a : Nat) (s : State) : State := match exec (.registerRead .pf a false) s with
      | .next t => t
      | _ => s
    let later := ((read 0x401020 s).addCnt (Reg.MAC_RX_FRAMES 0) 5)
    (read 0x401020 s).out.getLast? = some (.regData .pf 0x401020 0xFFFFFFFE) ∧ (read 0x401024 later).out.getLast? = some (.regData .pf 0x401024 1) ∧
      (read 0x401024 (read Reg.GLB_ACC_STAT later)).out.getLast? = some (.regData .pf 0x401024 2) := by decide +kernel

/-- The worked case of chapter 4, read at t = 100: current 6, staged 7, draining 5, pending 1. -/
theorem test_ver_stat :
    let s := chip.updRul (fun r => { r with current := 6, staged := 7, draining := some 5, pending := some .reg })
    (findReg Reg.RUL_VER_STAT).map s.shown = some 0x3576 := by decide +kernel

/-- The worked case of chapter 6: 64 + 64 + 800 + 512 + 256 bytes, rounded up. -/
theorem test_fe_bytes : ({ d0 := BitVec.ofNat 32 (2 <<< 15 + 2 <<< 19), d1 := 400, d2 := 64 } : SfeProfile).feBytes = 1728 := by decide +kernel

/-- The worked case of chapter 15: row 12 skips column 9 in the place of column 32, and 23 tiles move. -/
theorem test_remap_case :
    let m := bootMap [(7, 15)] 0
    m = { rows := [32, 33], cols := ⟨32, [(7, 15)]⟩ } ∧ m.phys 9 12 = (12, 9) ∧
      (m.cover [(7, 15)] 12 9).map (fun k => (k.cols.get 12, (m.affected k 1).length)) = some (9, 23) ∧ physDetail 12 9 = 0x24C := by decide +kernel

/-- The worked case of chapter 13: at a pace of 1,250 MG/s the setpoint goes from 780 to 790 mV; at 1,515 it holds. -/
theorem test_governor_case :
    let s := (((chip.setFld Reg.PAC_CTRL_enable 1).setFld Reg.PAC_TARGET_target_mgs 1530).setFld Reg.PAC_TARGET_hyst_mgs 20).setFld Reg.PAC_STEP_step_mv 10
    s.nextMv (some 1250) = 790 ∧ s.nextMv (some 1515) = 780 := by decide +kernel

/-- The worked case of chapter 12: from (2, 5, 2) to (4, 5, 2) with no plus-x link in service, the record locks minus and takes a detour. -/
theorem test_detour_case :
    let s := (((chip.setFld Reg.OSL_CTRL_mode 3).setFld Reg.OSL_TOPO_nx1 7).setFld Reg.OSL_TOPO_ny1 7).setFld Reg.OSL_TOPO_nz1 7
    let s := (s.setFld Reg.OSL_CHIP_ADDR_addr (chipOf 2 5 2)).updLink 0 (fun k => { k with st := 2 })
    let a := s.route none (controlRec (chipOf 4 5 2) 1 0 0)
    a.1 = .dir 0 true ∧ a.2.1.locked = true ∧ a.2.1.dir = 1 ∧ a.2.2 = true := by decide +kernel

/-- FIPS 180-4's digest of "abc". -/
theorem test_sha384 : sha384 [0x61, 0x62, 0x63] = toBe 48
    0xcb00753f45a35e8bb5a03d699ac65007272c32ab0eded1631a8b605a43ff5bed8086072ba1e7cc2358baeca134c825a7 := by decide +kernel

end Sys2Proof.Tests
end

section
/-! The invariant behind O2: every operation of the block keeps the register file and the delta banks in canonical form, and the queue as it is.
One lemma for each operation, in the order of the model's files; a command's lemma cites those of the operations it is made of. -/

namespace Sys2Proof.Machine

variable {Q : List Instr} {s : State}

/-- The canonical form holds, and the queue of waiting commands is `Q`: what every operation of the block keeps. -/
structure State.Kept (Q : List Instr) (s : State) : Prop where
  canonical : s.canonical
  queue : s.pending = Q

/-- A command's answer keeps what `State.Kept` says; a fault or a refusal has no next state. -/
def OutKept (Q : List Instr) : Out → Prop
  | .next t => t.Kept Q
  | _ => True

/-- The state of an answer that may be none. -/
def OptKept (Q : List Instr) (o : Option State) : Prop := ∀ t, o = some t → t.Kept Q

/-- A delta bank in canonical form, with 0 where nothing is listed. -/
def BankOk (t : Tab Nat) : Prop := t.wf = true ∧ t.dflt = 0

theorem BankOk.set {t : Tab Nat} {k v : Nat} (h : BankOk t) : BankOk (t.set k v) := by
  obtain ⟨hw, hd⟩ := h
  refine ⟨Tab.wf_set t k v hw, ?_⟩
  unfold Tab.set
  split <;> exact hd

theorem BankOk.clear {t : Tab Nat} (h : BankOk t) : BankOk t.clear := ⟨Tab.wf_clear t, h.2⟩

theorem BankOk.empty : BankOk ⟨0, []⟩ := ⟨rfl, rfl⟩

namespace State.Kept

/-- Whatever replaces the parts beside the register file, the rule tables and the queue. -/
theorem parts {shadowPf shadowSage now thyme aon nextId freeIdx mac thy prs erp sfe fab num bay adp hif osl pow rst rep out}
    (h : s.Kept Q) :
    Kept Q ⟨s.regs, shadowPf, shadowSage, now, thyme, aon, nextId, freeIdx, mac, thy, prs, s.rul, erp, sfe, fab, num, bay, adp, hif, osl, pow,
      rst, rep, out, s.pending⟩ := ⟨h.canonical, h.queue⟩

theorem ite {c : Prop} [Decidable c] {a b : State} (ha : a.Kept Q) (hb : b.Kept Q) : (if c then a else b).Kept Q := by
  split <;> assumption

theorem ite_fst {β : Type} {c : Prop} [Decidable c] {a b : State × β} (ha : a.1.Kept Q) (hb : b.1.Kept Q) : (if c then a else b).1.Kept Q := by
  split <;> assumption

theorem ite_snd {β : Type} {c : Prop} [Decidable c] {a b : β × State} (ha : a.2.Kept Q) (hb : b.2.Kept Q) : (if c then a else b).2.Kept Q := by
  split <;> assumption

theorem ite_snd_snd {β γ : Type} {c : Prop} [Decidable c] {a b : β × γ × State} (ha : a.2.2.Kept Q) (hb : b.2.2.Kept Q) :
    (if c then a else b).2.2.Kept Q := by
  split <;> assumption

theorem foldl {β : Type} {l : List β} {f : State → β → State} (h : s.Kept Q) (hf : ∀ t x, t.Kept Q → (f t x).Kept Q) :
    (l.foldl f s).Kept Q := by
  induction l generalizing s with
  | nil => exact h
  | cons x r ih => exact ih (hf s x h)

theorem foldl_fst {β γ : Type} {l : List γ} {f : State × β → γ → State × β} {a : State × β} (h : a.1.Kept Q)
    (hf : ∀ a x, a.1.Kept Q → (f a x).1.Kept Q) : (l.foldl f a).1.Kept Q := by
  induction l generalizing a with
  | nil => exact h
  | cons x r ih => exact ih (hf a x h)

theorem mk_snd {β : Type} {b : β} (h : s.Kept Q) : (b, s).2.Kept Q := h

/-- The state of a pair that a match took apart. -/
theorem of_snd {β : Type} {p : β × State} {b : β} {t : State} (h : p.2.Kept Q) (e : p = (b, t)) : t.Kept Q := by
  subst e
  exact h

theorem of_fst {β : Type} {p : State × β} {b : β} {t : State} (h : p.1.Kept Q) (e : p = (t, b)) : t.Kept Q := by
  subst e
  exact h

theorem setReg {a : Nat} {v : DWord} (h : s.Kept Q) : (s.setReg a v).Kept Q := by
  obtain ⟨⟨hr, hb⟩, hq⟩ := h
  exact ⟨⟨Regs.wf_set _ _ _ hr, hb⟩, hq⟩

/-- Canonical form speaks of the cells of the register file, not of the ties noted beside them. -/
theorem withTies {r : Regs} (h : s.Kept Q) (hr : r.cells = s.regs.cells) : Kept Q { s with regs := r } := by
  obtain ⟨⟨hw, hb⟩, hq⟩ := h
  exact ⟨⟨by simpa only [Regs.wf, hr] using hw, hb⟩, hq⟩

theorem setRul {r : RulSt} (h : s.Kept Q) (h0 : BankOk s.rul.bank0 → BankOk r.bank0) (h1 : BankOk s.rul.bank1 → BankOk r.bank1) :
    Kept Q { s with rul := r } := by
  obtain ⟨⟨hr, w0, w1, d0, d1⟩, hq⟩ := h
  obtain ⟨w0, d0⟩ := h0 ⟨w0, d0⟩
  obtain ⟨w1, d1⟩ := h1 ⟨w1, d1⟩
  exact ⟨⟨hr, w0, w1, d0, d1⟩, hq⟩

/-- Whatever replaces the parts, the rule tables among them, but for the register file, the delta banks and the queue. -/
theorem withRul {r : RulSt} {shadowPf shadowSage now thyme aon nextId freeIdx mac thy prs erp sfe fab num bay adp hif osl pow rst rep out}
    (h : s.Kept Q) (h0 : r.bank0 = s.rul.bank0 := by rfl) (h1 : r.bank1 = s.rul.bank1 := by rfl) :
    Kept Q ⟨s.regs, shadowPf, shadowSage, now, thyme, aon, nextId, freeIdx, mac, thy, prs, r, erp, sfe, fab, num, bay, adp, hif, osl, pow,
      rst, rep, out, s.pending⟩ := (h.setRul (r := r) (fun hb => h0 ▸ hb) (fun hb => h1 ▸ hb)).parts

theorem updRul {f : RulSt → RulSt} (h : s.Kept Q) (h0 : (f s.rul).bank0 = s.rul.bank0 := by rfl)
    (h1 : (f s.rul).bank1 = s.rul.bank1 := by rfl) : (s.updRul f).Kept Q := h.withRul h0 h1

/-- A state whose register file and rule tables are at reset. -/
theorem blank {t : State} (hr : t.regs = {}) (hb : t.rul = {}) (hq : t.pending = Q) : t.Kept Q :=
  ⟨by unfold State.canonical; rw [hr, hb]; exact ⟨rfl, rfl, rfl, rfl, rfl⟩, hq⟩

theorem setFld {f : Fld} {n : Nat} (h : s.Kept Q) : (s.setFld f n).Kept Q := h.setReg

theorem noteWrite {a : Nat} {m : DWord} (h : s.Kept Q) : (s.noteWrite a m).Kept Q := h.withTies s.ties_cells

theorem hwUpdate {k : State → State} (h : s.Kept Q) (hk : ∀ t, t.Kept Q → (k t).Kept Q) : (s.hwUpdate k).Kept Q :=
  .foldl (hk s h) fun _ _ h => h.setReg

theorem stick {f : Fld} (h : s.Kept Q) : (s.stick f).Kept Q := by
  unfold State.stick
  have hc := (s.setFld f 1).ties_cells
  have h := h.setFld (f := f) (n := 1)
  generalize s.setFld f 1 = t at h hc ⊢
  exact h.withTies hc

theorem clearSpan {lo hi : Nat} (h : s.Kept Q) : Kept Q { s with regs := s.regs.clearSpan lo hi } := by
  obtain ⟨⟨hr, hb⟩, hq⟩ := h
  exact ⟨⟨Regs.wf_clearSpan s.regs lo hi hr, hb⟩, hq⟩

end State.Kept

namespace OutKept

theorem next {t : State} (h : t.Kept Q) : OutKept Q (.next t) := h

theorem fault {f : Fault} : OutKept Q (.fault f) := trivial

theorem ite {c : Prop} [Decidable c] {a b : Out} (ha : OutKept Q a) (hb : OutKept Q b) : OutKept Q (if c then a else b) := by
  split <;> assumption

end OutKept

namespace OptKept

theorem none : OptKept Q none := fun t e => absurd e.symm (Option.some_ne_none t)

theorem some {t : State} (h : t.Kept Q) : OptKept Q (some t) := fun _ e => Option.some.inj e ▸ h

theorem ite {c : Prop} [Decidable c] {a b : Option State} (ha : OptKept Q a) (hb : OptKept Q b) : OptKept Q (if c then a else b) := by
  split <;> assumption

theorem or {o p : Option State} (ho : OptKept Q o) (hp : OptKept Q p) : OptKept Q (o.or p) := by
  cases o with
  | none => exact hp
  | some t => exact ho

theorem findSome? {β : Type} {l : List β} {f : β → Option State} (hf : ∀ x, OptKept Q (f x)) : OptKept Q (l.findSome? f) := fun _ e => by
  obtain ⟨x, _, hx⟩ := List.exists_of_findSome?_eq_some e
  exact hf x _ hx

theorem getD {o : Option State} (ho : OptKept Q o) (h : s.Kept Q) : (o.getD s).Kept Q := by
  cases o with
  | none => exact h
  | some t => exact ho t rfl

end OptKept

/-! ### Flags -/

theorem State.Kept.addCnt {a n : Nat} (h : s.Kept Q) : (s.addCnt a n).Kept Q := h.setReg

theorem State.Kept.bump {a : Nat} (h : s.Kept Q) : (s.bump a).Kept Q := h.addCnt

theorem State.Kept.bumpFld {f : Fld} (h : s.Kept Q) : (s.bumpFld f).Kept Q := h.setFld

theorem State.Kept.bumpIf {c : Bool} {a : Nat} (h : s.Kept Q) : (s.bumpIf c a).Kept Q := .ite h.bump h

/-! ### Ops -/

theorem State.Kept.emit {o : Output} (h : s.Kept Q) : (s.emit o).Kept Q := h.parts

theorem State.Kept.freshId (h : s.Kept Q) : s.freshId.2.Kept Q := h.parts

theorem State.Kept.free (h : s.Kept Q) : s.free.2.Kept Q := h.parts

theorem State.Kept.edgeWrite {k : State → State} (h : s.Kept Q) (hk : ∀ t, t.Kept Q → (k t).Kept Q) : (s.edgeWrite k).Kept Q :=
  .ite (hk s h) h

theorem State.Kept.coreWrite {blk : Option Nat} {k : State → State} (h : s.Kept Q) (hk : ∀ t, t.Kept Q → (k t).Kept Q) :
    (s.coreWrite blk k).Kept Q :=
  .ite h (.ite h.stick (.ite h.parts (.ite h (hk s h))))

theorem State.Kept.leaveIdle (h : s.Kept Q) : s.leaveIdle.Kept Q := .ite h.parts h

theorem State.Kept.whenRuns {blk : Option Nat} {k : State → State} (h : s.Kept Q) (hk : ∀ t, t.Kept Q → (k t).Kept Q) :
    (s.whenRuns blk k).Kept Q :=
  .ite (hk s h) h

/-! ### Delivery -/

theorem State.Kept.updQp {q : Nat} {f : Qp → Qp} (h : s.Kept Q) : (s.updQp q f).Kept Q := h.parts

theorem State.Kept.updDesc {i : Nat} {f : Desc → Desc} (h : s.Kept Q) : (s.updDesc i f).Kept Q := h.parts

theorem State.Kept.sendHeld {h : HostHeld} (hs : s.Kept Q) : (s.sendHeld h).Kept Q := .ite hs.emit hs.parts

theorem State.Kept.hostOut {func : Nat} {o : Output} (h : s.Kept Q) : (s.hostOut func o).Kept Q := h.sendHeld

theorem State.Kept.qpWrite {q addr : Nat} {b : List Byte} {relaxed : Bool} (h : s.Kept Q) : (s.qpWrite q addr b relaxed).Kept Q :=
  h.sendHeld

theorem State.Kept.interrupt {q : Nat} (h : s.Kept Q) : (s.interrupt q).Kept Q := h.hostOut.updQp

theorem State.Kept.writeRecord {q sqIndex kind status length : Nat} {cookie value : DWord} {info : Nat} (h : s.Kept Q) :
    (s.writeRecord q sqIndex kind status length cookie value info).Kept Q := .ite h.qpWrite.updQp.interrupt h.qpWrite.updQp

/-- What `State.Kept.deliverCopy` says, of any function in its place.

The obstacle here is the kernel: where it compares two matches on a copy's outcome it computes the bucket, whose 10^9 it counts in unary. So
`Bucket.take` and `State.deliverCopy` become variables before a match is reduced, and the `id` keeps the abstraction in the proof term. -/
def CopyKept (Q : List Instr) (copy : State → Nat → Nat → List Byte → DWord → Nat → Bool × State) : Prop :=
  ∀ {t q kind content value info}, t.Kept Q → (copy t q kind content value info).2.Kept Q

theorem State.Kept.deliverCopy {q kind : Nat} {content : List Byte} {value : DWord} {info : Nat} (h : s.Kept Q) :
    (s.deliverCopy q kind content value info).2.Kept Q := by
  generalize hf : @State.deliverCopy = f
  delta State.deliverCopy at hf
  subst hf
  generalize @Bucket.take = take
  revert take
  refine id fun take => ?_
  dsimp only
  split
  · exact .ite_snd h.updQp.updQp.qpWrite.writeRecord h.updQp.bump
  · exact h.updQp.bump

theorem State.Kept.deliverRecord {q kind : Nat} {cookie value : DWord} {info : Nat} (h : s.Kept Q) :
    (s.deliverRecord q kind cookie value info).Kept Q := .ite h.writeRecord h.bump

theorem State.Kept.event {code detail : Nat} (h : s.Kept Q) : (s.event code detail).Kept Q := h.deliverRecord

theorem State.Kept.hostReads {func : Nat} {l : List (Nat × Nat)} (h : s.Kept Q) : (s.hostReads func l).Kept Q :=
  h.foldl fun _ _ h => h.hostOut

theorem State.Kept.drainQp {q : Nat} (h : s.Kept Q) : (s.drainQp q).Kept Q := .ite (h.foldl fun _ _ h => h.updQp.writeRecord).updQp h

theorem State.Kept.completeDesc {i status length : Nat} {value : DWord} {info : Nat} (h : s.Kept Q) :
    (s.completeDesc i status length value info).Kept Q :=
  .ite (.drainQp (.ite (.ite_snd h.updDesc.updQp.free h.updDesc.updQp) (.writeRecord (.ite_snd h.updDesc.updQp.free h.updDesc.updQp)))) h

/-! ### Frames -/

theorem State.Kept.updPort {p : Nat} {f : PortSt → PortSt} (h : s.Kept Q) : (s.updPort p f).Kept Q := h.parts

theorem State.Kept.updPair {k : Nat} {f : PairSt → PairSt} (h : s.Kept Q) : (s.updPair k f).Kept Q := h.parts

theorem State.Kept.updFrame {f : Nat} {g : Frame → Frame} (h : s.Kept Q) : (s.updFrame f g).Kept Q := h.parts

theorem State.Kept.pfcCheck {p : Nat} (h : s.Kept Q) : (s.pfcCheck p).Kept Q := by
  unfold State.pfcCheck
  refine .ite ?_ h
  split <;> exact .ite h.updPort h

theorem State.Kept.pfcCheckAll (h : s.Kept Q) : s.pfcCheckAll.Kept Q := h.foldl fun _ _ h => h.pfcCheck

theorem State.Kept.origGone {f : Nat} (h : s.Kept Q) : (s.origGone f).Kept Q := h.updFrame.pfcCheck

theorem State.Kept.excCopy {c : Nat} {content : List Byte} {value : DWord} {info : Nat} (h : s.Kept Q) :
    (s.excCopy c content value info).Kept Q := by
  have hd : CopyKept Q @State.deliverCopy := fun h => h.deliverCopy
  generalize hf : @State.excCopy = f
  delta State.excCopy at hf
  subst hf
  generalize @Bucket.take = take, @State.deliverCopy = copy at hd ⊢
  revert take copy
  refine id fun take copy hd => ?_
  exact .ite (hd h.parts).bumpIf h.parts.bump

theorem State.Kept.tailHostCopies {f : Nat} (h : s.Kept Q) : (s.tailHostCopies f).Kept Q := by
  have hd : CopyKept Q @State.deliverCopy := fun h => h.deliverCopy
  unfold State.tailHostCopies
  generalize @State.deliverCopy = copy at hd ⊢
  revert copy
  refine id fun copy hd => ?_
  extract_lets fr u t v
  have ht : t.Kept Q := by
    unfold t
    split
    · exact h
    · exact .ite h.updFrame.excCopy h.updFrame
  refine .ite h ?_
  split
  · exact ht
  · exact (hd ht.updFrame).bumpIf

theorem State.Kept.releaseVer {f : Nat} (h : s.Kept Q) : (s.releaseVer f).Kept Q := .ite h.updFrame h

/-! ### Egress -/

theorem State.Kept.updBundle {b : Nat} {f : Bundle → Bundle} (h : s.Kept Q) : (s.updBundle b f).Kept Q := h.parts

theorem State.Kept.enqueue {p : Nat} {e : EFrame} (h : s.Kept Q) : (s.enqueue p e).Kept Q := h.updPort

theorem State.Kept.dropIdleRecalls {p : Nat} (h : s.Kept Q) : (s.dropIdleRecalls p).Kept Q := h.updPort

theorem State.Kept.withdraw {b i : Nat} (h : s.Kept Q) : (s.withdraw b i).Kept Q := .ite h h.updBundle.bump

theorem State.Kept.recordLost {x : Record} (h : s.Kept Q) : (s.recordLost x).Kept Q := .ite h.withdraw h

theorem State.Kept.dropEgress {e : EFrame} (h : s.Kept Q) : (s.dropEgress e).Kept Q := by
  unfold State.dropEgress
  split
  · exact h.bump.origGone
  · exact h.bump.updFrame
  · exact h.completeDesc
  · exact h.bump.foldl fun _ _ h => h.recordLost

theorem State.Kept.dropDead {p : Nat} (h : s.Kept Q) : (s.dropDead p).Kept Q := h.updPort.foldl fun _ _ h => h.dropEgress

theorem State.Kept.replyEnded {r : ReplyFrame} (h : s.Kept Q) : (s.replyEnded r).Kept Q := h.foldl fun _ _ h => .ite h.updBundle h

theorem State.Kept.settleTx {p : Nat} (h : s.Kept Q) : (s.settleTx p).Kept Q := by
  unfold State.settleTx
  split
  · exact h
  · refine .ite ?_ h
    dsimp only
    split
    · exact h.updPort.emit.bump.bumpIf.bumpIf.origGone
    · exact h.updPort.emit.bump.bumpIf.bumpIf
    · exact h.updPort.emit.bump.bumpIf.bumpIf.completeDesc
    · exact .ite h.updPort.emit.bump.bumpIf.bumpIf.replyEnded h.updPort.emit.bump.bumpIf.bumpIf

theorem State.Kept.settleAll (h : s.Kept Q) : s.settleAll.Kept Q := h.foldl fun _ _ h => h.settleTx

theorem State.Kept.mirrorTail {f : Nat} (h : s.Kept Q) : (s.mirrorTail f).Kept Q := by
  unfold State.mirrorTail
  dsimp only
  split
  · exact .ite h (.ite h.enqueue h.bump.updFrame)
  · exact h

theorem State.Kept.tailCopies {f : Nat} (h : s.Kept Q) : (s.tailCopies f).Kept Q := h.mirrorTail.tailHostCopies

theorem State.Kept.putTx {p : Nat} {e : EFrame} {bytes : List Byte} {bad : Bool} (h : s.Kept Q) : (s.putTx p e bytes bad).Kept Q :=
  h.updPort

theorem State.Kept.recordsStart {r : ReplyFrame} (h : s.Kept Q) : (s.recordsStart r).Kept Q := h.foldl fun _ _ h => h.updBundle

theorem State.Kept.startTx {p : Nat} {e : EFrame} (h : s.Kept Q) : (s.startTx p e).Kept Q := by
  unfold State.startTx
  split
  · exact h.updFrame.putTx
  · split
    · exact h
    · exact h.updFrame.bumpIf.putTx
  · exact h.putTx
  · exact .putTx (.ite h.parts.recordsStart.bump.addCnt.addCnt (.ite h.parts.recordsStart.bump.bumpIf
      (.ite h.parts.recordsStart.bump h.parts.recordsStart.bump)))

theorem State.Kept.cutTx {p : Nat} (h : s.Kept Q) : (s.cutTx p).Kept Q := by
  unfold State.cutTx
  dsimp only
  split
  · exact h.settleTx
  · split
    · exact h.settleTx.updPort
    · exact h.settleTx.updPort.dropEgress

/-! ### Mac -/

theorem State.Kept.applyDisp {f : Nat} {d : Disp} (h : s.Kept Q) : (s.applyDisp f d).Kept Q := by
  unfold State.applyDisp
  split
  · exact h.origGone
  · exact .ite h.enqueue.updFrame h.bump.origGone

theorem State.Kept.fallback {f : Nat} (h : s.Kept Q) : (s.fallback f).Kept Q := h.bump.applyDisp

theorem State.Kept.admitFrame {p : Nat} {bytes : List Byte} (h : s.Kept Q) :
    (s.admitFrame p bytes).Kept Q := .ite h.freshId.updFrame.updPort.parts h.freshId.updFrame.updPort.bump.bumpIf.fallback

theorem State.Kept.discardFrame {p : Nat} {bytes : List Byte} (h : s.Kept Q) : (s.discardFrame p bytes).Kept Q :=
  h.freshId.updFrame.updPort.bump

theorem State.Kept.sofDelimiter {p : Nat} {bytes : List Byte} (h : s.Kept Q) :
    (s.sofDelimiter p bytes).Kept Q := .ite (.pfcCheck (.ite h.admitFrame h.discardFrame)) h

theorem OutKept.sofDelimiter {p : Fin 16} {bytes : List Byte} (h : s.Kept Q) :
    OutKept Q (execSofDelimiter p bytes s) := .ite .fault (.next h.sofDelimiter)

theorem OutKept.copyTruncated {p : Fin 16} (h : s.Kept Q) : OutKept Q (execCopyTruncated p s) := by
  unfold execCopyTruncated
  refine .next ?_
  split
  · exact h
  · exact .ite h.updFrame h

theorem State.Kept.endFrame {p f : Nat} {t : Tail} (h : s.Kept Q) : (s.endFrame p f t).Kept Q := h.updPort.updFrame.tailCopies.pfcCheck

theorem State.Kept.cutOriginal {f n : Nat} (h : s.Kept Q) : (s.cutOriginal f n).Kept Q := h.foldl fun _ _ h => h.updPort

theorem State.Kept.oversize {p f : Nat} (h : s.Kept Q) : (s.oversize p f).Kept Q := h.cutOriginal.bump.bump.endFrame

theorem OutKept.oversizeTruncation {p : Fin 16} (h : s.Kept Q) : OutKept Q (execOversizeTruncation p s) := by
  unfold execOversizeTruncation
  refine .next ?_
  split
  · exact h
  · exact .ite h.oversize h

theorem State.Kept.runt {p f : Nat} (h : s.Kept Q) : (s.runt p f).Kept Q := h.updPort.bump.bump.updFrame.parts.origGone

theorem OutKept.frameTail {p : Fin 16} {fcsGood : Bool} (h : s.Kept Q) : OutKept Q (execFrameTail p fcsGood s) := by
  unfold execFrameTail
  refine .next ?_
  split
  · exact h
  · exact .ite h.runt (.ite h.oversize h.bump.bumpIf.endFrame)

theorem OutKept.mirrorWaitExpiry {f : Nat} (h : s.Kept Q) : OutKept Q (execMirrorWaitExpiry f s) := by
  unfold execMirrorWaitExpiry
  refine .next ?_
  split
  · exact h
  · exact .ite h.updPort.updFrame.bump h

theorem OutKept.actionRecordReturn {f : Nat} (h : s.Kept Q) : OutKept Q (execActionRecordReturn f s) := by
  unfold execActionRecordReturn
  refine .next ?_
  split
  · exact h
  · exact .ite h (.releaseVer (.ite h.updFrame.applyDisp h.updFrame))

theorem State.Kept.boundary {p : Nat} (h : s.Kept Q) : (s.boundary p).Kept Q := by
  unfold State.boundary
  refine .ite h.settleTx.dropDead.dropIdleRecalls.pfcCheck ?_
  split
  · exact h.settleTx.dropDead.dropIdleRecalls.pfcCheck.updPort.emit.bump.bump
  · split
    · exact h.settleTx.dropDead.dropIdleRecalls.pfcCheck
    · exact h.settleTx.dropDead.dropIdleRecalls.pfcCheck.updPort.startTx

theorem OutKept.pfcRx {p : Fin 16} {mask : BitVec 8} {quanta : List (BitVec 16)} (h : s.Kept Q) :
    OutKept Q (execPfcRx p mask quanta s) := .ite .fault (.next (h.edgeWrite fun _ h => .ite h.bump.bump.updPort h.bump.bump))

theorem OutKept.pfcXoffRefresh {p : Fin 16} (h : s.Kept Q) : OutKept Q (execPfcXoffRefresh p s) := by
  unfold execPfcXoffRefresh
  refine .next ?_
  dsimp only
  split
  · exact .ite h.pfcCheck.updPort h.pfcCheck
  · exact h.pfcCheck

theorem State.Kept.sendClose {k : Nat} (h : s.Kept Q) : (s.sendClose k).Kept Q := .ite h h.updPair.event

theorem State.Kept.closePair {k c : Nat} (h : s.Kept Q) :
    (s.closePair k c).Kept Q := .ite (.ite h.setFld h) h.sendClose.updPair.setFld.dropDead.dropDead

theorem State.Kept.linkLost {p : Nat} (h : s.Kept Q) :
    (s.linkLost p).Kept Q := .ite h.cutTx.updPort.updPair.dropDead.closePair h.cutTx.updPort.updPair.dropDead

theorem State.Kept.tryOpen {k : Nat} (h : s.Kept Q) : (s.tryOpen k).Kept Q := .ite h.updPair h

theorem State.Kept.macModeWrite {v : Nat} (h : s.Kept Q) : (s.macModeWrite v).Kept Q := .ite h.setFld.pfcCheckAll h

theorem State.Kept.judgeOpen {k : Nat} (h : s.Kept Q) : (s.judgeOpen k).Kept Q := .ite (.ite h.updPair h.stick.setFld) h

theorem State.Kept.openRequest {k : Nat} (h : s.Kept Q) :
    (s.openRequest k).Kept Q := .ite (.ite h.leaveIdle.updPair h.leaveIdle) h.leaveIdle.judgeOpen

theorem State.Kept.judgeWaiting (h : s.Kept Q) : s.judgeWaiting.Kept Q := h.foldl fun _ _ h => .ite h.updPair.judgeOpen h

theorem State.Kept.kick {k : Nat} {who : Requester} (h : s.Kept Q) : (s.kick k who).Kept Q := .ite h.updPair h

theorem State.Kept.hbExpiry {k : Nat} (h : s.Kept Q) : (s.hbExpiry k).Kept Q := .ite h h.closePair

theorem State.Kept.openTimeout {k : Nat} (h : s.Kept Q) : (s.openTimeout k).Kept Q := .ite h.closePair h

theorem State.Kept.portCtrlWritten {p : Nat} {wasEnabled : Bool} (h : s.Kept Q) :
    (s.portCtrlWritten p wasEnabled).Kept Q := .pfcCheck (.ite h.cutTx.closePair.updPort.dropDead h)

/-! ### Thyme -/

theorem State.Kept.updThy {f : ThySt → ThySt} (h : s.Kept Q) : (s.updThy f).Kept Q := h.parts

theorem State.Kept.setLock {l : Nat} (h : s.Kept Q) : (s.setLock l).Kept Q := .ite h h.updThy.event

theorem State.Kept.stepThyme (h : s.Kept Q) : s.stepThyme.Kept Q := h.bumpFld.parts

theorem State.Kept.thyCtrlWritten (h : s.Kept Q) : s.thyCtrlWritten.Kept Q :=
  .ite (.emit (.updThy (.ite h.updThy h.updThy))) (.ite h.updThy h.updThy)

theorem State.Kept.reportLock {old : Nat} (h : s.Kept Q) : (s.reportLock old).Kept Q := .ite h h.event

theorem State.Kept.thyCtrlWrite {v : Nat} (h : s.Kept Q) :
    (s.thyCtrlWrite v).Kept Q :=
  .ite h (.ite h.setFld.setFld.setFld.thyCtrlWritten.reportLock.stepThyme h.setFld.setFld.setFld.thyCtrlWritten.reportLock)

theorem State.Kept.phaseAdjWrite {v : Int} (h : s.Kept Q) : (s.phaseAdjWrite v).Kept Q := by
  unfold State.phaseAdjWrite
  refine .ite h ?_
  split
  · exact h.updThy
  · exact h.updThy
  · exact h.stick

theorem OutKept.phaseSlewDone (h : s.Kept Q) : OutKept Q (execPhaseSlewDone s) := by
  unfold execPhaseSlewDone
  refine .next ?_
  split
  · exact h
  · exact .ite h.updThy h

theorem State.Kept.ppsServo {e : Int} (h : s.Kept Q) : (s.ppsServo e).Kept Q := by
  unfold State.ppsServo
  extract_lets woken counted stepped judged
  have hw : woken.Kept Q := .ite h.updThy.setLock h
  have hc : counted.Kept Q := hw.bumpFld.updThy
  have hs : stepped.Kept Q := .ite hc.parts hw.updThy
  have hj : judged.Kept Q := .ite hs.updThy hs.updThy
  exact .ite hj.setLock (.ite hj.updThy.setLock hj)

theorem State.Kept.enterHoldover (h : s.Kept Q) : s.enterHoldover.Kept Q := h.stick.updThy.setLock

/-! ### Parse -/

theorem State.Kept.updChive {c : Nat} {f : Chive → Chive} (h : s.Kept Q) : (s.updChive c f).Kept Q := h.parts

theorem OutKept.chiveDispatch (h : s.Kept Q) : OutKept Q (execChiveDispatch s) := by
  unfold execChiveDispatch
  refine .next ?_
  refine h.whenRuns (fun _ h => ?_)
  split
  · exact h.parts.updFrame.updChive.bump
  · exact h

theorem State.Kept.endProgram {c code : Nat} {ubp : Bool} (h : s.Kept Q) :
    (s.endProgram c code ubp).Kept Q :=
  .ite h.updChive.updFrame (.ite h.updChive.updFrame.updFrame h.updChive.updFrame.updFrame.updFrame.bump.tailHostCopies)

theorem State.Kept.mark16 {c at_ v : Nat} (h : s.Kept Q) : (s.mark16 c at_ v).Kept Q := h.updFrame

theorem State.Kept.tailBundle {f : Nat} {u : Ubp} (h : s.Kept Q) : (s.tailBundle f u).Kept Q := h.updFrame.bumpIf

theorem State.Kept.startWalk {c udpLen : Nat} (h : s.Kept Q) :
    (s.startWalk c udpLen).Kept Q := .endProgram (.ite h.updFrame.updBundle.updChive.tailBundle h.updFrame.updBundle.updChive)

theorem State.Kept.ubpInstr {c : Nat} (h : s.Kept Q) :
    (s.ubpInstr c).Kept Q :=
  .ite (.ite h.bump.mark16.bump.endProgram (.ite h.bump.mark16.endProgram (.ite h.bump.mark16.startWalk h.bump.mark16.bump.endProgram)))
      h.updChive

theorem State.Kept.markInstr {c : Nat} {i : PInstr} (h : s.Kept Q) :
    (s.markInstr c i).Kept Q :=
  .ite h.endProgram (.ite (.ite h.mark16.updFrame.endProgram h.mark16.updFrame.updChive) (.updChive (.ite h.mark16 (.ite h.mark16
      (.ite h.mark16 h)))))

theorem State.Kept.parseEffect {c : Nat} {i : PInstr} (h : s.Kept Q) :
    (s.parseEffect c i).Kept Q :=
  .ite h.updChive (.ite h.updChive (.ite h.updChive (.ite h.updChive (.ite h.updChive (.ite h.updChive (.ite h.updChive (.ite h.updChive
      (.ite h.updChive (.ite h.updChive (.ite h.updChive (.ite h.updChive (.ite (.ite h.endProgram h.updChive) (.ite
      (.ite h.endProgram h.updChive) (.ite h.markInstr (.ite h.updFrame.updChive (.ite h.updFrame.updChive (.ite
      (.ite h.updChive.endProgram h.updChive) (.ite h.ubpInstr (.ite h.endProgram (.ite h.endProgram
      (.ite h.endProgram h)))))))))))))))))))))

theorem State.Kept.parseOne {c : Nat} {i : PInstr} (h : s.Kept Q) : (s.parseOne c i).Kept Q := by
  unfold State.parseOne
  refine .ite h.endProgram ?_
  refine .ite h.endProgram ?_
  split
  · exact h.parseEffect
  · exact h
  · exact h.bumpIf.endProgram

theorem State.Kept.parseRow {c op : Nat} (h : s.Kept Q) : (s.parseRow c op).Kept Q := h.whenRuns fun _ h => .ite h.parseOne h

theorem State.Kept.endWalk {c : Nat} (h : s.Kept Q) : (s.endWalk c).Kept Q :=
  .releaseVer (.ite h.updFrame.updChive.updFrame h.updFrame.updChive)

theorem State.Kept.segOverrun {c : Nat} (h : s.Kept Q) : (s.segOverrun c).Kept Q := h.bump.updFrame.endWalk

theorem State.Kept.emitSegment {c : Nat} {u : Ubp} (h : s.Kept Q) :
    (s.emitSegment c u).Kept Q := .bump (.updChive (.updFrame (.withRul (.freshId (.ite h.updBundle.bump h)))))

theorem State.Kept.walkTail {c : Nat} {u : Ubp} (h : s.Kept Q) : (s.walkTail c u).Kept Q := .ite h.bumpIf.endWalk h

theorem OutKept.segmentHeaderWalk {c : Fin 256} (h : s.Kept Q) : OutKept Q (execSegmentHeaderWalk c s) := by
  unfold execSegmentHeaderWalk
  refine .next ?_
  refine h.whenRuns (fun _ h => ?_)
  dsimp only
  split
  · exact h
  · refine .ite h ?_
    refine .ite h.segOverrun ?_
    split
    · exact h
    · exact h.endWalk
    · exact .ite h.segOverrun h.emitSegment.walkTail

theorem OutKept.tailAtChive {c : Fin 256} (h : s.Kept Q) : OutKept Q (execTailAtChive c s) := by
  unfold execTailAtChive
  refine .next ?_
  refine h.whenRuns (fun _ h => ?_)
  refine .ite h ?_
  dsimp only
  split
  · exact .ite h.updChive.tailBundle.updChive.updFrame h.updChive.tailBundle
  · exact .ite h.updChive.parseOne h.updChive

theorem State.Kept.progCommit (h : s.Kept Q) : s.progCommit.Kept Q := .ite h.stick h.parts

theorem State.Kept.progWinWrite {i : Nat} {v : DWord} (h : s.Kept Q) : (s.progWinWrite i v).Kept Q :=
  .ite h.stick (.ite h.parts.parts h.parts.parts)

/-! ### Rules -/

theorem State.Kept.updSeg {i : Nat} {f : Seg → Seg} (h : s.Kept Q) : (s.updSeg i f).Kept Q := h.parts

theorem State.Kept.executeCommit {src : CommitSrc} (h : s.Kept Q) : (s.executeCommit src).Kept Q := by
  unfold State.executeCommit
  split
  · exact h.updRul
  · exact h.updRul.completeDesc

theorem State.Kept.requestCommit {src : CommitSrc} (h : s.Kept Q) : (s.requestCommit src).Kept Q := by
  unfold State.requestCommit
  refine .ite ?_ (.ite h.updRul h.updRul)
  split
  · exact h.stick
  · exact h.stick.completeDesc

theorem OutKept.commitExecute (h : s.Kept Q) : OutKept Q (execCommitExecute s) := by
  unfold execCommitExecute
  refine .next ?_
  refine h.whenRuns (fun _ h => ?_)
  split
  · exact h.executeCommit
  · exact h

theorem OutKept.versionRetire (h : s.Kept Q) : OutKept Q (execVersionRetire s) := by
  unfold execVersionRetire
  refine .next ?_
  refine h.whenRuns (fun _ h => ?_)
  split
  · exact h
  · refine .ite h ?_
    dsimp only
    split
    · exact h.updRul
    · exact h.updRul.updRul.executeCommit

theorem State.Kept.putWords {base n : Nat} {l : List Byte} (h : s.Kept Q) : (s.putWords base n l).Kept Q := by
  induction n generalizing s base l with
  | zero => exact h
  | succ n ih => exact ih h.setReg

theorem State.Kept.loadWdata {e : TEntry} (h : s.Kept Q) : (s.loadWdata e).Kept Q :=
  (h.putWords.putWords.foldl fun _ _ h => h.setFld.setFld).setReg

theorem State.Kept.startCmd {done status : Fld} {busy : Nat} {k : State → State} (h : s.Kept Q) (hk : ∀ t, t.Kept Q → (k t).Kept Q) :
    (s.startCmd done status busy k).Kept Q := .ite (hk _ h.setFld) h.setFld

theorem State.Kept.finishCmd {done status : Fld} {code : Nat} (h : s.Kept Q) : (s.finishCmd done status code).Kept Q := h.setFld.setFld

theorem State.Kept.tcamWrite {index op : Nat} (h : s.Kept Q) : (s.tcamWrite index op).Kept Q := .ite h (h.startCmd fun _ h => h.updRul)

theorem State.Kept.tcamEffect {c : TcamCmd} (h : s.Kept Q) :
    (s.tcamEffect c).Kept Q := .ite (h.hwUpdate fun _ h => h.loadWdata) (.ite h.updRul (.ite h.updRul h.updRul))

theorem OutKept.tcamCmdComplete (h : s.Kept Q) : OutKept Q (execTcamCmdComplete s) := by
  unfold execTcamCmdComplete
  refine .next ?_
  refine h.whenRuns (fun _ h => ?_)
  split
  · exact h
  · exact .finishCmd (.ite h.updRul.tcamEffect h.updRul)

theorem State.Kept.emWrite {op : Nat} (h : s.Kept Q) : (s.emWrite op).Kept Q := .ite h (h.startCmd fun _ h => h.updRul)

theorem State.Kept.emReplace {k : Nat} {e : Option StreamEntry} (h : s.Kept Q) : (s.emReplace k e).Kept Q := by
  unfold State.emReplace
  exact h.updRul

theorem State.Kept.emEffect {c : EmCmd} (h : s.Kept Q) : (s.emEffect c).Kept Q := .ite h.updRul (.ite h.emReplace h.emReplace)

theorem OutKept.emCmdComplete (h : s.Kept Q) : OutKept Q (execEmCmdComplete s) := by
  unfold execEmCmdComplete
  refine .next ?_
  refine h.whenRuns (fun _ h => ?_)
  split
  · exact h
  · exact .finishCmd (.ite h.updRul.emEffect h.updRul)

theorem State.Kept.meterFrame {i : Nat} {fr : Frame} (h : s.Kept Q) : (s.meterFrame i fr).2.Kept Q := .ite_snd h.updRul.bumpIf.bumpIf h

theorem State.Kept.countAdd {i n : Nat} (h : s.Kept Q) : (s.countAdd i n).Kept Q := by
  unfold State.countAdd State.updRul
  dsimp only
  split
  · exact h.setRul BankOk.set id
  · exact h.setRul id BankOk.set

theorem State.Kept.meterWrite (h : s.Kept Q) : s.meterWrite.Kept Q := .ite h.stick h.updRul

theorem State.Kept.meterRead (h : s.Kept Q) : s.meterRead.Kept Q := h.setFld.setFld.setFld.setFld.setFld.setFld

theorem State.Kept.swapBanks (h : s.Kept Q) : s.swapBanks.Kept Q := h.updRul

theorem OutKept.counterSweep (h : s.Kept Q) : OutKept Q (execCounterSweep s) := by
  unfold execCounterSweep
  refine .next ?_
  refine h.whenRuns (fun _ h => ?_)
  refine .ite ?_ h
  dsimp only
  split
  · exact h.updRul.swapBanks
  · exact h.updRul.updRul.bump

theorem State.Kept.addImages (h : s.Kept Q) : (s.updRul fun r =>
    if r.activeBank = 0 then { r with images := addBank r.images r.bank1, bank1 := r.bank1.clear, sweepTs := none }
    else { r with images := addBank r.images r.bank0, bank0 := r.bank0.clear, sweepTs := none }).Kept Q := by
  unfold State.updRul
  dsimp only
  split
  · exact h.setRul id BankOk.clear
  · exact h.setRul BankOk.clear id

theorem OutKept.sweepComplete (h : s.Kept Q) : OutKept Q (execSweepComplete s) := by
  refine .next (h.whenRuns fun t h => ?_)
  split
  · exact h
  · exact .ite h.addImages.bumpFld.setReg.swapBanks h.addImages.bumpFld.setReg

theorem State.Kept.counterClear (h : s.Kept Q) : s.counterClear.Kept Q := by
  unfold State.counterClear
  exact h.setRul BankOk.set BankOk.set

theorem State.Kept.steer {w : Nat} {prv : List Byte} (h : s.Kept Q) : (s.steer w prv).2.Kept Q := .ite_snd h h.bump

theorem State.Kept.entryDisp {e : TEntry} {fr : Frame} (h : s.Kept Q) : (s.entryDisp e fr).2.Kept Q := by
  unfold State.entryDisp
  refine .ite_snd h ?_
  split
  · exact h
  · split
    · exact h.steer
    · exact h

theorem State.Kept.countActions {e : TEntry} {len : Nat} (h : s.Kept Q) :
    (s.countActions e len).Kept Q := h.foldl fun _ _ h => .ite (.ite h.countAdd (.ite h.countAdd h.countAdd.countAdd)) h

theorem State.Kept.noMatch {f : Nat} (h : s.Kept Q) : (s.noMatch f).Kept Q := h.bump.bump.updFrame.tailCopies

theorem State.Kept.applyEntry {f : Nat} {e : TEntry} (h : s.Kept Q) : (s.applyEntry f e).Kept Q := by
  unfold State.applyEntry
  extract_lets fr
  split
  next act t ht =>
  have ht : t.Kept Q := by
    split at ht
    · cases ht
      exact h
    · split at ht
      next c v hv =>
      cases ht
      exact h.meterFrame.of_snd hv
  split
  next d u hu =>
  have hu : u.Kept Q := by
    split at hu
    · cases hu
      exact ht
    · exact ht.entryDisp.of_snd hu
  refine tailCopies ?_
  split
  · exact hu.updFrame.countActions
  · exact .ite hu.updFrame.countActions.updFrame hu.updFrame.countActions.bump

theorem State.Kept.classify {f : Nat} (h : s.Kept Q) : (s.classify f).Kept Q := by
  unfold State.classify
  refine .ite h ?_
  refine .ite ?_ h.bump.noMatch
  dsimp only
  split
  · exact h.bump.noMatch
  · exact h.bump.applyEntry

theorem State.Kept.releaseHead {p n : Nat} (h : s.Kept Q) : (s.releaseHead p n).Kept Q := by
  induction n generalizing s with
  | zero => exact h
  | succ n ih =>
    unfold State.releaseHead
    split
    · exact h
    · exact .ite (ih h.updPort.updFrame.classify) h

theorem State.Kept.sendResult {i rstat : Nat} {result : DWord} {widened : Bool} (h : s.Kept Q) :
    (s.sendResult i rstat result widened).Kept Q := h.updSeg.parts

theorem State.Kept.segClassified {i : Nat} (h : s.Kept Q) : (s.segClassified i).Kept Q := by
  unfold State.segClassified
  split
  · exact h
  · exact h.updFrame.releaseVer

theorem State.Kept.segDiscard {i reason : Nat} (h : s.Kept Q) : (s.segDiscard i reason).Kept Q := by
  unfold State.segDiscard
  dsimp only
  split
  · exact h.updSeg
  · exact h.updSeg.completeDesc

theorem State.Kept.finishLookup {i : Nat} (h : s.Kept Q) : (s.finishLookup i).Kept Q := by
  unfold State.finishLookup
  dsimp only
  split
  · refine .segClassified ?_
    refine .segDiscard ?_
    split
    · exact .ite h.bump.excCopy h.bump
    · exact h.bump
  · exact .ite (.parts (.updSeg (.updSeg (.ite h.bump.countAdd.countAdd h.bump)))) (.segClassified (.sendResult (.updSeg
      (.ite h.bump.countAdd.countAdd h.bump))))

theorem OutKept.streamLookup (h : s.Kept Q) : OutKept Q (execStreamLookup s) := by
  unfold execStreamLookup
  refine .next ?_
  refine h.whenRuns (fun _ h => ?_)
  split
  · exact h
  · dsimp only
    split
    · exact h.updRul.segDiscard.segClassified
    · exact .ite h.updRul.updSeg.finishLookup h.updRul.updSeg.updSeg.updRul.bump

theorem State.Kept.emInstall {key : Nat} (h : s.Kept Q) : (s.emInstall key).Kept Q := .ite h (.ite h.updRul h.free.updRul)

theorem OutKept.streamCacheFill {which : Nat} (h : s.Kept Q) : OutKept Q (execStreamCacheFill which s) := by
  unfold execStreamCacheFill
  refine .next ?_
  refine h.whenRuns (fun _ h => ?_)
  split
  · exact h
  · exact h.updRul.emInstall.finishLookup

/-! ### Reply -/

theorem State.Kept.updErp {f : ErpSt → ErpSt} (h : s.Kept Q) : (s.updErp f).Kept Q := h.parts

theorem State.Kept.enterCrossing {r : ReplyFrame} (h : s.Kept Q) :
    (s.enterCrossing r).Kept Q := .ite (h.foldl fun _ _ h => h.updBundle).enqueue h.bump

theorem State.Kept.setCoal {p : Nat} {c : Option Coal} (h : s.Kept Q) : (s.setCoal p c).Kept Q := h.updErp

theorem State.Kept.openCoal {p : Nat} {x : Record} (h : s.Kept Q) : (s.openCoal p x).Kept Q := .ite h.enterCrossing h.setCoal

theorem State.Kept.flushCoal {p : Nat} (h : s.Kept Q) : (s.flushCoal p).Kept Q := by
  unfold State.flushCoal
  split
  · exact h
  · exact h.setCoal.enterCrossing

theorem State.Kept.coalesce {p : Nat} {x : Record} (h : s.Kept Q) : (s.coalesce p x).Kept Q := by
  unfold State.coalesce
  split
  · exact h.openCoal
  · exact .ite h.flushCoal.openCoal (.ite h.setCoal.enterCrossing h.setCoal)

theorem State.Kept.netRecord {p : Nat} {x : Record} (h : s.Kept Q) :
    (s.netRecord p x).Kept Q := .ite h.bump (.ite h.withdraw (.ite h (.ite h.updBundle.updErp h.updBundle.coalesce)))

theorem State.Kept.hostResult {d : Nat} {x : Record} (h : s.Kept Q) :
    (s.hostResult d x).Kept Q := .ite h.bump (.ite h.bump (.completeDesc (.ite h.netRecord h)))

theorem OutKept.resultAtErp (h : s.Kept Q) : OutKept Q (execResultAtErp s) := by
  unfold execResultAtErp
  refine .next ?_
  refine h.whenRuns (fun _ h => ?_)
  split
  · exact h
  · dsimp only
    split
    · exact h.updErp.hostResult
    · exact h.updErp.netRecord

theorem OutKept.coalesceWindowEnd {p : Fin 4096} (h : s.Kept Q) : OutKept Q (execCoalesceWindowEnd p s) := by
  unfold execCoalesceWindowEnd
  refine .next ?_
  refine h.whenRuns (fun _ h => ?_)
  split
  · exact h
  · exact .ite h.flushCoal h

theorem State.Kept.sendVerdict {bi p kind : Nat} {cause : Cause} (h : s.Kept Q) : (s.sendVerdict bi p kind cause).Kept Q := h.enterCrossing

theorem State.Kept.sendGood {bi p : Nat} (h : s.Kept Q) : (s.sendGood bi p).Kept Q := .ite h.sendVerdict (.ite h.sendVerdict h)

theorem State.Kept.leaveHold (h : s.Kept Q) : s.leaveHold.Kept Q := h.updErp.foldl fun _ _ h => .ite h.bump h.coalesce

theorem State.Kept.goodVerdict {bi : Nat} (h : s.Kept Q) :
    (s.goodVerdict bi).Kept Q := .ite h.updErp (.ite (.ite h.updErp.sendGood h.updErp) (h.updErp.foldl fun _ _ h => h.sendGood))

theorem State.Kept.removeRecords {bi : Nat} (h : s.Kept Q) : (s.removeRecords bi).Kept Q := h.updErp.foldl fun _ _ h => h.updPort

theorem State.Kept.badVerdict {bi : Nat} {cause : Cause} (h : s.Kept Q) :
    (s.badVerdict bi cause).Kept Q :=
  (h.settleAll.removeRecords.parts.foldl fun _ _ h => .ite h h.withdraw).foldl fun _ _ h => .ite h.sendVerdict h

theorem State.Kept.applyVerdict {bi : Nat} {cause : Cause} (h : s.Kept Q) :
    (s.applyVerdict bi cause).Kept Q := .leaveHold (.ite h.updBundle.goodVerdict h.updBundle.badVerdict)

theorem State.Kept.verdictAtErp {f : Nat} (h : s.Kept Q) : (s.verdictAtErp f).Kept Q := by
  unfold State.verdictAtErp
  split
  · exact h
  · exact .ite h.applyVerdict h

theorem State.Kept.stompBundle {bi : Nat} (h : s.Kept Q) : (s.stompBundle bi).Kept Q := by
  unfold State.stompBundle
  refine h.settleAll.foldl (fun _ _ h => ?_)
  split
  · exact h
  · split
    · exact .ite h.updPort.bump h
    · exact h

theorem OutKept.stomp {f : Nat} (h : s.Kept Q) : OutKept Q (execStomp f s) := by
  unfold execStomp
  refine .next ?_
  refine h.whenRuns (fun _ h => ?_)
  split
  · exact .ite h.stompBundle h
  · exact h

theorem OutKept.remoteWaitExpiry {bi : Nat} (h : s.Kept Q) : OutKept Q (execRemoteWaitExpiry bi s) := by
  unfold execRemoteWaitExpiry
  refine .next ?_
  refine h.whenRuns (fun _ h => ?_)
  dsimp only
  split
  · exact .ite h.applyVerdict h
  · exact h

theorem State.Kept.erpProfWrite (h : s.Kept Q) : s.erpProfWrite.Kept Q := h.startCmd fun _ h => .ite h.finishCmd h.updErp.finishCmd

theorem State.Kept.erpProfRead (h : s.Kept Q) : s.erpProfRead.Kept Q := h.startCmd fun _ h => h.setReg.setReg.setReg.setReg.setReg.finishCmd

/-! ### Catalogue -/

theorem State.Kept.updBay {f : BaySt → BaySt} (h : s.Kept Q) : (s.updBay f).Kept Q := h.parts

theorem State.Kept.updModel {h : Nat} {f : Model → Model} (hs : s.Kept Q) : (s.updModel h f).Kept Q := hs.updBay

theorem State.Kept.updOsl {f : OslSt → OslSt} (h : s.Kept Q) : (s.updOsl f).Kept Q := h.parts

theorem State.Kept.updProg {p : Nat} {f : ProgSt → ProgSt} (h : s.Kept Q) : (s.updProg p f).Kept Q := h.updOsl

theorem State.Kept.updSfe {f : SfeSt → SfeSt} (h : s.Kept Q) : (s.updSfe f).Kept Q := h.parts

theorem State.Kept.updRow {r : Nat} {f : Row → Row} (h : s.Kept Q) : (s.updRow r f).Kept Q := h.updSfe

theorem State.Kept.spanFails {sp : Span} {rstat : Nat} (h : s.Kept Q) : (s.spanFails sp rstat).Kept Q := .ite h (.ite h.updSeg h.sendResult)

theorem State.Kept.abortRow {r : Nat} (h : s.Kept Q) : (s.abortRow r).Kept Q := .updRow (.ite h (h.foldl fun _ _ h => h.spanFails))

theorem State.Kept.startPage {h : Nat} (hs : s.Kept Q) : (s.startPage h).Kept Q := .ite hs.bump hs.updModel.updBay

theorem State.Kept.queueRow {h cls r : Nat} (hs : s.Kept Q) :
    (s.queueRow h cls r).Kept Q := .ite hs.abortRow (.ite hs.updModel (.ite hs.updModel.startPage hs.updModel.updModel.bump.startPage))

theorem State.Kept.offerRow {r : Nat} (h : s.Kept Q) : (s.offerRow r).Kept Q := by
  unfold State.offerRow
  dsimp only
  split
  · exact .ite h.abortRow.bump (.ite h.abortRow.bump h.queueRow)
  · exact h.queueRow

/-! ### Oslink -/

theorem State.Kept.updLink {l : Nat} {f : LinkSt → LinkSt} (h : s.Kept Q) : (s.updLink l f).Kept Q := h.updOsl

theorem State.Kept.sendFrame {l : Nat} {recs : List OslRec} (h : s.Kept Q) : (s.sendFrame l recs).Kept Q := h.emit.updLink.bump

theorem State.Kept.leavePool {c : Carried} (h : s.Kept Q) : (s.leavePool c).Kept Q := by
  unfold State.leavePool
  split
  · exact h
  · exact .ite h.updLink h

theorem State.Kept.drainLink {l : Nat} (h : s.Kept Q) : (s.drainLink l).Kept Q := by
  unfold State.drainLink
  extract_lets k
  split
  rename_i t left e
  refine (State.Kept.of_fst (foldl_fst h fun a c h => ?_) e).updLink
  exact .ite_fst h.updLink.sendFrame.leavePool h

theorem State.Kept.giveLink {l : Nat} {c : Carried} (h : s.Kept Q) : (s.giveLink l c).Kept Q := h.updLink.drainLink

theorem State.Kept.returnCredits (h : s.Kept Q) : s.returnCredits.Kept Q := h.foldl fun _ _ h => .ite h.sendFrame h

theorem State.Kept.sendDir {dim : Nat} {minus : Bool} {c : Carried} (h : s.Kept Q) : (s.sendDir dim minus c).Kept Q := by
  unfold State.sendDir
  dsimp only
  split
  · exact h
  · exact h.giveLink

theorem State.Kept.takeSet {dim : Nat} {minus : Bool} (h : s.Kept Q) : (s.takeSet dim minus).2.Kept Q := by
  unfold State.takeSet
  dsimp only
  exact h.updOsl

theorem State.Kept.switchDir {dim : Nat} {minus : Bool} (h : s.Kept Q) : (s.switchDir dim minus).Kept Q :=
  h.takeSet.foldl fun _ _ h => h.sendDir

theorem State.Kept.toDir {dim : Nat} {minus : Bool} {c : Carried} (h : s.Kept Q) :
    (s.toDir dim minus c).Kept Q := .ite h.sendDir (.ite h.switchDir.sendDir h.updOsl)

theorem State.Kept.raiseAbort {p : Nat} (h : s.Kept Q) : (s.raiseAbort p).Kept Q := h.updOsl

theorem State.Kept.deliverRec {r : OslRec} (h : s.Kept Q) : (s.deliverRec r).Kept Q := by
  unfold State.deliverRec
  refine .ite h.bump ?_
  refine .ite ?_ (.ite h.addCnt.parts h.updOsl)
  dsimp only
  split
  · exact h
  · exact h.parts

theorem State.Kept.oslCarry {fromDim : Option Nat} {c : Carried} (h : s.Kept Q) : (s.oslCarry fromDim c).Kept Q := by
  unfold State.oslCarry
  split
  · exact h.leavePool.deliverRec
  · exact h.bumpIf.toDir
  · exact h.leavePool.bump.foldl fun _ _ h => h.raiseAbort

theorem State.Kept.oslSubmit {fromDim : Option Nat} {r : OslRec} (h : s.Kept Q) : (s.oslSubmit fromDim r).Kept Q := h.oslCarry

theorem State.Kept.settleDir {dim : Nat} {minus : Bool} (h : s.Kept Q) :
    (s.settleDir dim minus).Kept Q := .ite (h.takeSet.foldl fun _ _ h => h.oslCarry) h.switchDir

theorem State.Kept.floodOut {r : OslRec} (h : s.Kept Q) : (s.floodOut r).Kept Q := h.foldl fun _ _ h => .ite h.giveLink h

/-! ### Sfe -/

theorem State.Kept.sfeProfWrite (h : s.Kept Q) : s.sfeProfWrite.Kept Q := h.startCmd fun _ h => .ite h.finishCmd h.updSfe.finishCmd

theorem State.Kept.sfeProfRead (h : s.Kept Q) :
    s.sfeProfRead.Kept Q := h.startCmd fun _ h => h.setReg.setReg.setReg.setReg.setReg.setFld.setFld.finishCmd

theorem State.Kept.hostCopyOut {i : Nat} (h : s.Kept Q) : (s.hostCopyOut i).Kept Q := by
  have hd : CopyKept Q @State.deliverCopy := fun h => h.deliverCopy
  generalize hf : @State.hostCopyOut = f
  delta State.hostCopyOut at hf
  subst hf
  generalize @Bucket.take = take, @State.deliverCopy = copy at hd ⊢
  revert take copy
  refine id fun take copy hd => ?_
  exact .segDiscard (.ite (.ite (hd h.updSfe).bump (hd h.updSfe).bump) h.updSfe.bump)

theorem State.Kept.hostCodec {i : Nat} (h : s.Kept Q) : (s.hostCodec i).Kept Q := .ite h.hostCopyOut h.updSeg

theorem State.Kept.hostCopies (h : s.Kept Q) : s.hostCopies.Kept Q := h.foldl fun _ _ h => h.hostCodec

theorem State.Kept.updSlot {slot : Nat} {f : Slot → Slot} (h : s.Kept Q) : (s.updSlot slot f).Kept Q := h.updBay

theorem State.Kept.setRegion {slot : Nat} {p : SfeProfile} {r : Region} (h : s.Kept Q) : (s.setRegion slot p r).Kept Q := h.updSlot

theorem State.Kept.admitHeader {i : Nat} {restart : Bool} (h : s.Kept Q) : (s.admitHeader i restart).Kept Q := h.updSlot.updSeg

theorem State.Kept.putRegion {i : Nat} {r : Region} (h : s.Kept Q) : (s.putRegion i r).Kept Q := .ite h.setRegion h.updSeg

theorem State.Kept.touch {i : Nat} (h : s.Kept Q) : (s.touch i).Kept Q := h.updBundle

theorem State.Kept.admitOrder {i : Nat} (h : s.Kept Q) : (s.admitOrder i).Kept Q := by
  unfold State.admitOrder
  dsimp only
  split
  · exact h.bump.segDiscard
  · exact h.bump.segDiscard
  · exact h.bump.admitHeader
  · exact h.addCnt.admitHeader

theorem State.Kept.admitSeg {i : Nat} (h : s.Kept Q) : (s.admitSeg i).Kept Q := by
  unfold State.admitSeg
  refine .ite h.bump.segDiscard ?_
  refine .ite h.bump.bump.segDiscard ?_
  refine .ite (.ite h.bump.hostCodec h.bump.bump.segDiscard) ?_
  refine .ite h.bump.bump.segDiscard ?_
  refine .ite h.bump.bump.segDiscard ?_
  refine .ite h.bump.admitOrder.bumpIf ?_
  refine .ite h.bump.bump.segDiscard ?_
  refine .ite h.bump.bump.segDiscard ?_
  split
  · exact h.bump.bump.bump.sendResult
  · exact h.bump.bump.sendResult
  · exact h.bump.admitOrder

theorem State.Kept.makeRoom {keep need n : Nat} (h : s.Kept Q) : (s.makeRoom keep need n).Kept Q := by
  induction n generalizing s with
  | zero => exact h
  | succ n ih =>
    refine .ite h ?_
    split
    · exact h
    · exact ih h.updSfe

theorem State.Kept.lineRoom {i : Nat} (h : s.Kept Q) : (s.lineRoom i).1.Kept Q := .ite_fst h h.makeRoom

theorem State.Kept.holdRows {i : Nat} (h : s.Kept Q) : (s.holdRows i).Kept Q := by
  unfold State.holdRows
  split
  · exact .ite h h.updSeg
  · exact h.updSeg

theorem State.Kept.takeLine {i : Nat} (h : s.Kept Q) :
    (s.takeLine i).Kept Q := .ite h.holdRows.updSfe.segClassified.updSeg h.holdRows.updSfe.segClassified.updSeg.bumpIf

theorem OutKept.segmentAllocate (h : s.Kept Q) : OutKept Q (execSegmentAllocate s) := by
  unfold execSegmentAllocate
  refine .next ?_
  refine h.whenRuns (fun _ h => ?_)
  split
  · exact h
  · exact .ite h.bump.segDiscard.segClassified (.ite (.ite h.lineRoom.takeLine h.lineRoom) h)

theorem State.Kept.closeIfFull {r : Nat} (h : s.Kept Q) : (s.closeIfFull r).Kept Q := .ite h.updRow h

theorem State.Kept.newRow {i : Nat} (h : s.Kept Q) : (s.newRow i).2.Kept Q := h.freshId.updRow.updSeg.bump

theorem State.Kept.placeSpan {i left a1 a2 : Nat} (h : s.Kept Q) : (s.placeSpan i left a1 a2).Kept Q := by
  have hr : (match s.openRow i with
      | some r => (r, false, s)
      | none => match s.newRow i with
        | (r, t) => (r, true, t)).2.2.Kept Q := by
    split
    · exact h
    · exact h.newRow
  unfold State.placeSpan
  exact .ite hr.updRow.updSeg.bump.closeIfFull.offerRow hr.updRow.updSeg.bump.closeIfFull

theorem State.Kept.fillSpan {i : Nat} {f : List Int} {f1 f2 : Option (List Int)} (h : s.Kept Q) : (s.fillSpan i f f1 f2).Kept Q := by
  unfold State.fillSpan
  split
  · exact h
  · exact h.updRow

theorem State.Kept.leaveSfe {i : Nat} {r : Region} (h : s.Kept Q) :
    (s.leaveSfe i r).Kept Q :=
  .ite (.segDiscard (.ite h.putRegion.updSfe.updSeg h.putRegion.updSfe.updSeg.touch)) (.updSeg
      (.ite h.putRegion.updSfe.updSeg h.putRegion.updSfe.updSeg.touch))

theorem State.Kept.makeFrame {i : Nat} (h : s.Kept Q) :
    (s.makeFrame i).Kept Q :=
  .ite (.ite h h.leaveSfe) (.ite h (.ite h (.ite (.leaveSfe (.updSeg (.touch (.putRegion (.fillSpan
      (.ite h.placeSpan h)))))) (.updSeg (.touch (.putRegion (.fillSpan (.ite h.placeSpan h))))))))

theorem State.Kept.dropWithdrawn {i : Nat} (h : s.Kept Q) : (s.dropWithdrawn i).Kept Q := .segDiscard (.updSfe (.ite h.putRegion h))

theorem OutKept.segmentAdmission (h : s.Kept Q) : OutKept Q (execSegmentAdmission s) := by
  unfold execSegmentAdmission
  refine .next ?_
  refine h.whenRuns (fun _ h => ?_)
  refine .ite h ?_
  split
  · exact h
  · exact .ite h.updSfe.admitSeg h.updSfe.admitSeg.segClassified

/-! ### Remote -/

theorem State.Kept.takeArrived {which kind : Nat} {r : OslRec} {t : State} (h : s.Kept Q) (e : s.takeArrived which kind = some (r, t)) :
    t.Kept Q := by
  unfold State.takeArrived at e
  split at e
  · split at e
    · cases e
      exact h.updOsl
    · cases e
  · cases e

theorem State.Kept.pairProg {p n : Nat} (h : s.Kept Q) : (s.pairProg p n).Kept Q := by
  induction n generalizing s with
  | zero => exact h
  | succ n ih =>
    unfold State.pairProg
    split
    · exact h
    · refine .ite h (.ite (ih h.updProg.sendResult) ?_)
      split
      · exact h
      · exact ih h.updProg.sendResult

theorem State.Kept.openNotice {a b : OslRec} (h : s.Kept Q) : (s.openNotice a b).2.Kept Q := by
  unfold State.openNotice
  extract_lets ts sender bid
  split
  rename_i k t e
  have ht : t.Kept Q := by
    split at e <;> cases e
    · exact h
    · exact h.freshId.updBundle
  exact ht.freshId.updSeg

theorem OutKept.spanNotice {which : Nat} (h : s.Kept Q) : OutKept Q (execSpanNotice which s) := by
  unfold execSpanNotice
  refine .next ?_
  split
  · exact h
  · refine .ite (h.takeArrived ‹_›).updProg ?_
    split
    · exact h.takeArrived ‹_›
    · exact (h.takeArrived ‹_›).openNotice.updProg.pairProg

theorem OutKept.verdict {which : Nat} (h : s.Kept Q) : OutKept Q (execVerdict which s) := by
  unfold execVerdict
  refine .next ?_
  split
  · exact h
  · split
    · exact h.takeArrived ‹_›
    · split
      · exact (h.takeArrived ‹_›).bump
      · exact h.takeArrived ‹_›
      · exact .applyVerdict (.ite (h.takeArrived ‹_›).updBundle.stompBundle (h.takeArrived ‹_›).updBundle)

theorem State.Kept.sendVerdictTo {bi chip : Nat} (h : s.Kept Q) : (s.sendVerdictTo bi chip).Kept Q := by
  unfold State.sendVerdictTo
  dsimp only
  split
  · exact h
  · exact h.oslSubmit

theorem State.Kept.noticeSpan {p : Nat} {sp : Span} {rstat : Nat} (h : s.Kept Q) :
    (s.noticeSpan p sp rstat).Kept Q :=
  h.foldl fun _ _ h => .ite (h.foldl fun _ _ h => h.oslSubmit) (h.foldl fun _ _ h => h.oslSubmit).updBundle.sendVerdictTo

theorem State.Kept.spanResult {r k : Nat} {result : DWord} {widened : Bool} (h : s.Kept Q) : (s.spanResult r k result widened).Kept Q := by
  unfold State.spanResult
  split
  · exact h
  · exact .ite h.spanFails (.ite h (.ite h.sendResult h.sendResult))

theorem State.Kept.fenceSpan {r k : Nat} (h : s.Kept Q) : (s.fenceSpan r k).Kept Q := h.updRow.bump

/-! ### Tiles -/

theorem State.Kept.updFab {f : FabSt → FabSt} (h : s.Kept Q) : (s.updFab f).Kept Q := h.parts

theorem State.Kept.updTile {t : Nat} {f : Tile → Tile} (h : s.Kept Q) : (s.updTile t f).Kept Q := h.updFab

theorem State.Kept.updPlot {p : Nat} {f : PlotSt → PlotSt} (h : s.Kept Q) : (s.updPlot p f).Kept Q := h.updFab

theorem State.Kept.updField {f : Nat} {g : FieldSt → FieldSt} (h : s.Kept Q) : (s.updField f g).Kept Q := h.updFab

theorem State.Kept.returnCredit {k : Tok} (h : s.Kept Q) : (s.returnCredit k).Kept Q := by
  unfold State.returnCredit
  split
  · exact h
  · exact .ite h.updFab h.free.oslSubmit

theorem State.Kept.matchMore {t n : Nat} (h : s.Kept Q) : (s.matchMore t n).Kept Q := by
  induction n generalizing s with
  | zero => exact h
  | succ n ih =>
    refine .ite h ?_
    split
    · exact h
    · split
      · exact h
      · exact ih h.updTile.returnCredit

theorem State.Kept.dequeue {t q : Nat} {ks : List Tok} (h : s.Kept Q) :
    (s.dequeue t q ks).Kept Q := (h.updTile.foldl fun _ _ h => .ite h h.returnCredit).matchMore

theorem State.Kept.sendFlit {t k : Nat} {kind : PktKind} {tag : Nat} {f : Flit} (h : s.Kept Q) :
    (s.sendFlit t k kind tag f).Kept Q := .ite h.updFab h.updFab.updTile

theorem State.Kept.takeSources {t i : Nat} {tag : Option Nat} (h : s.Kept Q) : (s.takeSources t i tag).Kept Q :=
  h.foldl fun _ _ h => h.dequeue

theorem State.Kept.writeDst {t i : Nat} {tag : Option Nat} {quad : Bool} {fs : List Flit} (h : s.Kept Q) :
    (s.writeDst t i tag quad fs).Kept Q := .ite h.updTile (.ite (h.foldl fun _ _ h => h.sendFlit) (.ite h.updTile h))

theorem State.Kept.macw {t i : Nat} (h : s.Kept Q) : (s.macw t i).Kept Q := h.addCnt.updTile

theorem State.Kept.runSet {t : Nat} (h : s.Kept Q) : (s.runSet t).Kept Q :=
  .ite ((h.foldl fun _ _ h => h.updTile).foldl fun _ _ h => h.updTile) h

theorem State.Kept.feedVec {t i : Nat} {tag : Option Nat} (h : s.Kept Q) : OptKept Q (s.feedVec t i tag) := by
  unfold State.feedVec
  refine .ite ?_ .none
  refine .ite (.some h.takeSources.addCnt.updTile) ?_
  refine .ite ?_ (.some h.takeSources.addCnt)
  refine .some ?_
  split
  · exact h.takeSources.addCnt.updTile.runSet.foldl fun _ _ h => h.sendFlit
  · exact h.takeSources.addCnt.updTile.runSet

theorem State.Kept.drain {t instr i : Nat} {tag : Option Nat} (h : s.Kept Q) :
    OptKept Q (s.drain t instr i tag) :=
  .ite (.ite (.some h.takeSources.addCnt.updTile.free.free.writeDst) (.some h.takeSources.addCnt.updTile.writeDst)) .none

theorem State.Kept.oldLanes {t i : Nat} (h : s.Kept Q) : (s.oldLanes t i).2.Kept Q :=
  .ite_snd h (.ite_snd h (.ite_snd h h.free.free.free.free))

theorem State.Kept.vop {t instr i : Nat} {tag : Option Nat} (h : s.Kept Q) :
    OptKept Q (s.vop t instr i tag) :=
  .ite (.ite (.some (.writeDst (.updTile (.ite h.oldLanes.takeSources.bump h.oldLanes.takeSources)))) (.some
      h.oldLanes.takeSources.writeDst)) .none

theorem State.Kept.lut {t i : Nat} {tag : Option Nat} (h : s.Kept Q) : OptKept Q (s.lut t i tag) :=
  .ite (.some h.oldLanes.takeSources.writeDst) .none

theorem State.Kept.mov {t i : Nat} {tag : Option Nat} (h : s.Kept Q) : OptKept Q (s.mov t i tag) :=
  .ite (.some h.takeSources.writeDst) .none

theorem State.Kept.sendReq {t i : Nat} {tag : Option Nat} {write : Option Flit} (h : s.Kept Q) : (s.sendReq t i tag write).Kept Q := by
  unfold State.sendReq
  exact h.updFab

theorem State.Kept.lds {t i : Nat} {tag : Option Nat} (h : s.Kept Q) : (s.lds t i tag).Kept Q := h.takeSources.sendReq

theorem State.Kept.spillCount {p slot off : Nat} (h : s.Kept Q) : (s.spillCount p slot off).Kept Q := .ite h.addCnt h

theorem State.Kept.sts {t i : Nat} {tag : Option Nat} (h : s.Kept Q) :
    (s.sts t i tag).Kept Q := .ite h.takeSources.bump (.ite h.takeSources h.takeSources.sendReq)

theorem State.Kept.fire {t instr i : Nat} {tag : Option Nat} (h : s.Kept Q) : OptKept Q (s.fire t instr i tag) := by
  unfold State.fire
  split
  · exact .some h.takeSources
  · exact .some h.macw.takeSources
  · exact h.feedVec
  · exact h.drain
  · exact h.vop
  · exact h.lut
  · exact h.mov
  · exact .some h.lds
  · exact .some h.sts
  · exact .ite (.some h.takeSources.sendFlit) .none
  · exact .some h.takeSources
  · exact .some h.takeSources.updTile
  · exact .none

theorem State.Kept.handshake {t : Nat} (h : s.Kept Q) : (s.handshake t).Kept Q := h.updTile

theorem State.Kept.countTokens {t n : Nat} (h : s.Kept Q) : (s.countTokens t n).Kept Q := .ite h.handshake.addCnt.addCnt h.handshake.addCnt

theorem State.Kept.fireOp {t op : Nat} (h : s.Kept Q) : (s.fireOp t op).Kept Q := by
  unfold State.fireOp
  refine .ite h ?_
  refine .ite ?_ ?_
  · split
    · exact h
    · refine .ite h ?_
      split
      dsimp only
      split
      · exact h
      · exact ((State.Kept.of_snd (.ite_snd h h.free) ‹_›).fire _ ‹_›).countTokens
  · refine .ite ?_ h
    split
    · exact h
    · exact (h.fire _ ‹_›).updTile.countTokens

/-! ### Resources -/

theorem State.Kept.updRep {f : RepSt → RepSt} (h : s.Kept Q) : (s.updRep f).Kept Q := h.parts

theorem State.Kept.updRepField {f : Nat} {g : RepField → RepField} (h : s.Kept Q) : (s.updRepField f g).Kept Q := h.updRep

theorem State.Kept.markApplied {f : Nat} {c : Change} {atBoundary : Option (Nat × Bool)} (h : s.Kept Q) :
    (s.markApplied f c atBoundary).Kept Q := h.updField

theorem State.Kept.applyRole {f : Nat} (h : s.Kept Q) : (s.applyRole f).Kept Q := by
  unfold State.applyRole
  split
  · exact h
  · split
    · exact .ite h.updField.markApplied h
    · exact h

theorem State.Kept.commitProgress {f : Nat} (h : s.Kept Q) : (s.commitProgress f).Kept Q := by
  unfold State.commitProgress
  dsimp only
  split
  · exact h.applyRole.applyRole
  · exact .ite h.applyRole.applyRole.updField.bump h.applyRole.applyRole

theorem State.Kept.issue {f : Nat} {c : Change} (h : s.Kept Q) : (s.issue f c).Kept Q := h.updField

theorem State.Kept.evictTo {h level : Nat} (hs : s.Kept Q) : (s.evictTo h level).Kept Q := by
  unfold State.evictTo
  split
  · exact hs
  · exact .issue (.updModel (.ite hs.updField.commitProgress hs))

theorem State.Kept.takeVictim {asks : Nat} {fields : List Nat} {cnt : Nat} (h : s.Kept Q) : (s.takeVictim asks fields cnt).2.Kept Q := by
  unfold State.takeVictim
  split
  · exact h
  · exact h.evictTo.bump

theorem State.Kept.revokeGuard {k : Nat} (h : s.Kept Q) : (s.revokeGuard k).Kept Q := h.updBay

theorem State.Kept.revokeLines {h : Nat} (hs : s.Kept Q) : (s.revokeLines h).Kept Q := hs.revokeGuard

theorem State.Kept.revokeImage {h : Nat} (hs : s.Kept Q) : (s.revokeImage h).Kept Q := hs.revokeGuard

theorem State.Kept.revokeBoth {h : Nat} (hs : s.Kept Q) : (s.revokeBoth h).Kept Q := hs.revokeLines.revokeImage

theorem State.Kept.demote {h : Nat} (hs : s.Kept Q) : (s.demote h).Kept Q := .ite hs.revokeLines.updModel (.ite hs.revokeImage.updModel hs)

theorem State.Kept.freeLines {asks need n : Nat} (h : s.Kept Q) : (s.freeLines asks need n).2.Kept Q := by
  induction n generalizing s with
  | zero => exact h
  | succ n ih =>
    refine .ite_snd h ?_
    split
    · exact h
    · exact ih h.demote

theorem State.Kept.freePages {asks need n : Nat} (h : s.Kept Q) : (s.freePages asks need n).2.Kept Q := by
  induction n generalizing s with
  | zero => exact h
  | succ n ih =>
    refine .ite_snd h ?_
    split
    · exact h
    · exact ih h.demote

theorem State.Kept.powerFor {f : Nat} (h : s.Kept Q) : (s.powerFor f).2.Kept Q := .ite_snd h.parts h

theorem State.Kept.placeSlice {hd p h w : Nat} (hs : s.Kept Q) :
    (s.placeSlice hd p h w).2.Kept Q :=
  .ite_snd hs (.ite_snd hs.powerFor (.ite_snd hs (.ite_snd hs (hs.foldl fun _ _ h => h.evictTo.bump))))

theorem State.Kept.overLimit {hd : Nat} {fields : List Nat} (h : s.Kept Q) : (s.overLimit hd fields).2.Kept Q := .ite_snd h h.takeVictim

theorem State.Kept.searchPlace {hd : Nat} {fields : List Nat} {h w : Nat} (hs : s.Kept Q) : (s.searchPlace hd fields h w).2.Kept Q := by
  unfold State.searchPlace
  split
  · exact .ite_snd hs.overLimit hs.powerFor
  · refine .ite_snd hs ?_
    extract_lets _ frag
    split
    next ok t e =>
    have ht : t.Kept Q := .of_snd (.ite_snd hs.takeVictim hs.takeVictim) e
    exact .ite_snd (.ite ht.bump ht) (.ite_snd ht.takeVictim ht)

theorem State.Kept.findPlace {hd : Nat} {hdr : List Byte} (h : s.Kept Q) : (s.findPlace hd hdr).2.Kept Q := by
  unfold State.findPlace
  split
  · exact h.placeSlice
  · exact .ite_snd h.overLimit h.searchPlace

theorem State.Kept.leasePlot {hd f x y : Nat} {img hdr : List Byte} {gen : Nat} (h : s.Kept Q) :
    (s.leasePlot hd f x y img hdr gen).2.Kept Q := h.freshId.free.updPlot.foldl fun _ _ h => h.updTile

theorem State.Kept.leaseRegions {p : Nat} {img : List Byte} (h : s.Kept Q) : (s.leaseRegions p img).Kept Q := h.updPlot

theorem State.Kept.writeStore {t w : Nat} {fs : List Flit} (h : s.Kept Q) : (s.writeStore t w fs).Kept Q := h.updTile

theorem State.Kept.writeWeights {x0 y0 : Nat} {img : List Byte} {n off stop : Nat} (h : s.Kept Q) :
    (s.writeWeights x0 y0 img n off stop).Kept Q := by
  induction n generalizing s off stop with
  | zero => exact h
  | succ n ih => exact .ite h (ih h.writeStore)

theorem State.Kept.loadWeights {p : Nat} {img : List Byte} (h : s.Kept Q) : (s.loadWeights p img).Kept Q := h.writeWeights

theorem State.Kept.writeCal {p : Nat} {img b : List Byte} {bank : Nat} (h : s.Kept Q) :
    (s.writeCal p img b bank).Kept Q := h.updPlot.foldl fun _ _ h => h.writeStore

theorem State.Kept.copyCal {p : Nat} {img : List Byte} {src dst : Nat} (h : s.Kept Q) :
    (s.copyCal p img src dst).Kept Q := h.foldl fun _ _ h => h.writeStore

theorem State.Kept.writeBanks {p h : Nat} {img : List Byte} (hs : s.Kept Q) :
    (s.writeBanks p h img).Kept Q := hs.foldl fun _ _ h => h.writeCal.writeCal

theorem State.Kept.bayDone {src : CmdSrc} {status : Nat} (h : s.Kept Q) : (s.bayDone src status).Kept Q := by
  unfold State.bayDone
  split
  · exact h.updBay.finishCmd
  · exact h.updBay.completeDesc

theorem State.Kept.endJoin {h status : Nat} (hs : s.Kept Q) : (s.endJoin h status).Kept Q := hs.updModel.foldl fun _ _ h => h.bayDone

/-! ### Plots -/

theorem State.Kept.flipTile {t : Nat} (h : s.Kept Q) : (s.flipTile t).Kept Q := by
  unfold State.flipTile
  dsimp only
  split
  · exact h
  · exact h.updTile

theorem State.Kept.tryFlips {p : Nat} (h : s.Kept Q) : (s.tryFlips p).Kept Q := h.foldl fun _ _ h => .ite h.flipTile h

theorem State.Kept.loadContexts {pi : Nat} (h : s.Kept Q) :
    (s.loadContexts pi).Kept Q := h.foldl fun _ _ h => .ite h (.ite h.updTile h.bump.setReg.updPlot)

theorem State.Kept.startSection {pi sec : Nat} {wide : Bool} (h : s.Kept Q) : (s.startSection pi sec wide).Kept Q := h.updPlot.tryFlips

theorem State.Kept.writeSlot {pi : Nat} {b : Back} {fs : List Flit} (h : s.Kept Q) : (s.writeSlot pi b fs).Kept Q := by
  unfold State.writeSlot
  refine .ite h.fenceSpan ?_
  dsimp only
  split
  · exact .ite h.updSlot h.updSlot.touch
  · exact h.updSlot

theorem State.Kept.releaseHeld {pi : Nat} (h : s.Kept Q) : (s.releaseHeld pi).Kept Q := by
  unfold State.releaseHeld
  refine h.updPlot.foldl (fun _ _ h => ?_)
  split
  · exact h.spanResult
  · exact h.writeSlot

theorem State.Kept.silentEnd {sp : Span} (h : s.Kept Q) : (s.silentEnd sp).Kept Q := .ite h h.segDiscard

theorem State.Kept.rowDone {pi : Nat} (h : s.Kept Q) : (s.rowDone pi).Kept Q := by
  unfold State.rowDone
  dsimp only
  split
  · exact h
  · refine .updRow ?_
    split
    · split
      · exact .ite h (h.foldl fun _ _ h => h.silentEnd)
      · exact h
    · refine .parts ?_
      split
      · exact .ite h (h.foldl fun _ _ h => h.silentEnd)
      · exact h

theorem State.Kept.abortPass {prog : Option Nat} {r : Nat} (h : s.Kept Q) :
    (s.abortPass prog r).Kept Q := .ite h.abortRow (h.foldl fun _ _ h => h.silentEnd).updRow

theorem State.Kept.abandonPass {pi : Nat} (h : s.Kept Q) : (s.abandonPass pi).Kept Q := by
  unfold State.abandonPass
  refine .updPlot ?_
  refine .foldl ?_ (fun _ _ h => h.updTile)
  refine .updFab ?_
  refine .foldl ?_ (fun _ _ h => h.abortRow)
  split
  · exact .ite h.abortPass h
  · exact h

theorem State.Kept.updNum {f : NumSt → NumSt} (h : s.Kept Q) : (s.updNum f).Kept Q := h.parts

theorem State.Kept.countReport {p : PlotSt} {r : TileStat} (h : s.Kept Q) :
    (s.countReport p r).Kept Q := .ite h.addCnt.addCnt.addCnt.addCnt h.addCnt.addCnt.addCnt.addCnt.updNum

theorem State.Kept.countPass {p : PlotSt} {widened : Bool} (h : s.Kept Q) : (s.countPass p widened).Kept Q := h.updNum

theorem State.Kept.sendStats {epoch handle n : Nat} {final : Bool} (h : s.Kept Q) : (s.sendStats epoch handle n final).Kept Q := by
  have hd : CopyKept Q @State.deliverCopy := fun h => h.deliverCopy
  unfold State.sendStats
  generalize @State.deliverCopy = copy at hd ⊢
  revert copy
  refine id fun copy hd => ?_
  exact h.foldl fun _ _ h => (hd h).bumpIf.updNum

theorem State.Kept.revokePlot {pi : Nat} (h : s.Kept Q) : (s.revokePlot pi).Kept Q := .ite h h.updBay.bump

theorem State.Kept.remapRemove {pi : Nat} (h : s.Kept Q) : (s.remapRemove pi).Kept Q :=
  .ite (.ite h.revokePlot.bump (.ite h.evictTo.bump h)) h

theorem State.Kept.abortQueue {h : Nat} (hs : s.Kept Q) : (s.abortQueue h).Kept Q := hs.updModel.foldl fun _ _ h => h.abortRow

theorem State.Kept.pageEnds {h : Nat} {st : CatSt} {status : Nat} (hs : s.Kept Q) : (s.pageEnds h st status).Kept Q :=
  hs.updBay.updModel.endJoin

theorem State.Kept.readImage {h : Nat} (hs : s.Kept Q) : (s.readImage h).Kept Q := .ite hs.hostReads hs

theorem State.Kept.attemptPlace {h : Nat} (hs : s.Kept Q) : (s.attemptPlace h).Kept Q := by
  unfold State.attemptPlace
  dsimp only
  split
  · exact .ite (hs.findPlace.of_snd ‹_›).leasePlot.updModel.updBay.readImage (hs.findPlace.of_snd ‹_›).leasePlot.updModel.updBay
  · exact (hs.findPlace.of_snd ‹_›).updModel
  · exact (hs.findPlace.of_snd ‹_›).updModel
  · exact (hs.findPlace.of_snd ‹_›).pageEnds

theorem State.Kept.attemptShadow {h : Nat} (hs : s.Kept Q) : (s.attemptShadow h).Kept Q := by
  unfold State.attemptShadow
  split
  · exact hs
  · split
    · exact (hs.findPlace.of_snd ‹_›).leasePlot.updModel.updBay
    · exact (hs.findPlace.of_snd ‹_›).updModel
    · exact (hs.findPlace.of_snd ‹_›).updModel
    · exact (hs.findPlace.of_snd ‹_›).updModel.updBay

theorem State.Kept.retryPlaces (h : s.Kept Q) : s.retryPlaces.Kept Q := by
  unfold State.retryPlaces
  refine h.foldl (fun _ _ h => ?_)
  refine .ite h.attemptPlace ?_
  refine .ite h.updModel ?_
  split
  · exact .ite h.attemptShadow (.ite h.updModel h)
  · exact h

theorem State.Kept.completeReplace {h : Nat} (hs : s.Kept Q) : (s.completeReplace h).Kept Q := by
  unfold State.completeReplace
  split
  · exact hs
  · exact .ite hs.updModel hs.revokeBoth.updModel

theorem State.Kept.clearPlot {p : Nat} (h : s.Kept Q) : (s.clearPlot p).Kept Q := h.updPlot.foldl fun _ _ h => h.updTile

theorem State.Kept.replaceLines {h : Nat} {r : NewImage} (hs : s.Kept Q) :
    (s.replaceLines h r).2.Kept Q := .ite_snd hs.freeLines (.ite_snd hs.freeLines hs)

theorem State.Kept.installImage {h : Nat} {r : NewImage} (hs : s.Kept Q) : (s.installImage h r).Kept Q := by
  unfold State.installImage
  dsimp only
  split
  · exact .ite hs.updModel.updModel.loadWeights.issue hs.updModel.updModel.updBay
  · exact hs.updModel.updModel.completeReplace
  · exact hs.updModel.clearPlot.updModel.completeReplace.updBay
  · exact hs.updModel.completeReplace

theorem State.Kept.nextReplace {h : Nat} (hs : s.Kept Q) : (s.nextReplace h).Kept Q := by
  unfold State.nextReplace
  split
  · exact .ite hs.replaceLines.updModel.installImage hs.replaceLines
  · exact hs

theorem State.Kept.settleLevel {h level : Nat} (hs : s.Kept Q) :
    (s.settleLevel h level).Kept Q := .updModel (.ite hs (.ite hs.revokeLines hs.revokeBoth))

theorem State.Kept.endLeavers {h : Nat} (hs : s.Kept Q) : (s.endLeavers h).Kept Q := hs.updModel.foldl fun _ _ h => h.bayDone

theorem State.Kept.settle {h level : Nat} (hs : s.Kept Q) :
    (s.settle h level).Kept Q := .ite hs.settleLevel.endLeavers hs.settleLevel.endLeavers.startPage

theorem State.Kept.evictStats {h n : Nat} (hs : s.Kept Q) : (s.evictStats h n).Kept Q := hs.foldl fun _ _ h => h.sendStats

theorem State.Kept.modelLeaves {h pi n : Nat} (hs : s.Kept Q) : (s.modelLeaves h pi n).Kept Q := by
  unfold State.modelLeaves
  refine .ite ?_ ?_
  · split
    · split
      · exact .ite hs.updModel.updModel.completeReplace.endLeavers.nextReplace.remapRemove
          hs.updModel.evictStats.clearPlot.completeReplace.settle.nextReplace
      · exact hs.updModel.evictStats.updBay.completeReplace.settle.nextReplace
    · exact .ite hs.updModel.updModel.updBay (.ite hs.updModel.evictStats.revokeBoth.abortQueue.endJoin.endLeavers.updModel
        hs.updModel.evictStats.settle)
  · split
    · exact .ite hs.updModel.updBay hs
    · exact hs

theorem State.Kept.freePlot {pi : Nat} (h : s.Kept Q) :
    (s.freePlot pi).Kept Q :=
  .ite h ((h.abandonPass.foldl fun _ _ h => h.updTile).updFab.modelLeaves.retryPlaces.foldl fun _ _ h => h.nextReplace)

theorem State.Kept.dropChanges {f pi : Nat} (h : s.Kept Q) : (s.dropChanges f pi).Kept Q := h.updField.commitProgress

theorem State.Kept.addApplied {pi : Nat} (h : s.Kept Q) : (s.addApplied pi).Kept Q := by
  unfold State.addApplied
  refine .ite h.updPlot.remapRemove ?_
  split
  · refine .ite ?_ h.updPlot
    split
    · exact .ite h.updPlot.updModel.bump.updPlot h.updPlot.updModel.bump.issue
    · exact h.updPlot.updModel.bump.updModel.completeReplace.nextReplace.remapRemove
  · exact .ite h.updPlot.updModel.bump.endJoin.nextReplace.remapRemove h.updPlot

theorem State.Kept.orderChange {f : Nat} {c : Change} (h : s.Kept Q) : (s.orderChange f c).Kept Q := by
  unfold State.orderChange
  split
  · exact .ite h.addApplied.markApplied h.markApplied
  · exact .ite h.markApplied (.ite h.updPlot h.freePlot.markApplied)
  · refine .ite h.markApplied ?_
    split
    · exact .ite h.markApplied h.updPlot
    · exact h.markApplied
  · exact .ite h h.updField.markApplied

theorem State.Kept.orderCommit {f : Nat} (h : s.Kept Q) : (s.orderCommit f).Kept Q := by
  unfold State.orderCommit
  split
  · exact h
  · exact (h.updField.foldl fun _ _ h => h.orderChange).commitProgress

theorem State.Kept.passEnd {pi : Nat} (h : s.Kept Q) : (s.passEnd pi).Kept Q := by
  unfold State.passEnd
  extract_lets p freed counted stamped retired
  have hc : counted.Kept Q := h.bump.rowDone.updPlot
  have hs : stamped.Kept Q := .ite hc.updModel hc
  have hr : retired.Kept Q := .ite hs.updPlot.issue hs
  split
  · exact hr.remapRemove
  · exact hr.updPlot.completeReplace.markApplied.commitProgress.nextReplace.remapRemove

theorem State.Kept.advancePass {pi : Nat} (h : s.Kept Q) : (s.advancePass pi).Kept Q := .ite h.startSection h.passEnd

theorem State.Kept.standSection {pi : Nat} (h : s.Kept Q) : (s.standSection pi).Kept Q := by
  unfold State.standSection
  exact h.bumpIf.bumpIf.releaseHeld.advancePass

theorem State.Kept.secBoundary {pi : Nat} (h : s.Kept Q) : (s.secBoundary pi).Kept Q := by
  unfold State.secBoundary
  extract_lets p counted narrow wide noted last stood freed
  have hn : narrow.Kept Q := .ite h.bump h.bump.countPass
  have hw : wide.Kept Q := .ite hn.countPass.bump hn
  have hs : stood.Kept Q := .ite hw.updPlot.standSection hw.updPlot
  exact .ite hs.markApplied.freePlot.commitProgress (.ite hw.updPlot.updPlot hw.updPlot.standSection)

theorem State.Kept.widen {pi : Nat} (h : s.Kept Q) : (s.widen pi).Kept Q := (h.bump.countPass.updFab.foldl fun _ _ h => h.updTile).updPlot

theorem OutKept.sectionEndReport {field : Fin 4} (h : s.Kept Q) : OutKept Q (execSectionEndReport field s) := by
  unfold execSectionEndReport
  refine .next ?_
  split
  · exact h
  · exact .ite h.updField.countReport.updPlot.secBoundary h.updField.countReport.updPlot

theorem State.Kept.moveModel {fields : List Nat} {h : Nat} (hs : s.Kept Q) : (s.moveModel fields h).Kept Q := .ite hs hs.updModel.updBay

theorem State.Kept.vacateStep {f : Nat} (h : s.Kept Q) :
    (s.vacateStep f).Kept Q :=
  .ite h (.ite (h.foldl fun _ _ h => h.moveModel) (h.foldl fun _ _ h => .ite h.revokePlot (.ite h.evictTo (.ite h h.issue))).updField.issue)

/-! ### Epochs -/

theorem State.Kept.requestEpoch (h : s.Kept Q) : s.requestEpoch.Kept Q := .ite (.ite h.stick.bump h.updNum) h.updNum

theorem State.Kept.installPlot {pi new : Nat} (h : s.Kept Q) : (s.installPlot pi new).Kept Q := .ite h.writeCal h.copyCal

theorem OutKept.epochRetire (h : s.Kept Q) : OutKept Q (execEpochRetire s) := by
  unfold execEpochRetire
  refine .next ?_
  split
  · exact h
  · exact .ite h ((h.foldl fun _ _ h => h.sendStats).foldl fun _ _ h => h.updModel).updNum.bump

theorem State.Kept.freeRegs {l : List Nat} (h : s.Kept Q) : (s.freeRegs l).Kept Q := h.foldl fun _ _ h => h.free.setReg

theorem State.Kept.statRead (h : s.Kept Q) : s.statRead.Kept Q := by
  unfold State.statRead
  split
  · exact h.freeRegs.free.free.setFld.setFld.setFld.setFld
  · exact h.setReg.setReg.setReg.setReg.setReg.setReg.setFld.setFld.setFld.setFld

theorem State.Kept.statClear (h : s.Kept Q) : s.statClear.Kept Q := by
  unfold State.statClear
  split
  · exact h
  · exact h.updNum

/-! ### Jobs -/

theorem State.Kept.updAdp {f : AdpSt → AdpSt} (h : s.Kept Q) : (s.updAdp f).Kept Q := h.parts

theorem State.Kept.updJob {n : Nat} {f : Job → Job} (h : s.Kept Q) : (s.updJob n f).Kept Q := h.updAdp

theorem State.Kept.writeGroup {pi : Nat} {j : Job} {g : Nat} {e : AdpGroup} (h : s.Kept Q) :
    (s.writeGroup pi j g e).Kept Q := h.foldl fun _ _ h => h.writeStore.writeStore

theorem State.Kept.writeServing {pi : Nat} {j : Job} (h : s.Kept Q) : (s.writeServing pi j).Kept Q := by
  unfold State.writeServing
  refine h.foldl (fun _ _ h => ?_)
  split
  · exact h
  · exact h.writeGroup

theorem State.Kept.addPosition {n row seg pos : Nat} {o : Option Nat} (h : s.Kept Q) : (s.addPosition n row seg pos o).Kept Q := by
  unfold State.addPosition
  split
  · exact .ite h.updRow h.updRow.bumpIf
  · exact h.free.updRow

theorem State.Kept.buildRow {n k : Nat} {r : AdpRow} (h : s.Kept Q) :
    (s.buildRow n k r).Kept Q := (h.freshId.freshId.updSeg.updRow.foldl fun _ _ h => h.addPosition).updJob

theorem State.Kept.buildRows {n : Nat} (h : s.Kept Q) : (s.buildRows n).Kept Q := by
  unfold State.buildRows
  refine h.foldl (fun _ _ h => ?_)
  split
  · exact h
  · exact .ite h.buildRow h

theorem State.Kept.askSample {j : Job} {i : Nat} (h : s.Kept Q) : (s.askSample j i).Kept Q := h.hostReads

theorem State.Kept.beginBatch {n : Nat} (h : s.Kept Q) :
    (s.beginBatch n).Kept Q := .buildRows (.foldl (.updJob (.ite h.bumpIf h.bumpIf.addCnt)) fun _ _ h => h.askSample)

theorem State.Kept.dropBatch {n : Nat} (h : s.Kept Q) : (s.dropBatch n).Kept Q := by
  unfold State.dropBatch
  refine .updJob ?_
  refine (h.foldl fun _ _ h => .ite h.abandonPass h).foldl (fun _ _ h => ?_)
  split
  · exact h.updRow
  · exact h

theorem State.Kept.revokeGrant {f cause : Nat} (h : s.Kept Q) : (s.revokeGrant f cause).Kept Q := .ite h h.updBay

theorem State.Kept.revokeAll {n : Nat} (h : s.Kept Q) : (s.revokeAll n).Kept Q := h.foldl fun _ _ h => h.revokeGrant

theorem State.Kept.rerunBatch {n : Nat} (h : s.Kept Q) :
    (s.rerunBatch n).Kept Q := .ite h.dropBatch.beginBatch (.ite h.dropBatch.updJob.revokeAll h.dropBatch)

theorem State.Kept.releaseField {n f : Nat} (h : s.Kept Q) :
    (s.releaseField n f).Kept Q :=
  .updJob (.updBay (.ite (h.foldl fun _ _ h => .ite h.issue h.revokePlot).updField (h.foldl fun _ _ h => .ite h.issue h.revokePlot).issue))

theorem State.Kept.endRun {n cause : Nat} (h : s.Kept Q) : (s.endRun n cause).Kept Q :=
  (h.dropBatch.foldl fun _ _ h => h.releaseField).updJob

theorem State.Kept.jobFaults {h : Nat} (hs : s.Kept Q) : (s.jobFaults h).Kept Q := hs.foldl fun _ _ h => .ite h.endRun h

/-! ### Bay -/

theorem State.Kept.notePop {f : Nat} (h : s.Kept Q) : (s.notePop f).Kept Q := h.parts

theorem State.Kept.updSpan {r k : Nat} {f : Span → Span} (h : s.Kept Q) : (s.updSpan r k f).Kept Q := h.updRow

theorem State.Kept.deadSpan {prog : Option Nat} {sp : Span} {rstat : Nat} (h : s.Kept Q) : (s.deadSpan prog sp rstat).Kept Q := by
  unfold State.deadSpan
  split
  · exact h.spanFails
  · exact .ite (.spanFails (.ite h h.noticeSpan)) (.silentEnd (.ite h h.noticeSpan))

theorem State.Kept.voidHere {sp : Span} (h : s.Kept Q) : (s.voidHere sp).Kept Q := .ite h.sendResult (.ite h h.updErp)

theorem State.Kept.voidSpan {prog : Option Nat} {sp : Span} (h : s.Kept Q) : (s.voidSpan prog sp).Kept Q := by
  unfold State.voidSpan
  split
  · exact h.voidHere
  · exact .ite h.noticeSpan.voidHere (.ite h.noticeSpan h.noticeSpan.segDiscard)

theorem State.Kept.checkSpan {pi r k : Nat} (h : s.Kept Q) : (s.checkSpan pi r k).Kept Q := by
  unfold State.checkSpan
  split
  · exact h
  · refine .ite h.updSpan.silentEnd ?_
    refine .ite h.bumpIf.bumpIf.updSpan.voidSpan ?_
    refine .ite h.bump.updSpan.deadSpan ?_
    refine .ite h.bump.updSpan.deadSpan ?_
    split
    · exact .ite h.updSpan.updSeg h.updSpan.updSeg.noticeSpan
    · exact h.updSpan.updSeg

theorem State.Kept.sendPassNotices {p passKey epoch : Nat} (h : s.Kept Q) :
    (s.sendPassNotices p passKey epoch).Kept Q := h.foldl fun _ _ h => h.oslSubmit

theorem State.Kept.beginPass {pi : Nat} {row : Option Nat} {epoch passKey : Nat} {expect : List (Nat × Nat)} (h : s.Kept Q) :
    (s.beginPass pi row epoch passKey expect).Kept Q := h.updFab.updPlot.startSection

theorem State.Kept.dispatch {pi r : Nat} (h : s.Kept Q) : (s.dispatch pi r).Kept Q := by
  unfold State.dispatch
  dsimp only
  split
  · exact (h.updRow.foldl fun _ _ h => h.checkSpan).bump.beginPass
  · exact (h.updRow.foldl fun _ _ h => h.checkSpan).bump.sendPassNotices.beginPass

theorem State.Kept.popServing {h : Nat} (hs : s.Kept Q) : OptKept Q (s.popServing h) := by
  unfold State.popServing
  split
  · exact .none
  · refine .ite ?_ .none
    split
    · exact .none
    · exact .some (.dispatch (.ite hs.updModel hs.updModel.notePop))

theorem State.Kept.writeLabels {pi : Nat} {j : Job} {samples : List (Option Nat)} (h : s.Kept Q) :
    (s.writeLabels pi j samples).Kept Q := h.foldl fun _ _ h => h.updFab

theorem State.Kept.popJob {hd : Nat} (h : s.Kept Q) : OptKept Q (s.popJob hd) := by
  refine .findSome? fun n => .ite ?_ .none
  split
  · split
    · exact .none
    · exact .some h.writeLabels.updRow.notePop.bump.beginPass
  · exact .none

theorem OutKept.rowPop {handle : Nat} (h : s.Kept Q) : OutKept Q (execRowPop handle s) := by
  unfold execRowPop
  refine .next ?_
  refine h.whenRuns (fun _ h => ?_)
  refine .ite ?_ h
  split
  · exact h.popServing _ ‹_›
  · exact OptKept.getD h.popJob h

theorem State.Kept.pageWaits {h : Nat} (hs : s.Kept Q) : (s.pageWaits h).Kept Q := by
  unfold State.pageWaits
  split
  split <;> exact (hs.takeVictim.of_snd ‹_›).updModel

theorem State.Kept.beginPage {h : Nat} (hs : s.Kept Q) : (s.beginPage h).Kept Q := by
  unfold State.beginPage
  extract_lets m n
  split
  next a t ea =>
  have ht : t.Kept Q := .of_snd (.ite_snd hs.freePages hs) ea
  split
  next b u eb =>
  have hu : u.Kept Q := .of_snd (.ite_snd ht ht.freeLines) eb
  exact .ite hu.attemptPlace hu.pageWaits

theorem State.Kept.beginShadow {h : Nat} {r : NewImage} (hs : s.Kept Q) : (s.beginShadow h r).Kept Q := by
  unfold State.beginShadow
  split
  next ok t e =>
  have ht : t.Kept Q := .of_snd (.ite_snd hs hs.freeLines) e
  refine .ite ht.pageWaits ?_
  dsimp only
  split
  · exact .ite ht.attemptShadow.updModel.updBay.evictTo ht.attemptShadow
  · exact ht.attemptShadow

theorem State.Kept.beginReplica {h : Nat} (hs : s.Kept Q) : (s.beginReplica h).Kept Q := by
  unfold State.beginReplica
  dsimp only
  split
  · exact hs
  · refine .ite (.ite (.ite hs.freePages.updModel.readImage hs.freePages) hs) ?_
    split
    · exact hs
    · exact .ite hs.powerFor.leasePlot.updPlot.parts hs.powerFor

theorem OutKept.pageInStart {handle : Nat} (h : s.Kept Q) : OutKept Q (execPageInStart handle s) := by
  unfold execPageInStart
  refine .next ?_
  refine h.whenRuns (fun _ h => ?_)
  refine .ite h ?_
  refine .ite ?_ h.beginReplica
  split
  · exact h.beginShadow
  · exact h.beginPage

theorem State.Kept.faultModel {h code : Nat} (hs : s.Kept Q) : (s.faultModel h code).Kept Q := by
  unfold State.faultModel
  refine .jobFaults ?_
  refine .retryPlaces ?_
  refine .pageEnds ?_
  refine .updModel ?_
  refine .revokeBoth ?_
  refine .abortQueue ?_
  split
  · exact hs.clearPlot
  · exact hs

theorem State.Kept.copyFails {h : Nat} (hs : s.Kept Q) : (s.copyFails h).Kept Q := by
  unfold State.copyFails
  refine .retryPlaces ?_
  refine .pageEnds ?_
  refine .updModel ?_
  refine .revokeBoth ?_
  refine .bumpFld ?_
  refine .abortQueue ?_
  split
  · exact hs.clearPlot
  · exact hs

theorem OutKept.imageCopyDone {handle : Nat} {image : HostData} (h : s.Kept Q) : OutKept Q (execImageCopyDone handle image s) := by
  unfold execImageCopyDone
  refine .next ?_
  refine h.whenRuns (fun _ h => ?_)
  refine .ite ?_ (.ite (.ite h.updModel h.bumpFld.updModel) h)
  split
  · exact .ite h.updModel h.copyFails
  · exact h.copyFails

theorem OutKept.digestVerdict {handle : Nat} (h : s.Kept Q) : OutKept Q (execDigestVerdict handle s) := by
  unfold execDigestVerdict
  refine .next ?_
  refine h.whenRuns (fun _ h => ?_)
  refine .ite ?_ (.ite (.ite h.updModel h.bump.faultModel) h)
  refine .ite ?_ h.bump.faultModel
  refine .updModel ?_
  split
  · exact h.updPlot
  · exact h

theorem State.Kept.loadRefused {h : Nat} {e : Nat × Nat} (hs : s.Kept Q) : (s.loadRefused h e).Kept Q := hs.setReg.bump

theorem State.Kept.finishLoads {p h : Nat} {img : List Byte} (hs : s.Kept Q) :
    (s.finishLoads p h img).Kept Q := hs.loadWeights.leaseRegions.writeBanks.issue

theorem State.Kept.pageFenced {h p : Nat} (hs : s.Kept Q) : (s.pageFenced h p).Kept Q := hs.clearPlot.updModel.updBay

theorem State.Kept.replicaRefused {h p : Nat} {e : Nat × Nat} (hs : s.Kept Q) :
    (s.replicaRefused h p e).Kept Q := .ite hs.loadRefused.bumpFld.clearPlot.jobFaults hs.loadRefused.bumpFld.clearPlot.faultModel

theorem OutKept.pageInLoadsDone {handle : Nat} (h : s.Kept Q) : OutKept Q (execPageInLoadsDone handle s) := by
  unfold execPageInLoadsDone
  refine .next ?_
  refine h.whenRuns (fun _ h => ?_)
  dsimp only
  split
  · refine .ite h.pageFenced ?_
    split
    · exact h.loadRefused.bumpFld.faultModel
    · exact h.finishLoads.updModel
  · split
    · split
      · split
        · exact h.loadRefused.clearPlot.updModel
        · exact h.finishLoads.updModel
      · exact h
    · split
      · split
        · exact h.replicaRefused
        · exact h.finishLoads.writeServing
      · exact h

theorem State.Kept.bayJoin {h : Nat} {src : CmdSrc} (hs : s.Kept Q) : (s.bayJoin h src).Kept Q := hs.updModel.startPage

theorem State.Kept.bayGo (h : s.Kept Q) : s.bayGo.Kept Q :=
  .ite h.setFld (.ite h.setFld.bayJoin (.ite h.setFld (.ite h.free.setFld h.setFld.updBay)))

theorem State.Kept.bayRun {src : CmdSrc} {op : Nat} {k : List Byte → Rights → State → State} (h : s.Kept Q)
    (hk : ∀ b r t, t.Kept Q → (k b r t).Kept Q) : (s.bayRun src op k).Kept Q := by
  unfold State.bayRun
  split
  · have h1 : (if s.bay.latched.isSome then s else s.coreWrite none State.bayGo).Kept Q := .ite h (h.coreWrite fun _ h => h.bayGo)
    refine .ite h ?_
    generalize (if s.bay.latched.isSome then s else s.coreWrite none State.bayGo) = s1 at h1
    dsimp only
    split
    · exact h1
    · exact .ite (hk _ _ _ h1.updBay) (.ite h1 h)
  · exact .ite (.ite h.updBay.updBay (.ite h.updBay.bayDone (hk _ _ _ h.updBay))) h

theorem State.Kept.bayWait {src : CmdSrc} {b : List Byte} (h : s.Kept Q) : (s.bayWait src b).Kept Q := h.updBay

theorem OutKept.bayRegister {src : CmdSrc} {image digest : HostData} (h : s.Kept Q) : OutKept Q (execBayRegister src image digest s) := by
  unfold execBayRegister
  refine .next ?_
  refine h.bayRun (fun _ _ _ h => ?_)
  refine .ite h.bayDone ?_
  refine .ite h.bayDone ?_
  dsimp only
  split
  · exact .ite h.hostReads.freePages.takeVictim.bayWait (.ite h.hostReads.freePages.updModel.updModel.startPage
      h.hostReads.freePages.updModel.bayDone)
  · exact h.hostReads.bayDone

theorem OutKept.bayUnregister {src : CmdSrc} (h : s.Kept Q) :
    OutKept Q (execBayUnregister src s) :=
  .next (h.bayRun fun _ _ _ h => .ite h.bayDone (.ite h.bayDone (.ite h.bayDone
      (.ite h.updModel.evictTo h.revokeBoth.abortQueue.updModel.bayDone))))

theorem OutKept.bayPrefetch {src : CmdSrc} (h : s.Kept Q) :
    OutKept Q (execBayPrefetch src s) :=
  .next (h.bayRun fun _ _ _ h => .ite h.bayDone (.ite h.bayDone (.ite h.bayDone (.ite h.updModel
      (.ite h.updModel.startPage.updBay h.updModel.startPage)))))

theorem OutKept.bayEvict {src : CmdSrc} (h : s.Kept Q) :
    OutKept Q (execBayEvict src s) :=
  .next (h.bayRun fun _ _ _ h => .ite h.bayDone (.ite h.bayDone (.ite h.bayDone (.ite h.updModel.evictTo (.bayDone (.ite (.demote
      (.ite h.demote h)) (.ite h.demote h)))))))

theorem State.Kept.pinModel {h domain : Nat} (hs : s.Kept Q) : (s.pinModel h domain).Kept Q := hs.updModel

theorem OutKept.bayReplace {src : CmdSrc} {image digest : HostData} (h : s.Kept Q) : OutKept Q (execBayReplace src image digest s) := by
  refine .next (h.bayRun fun b r s h => .ite h.bayDone (.ite h.bayDone (.ite h.bayDone ?_)))
  extract_lets u img
  have hu : u.Kept Q := h.hostReads
  generalize u.imageChecks b r image digest = c
  split
  · split
    next ok v e =>
    have hv : v.Kept Q := hu.freePages.of_snd e
    refine .ite hv.takeVictim.bayWait ?_
    generalize (if (s.model (cmdHandle b)).st = .resident ∨ (s.model (cmdHandle b)).st = .staged then loadCheck _ _ else none) = refused
    split
    · exact hv.loadRefused.updModel.bayDone
    · exact .ite hv.updModel.bayDone (.ite hv.replaceLines.installImage.bayDone hv.replaceLines.takeVictim.bayWait)
  · exact hu.updModel.bayDone

theorem OutKept.bayCalStage {src : CmdSrc} {block : HostData} (h : s.Kept Q) : OutKept Q (execBayCalStage src block s) := by
  unfold execBayCalStage
  refine .next ?_
  refine h.bayRun (fun _ _ _ h => ?_)
  refine .ite h.bayDone ?_
  refine .ite h.bayDone ?_
  refine .ite h.bayDone ?_
  split
  · exact h.hostReads.bayDone
  · exact .ite h.hostReads.updModel.bayDone h.hostReads.bayDone

theorem State.Kept.updSlots {first count : Nat} {f : Slot → Slot} (h : s.Kept Q) : (s.updSlots first count f).Kept Q := h.updBay

theorem OutKept.baySlotGrant {src : CmdSrc} (h : s.Kept Q) : OutKept Q (execBaySlotGrant src s) := by
  unfold execBaySlotGrant
  refine .next ?_
  refine h.bayRun (fun _ _ _ h => ?_)
  split
  · exact h.bayDone
  · exact h.updSlots.bayDone

theorem OutKept.baySlotReset {src : CmdSrc} (h : s.Kept Q) : OutKept Q (execBaySlotReset src s) := by
  unfold execBaySlotReset
  refine .next ?_
  refine h.bayRun (fun _ _ _ h => ?_)
  split
  · exact h.bayDone
  · exact h.updSlots.bayDone

theorem OutKept.pinExpiry {handle : Nat} (h : s.Kept Q) : OutKept Q (execPinExpiry handle s) := by
  unfold execPinExpiry
  refine .next ?_
  refine h.whenRuns (fun _ h => ?_)
  dsimp only
  split
  · exact .ite h.updModel.bump h
  · exact h

theorem State.Kept.catRead (h : s.Kept Q) : s.catRead.Kept Q := h.free.free.setFld.setFld.setFld.setFld.setFld.setFld.setFld.setFld

/-! ### Adapt -/

theorem State.Kept.fencePlot {p : Nat} (h : s.Kept Q) : (s.fencePlot p).Kept Q := by
  unfold State.fencePlot
  refine .ite h ?_
  split
  · exact .ite h.freePlot.dropChanges.startPage h.freePlot.dropChanges
  · exact h.updJob.freePlot.dropChanges.rerunBatch

theorem State.Kept.fenceGrant {f cause : Nat} (h : s.Kept Q) : (s.fenceGrant f cause).Kept Q := by
  unfold State.fenceGrant
  split
  · exact h
  · exact .ite h.releaseField.bump.endRun h.releaseField.bump.rerunBatch

theorem OutKept.revocationFence (h : s.Kept Q) : OutKept Q (execRevocationFence s) := by
  unfold execRevocationFence
  refine .next ?_
  refine h.whenRuns (fun _ h => ?_)
  split
  · exact h
  · split
    · exact h.updBay.fencePlot
    · exact h.updBay.fenceGrant

theorem State.Kept.reserveWrite {n : Nat} (h : s.Kept Q) : (s.reserveWrite n).Kept Q := .ite h (h.setFld.foldl fun _ _ h => h.revokeGrant)

theorem OutKept.grantExpiry {field : Fin 4} (h : s.Kept Q) : OutKept Q (execGrantExpiry field s) := by
  unfold execGrantExpiry
  refine .next ?_
  split
  · exact h
  · split
    · exact .ite h.revokeGrant h
    · exact h

theorem State.Kept.adpGo (h : s.Kept Q) : s.adpGo.Kept Q := .ite h.setFld (.ite h.free.setFld h.setFld.updAdp)

theorem State.Kept.adpDone {src : CmdSrc} {job status : Nat} (h : s.Kept Q) : (s.adpDone src job status).Kept Q := by
  unfold State.adpDone
  split
  · exact h.finishCmd
  · exact h.completeDesc

theorem State.Kept.adpCmd {src : CmdSrc} {op : Nat} {k : List Byte → Rights → State → State} (h : s.Kept Q)
    (hk : ∀ b r t, t.Kept Q → (k b r t).Kept Q) : (s.adpCmd src op k).Kept Q := by
  unfold State.adpCmd
  split
  · have h1 : (if s.adp.latched.isSome then s else s.coreWrite (some 5) State.adpGo).Kept Q := .ite h (h.coreWrite fun _ h => h.adpGo)
    refine .ite h ?_
    generalize (if s.adp.latched.isSome then s else s.coreWrite (some 5) State.adpGo) = s1 at h1
    dsimp only
    split
    · exact h1
    · exact .ite (hk _ _ _ h1.updAdp) h
  · exact .ite (.ite (hk _ _ _ h.updAdp) h.updAdp) h

theorem OutKept.adpOpen {src : CmdSrc} {set map noise : HostData} (h : s.Kept Q) : OutKept Q (execAdpOpen src set map noise s) := by
  unfold execAdpOpen
  refine .next ?_
  refine h.adpCmd (fun _ _ _ h => ?_)
  refine .ite h.adpDone ?_
  refine .ite h.adpDone ?_
  refine .ite h.adpDone ?_
  dsimp only
  split
  · exact h.hostReads.updJob.adpDone
  · exact h.hostReads.adpDone

theorem State.Kept.takeFields {n : Nat} {fields : List Nat} (h : s.Kept Q) :
    (s.takeFields n fields).Kept Q := ((h.foldl fun _ _ h => h.updField).foldl fun _ _ h => h.moveModel).foldl fun _ _ h => h.moveModel

theorem OutKept.adpRun {src : CmdSrc} (h : s.Kept Q) :
    OutKept Q (execAdpRun src s) :=
  .next (h.adpCmd fun _ _ _ h => .ite h.adpDone (.ite h.adpDone (.ite h.adpDone (.ite h.adpDone (.ite h.adpDone (.ite h.adpDone
      (.ite (h.foldl fun _ _ h => h.moveModel).adpDone (.adpDone (.ite h.updJob.takeFields h.updJob.takeFields.beginBatch)))))))))

theorem OutKept.adpStop {src : CmdSrc} (h : s.Kept Q) :
    OutKept Q (execAdpStop src s) :=
  .next (h.adpCmd fun _ _ _ h => .ite h.adpDone (.ite h.adpDone (.adpDone (.ite h.updJob h.updJob.dropBatch.revokeAll))))

theorem OutKept.gradientReduce {job : Fin 4} {row : Nat} (h : s.Kept Q) : OutKept Q (execGradientReduce job row s) := by
  unfold execGradientReduce
  refine .next ?_
  dsimp only
  split
  · exact h
  · exact .ite h.addCnt.updJob h

theorem OutKept.optimiserUpdate {job : Fin 4} (h : s.Kept Q) : OutKept Q (execOptimiserUpdate job s) := by
  unfold execOptimiserUpdate
  refine .next ?_
  refine .ite h ?_
  refine .ite ?_ ?_
  · refine .revokeAll ?_
    refine .updJob ?_
    refine .foldl ?_ (fun _ _ h => h.writeServing)
    refine .addCnt ?_
    refine .bump ?_
    refine .addCnt ?_
    refine .updJob ?_
    refine h.foldl (fun _ _ h => ?_)
    split
    · exact h.updRow
    · exact h
  · refine .ite ?_ ?_
    · refine .foldl ?_ (fun _ _ h => h.writeServing)
      refine .addCnt ?_
      refine .bump ?_
      refine .addCnt ?_
      refine .updJob ?_
      refine h.foldl (fun _ _ h => ?_)
      split
      · exact h.updRow
      · exact h
    · refine .beginBatch ?_
      refine .foldl ?_ (fun _ _ h => h.writeServing)
      refine .addCnt ?_
      refine .bump ?_
      refine .addCnt ?_
      refine .updJob ?_
      refine h.foldl (fun _ _ h => ?_)
      split
      · exact h.updRow
      · exact h

theorem OutKept.checkpointWrite {job : Fin 4} (h : s.Kept Q) : OutKept Q (execCheckpointWrite job s) := by
  refine .next (.ite h ?_)
  extract_lets seq c inB a f written recorded
  have hw : written.Kept Q := .ite h.hostOut.hostOut h
  have hr : recorded.Kept Q := hw.deliverRecord.bump
  exact .ite hr.updJob (.ite hr.updJob.endRun hr.updJob.updJob)

/-! ### HostIf -/

theorem State.Kept.updHif {f : HifSt → HifSt} (h : s.Kept Q) : (s.updHif f).Kept Q := h.parts

theorem State.Kept.updDom {d : Nat} {f : Dom → Dom} (h : s.Kept Q) : (s.updDom d f).Kept Q := h.updHif

theorem State.Kept.sqDoorbell {q v : Nat} (h : s.Kept Q) : (s.sqDoorbell q v).Kept Q := .ite h.bump h.updQp

theorem State.Kept.cqDoorbell {q v : Nat} (h : s.Kept Q) :
    (s.cqDoorbell q v).Kept Q := .ite h.bump (.ite (.ite h.updQp.updQp.interrupt h.updQp.updQp) h.updQp)

theorem OutKept.doorbell {func : Fin 128} {offset size : Nat} {value : DWord} (h : s.Kept Q) :
    OutKept Q (execDoorbell func offset size value s) := by
  unfold execDoorbell
  refine .next ?_
  refine .ite h ?_
  refine .ite h.emit ?_
  refine .ite h ?_
  refine .ite h.bump ?_
  split
  · exact h.bump
  · exact .ite h.sqDoorbell.cqDoorbell (.ite h.sqDoorbell h.cqDoorbell)

theorem OutKept.modTimerExpiry {qp : Fin 16384} (h : s.Kept Q) : OutKept Q (execModTimerExpiry qp s) := by
  unfold execModTimerExpiry
  refine .next ?_
  dsimp only
  split
  · exact .ite h.interrupt h
  · exact h

theorem State.Kept.qpError {q : Nat} (h : s.Kept Q) : (s.qpError q).Kept Q := h.updQp.event

theorem State.Kept.ringFailed {q : Nat} (h : s.Kept Q) : (s.ringFailed q).Kept Q := .ite h.qpError h

theorem State.Kept.countRefusal {status : Nat} (h : s.Kept Q) : (s.countRefusal status).Kept Q := h.bumpIf.bumpIf.bumpIf

theorem State.Kept.bayDescriptor {d : Nat} (h : s.Kept Q) :
    (s.bayDescriptor d).Kept Q := .ite h.updDesc.completeDesc (.ite h.updDesc.bayJoin (.ite h.updDesc.completeDesc h.updDesc.updBay))

theorem State.Kept.takeDesc {q : Nat} {b : List Byte} (h : s.Kept Q) :
    (s.takeDesc q b).Kept Q :=
  .ite h.freshId.updDesc.updQp.bump.countRefusal.completeDesc (.ite h.freshId.updDesc.updQp.bump.bayDescriptor h.freshId.updDesc.updQp.bump)

theorem OutKept.descriptorArrival {qp : Fin 16384} {blocks : HostData} (h : s.Kept Q) : OutKept Q (execDescriptorArrival qp blocks s) := by
  unfold execDescriptorArrival
  refine .next ?_
  refine .ite h ?_
  refine .ite h.updQp.updQp ?_
  split
  · exact h.updQp.updQp.ringFailed
  · exact .ite h.updQp.updQp.drainQp (h.updQp.foldl fun _ _ h => h.takeDesc)

theorem State.Kept.payloadRead {d : Nat} (h : s.Kept Q) : (s.payloadRead d).Kept Q := h.updDesc.hostOut

theorem State.Kept.submitInfer {d : Nat} (h : s.Kept Q) : (s.submitInfer d).Kept Q := by
  unfold State.submitInfer
  exact h.freshId.freshId.updBundle.updSeg.updDesc.updRul

theorem State.Kept.submitFrame {d : Nat} (h : s.Kept Q) : (s.submitFrame d).Kept Q := .ite h.updDesc.enqueue h.completeDesc

theorem OutKept.dmaReadCompletion {desc : Nat} {payload : HostData} (h : s.Kept Q) : OutKept Q (execDmaReadCompletion desc payload s) := by
  unfold execDmaReadCompletion
  refine .next ?_
  split
  · refine .ite h ?_
    split
    · exact h.completeDesc
    · exact .ite h.updDesc.submitInfer h.updDesc.submitFrame
  · exact h

theorem OutKept.completionTimeout {desc : Nat} (h : s.Kept Q) : OutKept Q (execCompletionTimeout desc s) := by
  unfold execCompletionTimeout
  refine .next ?_
  split
  · exact .ite h.emit.completeDesc h
  · exact h

theorem State.Kept.qpCreate {q : Nat} (h : s.Kept Q) : (s.qpCreate q).2.Kept Q := .ite_snd h (.ite_snd h (.ite_snd h (.ite_snd h h.updQp)))

theorem State.Kept.qpFree {q : Nat} (h : s.Kept Q) : (s.qpFree q).Kept Q := (h.foldl fun _ _ h => h.updDesc).updQp

theorem State.Kept.qpDestroy {q : Nat} (h : s.Kept Q) : (s.qpDestroy q).2.Kept Q := by
  unfold State.qpDestroy
  split
  · exact h
  · exact h.updQp.drainQp
  · exact h
  · exact h.qpFree

theorem State.Kept.fenceQp {q : Nat} (h : s.Kept Q) : (s.fenceQp q).Kept Q := h.updQp

theorem State.Kept.qpRevoke {q : Nat} (h : s.Kept Q) : (s.qpRevoke q).2.Kept Q := .ite_snd h h.fenceQp

theorem State.Kept.qpSetBase {q : Nat} (h : s.Kept Q) : (s.qpSetBase q).2.Kept Q := .ite_snd h (.ite_snd h h.updQp)

theorem State.Kept.qpSetMod {q : Nat} (h : s.Kept Q) : (s.qpSetMod q).2.Kept Q := .ite_snd h (.ite_snd h h.updQp)

theorem State.Kept.qpRead {q : Nat} (h : s.Kept Q) :
    (s.qpRead q).2.Kept Q := h.setReg.setReg.setReg.setReg.setReg.setReg.setReg.setReg.setReg.setReg.setReg.setReg

theorem State.Kept.qpCommand {q op : Nat} (h : s.Kept Q) : (s.qpCommand q op).Kept Q := by
  refine h.startCmd fun u h => ?_
  split
  next st t e =>
  have ht : t.Kept Q := by
    split at e
    · exact h.qpCreate.of_snd e
    · exact h.qpDestroy.of_snd e
    · exact h.qpRevoke.of_snd e
    · exact h.qpSetBase.of_snd e
    · exact h.qpSetMod.of_snd e
    · exact h.qpRead.of_snd e
    · cases e
      exact h.free
  exact ht.finishCmd

theorem State.Kept.returnRx {q : Nat} {r : RxBuf} (h : s.Kept Q) : (s.returnRx q r).Kept Q := .ite h.updQp h.updQp.bump.writeRecord

theorem State.Kept.abortOlder {d : Nat} (h : s.Kept Q) :
    (s.abortOlder d).Kept Q := (h.foldl fun _ _ h => h.bump.completeDesc.updDesc).foldl fun _ _ h => h.updQp.foldl fun _ _ h => h.returnRx

theorem State.Kept.domEpochWrite {v : Nat} (h : s.Kept Q) : (s.domEpochWrite v).Kept Q := by
  unfold State.domEpochWrite
  refine .ite h.updDom ?_
  refine .ite ?_ h.updDom
  refine .ite h.updDom ?_
  split
  · exact h.updDom.updDom
  · exact h.updDom.abortOlder

theorem State.Kept.revokeSlots {d : Nat} (h : s.Kept Q) : (s.revokeSlots d).Kept Q := h.updBay

theorem OutKept.epochInForce {domain : Fin 256} (h : s.Kept Q) : OutKept Q (execEpochInForce domain s) := by
  unfold execEpochInForce
  refine .next ?_
  dsimp only
  split
  · exact h
  · exact .event (.ite h.updDom.abortOlder.revokeSlots h.updDom)

/-! ### Links -/

theorem State.Kept.resend {l : Nat} (h : s.Kept Q) : (s.resend l).Kept Q := .ite h (h.foldl fun _ _ h => h.emit).updLink

theorem State.Kept.startRetrain {l : Nat} (h : s.Kept Q) : (s.startRetrain l).Kept Q := h.updLink.bump

theorem State.Kept.replay {l : Nat} (h : s.Kept Q) : (s.replay l).Kept Q := .ite h.bump.updLink.startRetrain h.bump.updLink.resend

theorem State.Kept.answerNak {l : Nat} (h : s.Kept Q) : (s.answerNak l).Kept Q := .ite h.updLink.sendFrame h.updLink

theorem State.Kept.takeRec {l : Nat} {r : OslRec} (h : s.Kept Q) : (s.takeRec l r).Kept Q :=
  .ite h.leavePool.updOsl (.ite h.oslCarry h.leavePool)

theorem State.Kept.acceptFrame {l : Nat} {b : List Byte} (h : s.Kept Q) :
    (s.acceptFrame l b).Kept Q := .returnCredits (.drainLink (.foldl (.ite h.bump.updLink.replay h.bump.updLink) fun _ _ h => h.takeRec))

theorem OutKept.linkFrameRx {link : Fin 16} {corrected : Nat} {fecOk : Bool} {bytes : List Byte} (h : s.Kept Q) :
    OutKept Q (execLinkFrameRx link corrected fecOk bytes s) :=
  .next (.ite h (.ite h.addCnt.bump.answerNak (.ite h.addCnt.bump.answerNak (.ite h.addCnt.answerNak h.addCnt.acceptFrame))))

theorem State.Kept.dropLink {l st fail : Nat} (h : s.Kept Q) :
    (s.dropLink l st fail).Kept Q := .foldl (.ite h.updLink h.updLink.updOsl) fun _ _ h => h.oslCarry

theorem State.Kept.failLink {l reason : Nat} (h : s.Kept Q) : (s.failLink l reason).Kept Q :=
  h.dropLink.bumpIf.foldl fun _ _ h => h.raiseAbort

theorem State.Kept.raiseAbsent {chip : Nat} (h : s.Kept Q) : (s.raiseAbsent chip).Kept Q := h.updOsl

theorem State.Kept.ringGap {l : Nat} {peer : Nat} (h : s.Kept Q) : (s.ringGap l peer).Kept Q := .ite (h.foldl fun _ _ h => h.raiseAbsent) h

theorem State.Kept.noteAbsent {dim chip : Nat} {v : Bool} (h : s.Kept Q) : (s.noteAbsent dim chip v).Kept Q := h.foldl fun _ _ h => h.updOsl

theorem State.Kept.dirBack {l : Nat} (h : s.Kept Q) : (s.dirBack l).Kept Q := h.noteAbsent

theorem State.Kept.retrainLink {l : Nat} (h : s.Kept Q) : (s.retrainLink l).Kept Q := .ite h.updLink.startRetrain h

theorem State.Kept.dropNotices {p : Nat} (h : s.Kept Q) : (s.dropNotices p).Kept Q := h.updProg.foldl fun _ _ h => .ite h.sendResult h

theorem OutKept.progAbort {which : Nat} (h : s.Kept Q) : OutKept Q (execProgAbort which s) := by
  unfold execProgAbort
  refine .next ?_
  split
  · exact h
  next r t e =>
    have ht : t.Kept Q := h.takeArrived e
    refine .ite ht (.ite ?_ ht.updOsl.floodOut)
    extract_lets u v w
    have hw : w.Kept Q := ht.updOsl.floodOut.updProg.bump.dropNotices.updOsl
    split
    · exact hw.revokePlot
    · exact hw

theorem OutKept.chipAbsent {which : Nat} (h : s.Kept Q) : OutKept Q (execChipAbsent which s) := by
  unfold execChipAbsent
  refine .next ?_
  split
  · exact h
  · exact .ite (h.takeArrived ‹_›) ((h.takeArrived ‹_›).updOsl.floodOut.foldl fun _ _ h => .ite
      (.ite h.updProg.addCnt.abortQueue h.updProg) h)

theorem OutKept.passNotice {which : Nat} (h : s.Kept Q) : OutKept Q (execPassNotice which s) := by
  unfold execPassNotice
  refine .next ?_
  split
  · exact h
  · refine .ite (h.takeArrived ‹_›).bump ?_
    refine .ite (h.takeArrived ‹_›).bump.raiseAbort ?_
    split
    · exact .ite (h.takeArrived ‹_›).beginPass h
    · exact h

theorem State.Kept.progCommand {op : Nat} (h : s.Kept Q) : (s.progCommand op).Kept Q := by
  unfold State.progCommand
  refine h.startCmd (fun _ h => ?_)
  split
  · exact .ite h.finishCmd h.updProg.finishCmd
  · refine .ite h.finishCmd ?_
    refine .ite h.finishCmd ?_
    split
    · exact h.updProg.finishCmd
    · exact h.finishCmd
  · exact h.dropNotices.updProg.finishCmd
  · refine .ite h.finishCmd ?_
    split
    · exact h.updProg.finishCmd
    · exact h.finishCmd
  · exact .ite h.updProg.finishCmd h.finishCmd
  · exact h.free.finishCmd

theorem State.Kept.lbypSettle (h : s.Kept Q) : s.lbypSettle.Kept Q := h.updOsl

theorem State.Kept.lbypWrite {opens closes : Nat} (h : s.Kept Q) : (s.lbypWrite opens closes).Kept Q := by
  unfold State.lbypWrite
  split
  · exact h.updOsl
  · exact h.setFld

theorem State.Kept.linkEnables (h : s.Kept Q) : s.linkEnables.Kept Q := (h.foldl fun _ _ h => .ite h.updLink (.ite h.dropLink h)).lbypSettle

theorem State.Kept.sendRemoteReset (h : s.Kept Q) : s.sendRemoteReset.Kept Q := h.oslSubmit

/-! ### Power -/

theorem State.Kept.updPow {f : PowSt → PowSt} (h : s.Kept Q) : (s.updPow f).Kept Q := h.parts

theorem State.Kept.updFieldPow {f : Nat} {g : FieldPow → FieldPow} (h : s.Kept Q) : (s.updFieldPow f g).Kept Q := h.updPow

theorem State.Kept.thermalEvent {kind field : Nat} (h : s.Kept Q) : (s.thermalEvent kind field).Kept Q := h.event

theorem State.Kept.noteMin {f pace : Nat} (h : s.Kept Q) : (s.noteMin f pace).Kept Q := .ite h.setFld h

theorem State.Kept.noteLow (h : s.Kept Q) : s.noteLow.Kept Q := h.updPow

theorem State.Kept.pollTarget {answered : BitVec 9} {readings : List (Nat × Nat)} {k : Nat} (h : s.Kept Q) :
    (s.pollTarget answered readings k).Kept Q :=
  .ite h (.ite (h.foldl fun _ _ h => h.emit).bump (.ite (h.foldl fun _ _ h => h.emit).updPow (h.foldl fun _ _ h => h.emit).updPow))

theorem State.Kept.moveCeil (h : s.Kept Q) : s.moveCeil.Kept Q := by
  unfold State.moveCeil
  split
  · exact h
  · exact .ite (.ite h (.ite h.updPow h.updPow)) (.ite h.updPow h.updPow)

theorem State.Kept.gateStep {v : Nat} (h : s.Kept Q) : (s.gateStep v).Kept Q :=
  .ite h.updPow.thermalEvent (.ite h.updPow.thermalEvent h.updPow)

theorem State.Kept.targetStep {pace : Option Nat} (h : s.Kept Q) : (s.targetStep pace).Kept Q := by
  unfold State.targetStep
  refine .ite ?_ h
  split
  · exact h.updPow
  · exact h.updPow.hwUpdate fun _ h => h.setReg

theorem State.Kept.avsWrite {mv : Nat} (h : s.Kept Q) : (s.avsWrite mv).Kept Q := h.updPow.emit

theorem OutKept.governorDecision (h : s.Kept Q) : OutKept Q (execGovernorDecision s) := by
  unfold execGovernorDecision
  refine .next ?_
  refine .ite ?_ h
  refine .ite ?_ ?_
  · refine .updPow ?_
    refine .bumpIf ?_
    refine .bumpIf ?_
    refine .bump ?_
    refine h.moveCeil.gateStep.updPow.targetStep.foldl (fun _ _ h => ?_)
    split
    · exact h
    · exact h.setFld.noteMin
  · refine .ite ?_ ?_
    · refine .avsWrite ?_
      refine .updPow ?_
      refine .bumpIf ?_
      refine .bumpIf ?_
      refine .bump ?_
      refine h.moveCeil.gateStep.updPow.targetStep.foldl (fun _ _ h => ?_)
      split
      · exact h
      · exact h.setFld.noteMin
    · refine .updPow ?_
      refine .bumpIf ?_
      refine .bumpIf ?_
      refine .bump ?_
      refine h.moveCeil.gateStep.updPow.targetStep.foldl (fun _ _ h => ?_)
      split
      · exact h
      · exact h.setFld.noteMin

theorem State.Kept.avsResume (h : s.Kept Q) : s.avsResume.Kept Q := h.updPow

theorem State.Kept.targetWrite {v : Word} (h : s.Kept Q) : (s.targetWrite v).Kept Q := .ite h (.ite h.updPow.setReg (.ite h.updPow h.stick))

theorem State.Kept.enterPower {f st : Nat} (h : s.Kept Q) : (s.enterPower f st).Kept Q := h.updFieldPow

theorem OutKept.powerStateEntry {field : Fin 4} (h : s.Kept Q) : OutKept Q (execPowerStateEntry field s) := by
  unfold execPowerStateEntry
  refine .next ?_
  refine .ite h ?_
  split
  · exact h.enterPower
  · exact h

theorem State.Kept.beginWake {f goal : Nat} (h : s.Kept Q) : (s.beginWake f goal).Kept Q := h.leaveIdle.updFieldPow

theorem State.Kept.cancelEntry {f : Nat} (h : s.Kept Q) : (s.cancelEntry f).Kept Q := by
  unfold State.cancelEntry
  split
  · exact .ite h.leaveIdle.updFieldPow h
  · exact h

theorem State.Kept.wakeBudgetWrite {f : Nat} {v : Word} (h : s.Kept Q) : (s.wakeBudgetWrite f v).Kept Q := .ite h.setReg.beginWake h.setReg

theorem OutKept.wakeComplete {unit : WakeUnit} (h : s.Kept Q) : OutKept Q (execWakeComplete unit s) := by
  unfold execWakeComplete
  refine .next ?_
  split
  · split
    · exact h
    · exact h.updPow.bump.bumpIf.judgeWaiting
  · dsimp only
    split
    · exact h
    · exact .ite h.updFieldPow.noteLow.bump.bumpIf.retryPlaces h.updFieldPow.noteLow.bump.bumpIf

theorem State.Kept.readSensor {i : Nat} {r : Option Int} (h : s.Kept Q) : (s.readSensor i r).Kept Q := by
  unfold State.readSensor
  split
  · exact .ite h.setReg h.setReg.bump
  · exact h.setReg.bump

theorem State.Kept.throttleStep {tj field : Nat} (h : s.Kept Q) :
    (s.throttleStep tj field).Kept Q := .ite h.updPow.thermalEvent (.ite h.updPow.thermalEvent h)

theorem OutKept.sensorSweep {readings : List (Option Int)} (h : s.Kept Q) :
    OutKept Q (execSensorSweep readings s) :=
  .ite .fault (.next (.ite h ((h.foldl fun _ _ h => h.readSensor).setReg.foldl fun _ _ h => .ite h.thermalEvent h).updPow.throttleStep))

theorem State.Kept.notePower (h : s.Kept Q) : s.notePower.Kept Q := by
  unfold State.notePower
  exact (h.foldl fun _ _ h => h.updFieldPow).updPow

/-! ### Faults -/

theorem State.Kept.addFault {code field x y detail : Nat} (h : s.Kept Q) :
    (s.addFault code field x y detail).Kept Q := .ite h.stick (.ite h.updRep.hostOut h.updRep)

theorem State.Kept.trigger {t : CapTrigger} (h : s.Kept Q) : (s.trigger t).Kept Q := h.updRep

theorem State.Kept.reportAer {func : Nat} {e : TlpError} (h : s.Kept Q) : (s.reportAer func e).Kept Q := h.emit

theorem State.Kept.loadBootMap {f : Nat} (h : s.Kept Q) : (s.loadBootMap f).Kept Q := h.free.updRepField

/-! ### Reset -/

theorem State.Kept.updRst {f : RstSt → RstSt} (h : s.Kept Q) : (s.updRst f).Kept Q := h.parts

theorem State.Kept.enterPhase {p : Nat} (h : s.Kept Q) : (s.enterPhase p).Kept Q := h.setFld.updRst

theorem State.Kept.phaseDone {p : Nat} (h : s.Kept Q) : (s.phaseDone p).Kept Q := h.setFld

theorem State.Kept.halt {reason : Nat} (h : s.Kept Q) : (s.halt reason).Kept Q := h.setFld.setFld.updRst

theorem State.Kept.resetAll {powerOn cold : Bool} (h : s.Kept Q) : (s.resetAll powerOn cold).Kept Q := by
  unfold State.resetAll
  extract_lets base kept shown
  have h0 : base.Kept Q := blank rfl rfl h.queue
  have h1 : kept.Kept Q := .ite h0 (h0.setFld.foldl fun _ _ h => h.setFld)
  have h2 : shown.Kept Q := .ite h1.emit h1
  exact .ite h2 h2.emit

theorem State.Kept.takeReset {cause : Nat} {cold : Bool} (h : s.Kept Q) : (s.takeReset cause cold).Kept Q := h.resetAll.setFld

theorem State.Kept.takeLevel {src : LevelSource} {cause : Nat} {cold : Bool} (h : s.Kept Q) :
    (s.takeLevel src cause cold).Kept Q := h.takeReset.updRst

theorem OutKept.watchdogKick {runMs : Option (BitVec 14)} (h : s.Kept Q) : OutKept Q (execWatchdogKick runMs s) := by
  unfold execWatchdogKick
  refine .next ?_
  refine .ite h ?_
  split
  · exact h.updRst
  · exact .ite h.updRst.setFld h.updRst

theorem State.Kept.rstCtrlWrite {v : Nat} (h : s.Kept Q) : (s.rstCtrlWrite v).Kept Q := .ite h (.ite h.takeReset h.stick)

theorem OutKept.remoteReset {which : Nat} (h : s.Kept Q) : OutKept Q (execRemoteReset which s) := by
  unfold execRemoteReset
  refine .next ?_
  split
  · exact h
  · exact .ite (h.takeArrived ‹_›).takeReset (h.takeArrived ‹_›).bump

theorem OutKept.tlpError {kind : TlpError} {func : Fin 128} {recordOf : Option (Fin 16384)} (h : s.Kept Q) :
    OutKept Q (execTlpError kind func recordOf s) := by
  unfold execTlpError
  refine .next ?_
  refine .ite h ?_
  split
  · exact h.reportAer
  · exact h.reportAer.ringFailed

theorem State.Kept.loadFuses (h : s.Kept Q) : s.loadFuses.Kept Q := by
  unfold State.loadFuses
  refine .ite ?_ ?_
  · refine .updRst ?_
    split
    · exact h.setFld.setFld.setFld.setReg.setFld.setFld
    · exact h.setFld.setFld.setFld.setReg.setFld.setFld.setFld
  · split
    · exact h.setFld.setFld.setFld.setReg.setFld.setFld
    · exact h.setFld.setFld.setFld.setReg.setFld.setFld.setFld

theorem State.Kept.beginOption (h : s.Kept Q) : s.beginOption.Kept Q := h.updRst.setFld.enterPhase.foldl fun _ _ h => h.emit

theorem State.Kept.optCount {f : Fld} (h : s.Kept Q) : (s.optCount f).Kept Q := h.setFld

theorem State.Kept.optEntry {addr value : Nat} (h : s.Kept Q) : (s.optEntry addr value).Kept Q := by
  unfold State.optEntry
  split
  · exact h.optCount
  · exact .ite h.optCount (.ite h.optCount h.setReg)

theorem State.Kept.applyOptions (h : s.Kept Q) : s.applyOptions.Kept Q := .ite h.setFld (h.setFld.foldl fun _ _ h => h.optEntry)

theorem OutKept.optionPhaseDone {answered : BitVec 9} (h : s.Kept Q) :
    OutKept Q (execOptionPhaseDone answered s) :=
  .next (.ite h (.ite h.applyOptions.setFld.setFld.updRst.setFld.halt
      h.applyOptions.setFld.setFld.updRst.setFld.setFld.setFld.updPow.emit.phaseDone.enterPhase))

theorem State.Kept.bistDefect {f row col : Nat} (h : s.Kept Q) :
    (s.bistDefect f row col).Kept Q := .ite h (.ite h.updRepField.loadBootMap.bump h.updRepField.loadBootMap.updRep)

theorem State.Kept.isolateSfe (h : s.Kept Q) : s.isolateSfe.Kept Q := (h.updBay.foldl fun _ _ h => h.updSlot).parts

theorem State.Kept.isolateState {b : Nat} (h : s.Kept Q) : (s.isolateState b).Kept Q := by
  unfold State.isolateState
  split
  · exact h.parts
  · exact ((h.parts.foldl fun _ _ h => h.updSeg).setRul (fun _ => .empty) fun _ => .empty)
  · exact h.isolateSfe
  · exact h.parts
  · exact h.parts
  · exact (h.foldl fun _ _ h => h.foldl fun _ _ h => h.fenceGrant).parts
  · exact h.parts

theorem State.Kept.isolateBlock {b : Nat} (h : s.Kept Q) : (s.isolateBlock b).Kept Q :=
  .ite h.free.isolateState.clearSpan.updRst h.free.isolateState.clearSpan

theorem State.Kept.isoWrite {v : Nat} (h : s.Kept Q) : (s.isoWrite v).Kept Q := h.setFld.foldl fun _ _ h => h.isolateBlock

theorem OutKept.busTimeout (h : s.Kept Q) : OutKept Q (execBusTimeout s) := by
  unfold execBusTimeout
  refine .next ?_
  split
  · exact h
  · refine .ite h ?_
    refine .ite ?_ ?_
    · refine .reportAer ?_
      refine .trigger ?_
      refine .addFault ?_
      refine .stick ?_
      split
      · exact h.updRst.bump
      · exact h.updRst.bump.emit
    · refine .stick ?_
      split
      · exact h.updRst.bump
      · exact h.updRst.bump.emit

/-! ### Tilerun -/

theorem State.Kept.afterAbandon {pi : Nat} (h : s.Kept Q) : (s.afterAbandon pi).Kept Q := .ite h.markApplied.freePlot.commitProgress h

theorem State.Kept.tagFault {t : Nat} (h : s.Kept Q) : (s.tagFault t).Kept Q := h.bump.setReg.abandonPass.afterAbandon

theorem State.Kept.putQueue {t q : Nat} {k : Tok} (h : s.Kept Q) : (s.putQueue t q k).Kept Q :=
  .ite h.tagFault (.ite h.updTile.matchMore h.updTile)

theorem State.Kept.endTile {t : Nat} (h : s.Kept Q) :
    (s.endTile t).Kept Q :=
  .ite (h.foldl fun _ _ h => .ite h.sendFlit h).updField.updTile.flipTile (h.foldl fun _ _ h => .ite h.sendFlit h).updField.updTile

theorem State.Kept.deliverReply {k : Packet} (h : s.Kept Q) : (s.deliverReply k).Kept Q := by
  unfold State.deliverReply
  refine .ite h.returnCredit ?_
  split
  · exact h.returnCredit.updProg.pairProg
  · split
    · exact h.returnCredit
    · exact .ite h.returnCredit.updPlot.updPlot h.returnCredit.updPlot.spanResult

theorem State.Kept.storeWrite {r : SecReq} {f : Flit} (h : s.Kept Q) : (s.storeWrite r f).Kept Q := .ite h h.spillCount.updFab

theorem State.Kept.doWrites {n : Nat} (h : s.Kept Q) : (s.doWrites n).Kept Q := by
  induction n generalizing s with
  | zero => exact h
  | succ n ih =>
    unfold State.doWrites
    split
    · exact h
    · split
      · exact ih h.updFab.storeWrite
      · exact h

theorem State.Kept.reachStore {r : SecReq} (h : s.Kept Q) : (s.reachStore r).Kept Q := .ite h.updFab.doWrites h.updFab

theorem State.Kept.land {k : Packet} (h : s.Kept Q) : (s.land k).Kept Q := by
  unfold State.land
  split
  · exact .ite h h.deliverReply
  · exact .ite h h.returnCredit.updPlot
  · exact h.oslSubmit
  · exact h.reachStore
  · exact .ite h (.ite (.ite h.updTile h) (.ite h h.putQueue))

theorem OutKept.routerHop {which : Nat} (h : s.Kept Q) : OutKept Q (execRouterHop which s) := by
  unfold execRouterHop
  refine .next ?_
  split
  · exact h
  · refine .ite h ?_
    refine .ite h.updFab.handshake ?_
    split
    · exact h.updFab.handshake.land
    · exact .ite h.updFab.handshake.handshake h.updFab.handshake.updFab.handshake

theorem OutKept.creditReturn {which : Nat} (h : s.Kept Q) : OutKept Q (execCreditReturn which s) := by
  unfold execCreditReturn
  refine .next ?_
  split
  · exact h
  · exact .ite h.updFab.updTile h.updFab

theorem State.Kept.unitOut {t u o : Nat} {k : Tok} (h : s.Kept Q) : (s.unitOut t u o k).Kept Q := .ite h.putQueue h.sendFlit

theorem State.Kept.unitPass {t u q o : Nat} {k : Tok} (h : s.Kept Q) : (s.unitPass t u q o k).Kept Q := h.dequeue.unitOut

theorem OutKept.flowUnitToken {t : Fin 4096} {unit : Fin 4} (h : s.Kept Q) : OutKept Q (execFlowUnitToken t unit s) := by
  unfold execFlowUnitToken
  refine .next ?_
  refine .ite h ?_
  split
  · exact .ite h.dequeue.unitPass h
  · split
    · exact .ite h.dequeue.unitPass h
    · exact h
  · split
    · exact .ite h.unitPass h
    · exact h
  · exact .ite (.ite h.dequeue.unitPass h) h.dequeue.dequeue
  · exact .ite (.ite h.updTile.unitPass h.updTile.unitOut) h
  · exact .ite h (.ite h.updTile.unitPass h.updTile.dequeue)
  · exact h

theorem State.Kept.secRead {r : SecReq} (h : s.Kept Q) : (s.secRead r).2.Kept Q :=
  .ite_snd h (.ite_snd h (.ite_snd h.free.free h.spillCount))

theorem OutKept.sectionStoreResponse {which : Nat} (h : s.Kept Q) : OutKept Q (execSectionStoreResponse which s) := by
  unfold execSectionStoreResponse
  refine .next ?_
  split
  · exact h
  · refine .ite h.doWrites ?_
    refine .ite h.updFab.doWrites ?_
    refine .ite h.abandonPass ?_
    split
    · exact h
    · exact (h.updFab.secRead.of_snd ‹_›).putQueue.doWrites

theorem State.Kept.spanState {pi : Nat} {sp : Span} (h : s.Kept Q) :
    (s.spanState pi sp).2.2.Kept Q := .ite_snd_snd h (.ite_snd_snd h (.ite_snd_snd h.bump h))

theorem State.Kept.inject {pi o : Nat} {fs : List Flit} (h : s.Kept Q) :
    (s.inject pi o fs).Kept Q := h.foldl fun _ _ h => .putQueue (.ite_snd h.free h)

theorem OutKept.stateLoad {plot : Nat} (h : s.Kept Q) : OutKept Q (execStateLoad plot s) := by
  unfold execStateLoad
  refine .next ?_
  split
  · exact h
  · refine .ite h ?_
    split
    · exact h.updPlot.inject
    · exact .ite h (.inject (.updPlot (.ite h.spanState.fenceSpan h.spanState)))

theorem OutKept.stateWriteback {plot : Nat} (h : s.Kept Q) : OutKept Q (execStateWriteback plot s) := by
  unfold execStateWriteback
  refine .next ?_
  dsimp only
  split
  · exact h
  · split
    · exact h
    · exact .ite h.updPlot.updPlot h.updPlot.writeSlot

/-! ### Repair -/

theorem State.Kept.revokeAround {t : Nat} (h : s.Kept Q) :
    (s.revokeAround t).Kept Q := h.foldl fun _ _ h => .ite h.revokePlot (.ite (.ite h.free.revokePlot h.free) h)

theorem State.Kept.drainRouter {t : Nat} (h : s.Kept Q) : (s.drainRouter t).Kept Q := h.updFab

theorem State.Kept.retireTile {t code cause : Nat} (h : s.Kept Q) :
    (s.retireTile t code cause).Kept Q := .ite h h.updRep.updRepField.drainRouter.revokeAround.bump.addFault.trigger

theorem State.Kept.retireCmd {t : Nat} (h : s.Kept Q) : (s.retireCmd t).Kept Q :=
  h.startCmd fun _ h => .ite h.finishCmd h.retireTile.finishCmd

theorem State.Kept.outOfSpares {f : Nat} {d : Nat × Nat} (h : s.Kept Q) : (s.outOfSpares f d).Kept Q := h.updRepField.addFault.trigger

theorem OutKept.remapSubmit {field : Fin 4} (h : s.Kept Q) :
    OutKept Q (execRemapSubmit field s) :=
  .next (.ite h (.ite h.bump ((h.updRepField.updRep.addCnt.foldl fun _ _ h => h.outOfSpares).foldl fun _ _ h => h.remapRemove)))

theorem OutKept.remapApply {field : Fin 4} (h : s.Kept Q) : OutKept Q (execRemapApply field s) := by
  unfold execRemapApply
  refine .next ?_
  dsimp only
  split
  · exact h
  · exact .ite h (h.updRepField.bump.addFault.foldl fun _ _ h => h.remapRemove).retryPlaces

theorem State.Kept.appendLedger {e : LedgerEntry} (h : s.Kept Q) : (s.appendLedger e).Kept Q := by
  unfold State.appendLedger
  dsimp only
  split
  · exact h.updRst.updRep
  · exact .ite h.updRst.updRep h.updRst.updRep.updRst

theorem OutKept.ledgerWriteDone {ok : Bool} (h : s.Kept Q) : OutKept Q (execLedgerWriteDone ok s) := by
  unfold execLedgerWriteDone
  refine .next ?_
  split
  · exact h
  · exact .ite h.updRep.appendLedger h.updRep.bump

theorem State.Kept.stateLost {slot : Nat} (h : s.Kept Q) : (s.stateLost slot).Kept Q := h.updSlot.bump.addFault.trigger

theorem State.Kept.spoilTable {u : TableUse} (h : s.Kept Q) : (s.spoilTable u).Kept Q := by
  unfold State.spoilTable
  split
  · exact h.updErp
  · exact h.updSfe
  · exact h.updRep

theorem State.Kept.tableFault {entry : Nat} (h : s.Kept Q) : (s.tableFault entry).Kept Q := h.free.bump.addFault

theorem State.Kept.retireLine {bank line : Nat} (h : s.Kept Q) :
    (s.retireLine bank line).Kept Q :=
  .ite h (.ite h.updRep.bump (h.updRep.bump.updRep.addFault.foldl fun _ _ h => .ite h.revokePlot (.ite (.ite h.free.revokePlot h.free) h)))

theorem State.Kept.hbmLost {u : HbmUse} (h : s.Kept Q) : (s.hbmLost u).Kept Q := by
  unfold State.hbmLost
  split
  · exact .ite (.ite h.updModel.readImage h.updModel) (.ite h.evictTo (.ite h.updModel h.demote.demote))
  · exact h.stateLost
  · exact h.updRul
  · exact h.updRul
  · exact h.parts
  · exact .ite h.abandonPass.afterAbandon h
  · exact h

theorem State.Kept.rewriteRecords {h : Nat} (hs : s.Kept Q) : (s.rewriteRecords h).Kept Q := by
  unfold State.rewriteRecords
  dsimp only
  split
  · exact .revokePlot (.ite hs.demote (.ite hs.revokeLines.updModel (.ite hs.updModel hs)))
  · exact .ite hs.demote (.ite hs.revokeLines.updModel (.ite hs.updModel hs))

theorem OutKept.ueDetected {store : UeStore} (h : s.Kept Q) : OutKept Q (execUeDetected store s) := by
  unfold execUeDetected
  refine .next ?_
  refine .ite h ?_
  split
  · refine .ite ?_ ?_
    · refine .retireTile ?_
      split
      · exact h.bump.updRep
      · exact h.bump.updRep.revokePlot
    · split
      · exact h.bump.updRep
      · exact h.bump.updRep.revokePlot
  · refine .retireLine ?_
    split
    · exact .ite h.bump.addFault.revokePlot h.bump.addFault
    · exact h.bump.addFault.abortRow
    · exact h.bump.addFault.stateLost
    · exact h.bump.addFault
  · exact h.bump.addFault.updRep.rewriteRecords
  · exact h.bump.updRep.addFault.trigger.hbmLost
  · exact h.tableFault
  · exact h.updRul.tableFault
  · exact h.spoilTable.tableFault
  · exact h.updFrame
  · exact h.updRst

theorem OutKept.ceDetected {store : CeStore} (h : s.Kept Q) : OutKept Q (execCeDetected store s) := by
  unfold execCeDetected
  refine .next ?_
  refine .ite h ?_
  split
  · exact .ite h.bump.updRep.retireTile h.bump.updRep
  · exact h.bump
  · exact h.bump
  · exact h.bump

theorem State.Kept.faultPop (h : s.Kept Q) : s.faultPop.Kept Q := by
  unfold State.faultPop
  split
  · exact h
  · exact h.updRep.setFld.setFld.setFld.setFld

theorem OutKept.capsuleCaptured (h : s.Kept Q) : OutKept Q (execCapsuleCaptured s) := by
  unfold execCapsuleCaptured
  refine .next ?_
  split
  · exact h
  · exact h.parts.updRep.updRst

theorem OutKept.capsuleStored (h : s.Kept Q) : OutKept Q (execCapsuleStored s) := by
  unfold execCapsuleStored
  refine .next ?_
  split
  · exact h
  · exact h.updRst.updRep.bump.addFault

theorem OutKept.capsule {desc : Nat} (h : s.Kept Q) :
    OutKept Q (execCapsule desc s) :=
  .next (.ite (.ite (.ite (.completeDesc (.ite h h.qpWrite)) h.free.completeDesc) (.completeDesc
      (.ite h.parts.updRep h.parts.updRep.qpWrite))) h)

theorem OutKept.busStuck {bus : SlowBus} {sda scl : Bool} (h : s.Kept Q) : OutKept Q (execBusStuck bus sda scl s) := by
  unfold execBusStuck
  refine .next ?_
  refine .ite h ?_
  split
  · exact .ite h h.bump.addFault
  · exact .ite h (.ite h.bump.addFault.emit h.bump.addFault)

theorem OutKept.chalGet {nonce : List Byte} (h : s.Kept Q) : OutKept Q (execChalGet nonce s) :=
  .ite .fault (.next (.ite h.updRep.emit h.emit))

theorem OutKept.chalResp {response : List Byte} (h : s.Kept Q) :
    OutKept Q (execChalResp response s) := .ite .fault (.next (.ite h.emit (.ite h.updRep h.updRep.bump)))

/-! ### Mailbox -/

theorem State.Kept.mboxWrite {code : Nat} (h : s.Kept Q) : (s.mboxWrite code).Kept Q := .ite h.stick h.updHif.setFld

theorem State.Kept.mboxRun {code : Nat} {k : Mbox → State → State} (h : s.Kept Q) (hk : ∀ m t, t.Kept Q → (k m t).Kept Q) :
    (s.mboxRun code k).Kept Q := by
  unfold State.mboxRun
  split
  · exact .ite (hk _ s h) h
  · exact h

theorem State.Kept.mboxAnswer {status : Nat} {rsp : List Word} (h : s.Kept Q) : (s.mboxAnswer status rsp).Kept Q := h.updHif

theorem State.Kept.mboxRead {m : Mbox} {limit : Nat} {image : HostData} {k : List Byte → State → State} (h : s.Kept Q)
    (hk : ∀ b t, t.Kept Q → (k b t).Kept Q) : (s.mboxRead m limit image k).Kept Q := by
  refine .ite h.mboxAnswer (.ite h.mboxAnswer ?_)
  split
  · exact h.hostReads.mboxAnswer
  · exact hk _ _ h.hostReads

theorem State.Kept.mboxStore {b : List Byte} (h : s.Kept Q) : (s.mboxStore b).Kept Q := h.mboxAnswer.updHif

theorem State.Kept.putOption {b : List Byte} (h : s.Kept Q) : (s.putOption b).Kept Q := by
  unfold State.putOption
  exact h.updRst

theorem State.Kept.putFw {b : List Byte} (h : s.Kept Q) : (s.putFw b).Kept Q := by
  unfold State.putFw
  exact h.updRst

theorem OutKept.mailboxComplete (h : s.Kept Q) : OutKept Q (execMailboxComplete s) := by
  unfold execMailboxComplete
  refine .next ?_
  split
  · exact h
  · refine .ite h ?_
    refine .ite ?_ ?_
    · refine .hostOut ?_
      refine .updHif ?_
      refine .setFld ?_
      refine .setFld ?_
      refine .foldl ?_ (fun _ _ h => h.setFld)
      split
      · exact h
      · exact .ite h.putOption h.putFw
    · refine .updHif ?_
      refine .setFld ?_
      refine .setFld ?_
      refine .foldl ?_ (fun _ _ h => h.setFld)
      split
      · exact h
      · exact .ite h.putOption h.putFw

/-! ### Bus -/

theorem State.Kept.setShadow {who : Requester} {v : Option (Nat × Word)} (h : s.Kept Q) : (s.setShadow who v).Kept Q := by
  unfold State.setShadow
  split <;> exact h.parts

theorem State.Kept.stageRights {k : Rights → Rights} (h : s.Kept Q) : (s.stageRights k).Kept Q := .ite h.updDom h.updDom

theorem State.Kept.actHost {b i v : Nat} (h : s.Kept Q) :
    OptKept Q (s.actHost b i v) :=
  .ite (.some h.qpCommand) (.ite (.some h.domEpochWrite) (.ite (.some h.stageRights) (.ite (.some h.stageRights) (.ite (.some h.stageRights)
      (.ite (.some h.stageRights) (.ite (.some (.ite h.updDom h)) (.ite (.some h.wakeBudgetWrite) (.ite (.some h.lbypWrite)
      (.ite (.some h.progCommand) (.ite (.some (.ite h.retireCmd h)) (.ite (.some (.ite h.faultPop h))
      (.ite (.some h.mboxWrite) .none))))))))))))

theorem State.Kept.twoActions {v : Nat} {one two : State → State} {ok : State → Bool} (h : s.Kept Q) (h1 : ∀ t, t.Kept Q → (one t).Kept Q)
    (h2 : ∀ t, t.Kept Q → (two t).Kept Q) : (s.twoActions v one two ok).Kept Q :=
  have ht : (if bit v 0 then one s else s).Kept Q := .ite (h1 s h) h
  .ite (h2 _ ht) ht

theorem State.Kept.actCore {b v : Nat} (h : s.Kept Q) :
    OptKept Q (s.actCore b v) :=
  .ite (.some (h.twoActions (fun _ h => h.erpProfWrite) (fun _ h => h.erpProfRead)))
      (.ite (.some (h.twoActions (fun _ h => h.sfeProfWrite) (fun _ h => h.sfeProfRead))) (.ite (.some (.ite h.requestEpoch h))
      (.ite (.some (h.twoActions (fun _ h => h.statRead) (fun _ h => h.statClear))) (.ite (.some (.ite h.bayGo h)) (.ite (.some
      (.ite h.catRead h)) (.ite (.some h.reserveWrite) (.ite (.some (.ite h.adpGo h)) .none)))))))

theorem State.Kept.actRul {b i : Nat} {v : Nat} (h : s.Kept Q) :
    OptKept Q (s.actRul b i v) :=
  .ite (.some (.ite h.progCommit h)) (.ite (.some h.progWinWrite) (.ite (.some (.ite h.requestCommit h)) (.ite (.some h.tcamWrite)
      (.ite (.some h.emWrite) (.ite (.some (h.twoActions (fun _ h => h.meterWrite) (fun _ h => h.meterRead))) (.ite (.some
      (.ite h.counterClear h)) .none))))))

theorem State.Kept.actEdge {who : Requester} {b i v : Nat} (h : s.Kept Q) :
    OptKept Q (s.actEdge who b i v) :=
  .ite (.some h.rstCtrlWrite) (.ite (.some h.isoWrite) (.ite (.some h.targetWrite) (.ite (.some h.thyCtrlWrite)
      (.ite (.some h.phaseAdjWrite) (.ite (.some h.setFld) (.ite (.some h.macModeWrite) (.ite (.some (.ite h.closePair
      (.ite h.openRequest h))) (.ite (.some (.ite h.kick h)) .none))))))))

theorem State.Kept.act {who : Requester} {b i v : Nat} (h : s.Kept Q) :
    OptKept Q (s.act who b i v) := .or (.or h.actEdge h.actRul) (.or h.actCore h.actHost)

theorem State.Kept.rewritten {p : TableUse → Bool} (h : s.Kept Q) : (s.rewritten p).Kept Q := h.updRep

theorem State.Kept.sfeFenced {i : Nat} (h : s.Kept Q) : (s.sfeFenced i).Kept Q := .ite h.updSeg h.updSeg.deadSpan

theorem State.Kept.sfeRevoked (h : s.Kept Q) : s.sfeRevoked.Kept Q := (h.foldl fun _ _ h => h.updSlot).updSfe.foldl fun _ _ h => h.sfeFenced

theorem State.Kept.written {b i : Nat} {old v : Nat} (h : s.Kept Q) :
    (s.written b i old v).Kept Q :=
  .ite h.portCtrlWritten (.ite h.pfcCheck (.ite h.parts (.ite h.updSfe (.ite (.ite h.sfeRevoked h) (.ite h.rewritten (.ite h.rewritten
      (.ite h.rewritten (.ite (h.updFab.foldl fun _ _ h => h.setReg) (.ite (.ite h.avsResume h) (.ite h.linkEnables (.ite h.emit (.ite
      (.ite h.linkEnables.retrainLink h.linkEnables) (.ite (.ite h.sendRemoteReset h) h)))))))))))))

theorem State.Kept.writeReg {who : Requester} {l : Loc} {wide : Bool} {value : DWord} (h : s.Kept Q) :
    (s.writeReg who l wide value).Kept Q :=
  by
  unfold State.writeReg
  refine .ite h ?_
  split
  · exact h.act _ ‹_›
  · exact h.setReg.noteWrite.written

theorem State.Kept.busWrite {who : Requester} {a : Nat} {wide : Bool} {v : DWord} (h : s.Kept Q) : (s.busWrite who a wide v).Kept Q := by
  unfold State.busWrite
  split
  · exact h.stick
  · exact h.updRst
  · split
    · exact h
    · exact h.writeReg
  · exact h

theorem State.Kept.badAccess {a : Nat} (h : s.Kept Q) : (s.badAccess a).Kept Q := h.bump.stick.setFld

theorem OutKept.registerWrite {who : Requester} {addr : Nat} {wide : Bool} {value : DWord} (h : s.Kept Q) :
    OutKept Q (execRegisterWrite who addr wide value s) :=
  .next (.ite (.ite h.reportAer h) (.ite (.ite h.setShadow.badAccess h) (.ite h.setShadow.busWrite.busWrite h.setShadow.busWrite)))

theorem State.Kept.readHalf {who : Requester} {l : Loc} (h : s.Kept Q) : (s.readHalf who l).2.Kept Q := by
  unfold State.readHalf
  refine .ite_snd ?_ (.ite_snd h.setShadow h.setShadow)
  split <;> exact h.setShadow

theorem State.Kept.clearRc {l : Loc} (h : s.Kept Q) : (s.clearRc l).Kept Q := .ite h h.setReg

theorem State.Kept.busRead {who : Requester} {a : Nat} {wide : Bool} (h : s.Kept Q) : (s.busRead who a wide).2.Kept Q := by
  unfold State.busRead
  split
  · exact h
  · exact h.setShadow
  · exact h.setShadow.stick
  · exact .mk_snd h.setShadow.updRst
  · exact h.setShadow.free
  · split
    · exact h.setShadow
    · exact .ite_snd h.setShadow.clearRc h.readHalf.clearRc

theorem State.Kept.answerRead {who : Requester} {a : Nat} {v : Option DWord} (h : s.Kept Q) : (s.answerRead who a v).Kept Q := by
  unfold State.answerRead
  split
  · exact h
  · exact h.emit

theorem OutKept.registerRead {who : Requester} {addr : Nat} {wide : Bool} (h : s.Kept Q) :
    OutKept Q (execRegisterRead who addr wide s) :=
  .next (.ite (.ite h.reportAer h) (.ite (.ite h.setShadow.badAccess.answerRead h)
      (.ite h.busRead.busRead.answerRead h.busRead.answerRead)))

/-! ### Slow -/

theorem State.Kept.smbAnswer {b : List Byte} (h : s.Kept Q) : (s.smbAnswer b).Kept Q := h.emit

theorem State.Kept.setTap {code : Nat} (h : s.Kept Q) : (s.setTap code).Kept Q := h.updRst

/-! ### Clock -/

theorem State.Kept.nsIf {c : Bool} {a : Nat} (h : s.Kept Q) : (s.nsIf c a).Kept Q := .ite h.bump h

theorem State.Kept.measure {n : Nat} (h : s.Kept Q) : (s.measure n).2.Kept Q := .ite_snd h.free h.free

theorem State.Kept.noteTile {t : Nat} {w : Option StallKind} {ready : Bool} (h : s.Kept Q) : (s.noteTile t w ready).Kept Q := by
  unfold State.noteTile
  refine .ite (.ite h.updTile h) ?_
  dsimp only
  split
  · exact .updTile (.ite h.updTile h)
  · split
    · exact (State.Kept.of_snd (.measure (.updTile (.ite h.updTile h))) ‹_›).bump
    · exact (State.Kept.of_snd (.measure (.updTile (.ite h.updTile h))) ‹_›).addCnt

theorem State.Kept.noteSel {k : StallKind} {i : Nat} {now_ : Bool} (h : s.Kept Q) : (s.noteSel k i now_).Kept Q := by
  unfold State.noteSel
  dsimp only
  split
  · exact h.updFab
  · split
    · exact h.updFab.measure.of_snd ‹_›
    · exact (h.updFab.measure.of_snd ‹_›).addCnt
  · exact h

theorem State.Kept.noteFabric (h : s.Kept Q) : s.noteFabric.Kept Q := (h.foldl fun _ _ h => h.noteTile).noteSel.noteSel.noteSel.noteSel

theorem State.Kept.countNs (h : s.Kept Q) : s.countNs.Kept Q := h.nsIf.nsIf.nsIf.nsIf.nsIf.addCnt

theorem State.Kept.sendCloses (h : s.Kept Q) : s.sendCloses.Kept Q := h.foldl fun _ _ h => h.sendClose

theorem State.Kept.noteGuard (h : s.Kept Q) : s.noteGuard.Kept Q := h.foldl fun _ _ h => h.updPort

theorem State.Kept.elapse (h : s.Kept Q) : s.elapse.Kept Q :=
  h.sendCloses.countNs.parts.notePower.noteFabric.pfcCheckAll.noteGuard.hostCopies

theorem State.Kept.elapseN {n : Nat} (h : s.Kept Q) : (State.elapseN n s).Kept Q := by
  induction n generalizing s with
  | zero => exact h
  | succ n ih => exact ih h.elapse

theorem State.Kept.tickNs (h : s.Kept Q) : s.tickNs.2.Kept Q := by
  unfold State.tickNs
  dsimp only
  split
  · exact .mk_snd h.updThy
  · exact .ite_snd (.mk_snd h.updThy.updThy) (.mk_snd h.updThy)

theorem State.Kept.tick (h : s.Kept Q) : s.tick.Kept Q := .ite h.parts h.parts.tickNs.elapseN

/-! ### The dispatch and the step -/

/-- Every command keeps canonical form and leaves the queue of the commands behind it as it is. -/
theorem OutKept.exec {i : Instr} (h : s.Kept Q) : OutKept Q (exec i s) :=
  match i with
  | .sofDelimiter _ _ => .sofDelimiter h
  | .copyTruncated _ => .copyTruncated h
  | .oversizeTruncation _ => .oversizeTruncation h
  | .frameTail _ _ => .frameTail h
  | .mirrorWaitExpiry _ => .mirrorWaitExpiry h
  | .actionRecordReturn _ => .actionRecordReturn h
  | .decisionDeadline _ => .next (.ite h.fallback h)
  | .egressFrameBoundary _ => .next h.boundary
  | .arbGuardExpiry _ => .next h.updPort
  | .pauseRx _ _ => .next (h.edgeWrite fun _ h => .ite h.bump.bump.updPort h.bump.bump)
  | .pfcRx _ _ _ => .pfcRx h
  | .pauseHoldExpiry _ => .next h.updPort
  | .pfcXoffRefresh _ => .pfcXoffRefresh h
  | .pcsLockRise _ => .next (h.edgeWrite fun _ h => .ite h.updPort h)
  | .pcsLockFall _ => .next (.ite h.updPort.linkLost h)
  | .linkUp _ => .next (.ite h.updPort.tryOpen h)
  | .macModeWrite _ => .next (h.edgeWrite fun _ h => h.macModeWrite)
  | .bypOpenRequest _ => .next (h.edgeWrite fun _ h => h.openRequest)
  | .bypClose _ _ => .next (h.edgeWrite fun _ h => h.closePair)
  | .bypKick _ _ => .next (h.edgeWrite fun _ h => h.kick)
  | .hbExpiry _ => .next h.hbExpiry
  | .openTimeout _ => .next h.openTimeout
  | .thymeStep _ => .next (h.edgeWrite fun _ h => h.thyCtrlWrite)
  | .phaseAdjWrite _ => .next (h.edgeWrite fun _ h => h.phaseAdjWrite)
  | .phaseSlewDone => .phaseSlewDone h
  | .ppsInEdge => .next (.ite h (.ite h.bumpFld (.ite h.setReg.setFld.updThy h.setReg.setFld.updThy.ppsServo)))
  | .ppsPhaseTermEnd => .next (.ite h.updThy h)
  | .ppsHoldoverTimeout => .next (.ite h.enterHoldover h)
  | .ppsOutRise => .next (.ite h.updThy.emit h)
  | .ppsOutFall => .next (.ite h.updThy.emit h)
  | .ptpEventRx _ => .next (.ite h.updFrame.emit h)
  | .trefclkLoss => .next (.ite h (.ite h.updThy.enterHoldover h.updThy.event))
  | .trefclkReturn => .next (.ite (.ite h.updThy.updThy.setLock h.updThy) h)
  | .chiveDispatch => .chiveDispatch h
  | .parseNop _ => .next h.parseRow
  | .parseExt _ => .next h.parseRow
  | .parseAndi _ => .next h.parseRow
  | .parseShri _ => .next h.parseRow
  | .parseAddi _ => .next h.parseRow
  | .parseMovi _ => .next h.parseRow
  | .parseAdd _ => .next h.parseRow
  | .parseShli _ => .next h.parseRow
  | .parseBeqi _ => .next h.parseRow
  | .parseBnei _ => .next h.parseRow
  | .parseBlti _ => .next h.parseRow
  | .parseJmp _ => .next h.parseRow
  | .parseAdv _ => .next h.parseRow
  | .parseAdvi _ => .next h.parseRow
  | .parseMark _ => .next h.parseRow
  | .parseSetf _ => .next h.parseRow
  | .parseCopy _ => .next h.parseRow
  | .parseCnt _ => .next h.parseRow
  | .parseUbp _ => .next h.parseRow
  | .parseDone _ => .next h.parseRow
  | .parseSlow _ => .next h.parseRow
  | .parseFail _ => .next h.parseRow
  | .parseIllegal _ => .next (h.whenRuns fun _ h => .ite h.endProgram h)
  | .steps _ => .next (h.whenRuns fun _ h => .ite h.endProgram h)
  | .segmentHeaderWalk _ => .segmentHeaderWalk h
  | .tailAtChive _ => .tailAtChive h
  | .prvRelease _ => .next (h.whenRuns fun _ h => h.releaseHead)
  | .progCommit => .next (h.coreWrite fun _ h => h.progCommit)
  | .progDrainDone => .next (h.whenRuns fun _ h => .ite h h.parts)
  | .streamLookup => .streamLookup h
  | .streamCacheFill _ => .streamCacheFill h
  | .ruleCommit => .next (h.coreWrite fun _ h => h.requestCommit)
  | .commitExecute => .commitExecute h
  | .versionRetire => .versionRetire h
  | .tcamAdd _ => .next (h.coreWrite fun _ h => h.tcamWrite)
  | .tcamDelete _ => .next (h.coreWrite fun _ h => h.tcamWrite)
  | .tcamRead _ => .next (h.coreWrite fun _ h => h.tcamWrite)
  | .tcamCmdComplete => .tcamCmdComplete h
  | .emInsert => .next (h.coreWrite fun _ h => h.emWrite)
  | .emModify => .next (h.coreWrite fun _ h => h.emWrite)
  | .emDelete => .next (h.coreWrite fun _ h => h.emWrite)
  | .emCmdComplete => .emCmdComplete h
  | .meterWrite => .next (h.coreWrite fun _ h => h.meterWrite)
  | .meterRead => .next (h.coreWrite fun _ h => h.meterRead)
  | .counterSweep => .counterSweep h
  | .sweepComplete => .sweepComplete h
  | .counterClear => .next (h.coreWrite fun _ h => h.counterClear)
  | .resultAtErp => .resultAtErp h
  | .coalesceWindowEnd _ => .coalesceWindowEnd h
  | .verdictAtErp _ => .next (h.whenRuns fun _ h => .ite (h.verdictAtErp.foldl fun _ _ h => h.sendVerdictTo) h.verdictAtErp)
  | .stomp _ => .stomp h
  | .remoteWaitExpiry _ => .remoteWaitExpiry h
  | .erpProfileWrite => .next (h.coreWrite fun _ h => h.erpProfWrite)
  | .erpProfileRead => .next (h.coreWrite fun _ h => h.erpProfRead)
  | .segmentAdmission => .segmentAdmission h
  | .segmentAllocate => .segmentAllocate h
  | .stateLineLoad _ => .next (h.whenRuns fun _ h => .ite (h.updSfe.foldl fun _ _ h => .ite h.updSeg h) h)
  | .featureFrame _ => .next (h.whenRuns fun _ h => .ite h (.ite h.dropWithdrawn h.makeFrame))
  | .packWaitEnd _ => .next (h.whenRuns fun _ h => .ite h.updRow h)
  | .rowPop _ => .rowPop h
  | .tileNop _ => .next h.fireOp
  | .macw _ => .next h.fireOp
  | .tileMac _ => .next h.fireOp
  | .drain _ => .next h.fireOp
  | .vop _ => .next h.fireOp
  | .lut _ => .next h.fireOp
  | .tileMov _ => .next h.fireOp
  | .lds _ => .next h.fireOp
  | .sts _ => .next h.fireOp
  | .sectionStoreResponse _ => .sectionStoreResponse h
  | .ctl _ => .next h.fireOp
  | .tileJmp _ => .next h.fireOp
  | .cset _ => .next h.fireOp
  | .secend _ => .next (.ite h (.ite (.ite h.endTile h) (.ite h.takeSources.countTokens.endTile h)))
  | .routerHop _ => .routerHop h
  | .creditReturn _ => .creditReturn h
  | .flowUnitToken _ _ => .flowUnitToken h
  | .sectionEndReport _ => .sectionEndReport h
  | .contextLoaded _ => .next (.ite (.ite h.abandonPass (.ite h.loadContexts.revokePlot h.loadContexts.tryFlips)) h)
  | .blockFlip _ => .next (.ite (h.updPlot.foldl fun _ _ h => h.flipTile) h)
  | .configCommit _ => .next (h.whenRuns fun _ h => .ite h.vacateStep (.ite h.vacateStep.stick.bump h.vacateStep.updField))
  | .commitOrdered _ => .next (.ite h h.orderCommit)
  | .qdSample => .next (.ite h (h.foldl fun _ _ h => .ite h h.setFld.setFld.addCnt.bump))
  | .stateLoad _ => .stateLoad h
  | .stateWriteback _ => .stateWriteback h
  | .widenDecision _ => .next (.ite (.ite h.widen h.updPlot.standSection) h)
  | .epochCommit => .next (h.coreWrite fun _ h => h.requestEpoch)
  | .epochAdvance => .next (.ite h ((h.foldl fun _ _ h => h.installPlot).foldl fun _ _ h => h.updModel).updNum)
  | .epochRetire => .epochRetire h
  | .statRead => .next (h.coreWrite fun _ h => h.statRead)
  | .statClear => .next (h.coreWrite fun _ h => h.statClear)
  | .bayRegister _ _ _ => .bayRegister h
  | .bayUnregister _ => .bayUnregister h
  | .bayPrefetch _ => .bayPrefetch h
  | .bayEvict _ => .bayEvict h
  | .bayPin _ => .next (h.bayRun fun _ _ _ h => .ite h.bayDone h.pinModel.bayDone)
  | .bayUnpin _ => .next (h.bayRun fun _ _ _ h => .ite h.bayDone (.ite h.bayDone h.updModel.bayDone))
  | .bayRenew _ => .next (h.bayRun fun _ _ _ h => .ite h.bayDone (.ite h.pinModel.bayDone h.bayDone))
  | .bayReplace _ _ _ => .bayReplace h
  | .bayCalStage _ _ => .bayCalStage h
  | .baySlotGrant _ => .baySlotGrant h
  | .baySlotReset _ => .baySlotReset h
  | .pageInStart _ => .pageInStart h
  | .imageCopyDone _ _ => .imageCopyDone h
  | .digestVerdict _ => .digestVerdict h
  | .pageInLoadsDone _ => .pageInLoadsDone h
  | .plotStall _ => .next (h.whenRuns fun _ h => .ite h.bump.revokePlot h)
  | .revocationFence => .revocationFence h
  | .pinExpiry _ => .pinExpiry h
  | .serveReserveWrite _ => .next (h.coreWrite fun _ h => h.reserveWrite)
  | .adpOpen _ _ _ _ => .adpOpen h
  | .adpRun _ => .adpRun h
  | .adpStop _ => .adpStop h
  | .adpClose _ => .next (h.adpCmd fun _ _ _ h => .ite h.adpDone (.ite h.adpDone h.updJob.adpDone))
  | .adpRenew _ => .next (h.adpCmd fun _ _ _ h => .ite h.adpDone h.updJob.adpDone)
  | .grantExpiry _ => .grantExpiry h
  | .sampleDecode _ _ _ _ => .next (.ite h (.ite h.bumpIf.updJob.buildRows h.endRun))
  | .epochOrderReady _ => .next (.ite h.updJob.beginBatch h)
  | .gradientReduce _ _ => .gradientReduce h
  | .optimiserUpdate _ => .optimiserUpdate h
  | .checkpointWrite _ => .checkpointWrite h
  | .doorbell _ _ _ _ => .doorbell h
  | .descriptorFetch _ => .next (.ite h.updQp.hostOut.updHif h)
  | .descriptorArrival _ _ => .descriptorArrival h
  | .descNop _ => .next (.ite h.completeDesc h)
  | .infer _ => .next (.ite h.payloadRead h)
  | .txFrame _ => .next (.ite h.payloadRead h)
  | .rxBuf _ => .next (.ite h.updDesc.updQp.drainQp h)
  | .counterDump _ => .next (.ite h.qpWrite.completeDesc h)
  | .commitRules _ => .next (.ite h.updDesc.requestCommit h)
  | .capsule _ => .capsule h
  | .adaptBatch _ => .next (.ite (.ite h.updDesc.completeDesc h.updDesc.updAdp) h)
  | .dmaReadCompletion _ _ => .dmaReadCompletion h
  | .completionTimeout _ => .completionTimeout h
  | .modTimerExpiry _ => .modTimerExpiry h
  | .qpCreate _ => .next (h.coreWrite fun _ h => h.qpCommand)
  | .qpDestroy _ => .next (h.coreWrite fun _ h => h.qpCommand)
  | .qpRevoke _ => .next (h.coreWrite fun _ h => h.qpCommand)
  | .qpSetBase _ => .next (h.coreWrite fun _ h => h.qpCommand)
  | .qpSetMod _ => .next (h.coreWrite fun _ h => h.qpCommand)
  | .qpRead _ => .next (h.coreWrite fun _ h => h.qpCommand)
  | .qpFenceDrained _ => .next (.ite h.qpFree.event h)
  | .domainEpochWrite _ => .next (h.coreWrite fun _ h => h.domEpochWrite)
  | .epochInForce _ => .epochInForce h
  | .domainDrained _ => .next (.ite h.updDom h)
  | .vfFlr _ => .next (.ite h (h.foldl fun _ _ h => h.fenceQp).updHif.event)
  | .busMasterChange _ _ => .next (.ite (h.updHif.updHif.foldl fun _ _ h => h.emit) h.updHif)
  | .wakeBudgetWrite _ _ => .next (h.coreWrite fun _ h => h.wakeBudgetWrite)
  | .getInfo => .next (h.mboxRun fun _ _ h => h.mboxAnswer)
  | .getSensors => .next (h.mboxRun fun _ _ h => h.mboxAnswer)
  | .ledgerRead => .next (h.mboxRun fun _ _ h => .ite h.mboxAnswer h.mboxAnswer)
  | .hbKick => .next (h.mboxRun fun _ _ h => (h.foldl fun _ _ h => .ite h.updPair.kick h.updPair).mboxAnswer)
  | .hbKickTick => .next (.ite h (h.foldl fun _ _ h => .ite h.updPair.kick h))
  | .capsuleClear => .next (h.mboxRun fun _ _ h => h.updRst.mboxAnswer)
  | .optionWrite _ => .next (h.mboxRun fun _ _ h => h.mboxRead fun _ _ h => h.putOption.mboxStore)
  | .fwStage _ => .next (h.mboxRun fun _ _ h => h.mboxRead fun _ _ h => h.putFw.mboxStore)
  | .mailboxComplete => .mailboxComplete h
  | .linkFrameRx _ _ _ _ => .linkFrameRx h
  | .passNotice _ => .passNotice h
  | .spanNotice _ => .spanNotice h
  | .verdict _ => .verdict h
  | .progAbort _ => .progAbort h
  | .chipAbsent _ => .chipAbsent h
  | .remoteReset _ => .remoteReset h
  | .replayTimeout _ => .next (.ite h.replay h)
  | .linkTrained _ _ _ => .next (.ite h (.ite h.failLink (.ite h.failLink h.updLink.dirBack.ringGap.drainLink)))
  | .laneBad _ _ => .next (.ite h (.ite h.updLink.startRetrain (.ite h.updLink h)))
  | .linkRetrained _ _ => .next (.ite h (.ite h.failLink h.updLink.dirBack.resend.drainLink.returnCredits))
  | .linkSignalLoss _ => .next (.ite h.failLink h)
  | .linkRetry _ => .next (.ite h.updLink h)
  | .linkRetrainRequest _ => .next (h.coreWrite fun _ h => h.retrainLink)
  | .linkSetSwitch _ _ => .next (.ite h.settleDir.returnCredits h)
  | .absentTimeout _ _ => .next (.ite h.noteAbsent.raiseAbsent h)
  | .recoverEnd _ => .next (.ite h.updProg h)
  | .progWrite => .next (h.coreWrite fun _ h => h.progCommand)
  | .progEnable => .next (h.coreWrite fun _ h => h.progCommand)
  | .progDisable => .next (h.coreWrite fun _ h => h.progCommand)
  | .progResume => .next (h.coreWrite fun _ h => h.progCommand)
  | .progRemap => .next (h.coreWrite fun _ h => h.progCommand)
  | .lbypOpen _ => .next (h.coreWrite fun _ h => h.lbypWrite)
  | .lbypClose _ => .next (h.coreWrite fun _ h => h.lbypWrite)
  | .rrstGo _ => .next (h.coreWrite fun _ h => h.setFld.sendRemoteReset)
  | .paceFallLatch _ _ => .next (.ite h.updFieldPow.noteMin.noteLow h)
  | .governorDecision => .governorDecision h
  | .avsWriteComplete _ => .next (.ite h (.ite h.updPow (.ite h.updPow.bump h.updPow.bump.updPow.stick.updRep.thermalEvent)))
  | .powerSample _ _ _ => .next (.ite h.updPow h)
  | .pmbusPoll _ _ => .next (.ite (h.updPow.foldl fun _ _ h => h.pollTarget) h)
  | .pacTargetWrite _ => .next (h.coreWrite fun _ h => h.targetWrite)
  | .powerStateEntry _ => .powerStateEntry h
  | .deviceIdleEntry => .next (.ite h.updPow h)
  | .fieldWake _ => .next (.ite (.ite h.cancelEntry.beginWake h.cancelEntry) h)
  | .deviceWake _ => .next h.leaveIdle
  | .wakeComplete _ => .wakeComplete h
  | .sensorSweep _ => .sensorSweep h
  | .thermalTrip => .next (.ite h.takeLevel h)
  | .powerOn => .next h.takeLevel
  | .brownOut => .next h.takeLevel
  | .rstin _ => .next (.ite h (.ite h.takeLevel (.ite h.free.takeLevel h.free)))
  | .perst => .next h.takeLevel
  | .pcieHotReset => .next (.ite h.takeReset h)
  | .sageWatchdog => .next (.ite h.takeReset h)
  | .watchdogKick _ => .watchdogKick h
  | .softwareFullReset _ => .next (h.edgeWrite fun _ h => h.rstCtrlWrite)
  | .stretchEnd _ => .next (.ite (.ite h.updRst h.parts.enterPhase.emit) h)
  | .fusePhaseDone _ => .next (.ite h (.ite h.halt h.loadFuses.phaseDone.enterPhase))
  | .repairPhaseDone => .next (.ite h (h.foldl fun _ _ h => h.updRepField.loadBootMap).updRep.phaseDone.beginOption)
  | .optionPhaseDone _ => .optionPhaseDone h
  | .bistPhaseDone _ => .next (.ite h (h.foldl fun _ _ h => h.bistDefect).updPow.avsWrite.phaseDone.enterPhase)
  | .hbmPhaseDone _ => .next (.ite h (.ite h.halt h.updRul.updBay.phaseDone.enterPhase))
  | .coreReady => .next (.ite h (.ite h.setFld.updRst.setFld.setFld h.setFld.updRst.setFld))
  | .isolate _ => .next (h.edgeWrite fun _ h => h.isoWrite)
  | .busTimeout => .busTimeout h
  | .tileWdog _ => .next (.ite h.bump.retireTile h)
  | .ueDetected _ => .ueDetected h
  | .ceDetected _ => .ceDetected h
  | .retireCmd _ => .next (h.coreWrite fun _ h => h.retireCmd)
  | .remapSubmit _ => .remapSubmit h
  | .remapApply _ => .remapApply h
  | .ledgerWriteDone _ => .ledgerWriteDone h
  | .patrolScrub => .next h
  | .faultPop => .next (h.coreWrite fun _ h => h.faultPop)
  | .capsuleTrigger _ => .next (.ite h (.ite h.updRep.updRep h.updRep))
  | .capsuleCaptured => .capsuleCaptured h
  | .capsuleStored => .capsuleStored h
  | .busStuck _ _ _ => .busStuck h
  | .chalGet _ => .chalGet h
  | .chalResp _ => .chalResp h
  | .chalStat => .next h.emit
  | .devId => .next h.smbAnswer
  | .smbTj => .next h.smbAnswer
  | .smbState => .next h.smbAnswer
  | .smbCause => .next h.smbAnswer
  | .extest => .next h.setTap
  | .samplePreload => .next h.setTap
  | .idcode => .next h.setTap
  | .clamp => .next h.setTap
  | .highz => .next h.setTap
  | .jtagBypass _ => .next (.ite h h.setTap)
  | .badAccess _ => .next (.ite h (.ite h.reportAer h.setShadow.badAccess))
  | .registerWrite _ _ _ _ => .registerWrite h
  | .sfeProfileWrite => .next (h.coreWrite fun _ h => h.sfeProfWrite)
  | .sfeProfileRead => .next (h.coreWrite fun _ h => h.sfeProfRead)
  | .bayCatRead => .next (h.coreWrite fun _ h => h.catRead)
  | .registerRead _ _ _ => .registerRead h
  | .levelSourceDeassertion _ => .next (.ite h.updRst h)
  | .dlActive => .next (.ite h.updRst h)
  | .d3hotTransition _ _ => .next h.updHif
  | .tapReset => .next h.setTap
  | .tlpError _ _ _ => .tlpError h

/-- A step takes the first command off the queue, or lets a nanosecond pass where none waits. -/
theorem OutKept.step (hs : s.canonical) : OutKept s.pending.tail (step s) := by
  unfold Machine.step
  split
  next hq => exact .next (State.Kept.tick ⟨hs, by rw [hq]; rfl⟩)
  next c rest hq => exact .exec ⟨hs, by rw [hq]; rfl⟩

/-- Settles O2: every command keeps canonical form, and so does the tick of an empty queue. -/
theorem everyStepKeepsCanonicalForm : Obligations.EveryStepKeepsCanonicalForm := by
  intro s t hs ht
  have h := OutKept.step hs
  rw [ht] at h
  exact h.canonical

end Sys2Proof.Machine
end

section
/-! The register bus (R13, R384 to R388): what becomes of each access, and the facts about fields, shadows and gates that O59 is assembled
from. -/

namespace Sys2Proof.Machine

/-! ### Fields of a register -/

theorem getLsbD_maskBits {hi lo i : Nat} (hlo : lo ≤ hi) (hhi : hi < 64) :
    (maskBits hi lo).getLsbD i = decide (lo ≤ i ∧ i ≤ hi) := by
  simp only [maskBits, BitVec.getLsbD_ofNat, Nat.testBit_shiftLeft, Nat.testBit_two_pow_sub_one, ← Bool.decide_and]
  rw [decide_eq_decide]
  omega

theorem testBit_bits (n hi lo i : Nat) : (bits n hi lo).testBit i = (decide (i < hi + 1 - lo) && n.testBit (lo + i)) := by
  simp [bits, Nat.testBit_mod_two_pow, Nat.testBit_shiftRight]

theorem getLsbD_putBits (v : DWord) {hi lo : Nat} (n : Nat) (i : Nat) (hlo : lo ≤ hi) (hhi : hi < 64) :
    (putBits v hi lo n).getLsbD i = if lo ≤ i ∧ i ≤ hi then n.testBit (i - lo) else v.getLsbD i := by
  simp only [putBits, BitVec.getLsbD_or, BitVec.getLsbD_and, BitVec.getLsbD_not, getLsbD_maskBits hlo hhi, BitVec.getLsbD_ofNat,
    Nat.testBit_shiftLeft, Nat.testBit_mod_two_pow]
  by_cases h : lo ≤ i ∧ i ≤ hi
  · obtain ⟨h1, h2⟩ := h
    have h3 : i < 64 := by omega
    have h4 : i - lo < hi + 1 - lo := by omega
    simp [h1, h2, h3, h4]
  · rw [if_neg h]
    by_cases h1 : lo ≤ i
    · have h2 : ¬ i - lo < hi + 1 - lo := by omega
      have h3 : ¬ i ≤ hi := fun h3 => h ⟨h1, h3⟩
      by_cases h4 : i < 64
      · simp [h1, h2, h3, h4]
      · simp [h4, BitVec.getLsbD_of_ge v i (by omega)]
    · by_cases h4 : i < 64
      · simp [h1, h4]
      · simp [h4, BitVec.getLsbD_of_ge v i (by omega)]

/-- A field reads back what was put in it. -/
theorem bits_putBits_self (v : DWord) {hi lo : Nat} (n : Nat) (hlo : lo ≤ hi) (hhi : hi < 64) :
    bits (putBits v hi lo n).toNat hi lo = n % 2 ^ (hi + 1 - lo) := by
  refine Nat.eq_of_testBit_eq fun i => ?_
  rw [testBit_bits, BitVec.testBit_toNat, getLsbD_putBits v n _ hlo hhi, Nat.testBit_mod_two_pow]
  by_cases h : i < hi + 1 - lo
  · rw [if_pos (by omega), Nat.add_sub_cancel_left]
  · simp [h]

/-- A field apart from the one that was put keeps its value. -/
theorem bits_putBits_of_disjoint (v : DWord) {hi lo hi' lo' : Nat} (n : Nat) (hlo : lo ≤ hi) (hhi : hi < 64) (h : hi < lo' ∨ hi' < lo) :
    bits (putBits v hi lo n).toNat hi' lo' = bits v.toNat hi' lo' := by
  refine Nat.eq_of_testBit_eq fun i => ?_
  rw [testBit_bits, testBit_bits, BitVec.testBit_toNat, BitVec.testBit_toNat, getLsbD_putBits v n _ hlo hhi]
  by_cases hi : i < hi' + 1 - lo'
  · rw [if_neg (by omega)]
  · simp [hi]

theorem State.fld_setFld_self (s : State) (f : Fld) (n : Nat) (hlo : f.lo ≤ f.hi) (hhi : f.hi < 64) :
    (s.setFld f n).fld f = n % 2 ^ (f.hi + 1 - f.lo) := by
  simp [State.fld, State.setFld, bits_putBits_self _ _ hlo hhi]

theorem State.fld_setFld_of_disjoint (s : State) {f g : Fld} (n : Nat) (hlo : f.lo ≤ f.hi) (hhi : f.hi < 64)
    (h : f.hi < g.lo ∨ g.hi < f.lo) : (s.setFld f n).fld g = s.fld g := by
  by_cases ha : g.addr = f.addr
  · simp [State.fld, State.setFld, ha, bits_putBits_of_disjoint _ _ hlo hhi h]
  · exact s.fld_setFld_ne f g n ha

theorem State.fld_stick (s : State) (f g : Fld) : (s.stick f).fld g = (s.setFld f 1).fld g := by
  rw [State.fld, State.reg_stick]
  rfl

/-- A sticky bit that was set reads 1. -/
theorem State.flag_stick_self (s : State) (f : Fld) (h : f.lo = f.hi) (hhi : f.hi < 64) : (s.stick f).flag f = true := by
  simp [State.flag, State.fld_stick, State.fld_setFld_self _ _ _ (Nat.le_of_eq h) hhi, h]

theorem State.flag_eq_getLsbD (s : State) (f : Fld) (h : f.lo = f.hi) : s.flag f = (s.reg f.addr).getLsbD f.lo := by
  have hb : s.fld f = ((s.reg f.addr).getLsbD f.lo).toNat := by
    rw [State.fld, bits, ← h, Nat.add_sub_cancel_left, BitVec.getLsbD, Nat.shiftRight_eq_div_pow, Nat.toNat_testBit, pow_one]
  rw [State.flag, hb]
  cases (s.reg f.addr).getLsbD f.lo <;> rfl

/-! ### Halves of a double word -/

theorem setWidth_low (v : DWord) : (v.setWidth 32).setWidth 64 = v &&& 0xFFFFFFFF := by
  refine BitVec.eq_of_toNat_eq ?_
  rw [BitVec.toNat_and, show (0xFFFFFFFF : DWord).toNat = 2 ^ 32 - 1 from rfl, Nat.and_two_pow_sub_one_eq_mod]
  simp only [BitVec.toNat_setWidth]
  omega

theorem setWidth_high (v : DWord) : ((v >>> 32).setWidth 32).setWidth 64 = v >>> 32 := by
  refine BitVec.eq_of_toNat_eq ?_
  simp only [BitVec.toNat_setWidth, BitVec.toNat_ushiftRight, Nat.shiftRight_eq_div_pow]
  omega

/-! ### Where an access goes -/

@[simp] theorem State.reg_setShadow (s : State) (w : Requester) (x : Option (Nat × Word)) (a : Nat) : (s.setShadow w x).reg a = s.reg a := by
  cases w <;> rfl

@[simp] theorem State.regs_setShadow (s : State) (w : Requester) (x : Option (Nat × Word)) : (s.setShadow w x).regs = s.regs := by
  cases w <;> rfl

@[simp] theorem State.out_setShadow (s : State) (w : Requester) (x : Option (Nat × Word)) : (s.setShadow w x).out = s.out := by
  cases w <;> rfl

@[simp] theorem State.now_setShadow (s : State) (w : Requester) (x : Option (Nat × Word)) : (s.setShadow w x).now = s.now := by
  cases w <;> rfl

@[simp] theorem State.shadow_setShadow (s : State) (w : Requester) (x : Option (Nat × Word)) : (s.setShadow w x).shadow w = x := by
  cases w <;> rfl

@[simp] theorem State.gate_setShadow (s : State) (w u : Requester) (x : Option (Nat × Word)) (a : Nat) :
    (s.setShadow w x).gate u a = s.gate u a := by
  cases w <;> rfl

/-- Who reaches the host's side of the bus is past phase 1, so Sage reaches it too. -/
theorem State.one_le_phase_of_reachable {s : State} (h : s.reachable = true) : 1 ≤ s.phase := by
  simp only [State.reachable, Bool.and_eq_true, decide_eq_true_eq] at h
  omega

theorem State.gate_early {s : State} {b : BlockDef} (w : Requester) {a : Nat} (h : s.reachable = true) (hb : findBlock a = some b)
    (hc : b.core = true) (hr : s.rst.coreReady = false) : s.gate w a = .early := by
  cases w
  · simp [State.gate, h, hb, hc, hr]
  · simp [State.gate, State.one_le_phase_of_reachable h, hb, hc, hr]

/-- The blocks beside the core that no bit of RST_ISO cuts off are ready once the host reaches BAR0. -/
theorem State.gate_ready_of_edge {s : State} (w : Requester) {a : Nat} (h : s.reachable = true)
    (hb : (findBlock a).map (fun b => (b.core, isoBlock b.base)) = some (false, none)) : s.gate w a = .ready := by
  obtain ⟨b, hb, hp⟩ := Option.map_eq_some_iff.mp hb
  obtain ⟨hc, hi⟩ := Prod.mk.inj hp
  cases w
  · simp [State.gate, h, hb, hc, hi, State.isolated]
  · simp [State.gate, State.one_le_phase_of_reachable h, hb, hc, hi, State.isolated]

/-! ### The accesses that the bus turns away -/

theorem exec_registerWrite_unsupported {w : Requester} {a : Nat} {wide : Bool} {v : DWord} {s : State} (h : barSize ≤ a ∨ s.asleep w = true) :
    exec (.registerWrite w a wide v) s = .next (if s.reachable then s.reportAer 0 .unsupported else s) := by
  show execRegisterWrite w a wide v s = _
  rw [execRegisterWrite, if_pos h]

theorem exec_registerRead_unsupported {w : Requester} {a : Nat} {wide : Bool} {s : State} (h : barSize ≤ a ∨ s.asleep w = true) :
    exec (.registerRead w a wide) s = .next (if s.reachable then s.reportAer 0 .unsupported else s) := by
  show execRegisterRead w a wide s = _
  rw [execRegisterRead, if_pos h]

section
variable {w : Requester} {a : Nat} {wide : Bool} {v : DWord} {s : State} (ha : a < barSize) (hs : s.asleep w = false)
include ha hs

theorem not_unsupported : ¬ (barSize ≤ a ∨ s.asleep w = true) := by
  rw [hs]
  exact fun h => h.elim (Nat.not_le.mpr ha) Bool.false_ne_true

theorem exec_registerWrite_misaligned (hm : aligned a wide = false) :
    exec (.registerWrite w a wide v) s = .next (if s.reachable then (s.setShadow w none).badAccess a else s) := by
  show execRegisterWrite w a wide v s = _
  rw [execRegisterWrite, if_neg (not_unsupported ha hs), if_pos hm]

theorem exec_registerRead_misaligned (hm : aligned a wide = false) : exec (.registerRead w a wide) s =
    .next (if s.reachable then ((s.setShadow w none).badAccess a).answerRead w a (some 0) else s) := by
  show execRegisterRead w a wide s = _
  rw [execRegisterRead, if_neg (not_unsupported ha hs), if_pos hm]

theorem exec_registerWrite_word (h4 : a % 4 = 0) :
    exec (.registerWrite w a false v) s = .next ((s.setShadow w none).busWrite w a false v) := by
  show execRegisterWrite w a false v s = _
  rw [execRegisterWrite, if_neg (not_unsupported ha hs)]
  simp [aligned, h4]

theorem exec_registerRead_word (h4 : a % 4 = 0) :
    exec (.registerRead w a false) s = .next ((s.busRead w a false).2.answerRead w a (s.busRead w a false).1) := by
  show execRegisterRead w a false s = _
  rw [execRegisterRead, if_neg (not_unsupported ha hs)]
  simp [aligned, h4]

theorem exec_registerWrite_pair (h8 : a % 8 = 0) (hw : isWide a = false) : exec (.registerWrite w a true v) s =
    .next (((s.setShadow w none).busWrite w a false (v &&& 0xFFFFFFFF)).busWrite w (a + 4) false (v >>> 32)) := by
  show execRegisterWrite w a true v s = _
  rw [execRegisterWrite, if_neg (not_unsupported ha hs)]
  simp [aligned, h8, hw]

end

/-! ### Ties of one nanosecond (R388) -/

theorem getLsbD_tieMask (l : List (Nat × DWord)) (a i : Nat) :
    (tieMask l a).getLsbD i = l.any (fun c => decide (c.1 = a) && c.2.getLsbD i) := by
  have hacc : ∀ m : DWord, (l.foldl (fun m c => if c.1 = a then m ||| c.2 else m) m).getLsbD i =
      (m.getLsbD i || l.any (fun c => decide (c.1 = a) && c.2.getLsbD i)) := by
    induction l with
    | nil => simp
    | cons c r ih =>
      intro m
      rw [List.foldl_cons, ih]
      by_cases hc : c.1 = a <;> simp [hc, Bool.or_assoc]
  simp [tieMask, hacc]

theorem mem_tieAdd (l : List (Nat × DWord)) (a : Nat) {m : DWord} (hm : m ≠ 0) : (a, m) ∈ tieAdd l a m := by
  unfold tieAdd
  split
  next h => exact List.contains_iff_mem.mp (h.resolve_left hm)
  next => exact List.mem_append_right _ (List.mem_singleton.mpr rfl)

theorem State.ties_tieAt (s : State) : s.ties.tieAt = s.now := by
  unfold State.ties
  split
  next h => exact h
  next => rfl

theorem State.raised_stick (s : State) (f : Fld) :
    (s.stick f).ties.raised = tieAdd (s.setFld f 1).ties.raised f.addr (maskBits f.hi f.lo) := by
  have h : (s.stick f).regs.tieAt = (s.stick f).now := (s.setFld f 1).ties_tieAt
  rw [State.ties, if_pos h]
  rfl

/-- A sticky bit that rises is noted as raised in its nanosecond. -/
theorem State.raisedNow_stick (s : State) (f : Fld) (h : f.lo = f.hi) (hhi : f.hi < 64) :
    ((s.stick f).raisedNow f.addr).getLsbD f.lo = true := by
  have hb : (maskBits f.hi f.lo).getLsbD f.lo = true := by
    rw [getLsbD_maskBits (Nat.le_of_eq h) hhi]
    exact decide_eq_true ⟨le_refl _, Nat.le_of_eq h⟩
  have hm : maskBits f.hi f.lo ≠ 0 := fun h0 => by simp [h0] at hb
  rw [State.raisedNow, State.raised_stick, getLsbD_tieMask]
  exact List.any_eq_true.mpr ⟨_, mem_tieAdd _ _ hm, by simp [hb]⟩

@[simp] theorem State.raisedNow_setShadow (s : State) (w : Requester) (x : Option (Nat × Word)) (a : Nat) :
    (s.setShadow w x).raisedNow a = s.raisedNow a := by
  cases w <;> rfl

/-! ### What is counted of a bad access -/

theorem State.reg_badAccess_err (s : State) (a : Nat) : (s.badAccess a).reg Reg.GLB_ACC_ERR = s.reg Reg.GLB_ACC_ERR + 1 := by
  rw [State.badAccess, State.reg_setFld_ne _ _ _ (by decide), State.reg_stick_ne _ _ (by decide), State.reg_bump_self]

theorem State.flag_badAccess (s : State) (a : Nat) : (s.badAccess a).flag Reg.GLB_ACC_STAT_bad_access = true := by
  rw [State.flag, State.badAccess, State.fld_setFld_ne _ _ _ _ (by decide), ← State.flag]
  exact State.flag_stick_self _ _ rfl (by decide)

theorem State.fld_badAccess_addr (s : State) {a : Nat} (ha : a < barSize) : (s.badAccess a).fld Reg.GLB_ACC_ADDR_addr = a := by
  rw [State.badAccess, State.fld_setFld_self _ _ _ (by decide) (by decide)]
  exact Nat.mod_eq_of_lt ha

theorem State.reg_badAccess_ne (s : State) (a : Nat) {b : Nat} (hb : b ∉ [Reg.GLB_ACC_ERR, Reg.GLB_ACC_STAT, Reg.GLB_ACC_ADDR]) :
    (s.badAccess a).reg b = s.reg b := by
  simp only [List.mem_cons, List.not_mem_nil, or_false, not_or] at hb
  obtain ⟨he, hs, hd⟩ := hb
  rw [State.badAccess, State.reg_setFld_ne _ _ _ hd, State.reg_stick_ne _ _ hs, State.reg_bump_ne _ he]

theorem State.out_badAccess (s : State) (a : Nat) : (s.badAccess a).out = s.out := rfl

/-! ### What each gate makes of an access -/

section
variable {w : Requester} {a : Nat} {wide : Bool} {v : DWord} {s : State}

theorem State.busWrite_unreachable (h : s.gate w a = .unreachable) : s.busWrite w a wide v = s := by simp [State.busWrite, h]

theorem State.busWrite_empty (h : s.gate w a = .empty) : s.busWrite w a wide v = s := by simp [State.busWrite, h]

theorem State.busWrite_isolated (h : s.gate w a = .isolated) : s.busWrite w a wide v = s := by simp [State.busWrite, h]

theorem State.busWrite_early (h : s.gate w a = .early) : s.busWrite w a wide v = s.stick Reg.RST_STAT_early_access := by
  simp [State.busWrite, h]

theorem State.busWrite_hung (h : s.gate w a = .hung) :
    s.busWrite w a wide v = s.updRst (fun r => { r with stuck := r.stuck ++ [(s.now, none)] }) := by simp [State.busWrite, h]

theorem State.busWrite_none (h : s.gate w a = .ready) (hf : findReg a = none) : s.busWrite w a wide v = s := by
  simp [State.busWrite, h, hf]

theorem State.busWrite_some {l : Loc} (h : s.gate w a = .ready) (hf : findReg a = some l) : s.busWrite w a wide v = s.writeReg w l wide v := by
  simp [State.busWrite, h, hf]

theorem State.busRead_unreachable (h : s.gate w a = .unreachable) : s.busRead w a wide = (none, s) := by simp [State.busRead, h]

theorem State.busRead_empty (h : s.gate w a = .empty) : s.busRead w a wide = (some 0, s.setShadow w none) := by simp [State.busRead, h]

theorem State.busRead_early (h : s.gate w a = .early) :
    s.busRead w a wide = (some 0, (s.setShadow w none).stick Reg.RST_STAT_early_access) := by simp [State.busRead, h]

theorem State.busRead_hung (h : s.gate w a = .hung) : s.busRead w a wide =
    (none, (s.setShadow w none).updRst (fun r => { r with stuck := r.stuck ++ [(s.now, some (w, a))] })) := by simp [State.busRead, h]

theorem State.busRead_none (h : s.gate w a = .ready) (hf : findReg a = none) : s.busRead w a wide = (some 0, s.setShadow w none) := by
  simp [State.busRead, h, hf]

/-- A 32-bit read of a register's low half; of a 64-bit register it leaves the high half in the shadow (R386). -/
theorem State.busRead_low {l : Loc} (h : s.gate w a = .ready) (hf : findReg a = some l) (hu : l.upper = false) (hrc : l.reg.accMask .rc = 0) :
    s.busRead w a false = (some (s.shown l &&& 0xFFFFFFFF),
      s.setShadow w (if l.reg.width = 64 then some (l.key, (s.shown l >>> 32).setWidth 32) else none)) := by
  simp only [State.busRead, h, hf, State.readHalf, State.clearRc, hu, hrc, Bool.false_eq_true, if_false, if_true, ← setWidth_low]
  split <;> rfl

/-- A 32-bit read of the high half takes what the shadow holds of the register, and empties the shadow. -/
theorem State.busRead_high_of_shadow {l : Loc} {x : Word} (h : s.gate w a = .ready) (hf : findReg a = some l) (hu : l.upper = true)
    (hrc : l.reg.accMask .rc = 0) (hs : s.shadow w = some (l.key, x)) :
    s.busRead w a false = (some (x.setWidth 64), s.setShadow w none) := by
  simp [State.busRead, h, hf, State.readHalf, State.clearRc, hu, hrc, hs]

end

section
variable {w : Requester} {a : Nat} {v : DWord} {s : State} (ha : a < barSize) (hs : s.asleep w = false)
include ha hs

/-- What each gate makes of an aligned 32-bit access (R353, R356, R357, R385). -/
theorem registerAccess_at_gate (h4 : a % 4 = 0) :
    let read : Instr := .registerRead w a false
    let write : Instr := .registerWrite w a false v
    let s0 := s.setShadow w none
    (s0.gate w a = .unreachable → exec write s = .next s0 ∧ exec read s = .next s) ∧
    (s0.gate w a = .empty → exec write s = .next s0 ∧ exec read s = .next { s0 with out := s.out ++ [.regData w a 0] }) ∧
    (s0.gate w a = .isolated → exec write s = .next s0) ∧
    (s0.gate w a = .early → exec write s = .next (s0.stick Reg.RST_STAT_early_access) ∧ ∃ t, exec read s = .next t ∧
      t.flag Reg.RST_STAT_early_access = true ∧ t.out = s.out ++ [.regData w a 0]) ∧
    (s0.gate w a = .hung → exec write s = .next (s0.updRst (fun r => { r with stuck := r.stuck ++ [(s.now, none)] })) ∧
      exec read s = .next (s0.updRst (fun r => { r with stuck := r.stuck ++ [(s.now, some (w, a))] }))) ∧
    (s0.gate w a = .ready → findReg a = none → exec write s = .next s0 ∧ exec read s = .next { s0 with out := s.out ++ [.regData w a 0] }) ∧
    (∀ l, s0.gate w a = .ready → findReg a = some l → exec write s = .next (s0.writeReg w l false v)) := by
  intro read write s0
  have hw : exec write s = .next (s0.busWrite w a false v) := exec_registerWrite_word ha hs h4
  have hr : exec read s = .next ((s.busRead w a false).2.answerRead w a (s.busRead w a false).1) := exec_registerRead_word ha hs h4
  have hout : s0.out = s.out := s.out_setShadow w none
  have hg : s0.gate w a = s.gate w a := s.gate_setShadow w w none a
  have hzero : s0.answerRead w a (some 0) = { s0 with out := s.out ++ [.regData w a 0] } := by rw [← hout]; rfl
  rw [hw, hr, hg]
  refine ⟨fun h => ?_, fun h => ?_, fun h => ?_, fun h => ?_, fun h => ?_, fun h hf => ?_, fun l h hf => ?_⟩
  · rw [State.busWrite_unreachable (hg.trans h), State.busRead_unreachable h]
    exact ⟨rfl, rfl⟩
  · rw [State.busWrite_empty (hg.trans h), State.busRead_empty h]
    exact ⟨rfl, congrArg _ hzero⟩
  · rw [State.busWrite_isolated (hg.trans h)]
  · rw [State.busWrite_early (hg.trans h), State.busRead_early h]
    exact ⟨rfl, _, rfl, s0.flag_stick_self _ rfl (by decide), congrArg (· ++ _) hout⟩
  · rw [State.busWrite_hung (hg.trans h), State.busRead_hung h, State.now_setShadow]
    exact ⟨rfl, rfl⟩
  · rw [State.busWrite_none (hg.trans h) hf, State.busRead_none h hf]
    exact ⟨rfl, congrArg _ hzero⟩
  · rw [State.busWrite_some (hg.trans h) hf]

end

theorem exec_badAccess {s : State} {a : Nat} (hr : s.reachable = true) (hs : s.asleep .pf = false) :
    exec (.badAccess a) s = .next ((s.setShadow .pf none).badAccess (a % barSize)) := by
  show execBadAccess a s = _
  simp [execBadAccess, hr, hs]

/-! ### What a write stores -/

/-- The value that a 32-bit write from a register's start leaves in it: RW bits of the low half from the value, bits that a 1 clears cleared unless
they rose in this nanosecond. -/
def State.stored (s : State) (l : Loc) (v : DWord) : DWord :=
  (s.reg l.key &&& ~~~ l.reg.accMask .rw &&& ~~~ (v &&& 0xFFFFFFFF &&& l.reg.accMask .w1c &&& ~~~ s.raisedNow l.key)) |||
    ((s.shown l &&& l.reg.accMask .rw &&& ~~~ 0xFFFFFFFF) ||| (v &&& 0xFFFFFFFF &&& l.reg.accMask .rw))

/-- A register with no action, no rule that refuses and nothing that follows stores what is written. -/
theorem State.writeReg_of_stores {s : State} {w : Requester} {l : Loc} {v : DWord} (hu : l.upper = false) (hr : ∀ c, s.refuses l c = false)
    (ha : ∀ c, s.act w l.reg.base (l.idx.headD 0) c = none)
    (hw : ∀ (t : State) (old c : Nat), t.written l.reg.base (l.idx.headD 0) old c = t) :
    s.writeReg w l false v = (s.setReg l.key (s.stored l v)).noteWrite l.key (l.reg.accMask .rw &&& 0xFFFFFFFF) := by
  simp only [State.writeReg, accessMask, hu, hr, ha, hw, State.stored, Bool.false_and, Bool.false_eq_true, if_false]

/-- A whole word written to a register of RW bits is what its rules judge. -/
theorem cmd_of_word (shown v m other : DWord) : (shown &&& m &&& ~~~ m) ||| (v &&& m &&& m) ||| (v &&& m &&& other) = v &&& m := by
  ext i
  cases hv : v[i] <;> cases hm : m[i] <;> simp [hv, hm]

/-- A refused value changes nothing (R418). -/
theorem State.writeReg_of_refuses {s : State} {w : Requester} {l : Loc} {v : DWord} (hu : l.upper = false) (hrw : l.reg.accMask .rw = 0xFFFFFFFF)
    (hr : s.refuses l (v &&& 0xFFFFFFFF) = true) : s.writeReg w l false v = s := by
  simp only [State.writeReg, accessMask, hu, hrw, Bool.false_and, Bool.false_eq_true, if_false, cmd_of_word, hr, if_true]

/-! ### Three registers of the blocks beside the core -/

/-- A register below THY whose block shows nothing of its own there reads as it was stored. -/
theorem State.shown_of_plain {s : State} {l : Loc} (hb : l.reg.base < 0x300000) (hwo : l.reg.accMask .wo = 0)
    (hv : ∀ v, s.shownRst l.reg.base (l.idx.headD 0) v = v) : s.shown l = s.reg l.key := by
  simp only [State.shown, if_pos hb, hv, hwo]
  exact BitVec.and_allOnes

theorem State.reachable_congr {s t : State} (h : t.reg Reg.RST_STAT = s.reg Reg.RST_STAT) : t.reachable = s.reachable := by
  have hf : ∀ f : Fld, f.addr = Reg.RST_STAT → t.fld f = s.fld f := fun f hf => by rw [State.fld, State.fld, hf, h]
  rw [State.reachable, State.reachable, State.phase, State.phase, hf _ rfl, hf _ rfl]

@[simp] theorem State.asleep_setShadow (s : State) (w u : Requester) (x : Option (Nat × Word)) : (s.setShadow w x).asleep u = s.asleep u := by
  cases w <;> rfl

/-- Where GLB_SCRATCH lies in the map. -/
def scratchLoc (i : Nat) : Loc := ⟨regsGLB1[6], [i], Reg.GLB_SCRATCH i, false⟩

/-- Where RST_STAT lies in the map. -/
def rstStatLoc : Loc := ⟨regsRST1[1], [], Reg.RST_STAT, false⟩

/-- Where the two halves of GLB_SERIAL lie in the map. -/
def serialLoc (upper : Bool) : Loc := ⟨regsGLB1[4], [], Reg.GLB_SERIAL, upper⟩

theorem findReg_scratch {i : Nat} (hi : i < 4) : findReg (Reg.GLB_SCRATCH i) = some (scratchLoc i) := by
  interval_cases i <;> rfl

theorem findReg_rstStat : findReg Reg.RST_STAT = some rstStatLoc := rfl

theorem findReg_serial : findReg Reg.GLB_SERIAL = some (serialLoc false) := rfl

theorem findReg_serial_high : findReg (Reg.GLB_SERIAL + 4) = some (serialLoc true) := rfl

theorem State.gate_scratch {s : State} (w : Requester) {i : Nat} (hi : i < 4) (h : s.reachable = true) : s.gate w (Reg.GLB_SCRATCH i) = .ready :=
  State.gate_ready_of_edge w h (by interval_cases i <;> rfl)

theorem State.shown_scratch (s : State) (i : Nat) : s.shown (scratchLoc i) = s.reg (Reg.GLB_SCRATCH i) :=
  State.shown_of_plain (show 0x20 < 0x300000 by decide) rfl fun _ => rfl

theorem State.shown_serial (s : State) (upper : Bool) : s.shown (serialLoc upper) = s.reg Reg.GLB_SERIAL :=
  State.shown_of_plain (show 0x10 < 0x300000 by decide) rfl fun _ => rfl

theorem State.writeReg_scratch (s : State) (w : Requester) (i : Nat) (v : DWord) : ∃ m, s.writeReg w (scratchLoc i) false v =
    (s.setReg (Reg.GLB_SCRATCH i) (s.stored (scratchLoc i) v)).noteWrite (Reg.GLB_SCRATCH i) m :=
  ⟨_, State.writeReg_of_stores rfl (fun _ => rfl) (fun _ => rfl) fun _ _ _ => rfl⟩

theorem State.writeReg_rstStat (s : State) (w : Requester) (v : DWord) : ∃ m, s.writeReg w rstStatLoc false v =
    (s.setReg Reg.RST_STAT (s.stored rstStatLoc v)).noteWrite Reg.RST_STAT m :=
  ⟨_, State.writeReg_of_stores rfl (fun _ => rfl) (fun _ => rfl) fun _ _ _ => rfl⟩

theorem State.stored_scratch_low (s : State) (i : Nat) (v : DWord) : (s.stored (scratchLoc i) v).setWidth 32 = v.setWidth 32 := by
  have hrw : (scratchLoc i).reg.accMask .rw = 0xFFFFFFFF := rfl
  have hm : (0xFFFFFFFF : DWord).setWidth 32 = BitVec.allOnes 32 := rfl
  have hn : (~~~ 0xFFFFFFFF : DWord).setWidth 32 = 0#32 := rfl
  simp only [State.stored, hrw, BitVec.setWidth_or, BitVec.setWidth_and, hm, hn, BitVec.and_allOnes, BitVec.and_zero, BitVec.zero_and,
    BitVec.zero_or]

/-- The bit of RST_STAT.bad_key after a write: a 1 clears it unless it rose in this nanosecond (R388). -/
theorem State.stored_rstStat_bad_key (s : State) (v : DWord) : (s.stored rstStatLoc v).getLsbD 7 =
    ((s.reg Reg.RST_STAT).getLsbD 7 && (!v.getLsbD 7 || (s.raisedNow Reg.RST_STAT).getLsbD 7)) := by
  have hrw : rstStatLoc.reg.accMask .rw = 0 := rfl
  have hw1c : rstStatLoc.reg.accMask .w1c = 0xA0 := rfl
  have hk : rstStatLoc.key = Reg.RST_STAT := rfl
  simp [State.stored, hrw, hw1c, hk]

/-! ### The clauses of O59 that name a register -/

section
variable {s : State} {w : Requester} (hr : s.reachable = true) (hs : s.asleep w = false)
include hr hs

theorem exec_write_scratch {i : Nat} (hi : i < 4) (v : DWord) : ∃ t, exec (.registerWrite w (Reg.GLB_SCRATCH i) false v) s = .next t ∧
    (t.reg (Reg.GLB_SCRATCH i)).setWidth 32 = v.setWidth 32 ∧ regsBut s t [Reg.GLB_SCRATCH i] ∧ t.out = s.out ∧ t.asleep w = false := by
  have ha : Reg.GLB_SCRATCH i < barSize := by simp only [Reg.GLB_SCRATCH, barSize]; omega
  have h4 : Reg.GLB_SCRATCH i % 4 = 0 := by simp only [Reg.GLB_SCRATCH]; omega
  obtain ⟨m, hm⟩ := (s.setShadow w none).writeReg_scratch w i v
  rw [exec_registerWrite_word ha hs h4, State.busWrite_some (by rw [State.gate_setShadow, State.gate_scratch w hi hr]) (findReg_scratch hi), hm]
  refine ⟨_, rfl, ?_, fun b hb => ?_, State.out_setShadow s w none, (s.asleep_setShadow w w none).trans hs⟩
  · rw [State.reg_noteWrite, State.reg_setReg_self, State.stored_scratch_low]
  · rw [State.reg_noteWrite, State.reg_setReg_ne _ _ (List.ne_of_not_mem_cons hb), State.reg_setShadow]

theorem exec_read_scratch {i : Nat} (hi : i < 4) : exec (.registerRead w (Reg.GLB_SCRATCH i) false) s = .next { s.setShadow w none with
    out := s.out ++ [.regData w (Reg.GLB_SCRATCH i) (s.reg (Reg.GLB_SCRATCH i) &&& 0xFFFFFFFF)] } := by
  have ha : Reg.GLB_SCRATCH i < barSize := by simp only [Reg.GLB_SCRATCH, barSize]; omega
  have h4 : Reg.GLB_SCRATCH i % 4 = 0 := by simp only [Reg.GLB_SCRATCH]; omega
  rw [exec_registerRead_word ha hs h4, State.busRead_low (State.gate_scratch w hi hr) (findReg_scratch hi) rfl rfl, State.shown_scratch]
  simp [State.answerRead, State.emit, show (scratchLoc i).reg.width = 32 from rfl]

/-- A write to RST_STAT leaves bad_key 1 where it rose in this nanosecond, or where it was 1 and is written 0. -/
theorem exec_write_rstStat (v : DWord) : ∃ t, exec (.registerWrite w Reg.RST_STAT false v) s = .next t ∧ t.flag Reg.RST_STAT_bad_key =
    (s.flag Reg.RST_STAT_bad_key && (!v.getLsbD 7 || (s.raisedNow Reg.RST_STAT).getLsbD 7)) := by
  obtain ⟨m, hm⟩ := (s.setShadow w none).writeReg_rstStat w v
  have hg : s.gate w Reg.RST_STAT = .ready := State.gate_ready_of_edge w hr rfl
  rw [exec_registerWrite_word (by decide) hs (by decide), State.busWrite_some (by rw [State.gate_setShadow, hg]) findReg_rstStat, hm]
  refine ⟨_, rfl, ?_⟩
  rw [State.flag_eq_getLsbD _ _ rfl, State.flag_eq_getLsbD _ _ rfl, State.reg_noteWrite]
  show ((State.setReg _ Reg.RST_STAT _).reg Reg.RST_STAT).getLsbD 7 = _
  rw [State.reg_setReg_self, State.stored_rstStat_bad_key, State.reg_setShadow, State.raisedNow_setShadow]
  rfl

theorem exec_read_serial : exec (.registerRead w Reg.GLB_SERIAL false) s = .next
    { s.setShadow w (some (Reg.GLB_SERIAL, (s.reg Reg.GLB_SERIAL >>> 32).setWidth 32)) with
      out := s.out ++ [.regData w Reg.GLB_SERIAL (s.reg Reg.GLB_SERIAL &&& 0xFFFFFFFF)] } := by
  have hg : s.gate w Reg.GLB_SERIAL = .ready := State.gate_ready_of_edge w hr rfl
  rw [exec_registerRead_word (by decide) hs (by decide), State.busRead_low hg findReg_serial rfl rfl, State.shown_serial]
  simp [State.answerRead, State.emit, show (serialLoc false).reg.width = 64 from rfl, show (serialLoc false).key = Reg.GLB_SERIAL from rfl]

theorem exec_read_serial_high {x : Word} (hx : s.shadow w = some (Reg.GLB_SERIAL, x)) :
    exec (.registerRead w (Reg.GLB_SERIAL + 4) false) s = .next { s.setShadow w none with
      out := s.out ++ [.regData w (Reg.GLB_SERIAL + 4) (x.setWidth 64)] } := by
  have hg : s.gate w (Reg.GLB_SERIAL + 4) = .ready := State.gate_ready_of_edge w hr rfl
  rw [exec_registerRead_word (by decide) hs (by decide), State.busRead_high_of_shadow hg findReg_serial_high rfl rfl hx]
  simp [State.answerRead, State.emit]

end

theorem State.reachable_stick_bad_key (s : State) : (s.stick Reg.RST_STAT_bad_key).reachable = s.reachable := by
  have hf : ∀ g : Fld, 7 < g.lo ∨ g.hi < 7 → (s.stick Reg.RST_STAT_bad_key).fld g = s.fld g := fun g hg => by
    rw [State.fld_stick, State.fld_setFld_of_disjoint _ _ (by decide) (by decide) hg]
  rw [State.reachable, State.reachable, State.phase, State.phase, hf _ (.inr (by decide)), hf _ (.inl (by decide))]

/-! ### O59 -/

/-- Settles O59: each clause from the lemma about the outcome of its access. -/
theorem registerBusReadsAndWrites : Obligations.RegisterBusReadsAndWrites := by
  refine ⟨fun w a wide v s => ⟨fun h hr => ?_, fun h hr => ?_, fun ha hs hm hr => ?_, fun ha hs hm hr => ?_, fun ha hs h4 hn => ?_,
      fun ha hs h8 hw hn => ?_⟩,
    fun a s => ⟨fun hr => ?_, fun hr hs => ?_⟩, fun w a s hc b hb hcore hr => State.gate_early w hr hb hcore hc,
    fun s w l v hu hrw hr => State.writeReg_of_refuses hu hrw hr, fun i w v s hi hr hs => ?_, fun w v s hr hs => ⟨?_, fun hn hv => ?_⟩,
    fun w s s' hr hr' hs hs' => ?_⟩
  · simp [exec_registerRead_unsupported h, exec_registerWrite_unsupported h, hr]
  · simp [exec_registerRead_unsupported h, exec_registerWrite_unsupported h, hr, State.reportAer, State.emit]
  · have hm : aligned a wide = false := decide_eq_false hm
    simp [exec_registerRead_misaligned ha hs hm, exec_registerWrite_misaligned ha hs hm, hr]
  · have hm : aligned a wide = false := decide_eq_false hm
    rw [exec_registerRead_misaligned ha hs hm, exec_registerWrite_misaligned ha hs hm, if_pos hr, if_pos hr]
    refine ⟨_, rfl, ?_, State.flag_badAccess _ _, State.fld_badAccess_addr _ ha, fun b hb => ?_, ?_, ?_⟩
    · rw [State.reg_badAccess_err, State.reg_setShadow]
    · rw [State.reg_badAccess_ne _ _ hb, State.reg_setShadow]
    · rw [State.out_badAccess, State.out_setShadow]
    · simp [State.answerRead, State.emit, State.out_badAccess]
  · subst hn
    exact registerAccess_at_gate ha hs h4
  · subst hw
    exact exec_registerWrite_pair ha hs h8 hn
  · exact congrArg Host.Outcome.next (if_pos hr)
  · rw [exec_badAccess hr hs]
    refine ⟨_, rfl, ?_, State.fld_badAccess_addr _ (Nat.mod_lt _ (by decide)), rfl⟩
    rw [State.reg_badAccess_err, State.reg_setShadow]
  · obtain ⟨t, ht, hlow, hbut, hout, hts⟩ := exec_write_scratch hr hs hi v
    have htr : t.reachable = true := (State.reachable_congr (hbut _ (by interval_cases i <;> decide))).trans hr
    refine ⟨t, ht, hlow, hbut, hout, _, exec_read_scratch htr hts hi, ?_, State.regs_setShadow t w none⟩
    simp only [hout]
    rw [← setWidth_low, hlow, setWidth_low]
  · obtain ⟨t, ht, hf⟩ := exec_write_rstStat (s := s.stick Reg.RST_STAT_bad_key) (s.reachable_stick_bad_key.trans hr) hs v
    have hraised : ((s.stick Reg.RST_STAT_bad_key).raisedNow Reg.RST_STAT).getLsbD 7 = true := s.raisedNow_stick _ rfl (by decide)
    exact ⟨t, ht, by rw [hf, State.flag_stick_self _ _ rfl (by decide), hraised, Bool.or_true]; rfl⟩
  · obtain ⟨t, ht, hf⟩ := exec_write_rstStat hr hs v
    have hv : v.getLsbD 7 = true := hv
    exact ⟨t, ht, by rw [hf, hn, hv]; exact Bool.and_false _⟩
  · refine ⟨_, exec_read_serial hr hs, rfl, fun hsh => ?_⟩
    have hx : s'.shadow w = some (Reg.GLB_SERIAL, (s.reg Reg.GLB_SERIAL >>> 32).setWidth 32) := hsh.trans (s.shadow_setShadow w _)
    exact ⟨_, exec_read_serial_high hr' hs' hx, by rw [setWidth_high], s'.shadow_setShadow w none⟩

end Sys2Proof.Machine
end

section
/-! The end of a frame at the ingress MAC (R27, R35, R421): what the work set off by a frame's tail leaves as it was, what each way to end does to
the frame, its port and the port's counters, and O6. -/

namespace Sys2Proof.Machine

/-! ### What an end leaves as it was -/

/-- A frame without the copies it owes at its tail. -/
def Frame.paid (x : Frame) : Frame := { x with mirror := none, excClass := none, hostCopy := none }

/-- The counters of copies that were dropped. -/
def copyDropCounters : List Nat :=
  [Reg.RUL_MIRROR_DROP, Reg.RUL_HOST_DROP, Reg.PRS_EXC_RATE_DROP, Reg.PRS_EXC_RING_DROP, Reg.HIF_COPY_DROP]

/-- `t` is `s` after work that the end of frame `f` sets off: copies, PFC frames, an original on the wire cut short. No port begins or ends a
frame, no frame changes but for the copies `f` owes, and nothing is counted but dropped copies. -/
structure State.TailWork (f : Nat) (s t : State) : Prop where
  now : t.now = s.now
  rx : ∀ q, (t.port q).rx = (s.port q).rx
  others : framesBut s t f
  paid : (t.frame f).paid = (s.frame f).paid
  counters : regsBut s t copyDropCounters

namespace State.TailWork

variable {f : Nat} {s t : State}

theorem refl (f : Nat) (s : State) : TailWork f s s := ⟨rfl, fun _ => rfl, fun _ _ => rfl, rfl, fun _ _ => rfl⟩

/-- Whatever replaces the parts beside time, the register file and the network edge. -/
theorem parts {shadowPf shadowSage thyme aon nextId freeIdx thy prs rul erp sfe fab num bay adp hif osl pow rst rep out pending}
    (h : TailWork f s t) :
    TailWork f s ⟨t.regs, shadowPf, shadowSage, t.now, thyme, aon, nextId, freeIdx, t.mac, thy, prs, rul, erp, sfe, fab, num, bay, adp, hif, osl,
      pow, rst, rep, out, pending⟩ := ⟨h.now, h.rx, h.others, h.paid, h.counters⟩

theorem ite {c : Prop} [Decidable c] {a b : State} (ha : TailWork f s a) (hb : TailWork f s b) : TailWork f s (if c then a else b) := by
  split <;> assumption

theorem ite_snd {β : Type} {c : Prop} [Decidable c] {a b : β × State} (ha : TailWork f s a.2) (hb : TailWork f s b.2) :
    TailWork f s (if c then a else b).2 := by
  split <;> assumption

theorem mk_snd {β : Type} {b : β} (h : TailWork f s t) : TailWork f s (b, t).2 := h

theorem bump (h : TailWork f s t) {a : Nat} (ha : a ∈ copyDropCounters) : TailWork f s (t.bump a) :=
  ⟨h.now, h.rx, h.others, h.paid, fun b hb => (t.reg_bump_ne fun e => hb (by rw [e]; exact ha)).trans (h.counters b hb)⟩

theorem bumpIf (h : TailWork f s t) {c : Bool} {a : Nat} (ha : a ∈ copyDropCounters) : TailWork f s (t.bumpIf c a) := .ite (h.bump ha) h

theorem updPort (h : TailWork f s t) {p : Nat} {g : PortSt → PortSt} (hg : ∀ x, (g x).rx = x.rx) : TailWork f s (t.updPort p g) := by
  refine ⟨h.now, fun q => (Eq.trans ?_ (h.rx q)), h.others, h.paid, h.counters⟩
  by_cases hq : q = p
  · rw [hq, State.port_updPort_self, hg]
  · rw [State.port_updPort_ne _ _ _ hq]

theorem updFrame (h : TailWork f s t) {g : Frame → Frame} (hg : ∀ x, (g x).paid = x.paid) : TailWork f s (t.updFrame f g) := by
  refine ⟨h.now, h.rx, fun j hj => ?_, ?_, h.counters⟩
  · rw [State.frame_updFrame_ne _ _ _ hj, h.others j hj]
  · rw [State.frame_updFrame_self, hg, h.paid]

theorem payExc (h : TailWork f s t) : TailWork f s (t.updFrame f fun x => { x with excClass := none }) := h.updFrame fun _ => rfl

theorem payHost (h : TailWork f s t) : TailWork f s (t.updFrame f fun x => { x with hostCopy := none }) := h.updFrame fun _ => rfl

/-! ### The work of a tail -/

theorem updQp {q : Nat} {g : Qp → Qp} (h : TailWork f s t) : TailWork f s (t.updQp q g) := h.parts

theorem sendHeld {x : HostHeld} (h : TailWork f s t) : TailWork f s (t.sendHeld x) := .ite h.parts h.parts

theorem qpWrite {q addr : Nat} {b : List Byte} {relaxed : Bool} (h : TailWork f s t) : TailWork f s (t.qpWrite q addr b relaxed) := h.sendHeld

theorem interrupt {q : Nat} (h : TailWork f s t) : TailWork f s (t.interrupt q) := h.sendHeld.updQp

theorem writeRecord {q sqIndex kind status length : Nat} {cookie value : DWord} {info : Nat} (h : TailWork f s t) :
    TailWork f s (t.writeRecord q sqIndex kind status length cookie value info) :=
  .ite h.qpWrite.updQp.interrupt h.qpWrite.updQp

/-- What `TailWork.deliverCopy` says, of any function in its place: a match on a copy's outcome is reduced only where `Bucket.take` and
`State.deliverCopy` are variables (see `CopyKept`). -/
def CopyWork (f : Nat) (s : State) (copy : State → Nat → Nat → List Byte → DWord → Nat → Bool × State) : Prop :=
  ∀ {t q kind content value info}, TailWork f s t → TailWork f s (copy t q kind content value info).2

theorem deliverCopy {q kind : Nat} {content : List Byte} {value : DWord} {info : Nat} (h : TailWork f s t) :
    TailWork f s (t.deliverCopy q kind content value info).2 := by
  have hdrop {u : State} (hu : TailWork f s u) : TailWork f s (u.bump Reg.HIF_COPY_DROP) := hu.bump (by decide)
  generalize hf : @State.deliverCopy = copy
  delta State.deliverCopy at hf
  subst hf
  generalize @Bucket.take = take
  revert take
  refine id fun take => ?_
  dsimp only
  split
  · exact .ite_snd h.updQp.updQp.qpWrite.writeRecord.mk_snd (hdrop h.updQp).mk_snd
  · exact (hdrop h.updQp).mk_snd

theorem excCopy {c : Nat} {content : List Byte} {value : DWord} {info : Nat} (h : TailWork f s t) :
    TailWork f s (t.excCopy c content value info) := by
  have hd : CopyWork f s @State.deliverCopy := fun h => h.deliverCopy
  generalize hf : @State.excCopy = exc
  delta State.excCopy at hf
  subst hf
  generalize @Bucket.take = take, @State.deliverCopy = copy at hd ⊢
  revert take copy
  refine id fun take copy hd => ?_
  exact .ite ((hd h.parts).bumpIf (by decide)) (h.parts.bump (by decide))

theorem tailHostCopies (h : TailWork f s t) : TailWork f s (t.tailHostCopies f) := by
  have hd : CopyWork f s @State.deliverCopy := fun h => h.deliverCopy
  unfold State.tailHostCopies
  generalize @State.deliverCopy = copy at hd ⊢
  revert copy
  refine id fun copy hd => ?_
  extract_lets fr u v w
  have hw : TailWork f s v := by
    unfold v
    split
    · exact h
    · exact .ite h.payExc.excCopy h.payExc
  refine .ite h ?_
  split
  · exact hw
  · exact (hd hw.payHost).bumpIf (by decide)

theorem mirrorTail (h : TailWork f s t) : TailWork f s (t.mirrorTail f) := by
  unfold State.mirrorTail
  dsimp only
  split
  · exact .ite h (.ite (h.updPort fun _ => rfl) ((h.bump (by decide)).updFrame fun _ => rfl))
  · exact h

theorem pfcCheck {p : Nat} (h : TailWork f s t) : TailWork f s (t.pfcCheck p) := by
  unfold State.pfcCheck
  refine .ite ?_ h
  split <;> exact .ite (h.updPort fun _ => rfl) h

theorem cutOriginal {n : Nat} (h : TailWork f s t) : TailWork f s (t.cutOriginal f n) :=
  List.foldlRecOn (motive := TailWork f s) _ _ h fun _ hu _ _ => hu.updPort fun _ => rfl

theorem tail (h : TailWork f s t) : (t.frame f).tail = (s.frame f).tail := (congrArg Frame.tail h.paid :)

theorem tailAt (h : TailWork f s t) : (t.frame f).tailAt = (s.frame f).tailAt := (congrArg Frame.tailAt h.paid :)

theorem bytes (h : TailWork f s t) : (t.frame f).bytes = (s.frame f).bytes := (congrArg Frame.bytes h.paid :)

theorem verdict (h : TailWork f s t) : (t.frame f).verdict = (s.frame f).verdict := (congrArg Frame.verdict h.paid :)

end State.TailWork

/-! ### The counters of an end -/

theorem notMem_copyDropCounters {a : Nat} (h : a < 0x402000) : a ∉ copyDropCounters := by
  intro hm
  simp only [copyDropCounters, Reg.RUL_MIRROR_DROP, Reg.RUL_HOST_DROP, Reg.PRS_EXC_RATE_DROP, Reg.PRS_EXC_RING_DROP, Reg.HIF_COPY_DROP,
    List.mem_cons, List.not_mem_nil, or_false] at hm
  omega

/-- The counters of a port's judged frames are not among those of dropped copies. -/
theorem macRx_notMem_copyDropCounters {p : Nat} (hp : p < 16) : Reg.MAC_RX_FRAMES p ∉ copyDropCounters ∧
    Reg.MAC_RX_FCS_ERR p ∉ copyDropCounters ∧ Reg.MAC_RX_OVERSIZE p ∉ copyDropCounters := by
  refine ⟨?_, ?_, ?_⟩ <;> refine notMem_copyDropCounters ?_ <;>
    simp only [Reg.MAC_RX_FRAMES, Reg.MAC_RX_FCS_ERR, Reg.MAC_RX_OVERSIZE] <;> omega

theorem macRxFrames_ne (p : Nat) : Reg.MAC_RX_FRAMES p ≠ Reg.MAC_RX_FCS_ERR p ∧ Reg.MAC_RX_FRAMES p ≠ Reg.MAC_RX_OVERSIZE p ∧
    Reg.MAC_RX_FRAMES p ≠ Reg.MAC_RX_RUNT p := by
  simp [Reg.MAC_RX_FRAMES, Reg.MAC_RX_FCS_ERR, Reg.MAC_RX_OVERSIZE, Reg.MAC_RX_RUNT]

theorem State.reg_bumpIf_self (s : State) (c : Bool) (a : Nat) : (s.bumpIf c a).reg a = s.reg a + (if c then 1 else 0) := by
  cases c <;> simp [State.bumpIf]

theorem State.reg_bumpIf_ne (s : State) (c : Bool) {a b : Nat} (h : b ≠ a) : (s.bumpIf c a).reg b = s.reg b := by
  cases c <;> simp [State.bumpIf, State.reg_bump_ne _ h]

/-! ### PFC checks, and an original that leaves -/

section
variable (s : State)

theorem State.regs_pfcCheck (p : Nat) : (s.pfcCheck p).regs = s.regs := by
  unfold State.pfcCheck
  split
  · split <;> split <;> rfl
  · rfl

theorem State.frame_pfcCheck (p g : Nat) : (s.pfcCheck p).frame g = s.frame g := by
  unfold State.pfcCheck
  split
  · split <;> split <;> rfl
  · rfl

theorem State.rx_pfcCheck (p q : Nat) : ((s.pfcCheck p).port q).rx = (s.port q).rx := (TailWork.refl 0 s).pfcCheck.rx q

theorem State.regs_origGone (f : Nat) : (s.origGone f).regs = s.regs := State.regs_pfcCheck _ _

theorem State.rx_origGone (f q : Nat) : ((s.origGone f).port q).rx = (s.port q).rx := State.rx_pfcCheck _ _ q

theorem State.frame_origGone_self (f : Nat) : (s.origGone f).frame f = { s.frame f with orig := .gone } := by
  rw [State.origGone, State.frame_pfcCheck, State.frame_updFrame_self]

theorem State.frame_origGone_ne {f g : Nat} (hg : g ≠ f) : (s.origGone f).frame g = s.frame g := by
  rw [State.origGone, State.frame_pfcCheck, State.frame_updFrame_ne _ _ _ hg]

end

/-! ### A frame that ends with a verdict -/

/-- The verdict that the end of a frame raises, and whether it is a bad one (R35, R119). -/
def Tail.verdict : Tail → Cause × Bool
  | .good => (.none, false)
  | .bad => (.fcsBad, true)
  | _ => (.truncated, true)

/-- Frame `f` of port `p` has ended as `e` says, and no other frame has changed. -/
structure State.Ended (p f : Nat) (e : Tail) (s t : State) : Prop where
  rx : (t.port p).rx = none
  tail : (t.frame f).tail = e
  bytes : (t.frame f).bytes = if e = .oversize then (s.frame f).bytes.take 9216 else (s.frame f).bytes
  tailAt : (t.frame f).tailAt = s.now
  verdict : (s.frame f).verdict = none → (t.frame f).verdict = some e.verdict
  others : framesBut s t f

theorem State.Ended.after_tailWork {p f : Nat} {e : Tail} {s t u : State} (h : t.Ended p f e u) (hw : TailWork f s t) :
    s.Ended p f e u where
  rx := h.rx
  tail := h.tail
  bytes := by rw [h.bytes, hw.bytes]
  tailAt := h.tailAt.trans hw.now
  verdict hv := h.verdict (hw.verdict.trans hv)
  others g hg := (h.others g hg).trans (hw.others g hg)

theorem State.Ended.after_bump {p f a : Nat} {e : Tail} {s u : State} (h : (s.bump a).Ended p f e u) : s.Ended p f e u :=
  ⟨h.rx, h.tail, h.bytes, h.tailAt, h.verdict, h.others⟩

theorem State.Ended.after_bumpIf {p f a : Nat} {c : Bool} {e : Tail} {s u : State} (h : (s.bumpIf c a).Ended p f e u) :
    s.Ended p f e u := by
  cases c
  · exact h
  · exact h.after_bump

theorem State.Ended.then_tailWork {p f : Nat} {e : Tail} {s t u : State} (h : s.Ended p f e t) (hw : TailWork f t u) : s.Ended p f e u where
  rx := (hw.rx p).trans h.rx
  tail := hw.tail.trans h.tail
  bytes := hw.bytes.trans h.bytes
  tailAt := hw.tailAt.trans h.tailAt
  verdict hv := hw.verdict.trans (h.verdict hv)
  others g hg := (hw.others g hg).trans (h.others g hg)

theorem State.ended_endFrame (s : State) (p f : Nat) (e : Tail) : s.Ended p f e (s.endFrame p f e) := by
  unfold State.endFrame State.tailCopies
  refine State.Ended.then_tailWork ?_ (TailWork.refl f _).mirrorTail.tailHostCopies.pfcCheck
  have hf : ∀ g, (s.updPort p fun q => { q with rx := none }).frame g = s.frame g := fun _ => rfl
  refine ⟨congrArg PortSt.rx (s.port_updPort_self p _), ?_, ?_, ?_, fun hv => ?_, fun g hg => State.frame_updFrame_ne _ f _ hg⟩ <;>
    rw [State.frame_updFrame_self]
  · rw [hf]
  · rfl
  · rw [hf, hv]
    cases e <;> rfl

theorem State.reg_endFrame (s : State) (p f : Nat) (e : Tail) {a : Nat} (ha : a ∉ copyDropCounters) : (s.endFrame p f e).reg a = s.reg a := by
  unfold State.endFrame State.tailCopies
  exact (TailWork.refl f _).mirrorTail.tailHostCopies.pfcCheck.counters a ha

/-! ### The ways to end -/

section
variable (s : State) (p f : Nat)

theorem State.ended_oversize : s.Ended p f .oversize (s.oversize p f) :=
  (State.ended_endFrame _ p f .oversize).after_bump.after_bump.after_tailWork (TailWork.refl f s).cutOriginal

theorem State.reg_oversize (hp : p < 16) : (s.oversize p f).reg (Reg.MAC_RX_FRAMES p) = s.reg (Reg.MAC_RX_FRAMES p) + 1 ∧
    (s.oversize p f).reg (Reg.MAC_RX_OVERSIZE p) = s.reg (Reg.MAC_RX_OVERSIZE p) + 1 := by
  obtain ⟨hframes, -, hover⟩ := macRx_notMem_copyDropCounters hp
  obtain ⟨-, hne, -⟩ := macRxFrames_ne p
  have hcut := ((TailWork.refl f s).cutOriginal (n := (s.frame f).bytes.length - 9216)).counters
  rw [State.oversize, State.reg_endFrame _ _ _ _ hframes, State.reg_endFrame _ _ _ _ hover]
  rw [State.reg_bump_ne _ hne, State.reg_bump_self, State.reg_bump_self, State.reg_bump_ne _ hne.symm, hcut _ hframes, hcut _ hover]
  exact ⟨rfl, rfl⟩

/-- The end of a frame of a legal length, its FCS good or bad. -/
def State.judged (good : Bool) : State :=
  ((s.bump (Reg.MAC_RX_FRAMES p)).bumpIf (!good) (Reg.MAC_RX_FCS_ERR p)).endFrame p f (if good then .good else .bad)

theorem State.ended_judged (good : Bool) : s.Ended p f (if good then .good else .bad) (s.judged p f good) :=
  (State.ended_endFrame _ p f _).after_bumpIf.after_bump

theorem State.reg_judged (good : Bool) (hp : p < 16) :
    (s.judged p f good).reg (Reg.MAC_RX_FRAMES p) = s.reg (Reg.MAC_RX_FRAMES p) + 1 ∧
    (s.judged p f good).reg (Reg.MAC_RX_FCS_ERR p) = s.reg (Reg.MAC_RX_FCS_ERR p) + (if good then 0 else 1) := by
  obtain ⟨hframes, hfcs, -⟩ := macRx_notMem_copyDropCounters hp
  obtain ⟨hne, -⟩ := macRxFrames_ne p
  rw [State.judged, State.reg_endFrame _ _ _ _ hframes, State.reg_endFrame _ _ _ _ hfcs]
  rw [State.reg_bumpIf_ne _ _ hne, State.reg_bump_self, State.reg_bumpIf_self, State.reg_bump_ne _ hne.symm]
  cases good <;> exact ⟨rfl, rfl⟩

theorem State.runt_discards : ((s.runt p f).port p).rx = none ∧ ((s.runt p f).frame f).orig = .gone ∧ ((s.runt p f).frame f).runt = true ∧
    framesBut s (s.runt p f) f := by
  unfold State.runt
  dsimp only
  generalize hu : State.updFrame (State.bump _ _) f _ = u
  have hrx : (u.port p).rx = none := hu ▸ congrArg PortSt.rx (s.port_updPort_self p _)
  have hrunt : (u.frame f).runt = true := by rw [← hu, State.frame_updFrame_self]
  have hothers : framesBut s u f := fun g hg => hu ▸ State.frame_updFrame_ne _ f _ hg
  refine ⟨(State.rx_origGone _ f p).trans hrx, ?_, ?_, fun g hg => (State.frame_origGone_ne _ hg).trans (hothers g hg)⟩ <;>
    rw [State.frame_origGone_self]
  exact hrunt

theorem State.regs_runt : (s.runt p f).regs = ((s.bump (Reg.MAC_RX_FRAMES p)).bump (Reg.MAC_RX_RUNT p)).regs := by
  unfold State.runt
  rw [State.regs_origGone]
  rfl

theorem State.reg_runt : (s.runt p f).reg (Reg.MAC_RX_FRAMES p) = s.reg (Reg.MAC_RX_FRAMES p) + 1 ∧
    (s.runt p f).reg (Reg.MAC_RX_RUNT p) = s.reg (Reg.MAC_RX_RUNT p) + 1 := by
  obtain ⟨-, -, hne⟩ := macRxFrames_ne p
  have hreg (a : Nat) := congrArg (Regs.get · a) (s.regs_runt p f)
  refine ⟨(hreg _).trans ?_, (hreg _).trans ?_⟩
  · exact (State.reg_bump_ne _ hne).trans (State.reg_bump_self _ _)
  · exact (State.reg_bump_self _ _).trans (congrArg (· + 1) (State.reg_bump_ne _ hne.symm))

end

/-! ### The commands -/

section
variable {p : Fin 16} {s : State} {f : Nat} (hrx : (s.port p.val).rx = some f)
include hrx

theorem exec_copyTruncated (hw : (s.frame f).copy = .waiting) (hc : (s.frame f).cut = none)
    (hfull : crossCap < (s.crossOcc p.val - s.copyBytes f) + s.arrived f) : exec (.copyTruncated p) s = .next (s.updFrame f (fun x => { x with
      cut := some (crossCap - (s.crossOcc p.val - s.copyBytes f)), verdict := some (.truncated, true) })) := by
  show execCopyTruncated p s = _
  rw [execCopyTruncated, hrx]
  exact congrArg _ (if_pos ⟨hw, hc, hfull⟩)

theorem exec_oversizeTruncation (hlong : 9216 < s.arrived f) : exec (.oversizeTruncation p) s = .next (s.oversize p.val f) := by
  show execOversizeTruncation p s = _
  rw [execOversizeTruncation, hrx]
  exact congrArg _ (if_pos hlong)

theorem exec_frameTail_runt (good : Bool) (hshort : (s.frame f).bytes.length < 64) : exec (.frameTail p good) s = .next (s.runt p.val f) := by
  show execFrameTail p good s = _
  rw [execFrameTail, hrx]
  exact congrArg _ (if_pos hshort)

theorem exec_frameTail_judged (good : Bool) (hmin : 64 ≤ (s.frame f).bytes.length) (hmax : (s.frame f).bytes.length ≤ 9216) :
    exec (.frameTail p good) s = .next (s.judged p.val f good) := by
  show execFrameTail p good s = _
  rw [execFrameTail, hrx]
  exact congrArg _ ((if_neg hmin.not_gt).trans (if_neg hmax.not_gt))

end

/-! ### O6 -/

/-- Settles O6: each clause from the facts about the end its command runs. -/
theorem frameEndsWithItsVerdict : Obligations.FrameEndsWithItsVerdict := by
  refine ⟨fun p s f hrx hw hc hfull => exec_copyTruncated hrx hw hc hfull, fun p s f hrx hlong => ?_, fun p good s f hrx hmin hmax => ?_,
    fun p good s f hrx hshort => ?_⟩
  · have h := s.ended_oversize p f
    obtain ⟨hframes, hover⟩ := s.reg_oversize p f p.isLt
    exact ⟨_, exec_oversizeTruncation hrx hlong, h.rx, h.tail, h.bytes, h.tailAt, h.verdict, hframes, hover, h.others⟩
  · have h := s.ended_judged p f good
    obtain ⟨hframes, hfcs⟩ := s.reg_judged p f good p.isLt
    refine ⟨_, exec_frameTail_judged hrx good hmin hmax, h.rx, h.tail, ?_, ?_, hframes, hfcs, h.others⟩
    · exact h.bytes.trans (by cases good <;> rfl)
    · exact fun hv => (h.verdict hv).trans (by cases good <;> rfl)
  · obtain ⟨hrx', horig, hrunt, hothers⟩ := s.runt_discards p f
    obtain ⟨hframes, hcount⟩ := s.reg_runt p f
    exact ⟨_, exec_frameTail_runt hrx good hshort, hrx', horig, hrunt, hframes, hcount, hothers⟩

end Sys2Proof.Machine
end

section
/-! How a frame begins at a port and what becomes of its original (R38, R39): the facts about admission, dispositions and fallback that O5 and O7
are assembled from. -/

namespace Sys2Proof.Machine

/-! ### Fields of a register that is the same -/

theorem State.fld_of_reg_eq {s t : State} {f : Fld} (h : t.reg f.addr = s.reg f.addr) : t.fld f = s.fld f := by
  rw [State.fld, State.fld, h]

theorem State.flag_of_reg_eq {s t : State} {f : Fld} (h : t.reg f.addr = s.reg f.addr) : t.flag f = s.flag f := by
  rw [State.flag, State.flag, State.fld_of_reg_eq h]

theorem State.portMode_of_reg_eq {s t : State} (h : t.reg Reg.MAC_MODE = s.reg Reg.MAC_MODE) : t.portMode = s.portMode := State.fld_of_reg_eq h

/-! ### What a fold keeps -/

/-- An observation that no step of a fold changes is the same after it. -/
theorem foldl_keeps {α β γ : Type} (obs : α → γ) {f : α → β → α} (hf : ∀ a x, obs (f a x) = obs a) (l : List β) (a : α) :
    obs (l.foldl f a) = obs a := by
  induction l generalizing a with
  | nil => rfl
  | cons x r ih => rw [List.foldl_cons, ih, hf]

/-! ### PFC checks -/

/-- The state without the network edge. -/
def State.sansMac (s : State) : State := { s with mac := {} }

theorem State.eq_of_sansMac_eq {s t : State} (h : t.sansMac = s.sansMac) : t = { s with mac := t.mac } :=
  congrArg (fun u : State => { u with mac := t.mac }) h

section
variable (s : State) (p : Nat)

theorem State.sansMac_pfcCheck : (s.pfcCheck p).sansMac = s.sansMac := by
  unfold State.pfcCheck
  split
  · split <;> split <;> rfl
  · rfl

theorem State.prs_pfcCheck : (s.pfcCheck p).prs = s.prs := (congrArg State.prs (s.sansMac_pfcCheck p) :)

theorem State.nextId_pfcCheck : (s.pfcCheck p).nextId = s.nextId := (congrArg State.nextId (s.sansMac_pfcCheck p) :)

theorem State.sansMac_pfcCheckAll : s.pfcCheckAll.sansMac = s.sansMac := foldl_keeps State.sansMac State.sansMac_pfcCheck _ s

theorem State.reg_origGone (f a : Nat) : (s.origGone f).reg a = s.reg a := congrArg (Regs.get · a) (s.regs_origGone f)

end

/-! ### A frame that begins -/

/-- The frame `s.nextId` of these bytes has begun at port `p`, and no other frame has changed. -/
structure State.Begun (p : Nat) (bytes : List Byte) (s t : State) : Prop where
  rx : (t.port p).rx = some s.nextId
  nextId : t.nextId = s.nextId + 1
  bytes : (t.frame s.nextId).bytes = bytes
  port : (t.frame s.nextId).port = p
  stamp : (t.frame s.nextId).stamp = s.thyme
  sof : (t.frame s.nextId).sof = s.now
  others : framesBut s t s.nextId

namespace State.Begun

variable {p : Nat} {bytes : List Byte} {s t : State}

theorem updOrig (h : Begun p bytes s t) (o : OrigSt) : Begun p bytes s (t.updFrame s.nextId fun x => { x with orig := o }) := by
  obtain ⟨hrx, hid, hb, hp, hst, hsof, hot⟩ := h
  refine ⟨hrx, hid, ?_, ?_, ?_, ?_, fun g hg => (State.frame_updFrame_ne _ _ _ hg).trans (hot g hg)⟩ <;> rwa [State.frame_updFrame_self]

theorem pfcCheck (h : Begun p bytes s t) (q : Nat) : Begun p bytes s (t.pfcCheck q) := by
  obtain ⟨hrx, hid, hb, hp, hst, hsof, hot⟩ := h
  refine ⟨(t.rx_pfcCheck q p).trans hrx, (t.nextId_pfcCheck q).trans hid, ?_, ?_, ?_, ?_, fun g hg => (t.frame_pfcCheck q g).trans (hot g hg)⟩ <;>
    rwa [State.frame_pfcCheck]

theorem bump (h : Begun p bytes s t) (a : Nat) : Begun p bytes s (t.bump a) :=
  ⟨h.rx, h.nextId, h.bytes, h.port, h.stamp, h.sof, h.others⟩

theorem bumpIf (h : Begun p bytes s t) (c : Bool) (a : Nat) : Begun p bytes s (t.bumpIf c a) := by
  cases c
  · exact h
  · exact h.bump a

theorem setPrs {prs : PrsSt} (h : Begun p bytes s t) : Begun p bytes s { t with prs := prs } :=
  ⟨h.rx, h.nextId, h.bytes, h.port, h.stamp, h.sof, h.others⟩

theorem enqueue (h : Begun p bytes s t) (q : Nat) (e : EFrame) : Begun p bytes s (t.enqueue q e) := by
  refine ⟨Eq.trans ?_ h.rx, h.nextId, h.bytes, h.port, h.stamp, h.sof, h.others⟩
  by_cases hp : p = q
  · rw [hp, State.enqueue, State.port_updPort_self]
  · rw [State.enqueue, State.port_updPort_ne _ _ _ hp]

theorem origGone (h : Begun p bytes s t) : Begun p bytes s (t.origGone s.nextId) := (h.updOrig .gone).pfcCheck _

theorem applyDisp (h : Begun p bytes s t) (d : Disp) : Begun p bytes s (t.applyDisp s.nextId d) := by
  unfold State.applyDisp
  split
  · exact h.origGone
  · split
    · exact (h.enqueue _ _).updOrig .queued
    · exact (h.bump _).origGone

theorem fallback (h : Begun p bytes s t) : Begun p bytes s (t.fallback s.nextId) := (h.bump _).applyDisp _

/-- A frame put in the table under the next identifier, and taken by the port. -/
theorem of_put {x : Frame} {g : PortSt → PortSt} (hb : x.bytes = bytes) (hp : x.port = p) (hst : x.stamp = s.thyme) (hsof : x.sof = s.now)
    (hg : ∀ q, (g q).rx = some s.nextId) : Begun p bytes s ((s.freshId.2.updFrame s.nextId fun _ => x).updPort p g) := by
  have hf : ((s.freshId.2.updFrame s.nextId fun _ => x).updPort p g).frame s.nextId = x := State.frame_updFrame_self _ _ _
  refine ⟨?_, rfl, ?_, ?_, ?_, ?_, fun j hj => State.frame_updFrame_ne _ _ _ hj⟩
  · rw [State.port_updPort_self, hg]
  all_goals rwa [hf]

end State.Begun

section
variable (s : State) (p : Nat) (bytes : List Byte)

theorem State.begun_admitFrame : s.Begun p bytes (s.admitFrame p bytes) := by
  unfold State.admitFrame
  dsimp only
  split
  · exact .setPrs (.of_put rfl rfl rfl rfl fun _ => rfl)
  · refine .fallback (.bumpIf (.bump ?_ _) _ _)
    exact .of_put rfl rfl rfl rfl fun _ => rfl

theorem State.begun_discardFrame : s.Begun p bytes (s.discardFrame p bytes) := by
  refine .bump ?_ _
  exact .of_put rfl rfl rfl rfl fun _ => rfl

/-- A frame with room for its copy takes its place in the table as held, waits for a chive, and counts nothing. -/
theorem State.admitFrame_of_copyRoom (h : s.copyRoom p = true) : ((s.admitFrame p bytes).frame s.nextId).orig = .held ∧
    ((s.admitFrame p bytes).frame s.nextId).copy = .waiting ∧ (s.admitFrame p bytes).prs.waiting = s.prs.waiting ++ [s.nextId] ∧
    (s.admitFrame p bytes).regs = s.regs := by
  have hf : (s.admitFrame p bytes).frame s.nextId =
      { port := p, bytes := bytes, sof := s.now, stamp := s.thyme, lock := s.lockState, prv := zeros 128, copy := .waiting } := by
    unfold State.admitFrame
    dsimp only
    rw [if_pos (show s.freshId.2.copyRoom p = true from h)]
    exact State.frame_updFrame_self _ _ _
  refine ⟨by rw [hf], by rw [hf], ?_, ?_⟩ <;>
  · unfold State.admitFrame
    dsimp only
    rw [if_pos (show s.freshId.2.copyRoom p = true from h)]
    rfl

/-- A discarded frame is in the table without an original or a copy; MAC_EDGE_FULL of its port counts it, and no other register changes. -/
theorem State.discardFrame_counts : ((s.discardFrame p bytes).frame s.nextId).orig = .gone ∧
    ((s.discardFrame p bytes).frame s.nextId).copy = .none ∧ (s.discardFrame p bytes).prs = s.prs ∧
    (s.discardFrame p bytes).reg (Reg.MAC_EDGE_FULL p) = s.reg (Reg.MAC_EDGE_FULL p) + 1 ∧
    regsBut s (s.discardFrame p bytes) [Reg.MAC_EDGE_FULL p] := by
  have hf : (s.discardFrame p bytes).frame s.nextId = { port := p, bytes := bytes, sof := s.now, stamp := s.thyme, orig := .gone } :=
    State.frame_updFrame_self _ _ _
  refine ⟨by rw [hf], by rw [hf], rfl, State.reg_bump_self _ _, fun a ha => State.reg_bump_ne _ (List.ne_of_not_mem_cons ha)⟩

end

theorem exec_sofDelimiter {p : Fin 16} {bytes : List Byte} {s : State} (hb : bytes ≠ []) (hup : s.portUp p.val = true)
    (hrx : (s.port p.val).rx = none) : exec (.sofDelimiter p bytes) s = .next ((if s.edgeOcc p.val + 9216 ≤ edgeKibOf s.portMode * 1024 then
      s.admitFrame p.val bytes else s.discardFrame p.val bytes).pfcCheck p.val) := by
  show execSofDelimiter p bytes s = _
  rw [execSofDelimiter, if_neg hb, State.sofDelimiter, if_pos (by rw [hup, hrx]; rfl)]

/-! ### O5 -/

/-- Settles O5: by the room in the edge buffer, from the facts about admission and discard, which the PFC check that follows keeps. -/
theorem delimiterAdmitsOrDiscards : Obligations.DelimiterAdmitsOrDiscards := by
  intro p bytes s hb hup hrx
  by_cases hroom : s.edgeOcc p.val + 9216 ≤ edgeKibOf s.portMode * 1024
  · obtain ⟨h1, h2, h3, h4, h5, h6, h7⟩ := (s.begun_admitFrame p.val bytes).pfcCheck p.val
    refine ⟨_, by rw [exec_sofDelimiter hb hup hrx, if_pos hroom], h1, h2, h3, h4, h5, h6, h7, fun _ hcopy => ?_, fun hfull => ?_⟩
    · rw [State.frame_pfcCheck, State.prs_pfcCheck, State.regs_pfcCheck]
      exact s.admitFrame_of_copyRoom p.val bytes hcopy
    · omega
  · obtain ⟨h1, h2, h3, h4, h5, h6, h7⟩ := (s.begun_discardFrame p.val bytes).pfcCheck p.val
    obtain ⟨horig, hcopy, hprs, hfull, hbut⟩ := s.discardFrame_counts p.val bytes
    have hreg (a : Nat) : ((s.discardFrame p.val bytes).pfcCheck p.val).reg a = (s.discardFrame p.val bytes).reg a :=
      congrArg (Regs.get · a) (State.regs_pfcCheck _ _)
    refine ⟨_, by rw [exec_sofDelimiter hb hup hrx, if_neg hroom], h1, h2, h3, h4, h5, h6, h7, fun h => absurd h hroom, fun _ => ?_⟩
    rw [State.frame_pfcCheck, State.prs_pfcCheck, hreg]
    exact ⟨horig, hcopy, hprs, hfull, fun a ha => (hreg a).trans (hbut a ha)⟩

/-! ### The disposition of an original -/

section
variable (s : State) (f : Nat)

/-- Frame `f` with its action record back. -/
def State.recordBack : State := s.updFrame f fun x => { x with recBack := true }

theorem State.frame_recordBack_self : (s.recordBack f).frame f = { s.frame f with recBack := true } := State.frame_updFrame_self _ _ _

theorem State.frame_recordBack_ne {g : Nat} (hg : g ≠ f) : (s.recordBack f).frame g = s.frame g := State.frame_updFrame_ne _ _ _ hg

theorem State.deadlineOf_recordBack : (s.recordBack f).deadlineOf f = s.deadlineOf f := by
  rw [State.deadlineOf, State.deadlineOf, State.frame_recordBack_self]
  rfl

theorem State.releaseVer_keeps : ((s.releaseVer f).frame f).orig = (s.frame f).orig ∧ ((s.releaseVer f).frame f).recBack = (s.frame f).recBack ∧
    framesBut s (s.releaseVer f) f ∧ (∀ q, (s.releaseVer f).port q = s.port q) ∧ (s.releaseVer f).regs = s.regs := by
  unfold State.releaseVer
  dsimp only
  split
  · refine ⟨?_, ?_, fun g hg => State.frame_updFrame_ne _ _ _ hg, fun _ => rfl, rfl⟩ <;> rw [State.frame_updFrame_self]
  · exact ⟨rfl, rfl, fun _ _ => rfl, fun _ => rfl, rfl⟩

theorem State.applyDisp_drop : s.applyDisp f .drop = s.origGone f := rfl

/-- A forward without a template to a port that is up queues the original there (R40). -/
theorem State.applyDisp_fwd {q : Nat} (hup : s.portUp q = true) : s.applyDisp f (.fwd q 0) =
    (s.enqueue q ⟨.orig f 0, 4, prioOf (s.frame f).bytes, s.now, false⟩).updFrame f fun x => { x with orig := .queued } :=
  if_pos (show (s.portUp q && s.fwdFits f 0) = true by rw [hup]; rfl)

theorem State.egress_forward (q : Nat) (e : EFrame) (g : Frame → Frame) :
    (((s.enqueue q e).updFrame f g).port q).egress = (s.port q).egress ++ [e] := by
  show ((s.updPort q _).port q).egress = _
  rw [State.port_updPort_self]

theorem State.frame_applyDisp_ne (d : Disp) : framesBut s (s.applyDisp f d) f := fun g hg => by
  unfold State.applyDisp
  split
  · exact State.frame_origGone_ne s hg
  · dsimp only
    split
    · exact State.frame_updFrame_ne _ _ _ hg
    · exact State.frame_origGone_ne _ hg

theorem State.reg_applyDisp_ne (d : Disp) {a : Nat} (ha : a ≠ Reg.RUL_FWD_DROP) : (s.applyDisp f d).reg a = s.reg a := by
  unfold State.applyDisp
  split
  · exact s.reg_origGone f a
  · dsimp only
    split
    · rfl
    · rw [State.reg_origGone, State.reg_bump_ne _ ha]

end

/-! ### The commands of a decision -/

section
variable {s : State} {f : Nat} {d : Disp} (hrec : (s.frame f).record = some d) (hback : (s.frame f).recBack = false)
include hrec hback

theorem exec_actionRecordReturn : exec (.actionRecordReturn f) s = .next
    ((if (s.frame f).orig = .held ∧ s.now ≤ s.deadlineOf f then (s.recordBack f).applyDisp f d else s.recordBack f).releaseVer f) := by
  have ho : ((s.recordBack f).frame f).orig = (s.frame f).orig := by rw [State.frame_recordBack_self]
  show execActionRecordReturn f s = _
  simp only [execActionRecordReturn, hrec, hback]
  rw [← ho, ← s.deadlineOf_recordBack f]
  rfl

theorem exec_actionRecordReturn_inTime (hheld : (s.frame f).orig = .held) (hnow : s.now ≤ s.deadlineOf f) :
    exec (.actionRecordReturn f) s = .next (((s.recordBack f).applyDisp f d).releaseVer f) := by
  rw [exec_actionRecordReturn hrec hback, if_pos ⟨hheld, hnow⟩]

theorem exec_actionRecordReturn_late (hnow : s.deadlineOf f < s.now) :
    exec (.actionRecordReturn f) s = .next ((s.recordBack f).releaseVer f) := by
  rw [exec_actionRecordReturn hrec hback, if_neg fun h => hnow.not_ge h.2]

end

theorem exec_decisionDeadline {s : State} {f : Nat} (hheld : (s.frame f).orig = .held) (hb : (s.frame f).bytes ≠ [])
    (hnow : s.deadlineOf f < s.now) :
    exec (.decisionDeadline f) s = .next (s.fallback f) := congrArg Host.Outcome.next (if_pos ⟨hheld, hb, hnow⟩)

/-- The pair's fallback action, by MAC_PAIR_CTRL.fallback (R39). -/
theorem State.fallback_cases (s : State) (f : Nat) :
    let u := s.bump (Reg.MAC_FALLBACK (s.frame f).port)
    (s.fld (Reg.MAC_PAIR_CTRL_fallback ((s.frame f).port / 2)) ≠ 0 → s.fallback f = u.origGone f) ∧
    (s.fld (Reg.MAC_PAIR_CTRL_fallback ((s.frame f).port / 2)) = 0 → s.portUp (pairedPort (s.frame f).port) = true →
      s.fallback f = (u.enqueue (pairedPort (s.frame f).port) ⟨.orig f 0, 4, prioOf (s.frame f).bytes, s.now, false⟩).updFrame f
        fun x => { x with orig := .queued }) := by
  intro u
  have hreg {a : Nat} (ha : a % 64 ≠ 16) : u.reg a = s.reg a := State.reg_bump_ne _ fun h => by
    rw [h, Reg.MAC_FALLBACK] at ha
    omega
  have hfld : u.fld (Reg.MAC_PAIR_CTRL_fallback ((s.frame f).port / 2)) = s.fld (Reg.MAC_PAIR_CTRL_fallback ((s.frame f).port / 2)) := by
    refine State.fld_of_reg_eq (hreg ?_)
    simp only [Reg.MAC_PAIR_CTRL_fallback, Reg.MAC_PAIR_CTRL]
    omega
  have hup (q : Nat) : u.portUp q = s.portUp q := by
    have hmode : u.portCount = s.portCount := congrArg portsOf (State.portMode_of_reg_eq (hreg (by decide)))
    have hen : u.flag (Reg.MAC_PORT_CTRL_enable q) = s.flag (Reg.MAC_PORT_CTRL_enable q) := by
      refine State.flag_of_reg_eq (hreg ?_)
      simp only [Reg.MAC_PORT_CTRL_enable, Reg.MAC_PORT_CTRL]
      omega
    rw [State.portUp, State.portUp, hmode, hen]
    rfl
  refine ⟨fun h0 => ?_, fun h0 hq => ?_⟩
  · show u.applyDisp f (if u.fld _ = 0 then _ else _) = _
    rw [hfld, if_neg h0, State.applyDisp_drop]
  · show u.applyDisp f (if u.fld _ = 0 then _ else _) = _
    rw [hfld, if_pos h0, State.applyDisp_fwd _ _ ((hup _).trans hq)]
    rfl

theorem State.frame_fallback_ne (s : State) (f : Nat) : framesBut s (s.fallback f) f := fun g hg =>
  State.frame_applyDisp_ne (s.bump (Reg.MAC_FALLBACK (s.frame f).port)) f _ g hg

theorem State.reg_fallback (s : State) (f : Nat) (hp : (s.frame f).port < 16) :
    (s.fallback f).reg (Reg.MAC_FALLBACK (s.frame f).port) = s.reg (Reg.MAC_FALLBACK (s.frame f).port) + 1 := by
  have hne : Reg.MAC_FALLBACK (s.frame f).port ≠ Reg.RUL_FWD_DROP := by
    simp only [Reg.MAC_FALLBACK, Reg.RUL_FWD_DROP]
    omega
  unfold State.fallback
  dsimp only
  rw [State.reg_applyDisp_ne _ _ _ hne, State.reg_bump_self]

/-! ### O7 -/

/-- Settles O7: each clause from the facts about the disposition its command applies. -/
theorem deadlineRecordOrFallback : Obligations.DeadlineRecordOrFallback := by
  refine ⟨fun _ _ => rfl, fun f s hrec hback hheld hnow => ?_, fun f s q hrec hback hheld hup hnow => ?_,
    fun f s d hrec hback hnow => ?_, fun f s hheld hb hp hnow => ?_⟩
  · obtain ⟨horig, hbk, hothers, -, hregs⟩ := ((s.recordBack f).applyDisp f .drop).releaseVer_keeps f
    rw [State.applyDisp_drop] at horig hbk hregs
    refine ⟨_, exec_actionRecordReturn_inTime hrec hback hheld hnow, ?_, ?_, fun g hg => ?_, ?_⟩
    · rw [State.applyDisp_drop, hbk, State.frame_origGone_self, State.frame_recordBack_self]
    · rw [State.applyDisp_drop, horig, State.frame_origGone_self]
    · rw [hothers g hg, State.frame_applyDisp_ne _ _ _ g hg, State.frame_recordBack_ne _ _ hg]
    · rw [State.applyDisp_drop, hregs, State.regs_origGone]
      rfl
  · have hdisp := (s.recordBack f).applyDisp_fwd f (q := q) hup
    obtain ⟨horig, hbk, hothers, hports, hregs⟩ := ((s.recordBack f).applyDisp f (.fwd q 0)).releaseVer_keeps f
    refine ⟨_, exec_actionRecordReturn_inTime hrec hback hheld hnow, ?_, ?_, ?_, fun g hg => ?_, fun r hr => ?_, ?_⟩
    · rw [hbk, hdisp, State.frame_updFrame_self]
      exact congrArg Frame.recBack (s.frame_recordBack_self f)
    · rw [horig, hdisp, State.frame_updFrame_self]
    · rw [hports, hdisp, State.egress_forward, State.frame_recordBack_self]
      rfl
    · rw [hothers g hg, State.frame_applyDisp_ne _ _ _ g hg, State.frame_recordBack_ne _ _ hg]
    · rw [hports, hdisp]
      exact State.port_updPort_ne _ _ _ hr
    · rw [hregs, hdisp]
      rfl
  · obtain ⟨horig, hbk, hothers, hports, hregs⟩ := (s.recordBack f).releaseVer_keeps f
    refine ⟨_, exec_actionRecordReturn_late hrec hback hnow, ?_, ?_, hports, fun g hg => ?_, hregs⟩
    · rw [hbk, State.frame_recordBack_self]
    · rw [horig, State.frame_recordBack_self]
    · rw [hothers g hg, State.frame_recordBack_ne _ _ hg]
  · obtain ⟨hdrop, hfwd⟩ := s.fallback_cases f
    refine ⟨_, exec_decisionDeadline hheld hb hnow, ?_, fun h0 => ?_, fun h0 hup => ?_, s.frame_fallback_ne f⟩
    · exact s.reg_fallback f hp
    · rw [hdrop h0, State.frame_origGone_self]
    · rw [hfwd h0 hup, State.frame_updFrame_self, State.egress_forward]
      exact ⟨rfl, rfl⟩

end Sys2Proof.Machine
end

section
/-! PAUSE and PFC at a port (R36, R37): the facts about the frames that hold egress and about the XOFF that O9 is assembled from. -/

namespace Sys2Proof.Machine

/-! ### Blocks in reset -/

theorem State.edgeWrite_of_reachable {s : State} (k : State → State) (h : s.reachable = true) : s.edgeWrite k = k s := if_pos h

theorem State.edgeWrite_of_unreachable {s : State} (k : State → State) (h : s.reachable = false) : s.edgeWrite k = s :=
  if_neg (by rw [h]; exact Bool.false_ne_true)

/-! ### A PAUSE or PFC frame is counted -/

section
variable (s : State) (p : Nat)

/-- A PAUSE or PFC frame counted at its port. -/
def State.holdCounted : State := (s.bump (Reg.MAC_RX_FRAMES p)).bump (Reg.MAC_PAUSE_RX p)

theorem State.mac_holdCounted : (s.holdCounted p).mac = s.mac := by simp [State.holdCounted]

theorem State.port_holdCounted (q : Nat) : (s.holdCounted p).port q = s.port q := by rw [State.port, State.mac_holdCounted, State.port]

theorem State.now10_holdCounted : (s.holdCounted p).now10 = s.now10 := by simp [State.now10, State.holdCounted]

theorem State.regsBut_holdCounted : regsBut s (s.holdCounted p) [Reg.MAC_PAUSE_RX p, Reg.MAC_RX_FRAMES p] := fun a ha => by
  simp only [List.mem_cons, List.not_mem_nil, or_false, not_or] at ha
  obtain ⟨hpause, hframes⟩ := ha
  rw [State.holdCounted, State.reg_bump_ne _ hpause, State.reg_bump_ne _ hframes]

theorem State.flag_holdCounted_portCtrl {f : Fld} (h : f.addr = Reg.MAC_PORT_CTRL p) : (s.holdCounted p).flag f = s.flag f := by
  refine State.flag_of_reg_eq (s.regsBut_holdCounted p _ ?_)
  simp [h, Reg.MAC_PORT_CTRL, Reg.MAC_PAUSE_RX, Reg.MAC_RX_FRAMES]

theorem State.byteTime_holdCounted : (s.holdCounted p).byteTime = s.byteTime := by
  have hmode : Reg.MAC_MODE ∉ [Reg.MAC_PAUSE_RX p, Reg.MAC_RX_FRAMES p] := by
    simp only [Reg.MAC_MODE, Reg.MAC_PAUSE_RX, Reg.MAC_RX_FRAMES, List.mem_cons, List.not_mem_nil, or_false]
    omega
  exact congrArg byteTimeOf (State.portMode_of_reg_eq (s.regsBut_holdCounted p _ hmode))

end

/-- `t` is `s` with a PAUSE or PFC frame counted at port `p`, and with no change beyond its counters but in that port. -/
structure State.HoldTaken (p : Nat) (s t : State) : Prop where
  counted : t.reg (Reg.MAC_PAUSE_RX p) = s.reg (Reg.MAC_PAUSE_RX p) + 1
  regs : regsBut s t [Reg.MAC_PAUSE_RX p, Reg.MAC_RX_FRAMES p]
  ports : portsBut s t p
  rest : t = { s with mac := t.mac, regs := t.regs }

theorem State.holdTaken_holdCounted (s : State) (p : Nat) : s.HoldTaken p (s.holdCounted p) where
  counted := by
    rw [State.holdCounted, State.reg_bump_self, State.reg_bump_ne]
    simp [Reg.MAC_PAUSE_RX, Reg.MAC_RX_FRAMES]
  regs := s.regsBut_holdCounted p
  ports q _ := s.port_holdCounted p q
  rest := by simp only [State.holdCounted, State.bump, State.addCnt, State.setReg]

theorem State.HoldTaken.updPort {s t : State} {p : Nat} (h : s.HoldTaken p t) (g : PortSt → PortSt) : s.HoldTaken p (t.updPort p g) where
  counted := h.counted
  regs := h.regs
  ports q hq := (State.port_updPort_ne _ _ _ hq).trans (h.ports q hq)
  rest := congrArg (fun u : State => { u with mac := (t.updPort p g).mac }) h.rest

/-! ### The commands -/

/-- The instant to which quanta hold from now; 0 ends a hold (R36, R37). -/
def State.holdUntil (s : State) (n : BitVec 16) : Nat := if n = 0 then 0 else s.now10 + n.toNat * (64 * s.byteTime)

theorem State.holdUntil_holdCounted (s : State) (p : Nat) (n : BitVec 16) : (s.holdCounted p).holdUntil n = s.holdUntil n := by
  rw [State.holdUntil, State.holdUntil, State.byteTime_holdCounted, State.now10_holdCounted]

/-- The holds of a port under a PFC frame: those the mask names anew, the others as they were. -/
def State.pfcHolds (s : State) (mask : BitVec 8) (l : List (BitVec 16)) (old : List Nat) : List Nat :=
  (List.range 8).map fun i => if mask.toNat.testBit i then s.holdUntil ((l[i]?).getD 0) else (old[i]?).getD 0

section
variable {p : Fin 16} {mask : BitVec 8} {l : List (BitVec 16)} {s : State} (hr : s.reachable = true)
include hr

theorem exec_pauseRx (n : BitVec 16) : exec (.pauseRx p n) s = .next (if s.flag (Reg.MAC_PORT_CTRL_pause_rx_en p.val) then
    (s.holdCounted p.val).updPort p.val fun q => { q with pauseUntil := s.holdUntil n } else s.holdCounted p.val) := by
  show execPauseRx p n s = _
  rw [execPauseRx, State.edgeWrite_of_reachable _ hr, ← s.flag_holdCounted_portCtrl p.val rfl, ← s.holdUntil_holdCounted p.val]
  rfl

theorem exec_pfcRx (hl : l.length = 8) : exec (.pfcRx p mask l) s = .next (if s.flag (Reg.MAC_PORT_CTRL_pfc_rx_en p.val) then
    (s.holdCounted p.val).updPort p.val fun q => { q with pfcUntil := s.pfcHolds mask l q.pfcUntil } else s.holdCounted p.val) := by
  have hheld : s.pfcHolds mask l = (s.holdCounted p.val).pfcHolds mask l := by
    funext old
    simp only [State.pfcHolds, State.holdUntil_holdCounted]
  show execPfcRx p mask l s = _
  rw [execPfcRx, if_neg (not_not_intro hl), State.edgeWrite_of_reachable _ hr, ← s.flag_holdCounted_portCtrl p.val rfl, hheld]
  rfl

end

theorem exec_pauseRx_unreachable {p : Fin 16} {n : BitVec 16} {s : State} (hr : s.reachable = false) : exec (.pauseRx p n) s = .next s :=
  congrArg Host.Outcome.next (State.edgeWrite_of_unreachable _ hr)

theorem exec_pfcRx_unreachable {p : Fin 16} {mask : BitVec 8} {l : List (BitVec 16)} {s : State} (hr : s.reachable = false) (hl : l.length = 8) :
    exec (.pfcRx p mask l) s = .next s :=
  (if_neg (not_not_intro hl)).trans (congrArg Host.Outcome.next (State.edgeWrite_of_unreachable _ hr))

theorem exec_pcsLockRise_unreachable {p : Fin 16} {s : State} (hr : s.reachable = false) : exec (.pcsLockRise p) s = .next s :=
  congrArg Host.Outcome.next (State.edgeWrite_of_unreachable _ hr)

theorem State.getElem?_pfcHolds (s : State) (mask : BitVec 8) {l : List (BitVec 16)} (old : List Nat) {i : Nat} {n : BitVec 16} (hi : i < 8)
    (hn : l[i]? = some n) :
    (s.pfcHolds mask l old)[i]? = some (if mask.toNat.testBit i then s.holdUntil n else (old[i]?).getD 0) := by
  simp [State.pfcHolds, List.getElem?_range hi, hn]

/-! ### XOFF -/

section
variable {s : State} {p : Nat} (htx : s.flag (Reg.MAC_PORT_CTRL_pfc_tx_en p) = true)
include htx

/-- With an XOFF standing, a check above the XON threshold does nothing. -/
theorem State.pfcCheck_of_standing {x : Nat} (hx : (s.port p).xoffAt = some x) (hocc : (s.pfcThr p).2 < s.edgeOcc p) : s.pfcCheck p = s := by
  rw [State.pfcCheck, if_pos htx, hx]
  exact if_neg hocc.not_ge

/-- At or above the XOFF threshold a check decides on an XOFF. -/
theorem State.pfcCheck_xoff (hx : (s.port p).xoffAt = none) (hocc : (s.pfcThr p).1 ≤ s.edgeOcc p) : s.pfcCheck p =
    s.updPort p fun q => { q with xoffAt := some s.now10, xoffSent := none, pfcOut := q.pfcOut ++ [true] } := by
  rw [State.pfcCheck, if_pos htx, hx]
  exact if_pos hocc

end

theorem exec_pfcXoffRefresh {p : Fin 16} {s : State} {x y : Nat} (htx : s.flag (Reg.MAC_PORT_CTRL_pfc_tx_en p.val) = true)
    (hx : (s.port p.val).xoffAt = some x) (hy : (s.port p.val).xoffSent = some y) (hocc : (s.pfcThr p.val).2 < s.edgeOcc p.val)
    (hnow : y + 32768 * (64 * s.byteTime) ≤ s.now10) : exec (.pfcXoffRefresh p) s =
      .next (s.updPort p.val fun q => { q with xoffSent := none, pfcOut := q.pfcOut ++ [true] }) := by
  show execPfcXoffRefresh p s = _
  simp only [execPfcXoffRefresh, State.pfcCheck_of_standing htx hx hocc, hx, hy]
  exact congrArg _ (if_pos ⟨htx, hnow⟩)

/-! ### O9 -/

/-- Settles O9: each clause from the fact about its command; the frames that hold egress are counted alike. -/
theorem pauseAndPfcHolds : Obligations.PauseAndPfcHolds := by
  refine ⟨fun p n mask l s hr => ⟨exec_pauseRx_unreachable hr, exec_pfcRx_unreachable hr, exec_pcsLockRise_unreachable hr⟩,
    fun p n s hr => ?_, fun p mask l s hr hl => ?_, fun p mask l s hl => if_pos hl, fun p s => ?_,
    fun p s x y htx hx hy hocc hnow => exec_pfcXoffRefresh htx hx hy hocc hnow, fun p s htx hx hocc => ?_⟩
  · rw [exec_pauseRx hr]
    cases hen : s.flag (Reg.MAC_PORT_CTRL_pause_rx_en p.val)
    · rw [if_neg Bool.false_ne_true]
      obtain ⟨hcount, hregs, hports, hrest⟩ := s.holdTaken_holdCounted p.val
      exact ⟨_, rfl, hcount, hregs, fun _ => s.mac_holdCounted p.val, fun h => absurd h Bool.false_ne_true, hports, hrest⟩
    · rw [if_pos rfl]
      obtain ⟨hcount, hregs, hports, hrest⟩ := (s.holdTaken_holdCounted p.val).updPort fun q => { q with pauseUntil := s.holdUntil n }
      refine ⟨_, rfl, hcount, hregs, fun h => absurd h.symm Bool.false_ne_true, fun _ => ?_, hports, hrest⟩
      rw [State.port_updPort_self, State.port_holdCounted, State.holdUntil]
  · rw [exec_pfcRx hr hl]
    cases hen : s.flag (Reg.MAC_PORT_CTRL_pfc_rx_en p.val)
    · rw [if_neg Bool.false_ne_true]
      obtain ⟨hcount, hregs, hports, hrest⟩ := s.holdTaken_holdCounted p.val
      exact ⟨_, rfl, hcount, hregs, fun h => absurd h Bool.false_ne_true, fun _ => s.mac_holdCounted p.val, hports, hrest⟩
    · rw [if_pos rfl]
      obtain ⟨hcount, hregs, hports, hrest⟩ :=
        (s.holdTaken_holdCounted p.val).updPort fun q => { q with pfcUntil := s.pfcHolds mask l q.pfcUntil }
      refine ⟨_, rfl, hcount, hregs, fun _ i hi n hn => ?_, fun h => absurd h.symm Bool.false_ne_true, hports, hrest⟩
      rw [State.port_updPort_self, State.port_holdCounted]
      exact s.getElem?_pfcHolds mask _ hi hn
  · refine ⟨_, rfl, ?_, ?_, ?_, fun q hq => State.port_updPort_ne _ _ _ hq, rfl⟩ <;> rw [State.port_updPort_self]
    exact List.length_map _
  · rw [State.pfcCheck_xoff htx hx hocc, State.port_updPort_self]
    exact ⟨rfl, rfl⟩

end Sys2Proof.Machine
end

section
/-! Delivery to the host, seen from elsewhere (R270, R285): a record changes queue pairs, the outbox and the counter of free values, an event may
also be counted as dropped, and nothing else is touched. -/

namespace Sys2Proof.Machine

/-- The state without the parts in which delivery to the host works. -/
def State.sansHost (s : State) : State := { s with freeIdx := 0, hif := {}, out := [] }

theorem State.reg_of_sansHost_eq {s t : State} (h : t.sansHost = s.sansHost) (a : Nat) : t.reg a = s.reg a := by
  have hregs : t.regs = s.regs := (congrArg State.regs h :)
  exact congrArg (Regs.get · a) hregs

theorem State.mac_of_sansHost_eq {s t : State} (h : t.sansHost = s.sansHost) : t.mac = s.mac := (congrArg State.mac h :)

section
variable (s : State)

theorem State.sansHost_sendHeld (h : HostHeld) : (s.sendHeld h).sansHost = s.sansHost := by
  unfold State.sendHeld
  split <;> rfl

theorem State.sansHost_hostOut (func : Nat) (o : Output) : (s.hostOut func o).sansHost = s.sansHost := s.sansHost_sendHeld _

theorem State.sansHost_qpWrite (q addr : Nat) (b : List Byte) (relaxed : Bool) : (s.qpWrite q addr b relaxed).sansHost = s.sansHost :=
  s.sansHost_sendHeld _

theorem State.sansHost_updQp (q : Nat) (f : Qp → Qp) : (s.updQp q f).sansHost = s.sansHost := rfl

theorem State.sansHost_updDesc (i : Nat) (f : Desc → Desc) : (s.updDesc i f).sansHost = s.sansHost := rfl

theorem State.sansHost_interrupt (q : Nat) : (s.interrupt q).sansHost = s.sansHost := by
  rw [State.interrupt, State.sansHost_updQp, State.sansHost_hostOut]

theorem State.sansHost_writeRecord (q sqIndex kind status length : Nat) (cookie value : DWord) (info : Nat) :
    (s.writeRecord q sqIndex kind status length cookie value info).sansHost = s.sansHost := by
  unfold State.writeRecord
  dsimp only
  split
  · rw [State.sansHost_interrupt, State.sansHost_updQp, State.sansHost_qpWrite]
  · rw [State.sansHost_updQp, State.sansHost_qpWrite]

theorem State.sansHost_drainQp (q : Nat) : (s.drainQp q).sansHost = s.sansHost := by
  unfold State.drainQp
  split
  · rw [State.sansHost_updQp]
    refine foldl_keeps State.sansHost (fun t r => ?_) _ s
    rw [State.sansHost_writeRecord, State.sansHost_updQp]
  · rfl

theorem State.sansHost_completeDesc (i status length : Nat) (value : DWord) (info : Nat) :
    (s.completeDesc i status length value info).sansHost = s.sansHost := by
  have hcookie : ∀ (c : Bool) (u : State) (x : DWord), (if c then u.free else (x, u)).2.sansHost = u.sansHost := fun c u x => by
    cases c <;> rfl
  unfold State.completeDesc
  dsimp only
  split
  · rw [State.sansHost_drainQp]
    split
    · rw [hcookie, State.sansHost_updQp, State.sansHost_updDesc]
    · rw [State.sansHost_writeRecord, hcookie, State.sansHost_updQp, State.sansHost_updDesc]
  · rfl

/-- An event is written as a record, or counted as dropped (R285, R286). -/
theorem State.sansHost_event (code detail : Nat) :
    (s.event code detail).sansHost = s.sansHost ∨ (s.event code detail).sansHost = (s.bump Reg.HIF_COPY_DROP).sansHost := by
  unfold State.event State.deliverRecord
  split
  · exact .inl (s.sansHost_writeRecord _ _ _ _ _ _ _ _)
  · exact .inr rfl

theorem State.mac_event (code detail : Nat) : (s.event code detail).mac = s.mac :=
  (s.sansHost_event code detail).elim (congrArg State.mac) (congrArg State.mac)

theorem State.thy_event (code detail : Nat) : (s.event code detail).thy = s.thy :=
  (s.sansHost_event code detail).elim (congrArg State.thy) (congrArg State.thy)

theorem State.thyme_event (code detail : Nat) : (s.event code detail).thyme = s.thyme :=
  (s.sansHost_event code detail).elim (congrArg State.thyme) (congrArg State.thyme)

theorem State.now_event (code detail : Nat) : (s.event code detail).now = s.now :=
  (s.sansHost_event code detail).elim (congrArg State.now) (congrArg State.now)

theorem State.aon_event (code detail : Nat) : (s.event code detail).aon = s.aon :=
  (s.sansHost_event code detail).elim (congrArg State.aon) (congrArg State.aon)

theorem State.reg_event_ne (code detail : Nat) {a : Nat} (ha : a ≠ Reg.HIF_COPY_DROP) : (s.event code detail).reg a = s.reg a := by
  rcases s.sansHost_event code detail with h | h
  · exact State.reg_of_sansHost_eq h a
  · exact (State.reg_of_sansHost_eq h a).trans (State.reg_bump_ne _ ha)

end

end Sys2Proof.Machine
end

section
/-! Ports and pairs when something leaves the network edge (R44, R46, R103, R109, R423): what drops and closes leave alone, and the facts about
links, the port mode and the bypass that O10 and O11 are assembled from. -/

namespace Sys2Proof.Machine

/-! ### What leaves the edge -/

/-- What a change of one port keeps of it, it keeps of every port. -/
theorem State.port_updPort_keeps {α : Type} (s : State) (obs : PortSt → α) (p : Nat) {g : PortSt → PortSt} (hg : ∀ x, obs (g x) = obs x)
    (q : Nat) : obs ((s.updPort p g).port q) = obs (s.port q) := by
  by_cases hq : q = p
  · rw [hq, State.port_updPort_self, hg]
  · rw [State.port_updPort_ne _ _ _ hq]

/-- The addresses of the registers of the pairs. -/
abbrev IsPairReg (a : Nat) : Prop := 0x408000 ≤ a ∧ a < 0x408200

theorem isPairReg_pairCtrl {k : Nat} (hk : k < 8) : IsPairReg (Reg.MAC_PAIR_CTRL k) := by
  simp only [IsPairReg, Reg.MAC_PAIR_CTRL]
  omega

theorem isPairReg_bypStat {k : Nat} (hk : k < 8) : IsPairReg (Reg.MAC_BYP_STAT k) := by
  simp only [IsPairReg, Reg.MAC_BYP_STAT]
  omega

/-- `t` is `s` after frames have left the edge or were dropped there: no pair, no port's lock or link, and no register of the pairs changes. -/
structure State.EdgeWork (s t : State) : Prop where
  pairs : t.mac.pairs = s.mac.pairs
  link : ∀ q, (t.port q).linkUp = (s.port q).linkUp
  lock : ∀ q, (t.port q).pcsLock = (s.port q).pcsLock
  regs : ∀ a, IsPairReg a → t.reg a = s.reg a

namespace State.EdgeWork

variable {s t : State}

theorem refl (s : State) : EdgeWork s s := ⟨rfl, fun _ => rfl, fun _ => rfl, fun _ _ => rfl⟩

theorem ite {c : Prop} [Decidable c] {a b : State} (ha : EdgeWork s a) (hb : EdgeWork s b) : EdgeWork s (if c then a else b) := by
  split <;> assumption

theorem foldl {β : Type} {l : List β} {f : State → β → State} (h : EdgeWork s t) (hf : ∀ u x, EdgeWork s u → EdgeWork s (f u x)) :
    EdgeWork s (l.foldl f t) :=
  List.foldlRecOn (motive := EdgeWork s) l f h fun u hu x _ => hf u x hu

theorem bump (h : EdgeWork s t) {a : Nat} (ha : ¬ IsPairReg a) : EdgeWork s (t.bump a) :=
  ⟨h.pairs, h.link, h.lock, fun b hb => (State.reg_bump_ne _ fun e => ha (by rwa [← e])).trans (h.regs b hb)⟩

theorem bumpIf (h : EdgeWork s t) {c : Bool} {a : Nat} (ha : ¬ IsPairReg a) : EdgeWork s (t.bumpIf c a) := .ite (h.bump ha) h

theorem updFrame (h : EdgeWork s t) {f : Nat} {g : Frame → Frame} : EdgeWork s (t.updFrame f g) := ⟨h.pairs, h.link, h.lock, h.regs⟩

theorem updBundle (h : EdgeWork s t) {b : Nat} {f : Bundle → Bundle} : EdgeWork s (t.updBundle b f) := ⟨h.pairs, h.link, h.lock, h.regs⟩

theorem emit (h : EdgeWork s t) {o : Output} : EdgeWork s (t.emit o) := ⟨h.pairs, h.link, h.lock, h.regs⟩

theorem updPort (h : EdgeWork s t) {p : Nat} {g : PortSt → PortSt} (hlink : ∀ x, (g x).linkUp = x.linkUp)
    (hlock : ∀ x, (g x).pcsLock = x.pcsLock) : EdgeWork s (t.updPort p g) where
  pairs := h.pairs
  link q := (t.port_updPort_keeps PortSt.linkUp p hlink q).trans (h.link q)
  lock q := (t.port_updPort_keeps PortSt.pcsLock p hlock q).trans (h.lock q)
  regs := h.regs

theorem completeDesc (h : EdgeWork s t) {i status length : Nat} {value : DWord} {info : Nat} :
    EdgeWork s (t.completeDesc i status length value info) := by
  have hc := t.sansHost_completeDesc i status length value info
  have hmac := State.mac_of_sansHost_eq hc
  refine ⟨hmac ▸ h.pairs, fun q => ?_, fun q => ?_, fun a ha => ?_⟩
  · rw [State.port, hmac]
    exact h.link q
  · rw [State.port, hmac]
    exact h.lock q
  · exact (State.reg_of_sansHost_eq hc a).trans (h.regs a ha)

theorem pfcCheck (h : EdgeWork s t) {p : Nat} : EdgeWork s (t.pfcCheck p) := by
  unfold State.pfcCheck
  refine .ite ?_ h
  split <;> exact .ite (h.updPort (fun _ => rfl) fun _ => rfl) h

theorem origGone (h : EdgeWork s t) {f : Nat} : EdgeWork s (t.origGone f) := h.updFrame.pfcCheck

theorem recordLost (h : EdgeWork s t) {x : Record} : EdgeWork s (t.recordLost x) := .ite (.ite h (h.updBundle.bump (by decide))) h

theorem dropEgress (h : EdgeWork s t) {e : EFrame} : EdgeWork s (t.dropEgress e) := by
  unfold State.dropEgress
  split
  · exact (h.bump (by decide)).origGone
  · exact (h.bump (by decide)).updFrame
  · exact h.completeDesc
  · exact (h.bump (by decide)).foldl fun _ _ h => h.recordLost

theorem dropDead (h : EdgeWork s t) {p : Nat} : EdgeWork s (t.dropDead p) := by
  unfold State.dropDead
  refine .foldl ?_ fun _ _ h => h.dropEgress
  exact h.updPort (fun _ => rfl) fun _ => rfl

theorem replyEnded (h : EdgeWork s t) {r : ReplyFrame} : EdgeWork s (t.replyEnded r) := h.foldl fun _ _ h => .ite h.updBundle h

theorem settleTx (h : EdgeWork s t) {p : Nat} (hp : p < 16) : EdgeWork s (t.settleTx p) := by
  unfold State.settleTx
  split
  · exact h
  · refine .ite ?_ h
    extract_lets lenErr bad gone sent counted
    have hframes : ¬ IsPairReg (Reg.MAC_TX_FRAMES p) := by simp only [IsPairReg, Reg.MAC_TX_FRAMES]; omega
    have hfcs : ¬ IsPairReg (Reg.MAC_TX_BAD_FCS p) := by simp only [IsPairReg, Reg.MAC_TX_BAD_FCS]; omega
    have hg : EdgeWork s gone := h.updPort (fun _ => rfl) fun _ => rfl
    have hs : EdgeWork s sent := hg.emit.bump hframes
    have hc : EdgeWork s counted := (hs.bumpIf hfcs).bumpIf (by decide)
    split
    · exact hc.origGone
    · exact hc
    · exact hc.completeDesc
    · exact .ite hc.replyEnded hc

theorem cutTx (h : EdgeWork s t) {p : Nat} (hp : p < 16) : EdgeWork s (t.cutTx p) := by
  unfold State.cutTx
  dsimp only
  split
  · exact h.settleTx hp
  · have hu : EdgeWork s ((t.settleTx p).updPort p fun q => { q with tx := none }) := (h.settleTx hp).updPort (fun _ => rfl) fun _ => rfl
    split
    · exact hu
    · exact hu.dropEgress

theorem pair (h : EdgeWork s t) (k : Nat) : t.pair k = s.pair k := congrArg (Tab.get · k) h.pairs

theorem fld (h : EdgeWork s t) {f : Fld} (hf : IsPairReg f.addr) : t.fld f = s.fld f :=
  State.fld_of_reg_eq (h.regs _ hf)

theorem flag (h : EdgeWork s t) {f : Fld} (hf : IsPairReg f.addr) : t.flag f = s.flag f :=
  State.flag_of_reg_eq (h.regs _ hf)

end State.EdgeWork

theorem State.edgeWork_dropDead (s : State) (p : Nat) : s.EdgeWork (s.dropDead p) := (State.EdgeWork.refl s).dropDead

theorem State.edgeWork_cutTx (s : State) {p : Nat} (hp : p < 16) : s.EdgeWork (s.cutTx p) := (State.EdgeWork.refl s).cutTx hp

/-! ### A pair that closes -/

section
variable (s : State) (k c : Nat)

theorem State.sendClose_keeps : pairsBut s (s.sendClose k) k ∧ (s.sendClose k).mac.ports = s.mac.ports := by
  unfold State.sendClose
  split
  · exact ⟨fun _ _ => rfl, rfl⟩
  · refine ⟨fun j hj => ?_, ?_⟩
    · rw [State.pair, State.mac_event]
      exact State.pair_updPair_ne _ _ _ hj
    · rw [State.mac_event]
      rfl

theorem State.lowestCause_le : s.lowestCause k c ≤ c := by
  unfold State.lowestCause
  dsimp only
  split <;> split <;> simp

/-- A pair that is engaged, with its cause on record, before what its ports can no longer carry is dropped. -/
def State.engage : State :=
  ((s.sendClose k).updPair k fun q => { q with st := .engaged, closedAt := some s.now, closedFrom := q.st }).setFld
    (Reg.MAC_BYP_STAT_last_close_cause k) (s.lowestCause k c)

theorem State.ports_engage : (s.engage k c).mac.ports = s.mac.ports := (s.sendClose_keeps k).2

theorem State.pair_engage_self : ((s.engage k c).pair k).st = .engaged := congrArg PairSt.st (State.pair_updPair_self _ k _)

theorem State.pair_engage_ne : pairsBut s (s.engage k c) k := fun j hj =>
  (State.pair_updPair_ne _ k _ hj).trans ((s.sendClose_keeps k).1 j hj)

theorem State.fld_engage (hc : c < 16) : (s.engage k c).fld (Reg.MAC_BYP_STAT_last_close_cause k) = s.lowestCause k c := by
  have hle : s.lowestCause k c < 2 ^ (7 + 1 - 4) := (s.lowestCause_le k c).trans_lt hc
  rw [State.engage, State.fld_setFld_self _ _ _ (by simp [Reg.MAC_BYP_STAT_last_close_cause]) (by simp [Reg.MAC_BYP_STAT_last_close_cause])]
  exact Nat.mod_eq_of_lt hle

/-- A pair that is not ENGAGED engages, and the rest of its close is the dropping of frames (R46, R109). -/
theorem State.edgeWork_closePair (hst : (s.pair k).st ≠ .engaged) : (s.engage k c).EdgeWork (s.closePair k c) := by
  have hclose : s.closePair k c = ((s.engage k c).dropDead (2 * k)).dropDead (2 * k + 1) := if_neg hst
  rw [hclose]
  exact (State.edgeWork_dropDead _ _).dropDead

/-- A close leaves every port's link and lock. -/
theorem State.link_closePair (q : Nat) : ((s.closePair k c).port q).linkUp = (s.port q).linkUp ∧
    ((s.closePair k c).port q).pcsLock = (s.port q).pcsLock := by
  by_cases hst : (s.pair k).st = .engaged
  · rw [State.closePair]
    dsimp only
    rw [if_pos hst]
    split <;> exact ⟨rfl, rfl⟩
  · have h := s.edgeWork_closePair k c hst
    have hport : (s.engage k c).port q = s.port q := congrArg (Tab.get · q) (s.ports_engage k c)
    rw [h.link, h.lock, hport]
    exact ⟨rfl, rfl⟩

/-- What a close makes of a pair that is not ENGAGED: the pair is, its lowest cause is on record, and the other pairs are as they were. -/
theorem State.closePair_closes (hk : k < 8) (hc : c < 16) (hst : (s.pair k).st ≠ .engaged) : ((s.closePair k c).pair k).st = .engaged ∧
    pairsBut s (s.closePair k c) k ∧ (s.closePair k c).fld (Reg.MAC_BYP_STAT_last_close_cause k) = s.lowestCause k c := by
  have h := s.edgeWork_closePair k c hst
  refine ⟨?_, fun j hj => ?_, ?_⟩
  · rw [h.pair, State.pair_engage_self]
  · rw [h.pair, s.pair_engage_ne k c j hj]
  · rw [h.fld (isPairReg_bypStat hk), s.fld_engage k c hc]

/-! ### A port that loses its link -/

/-- A port without its link, before its pair is judged: what it was to send is dropped, and the pair has noted the loss. -/
def State.linkDropped (s : State) (p : Nat) : State :=
  (((s.cutTx p).updPort p fun q => { q with linkUp := false }).updPair (p / 2)
    fun q => if p % 2 = 0 then { q with down0 := true } else { q with down1 := true }).dropDead p

section
variable {p : Nat} (hp : p < 16)
include hp

theorem State.linkDropped_port : ((s.linkDropped p).port p).linkUp = false ∧ ((s.linkDropped p).port p).pcsLock = (s.port p).pcsLock := by
  have hport : ∀ g : PairSt → PairSt, (((s.cutTx p).updPort p fun q => { q with linkUp := false }).updPair (p / 2) g).port p =
      { (s.cutTx p).port p with linkUp := false } := fun g => State.port_updPort_self _ _ _
  rw [State.linkDropped, (State.edgeWork_dropDead _ p).link, (State.edgeWork_dropDead _ p).lock, hport]
  exact ⟨rfl, (s.edgeWork_cutTx hp).lock p⟩

theorem State.linkDropped_pair : ((s.linkDropped p).pair (p / 2)).st = (s.pair (p / 2)).st := by
  rw [State.linkDropped, (State.edgeWork_dropDead _ p).pair, State.pair_updPair_self, ← (s.edgeWork_cutTx hp).pair]
  split <;> rfl

theorem State.flag_linkDropped : (s.linkDropped p).flag (Reg.MAC_PAIR_CTRL_auto_close_link (p / 2)) =
    s.flag (Reg.MAC_PAIR_CTRL_auto_close_link (p / 2)) := by
  have hf : IsPairReg (Reg.MAC_PAIR_CTRL (p / 2)) := isPairReg_pairCtrl (by omega)
  rw [State.linkDropped, (State.edgeWork_dropDead _ p).flag hf]
  exact (s.edgeWork_cutTx hp).flag hf

/-- A port that loses its link keeps its lock, and closes its OPEN pair where auto_close_link is 1 (R46, R423). -/
theorem State.linkLost_cases : ((s.linkLost p).port p).linkUp = false ∧ ((s.linkLost p).port p).pcsLock = (s.port p).pcsLock ∧
    ((s.port p).linkUp = true → (s.pair (p / 2)).st = .open → s.flag (Reg.MAC_PAIR_CTRL_auto_close_link (p / 2)) = true →
      ((s.linkLost p).pair (p / 2)).st = .engaged) := by
  have heq : s.linkLost p = if (s.port p).linkUp = true ∧ ((s.linkDropped p).pair (p / 2)).st ≠ .opening ∧
      (s.linkDropped p).flag (Reg.MAC_PAIR_CTRL_auto_close_link (p / 2)) = true then (s.linkDropped p).closePair (p / 2) 4
      else s.linkDropped p := rfl
  obtain ⟨hlink, hlock⟩ := s.linkDropped_port hp
  rw [heq, s.linkDropped_pair hp, s.flag_linkDropped hp]
  split
  · obtain ⟨hcl, hcp⟩ := (s.linkDropped p).link_closePair (p / 2) 4 p
    refine ⟨hcl.trans hlink, hcp.trans hlock, fun _ hopen _ => ?_⟩
    obtain ⟨heng, -⟩ := (s.linkDropped p).closePair_closes (p / 2) 4 (by omega) (by decide) (by rw [s.linkDropped_pair hp, hopen]; decide)
    exact heng
  · next hno => exact ⟨hlink, hlock, fun hup hopen hauto => absurd ⟨hup, by rw [hopen]; decide, hauto⟩ hno⟩

end

end

/-! ### The commands of links and the port mode -/

section
variable {p : Fin 16} {s : State}

theorem exec_pcsLockRise (hr : s.reachable = true) (hp : p.val < s.portCount) :
    exec (.pcsLockRise p) s = .next (s.updPort p.val fun q => { q with pcsLock := true }) := by
  show execPcsLockRise p s = _
  rw [execPcsLockRise, State.edgeWrite_of_reachable _ hr, if_pos hp]

theorem exec_linkUp (hp : p.val < s.portCount) (hlock : (s.port p.val).pcsLock = true)
    (hen : s.flag (Reg.MAC_PORT_CTRL_enable p.val) = true) :
    exec (.linkUp p) s = .next ((s.updPort p.val fun q => { q with linkUp := true }).tryOpen (p.val / 2)) :=
  congrArg Host.Outcome.next (if_pos ⟨hp, hlock, hen⟩)

theorem exec_pcsLockFall (hlock : (s.port p.val).pcsLock = true) :
    exec (.pcsLockFall p) s = .next ((s.updPort p.val fun q => { q with pcsLock := false }).linkLost p.val) :=
  congrArg Host.Outcome.next (if_pos hlock)

theorem State.tryOpen_keeps (s : State) (k : Nat) : (s.tryOpen k).mac.ports = s.mac.ports ∧ s.tryOpen k = { s with mac := (s.tryOpen k).mac } := by
  unfold State.tryOpen
  dsimp only
  split <;> exact ⟨rfl, rfl⟩

theorem exec_macModeWrite (v : Word) (hr : s.reachable = true) : exec (.macModeWrite v) s =
    .next (if s.modeWritable && decide (v.toNat % 4 ≠ 3) then (s.setFld Reg.MAC_MODE_mode (v.toNat % 4)).pfcCheckAll else s) := by
  show execMacModeWrite v s = _
  rw [execMacModeWrite, State.edgeWrite_of_reachable _ hr, State.macModeWrite]

end

/-! ### O10 -/

/-- Settles O10: each clause from the fact about its command; a lock that falls from what a lost link does. -/
theorem linkStateAndPortMode : Obligations.LinkStateAndPortMode := by
  refine ⟨fun p s hr hp => exec_pcsLockRise hr hp, fun p s hp hlock hen => ?_, fun p s hlock => ?_, fun v s hr hw hv => ?_, fun v s hr hno => ?_⟩
  · obtain ⟨hports, hrest⟩ := (s.updPort p.val fun q => { q with linkUp := true }).tryOpen_keeps (p.val / 2)
    have hport := fun q => congrArg (Tab.get · q) hports
    refine ⟨_, exec_linkUp hp hlock hen, ?_, fun q hq => (hport q).trans (State.port_updPort_ne _ _ _ hq), hrest⟩
    exact congrArg PortSt.linkUp ((hport p.val).trans (State.port_updPort_self _ _ _))
  · have hself := s.port_updPort_self p.val fun q => { q with pcsLock := false }
    obtain ⟨hlink, hkeep, hclose⟩ := (s.updPort p.val fun q => { q with pcsLock := false }).linkLost_cases p.isLt
    refine ⟨_, exec_pcsLockFall hlock, ?_, hlink, fun hup => hclose ?_⟩
    · rw [hkeep, hself]
    · rw [hself, hup]
  · have hmac := State.eq_of_sansMac_eq (s.setFld Reg.MAC_MODE_mode (v.toNat % 4)).sansMac_pfcCheckAll
    have hregs : (s.setFld Reg.MAC_MODE_mode (v.toNat % 4)).pfcCheckAll.regs = (s.setFld Reg.MAC_MODE_mode (v.toNat % 4)).regs :=
      (congrArg State.regs hmac :)
    have hreg := fun a => congrArg (Regs.get · a) hregs
    refine ⟨_, by rw [exec_macModeWrite v hr, if_pos (by simp [hw, hv])], ?_, fun a ha => ?_, ?_⟩
    · have hmode := (State.portMode_of_reg_eq (hreg _)).trans (s.fld_setFld_self Reg.MAC_MODE_mode (v.toNat % 4) (by decide) (by decide))
      exact hmode.trans (Nat.mod_mod _ _)
    · exact (hreg a).trans (State.reg_setFld_ne _ _ _ (List.ne_of_not_mem_cons ha))
    · rw [hregs]
      exact hmac
  · rw [exec_macModeWrite v hr, if_neg]
    rcases hno with h | h <;> simp [h]

end Sys2Proof.Machine
end

section
/-! The bypass of a pair (R43 to R46, R333): open requests, closes and kicks, and O11. -/

namespace Sys2Proof.Machine

/-! ### Open requests -/

theorem State.leaveIdle_of_run {s : State} (h : s.pow.idle = false) : s.leaveIdle = s := if_neg (by rw [h]; exact Bool.false_ne_true)

theorem State.leaveIdle_of_idle {s : State} (h : s.pow.idle = true) (hfrom : s.pow.idleFrom ≠ some s.now) :
    s.leaveIdle = { s with pow := { s.pow with idle := false, idleAt := none, devWaking := some s.now } } := by
  rw [State.leaveIdle, if_pos h, if_neg hfrom]

theorem State.idle_of_not_gated {s : State} (h : s.gated = false) : s.pow.idle = false := by
  rw [State.gated, Bool.or_eq_false_iff] at h
  exact h.1

theorem ite_code_eq_zero_iff {c : Prop} [Decidable c] {n m : Nat} (hn : n ≠ 0) : (if c then n else m) = 0 ↔ ¬ c ∧ m = 0 := by
  by_cases hc : c <;> simp [hc, hn]

/-- The four conditions of an open request: refuse_reason names one that fails, and is 0 where all hold (R44). -/
theorem State.openRefusal_eq_zero_iff (s : State) (k : Nat) : s.openRefusal k = 0 ↔ k < s.portCount / 2 ∧
    s.flag (Reg.MAC_PORT_CTRL_enable (2 * k)) = true ∧ s.flag (Reg.MAC_PORT_CTRL_enable (2 * k + 1)) = true ∧
    (s.port (2 * k)).linkUp = true ∧ (s.port (2 * k + 1)).linkUp = true ∧ s.coreReadyBit = true ∧ s.hbFresh k = true := by
  rw [State.openRefusal, ite_code_eq_zero_iff (by decide), ite_code_eq_zero_iff (by decide), ite_code_eq_zero_iff (by decide),
    ite_code_eq_zero_iff (by decide)]
  simp only [not_not, Bool.not_eq_false, and_assoc, and_true]

theorem State.openRefusal_lt (s : State) (k : Nat) : s.openRefusal k < 16 := by
  unfold State.openRefusal
  repeat' split
  all_goals decide

section
variable {s : State} {k : Nat}

theorem State.judgeOpen_accepted (hst : (s.pair k).st = .engaged) (h : s.openRefusal k = 0) :
    s.judgeOpen k = s.updPair k fun q => { q with st := .opening, openAt := s.now, down0 := false, down1 := false } := by
  rw [State.judgeOpen, if_pos hst]
  exact if_pos h

theorem State.judgeOpen_refused (hst : (s.pair k).st = .engaged) (h : s.openRefusal k ≠ 0) : s.judgeOpen k =
    (s.stick (Reg.MAC_BYP_STAT_open_refused k)).setFld (Reg.MAC_BYP_STAT_refuse_reason k) (s.openRefusal k) := by
  rw [State.judgeOpen, if_pos hst]
  exact if_neg h

theorem State.judgeOpen_not_engaged (hst : (s.pair k).st ≠ .engaged) : s.judgeOpen k = s := if_neg hst

theorem State.openRequest_of_run (h : s.gated = false) : s.openRequest k = s.judgeOpen k := by
  rw [State.openRequest, State.leaveIdle_of_run (State.idle_of_not_gated h)]
  exact if_neg (by rw [h]; exact Bool.false_ne_true)

theorem State.openRequest_not_engaged (hidle : s.pow.idle = false) (hst : (s.pair k).st ≠ .engaged) : s.openRequest k = s := by
  rw [State.openRequest, State.leaveIdle_of_run hidle, if_neg hst, State.judgeOpen_not_engaged hst, ite_self]

theorem State.openRequest_of_idle (hidle : s.pow.idle = true) (hfrom : s.pow.idleFrom ≠ some s.now) (hst : (s.pair k).st = .engaged) :
    s.openRequest k = { s with pow := { s.pow with idle := false, idleAt := none, devWaking := some s.now } }.updPair k
      fun q => { q with openWait := true } := by
  rw [State.openRequest, State.leaveIdle_of_idle hidle hfrom]
  exact (if_pos rfl).trans (if_pos hst)

end

/-- What a refused request leaves in MAC_BYP_STAT of its pair. -/
theorem State.refused_stat (s : State) (k : Nat) {n : Nat} (hn : n < 16) :
    let t := (s.stick (Reg.MAC_BYP_STAT_open_refused k)).setFld (Reg.MAC_BYP_STAT_refuse_reason k) n
    t.flag (Reg.MAC_BYP_STAT_open_refused k) = true ∧ t.fld (Reg.MAC_BYP_STAT_refuse_reason k) = n ∧ regsBut s t [Reg.MAC_BYP_STAT k] := by
  intro t
  refine ⟨?_, ?_, fun a ha => ?_⟩
  · have hkeep : t.fld (Reg.MAC_BYP_STAT_open_refused k) = (s.stick (Reg.MAC_BYP_STAT_open_refused k)).fld (Reg.MAC_BYP_STAT_open_refused k) :=
      State.fld_setFld_of_disjoint _ _ (show 12 ≤ 15 by decide) (show 15 < 64 by decide) (.inr (show 8 < 12 by decide))
    rw [State.flag, hkeep]
    exact State.flag_stick_self _ _ rfl (show 8 < 64 by decide)
  · exact (State.fld_setFld_self _ _ _ (show 12 ≤ 15 by decide) (show 15 < 64 by decide)).trans (Nat.mod_eq_of_lt hn)
  · have hne := List.ne_of_not_mem_cons ha
    exact (State.reg_setFld_ne _ _ _ hne).trans (State.reg_stick_ne _ _ hne)

/-- At RUN, a request of one pair is judged if it waits. -/
def State.judgeIfWaiting (s : State) (k : Nat) : State :=
  if (s.pair k).openWait then (s.updPair k fun q => { q with openWait := false }).judgeOpen k else s

theorem State.openWait_judgeOpen (s : State) (k j : Nat) : ((s.judgeOpen k).pair j).openWait = (s.pair j).openWait := by
  by_cases hst : (s.pair k).st = .engaged
  · by_cases h : s.openRefusal k = 0
    · rw [State.judgeOpen_accepted hst h]
      by_cases hj : j = k
      · rw [hj, State.pair_updPair_self]
      · rw [State.pair_updPair_ne _ _ _ hj]
    · rw [State.judgeOpen_refused hst h]
      rfl
  · rw [State.judgeOpen_not_engaged hst]

theorem foldl_judgeIfWaiting_of_none {l : List Nat} {s : State} (h : ∀ j ∈ l, (s.pair j).openWait = false) :
    l.foldl State.judgeIfWaiting s = s := by
  induction l with
  | nil => rfl
  | cons j r ih =>
    rw [List.foldl_cons, State.judgeIfWaiting, h j List.mem_cons_self, if_neg Bool.false_ne_true]
    exact ih fun i hi => h i (List.mem_cons_of_mem _ hi)

/-- Where one pair's request waits alone, reaching RUN judges that one (R333). -/
theorem State.judgeWaiting_of_one {s : State} {k : Nat} (hk : k < 8) (hw : (s.pair k).openWait = true)
    (hothers : ∀ j, j < 8 → j ≠ k → (s.pair j).openWait = false) :
    s.judgeWaiting = (s.updPair k fun q => { q with openWait := false }).judgeOpen k := by
  obtain ⟨a, b, hab⟩ := List.append_of_mem (List.mem_range.mpr hk)
  have hlt : ∀ j ∈ a ++ k :: b, j < 8 := fun j hj => List.mem_range.mp (hab ▸ hj)
  have hka : k ∉ a := fun h => (List.nodup_append.mp (hab ▸ List.nodup_range)).2.2 k h k List.mem_cons_self rfl
  have hbefore : a.foldl State.judgeIfWaiting s = s := foldl_judgeIfWaiting_of_none fun j hj =>
    hothers j (hlt j (List.mem_append_left _ hj)) fun h => hka (h ▸ hj)
  have hafter : b.foldl State.judgeIfWaiting ((s.updPair k fun q => { q with openWait := false }).judgeOpen k) = _ :=
    foldl_judgeIfWaiting_of_none fun j hj => by
      rw [State.openWait_judgeOpen]
      by_cases hjk : j = k
      · rw [hjk, State.pair_updPair_self]
      · rw [State.pair_updPair_ne _ _ _ hjk]
        exact hothers j (hlt j (List.mem_append_right _ (List.mem_cons_of_mem _ hj))) hjk
  show (List.range 8).foldl State.judgeIfWaiting s = _
  rw [hab, List.foldl_append, hbefore, List.foldl_cons, State.judgeIfWaiting, hw, if_pos rfl, hafter]

/-! ### The commands of the bypass -/

section
variable {k : Fin 8} {s : State}

theorem exec_bypOpenRequest (hr : s.reachable = true) : exec (.bypOpenRequest k) s = .next (s.openRequest k.val) :=
  congrArg Host.Outcome.next (State.edgeWrite_of_reachable _ hr)

theorem exec_bypClose (b : Bool) (hr : s.reachable = true) : exec (.bypClose k b) s = .next (s.closePair k.val 2) :=
  congrArg Host.Outcome.next (State.edgeWrite_of_reachable _ hr)

theorem exec_hbExpiry (h : s.hbFresh k.val = false) : exec (.hbExpiry k) s = .next (s.closePair k.val 3) :=
  congrArg Host.Outcome.next (if_neg (by rw [h]; exact Bool.false_ne_true))

theorem exec_openTimeout (hst : (s.pair k.val).st = .opening)
    (hnow : (s.pair k.val).openAt + s.fld (Reg.MAC_BYP_OPEN_WAIT_wait_ns k.val) < s.now) :
    exec (.openTimeout k) s = .next (s.closePair k.val 5) := congrArg Host.Outcome.next (if_pos ⟨hst, decide_eq_true hnow⟩)

/-- A heartbeat that is not fresh makes the cause 3 or lower (R46). -/
theorem State.lowestCause_of_stale {k c : Nat} (h : s.hbFresh k = false) (hc : 3 ≤ c) : s.lowestCause k c = 3 := by
  rw [State.lowestCause, h]
  refine (if_neg Bool.false_ne_true).trans (min_eq_right ?_)
  split <;> omega

theorem State.lowestCause_of_fresh_five {k : Nat} (h : s.hbFresh k = true) : s.lowestCause k 5 = 5 := by
  rw [State.lowestCause, h]
  refine (if_pos rfl).trans ?_
  split <;> rfl

/-- A lower cause in the nanosecond of a close replaces the one on record (R46). -/
theorem State.closePair_replaces {k c : Nat} (hst : (s.pair k).st = .engaged) (hat : (s.pair k).closedAt = some s.now)
    (hfrom : (s.pair k).closedFrom.closesBy c = true) (hlt : c < s.fld (Reg.MAC_BYP_STAT_last_close_cause k)) :
    s.closePair k c = s.setFld (Reg.MAC_BYP_STAT_last_close_cause k) c := by
  rw [State.closePair]
  dsimp only
  rw [if_pos hst, if_pos ⟨hat, hfrom, hlt⟩]

theorem BypSt.closesBy_two {st : BypSt} (h : st ≠ .engaged) : st.closesBy 2 = true := by
  cases st
  · exact absurd rfl h
  · rfl
  · rfl

end

/-! ### O11 -/

/-- Settles O11: each clause from the fact about the open request, the close or the kick it names. -/
theorem bypassOpensAndCloses : Obligations.BypassOpensAndCloses := by
  refine ⟨fun k s hr hg hst h0 => ?_, fun k s hr hg hst h0 => ?_, fun k s hidle hst => ?_, fun k s hr hidle hfrom hst => ?_,
    fun k s hw hst hothers => ?_, fun k s => s.openRefusal_eq_zero_iff k.val, fun k b s hr hst => ?_, fun k s hst hb => ?_,
    fun k s hst hnow => ?_, fun k w s hr => congrArg Host.Outcome.next (State.edgeWrite_of_reachable _ hr), fun k b s hr hst hat hfrom hlt => ?_⟩
  · rw [exec_bypOpenRequest hr, State.openRequest_of_run hg, State.judgeOpen_accepted hst h0]
  · obtain ⟨hflag, hfld, hbut⟩ := s.refused_stat k.val (s.openRefusal_lt k.val)
    have hexec := exec_bypOpenRequest (k := k) hr
    rw [State.openRequest_of_run hg, State.judgeOpen_refused hst h0] at hexec
    exact ⟨_, hexec, rfl, hflag, hfld, hbut, rfl⟩
  · show Host.Outcome.next (State.edgeWrite s _) = _
    by_cases hr : s.reachable = true
    · rw [State.edgeWrite_of_reachable _ hr, State.openRequest_not_engaged hidle hst]
    · rw [State.edgeWrite_of_unreachable _ (Bool.eq_false_of_not_eq_true hr)]
  · rw [exec_bypOpenRequest hr, State.openRequest_of_idle hidle hfrom hst]
  · intro u
    have hu : (u.pair k.val).st = .engaged := (congrArg PairSt.st (State.pair_updPair_self _ _ _)).trans hst
    rw [State.judgeWaiting_of_one k.isLt hw hothers]
    exact ⟨State.judgeOpen_accepted hu, State.judgeOpen_refused hu⟩
  · exact ⟨_, exec_bypClose b hr, s.closePair_closes k.val 2 k.isLt (by decide) hst⟩
  · obtain ⟨heng, hpairs, hcause⟩ := s.closePair_closes k.val 3 k.isLt (by decide) hst
    exact ⟨_, exec_hbExpiry hb, heng, hpairs, hcause.trans (State.lowestCause_of_stale hb le_rfl)⟩
  · obtain ⟨heng, hpairs, hcause⟩ := s.closePair_closes k.val 5 k.isLt (by decide) (by rw [hst]; decide)
    refine ⟨_, exec_openTimeout hst hnow, heng, hpairs, hcause.trans ?_⟩
    cases hb : s.hbFresh k.val
    · exact State.lowestCause_of_stale hb (by decide)
    · exact State.lowestCause_of_fresh_five hb
  · have hexec := exec_bypClose (k := k) b hr
    rw [State.closePair_replaces hst hat (BypSt.closesBy_two hfrom) hlt] at hexec
    refine ⟨_, hexec, rfl, ?_, fun a ha => ?_⟩
    · exact State.fld_setFld_self _ _ _ (show 4 ≤ 7 by decide) (show 7 < 64 by decide)
    · exact State.reg_setFld_ne _ _ _ (List.ne_of_not_mem_cons ha)

end Sys2Proof.Machine
end

section
/-! Thyme (R48, R53): what a tick leaves of the clock alone, steps of THY_CTRL, slews, and O12. -/

namespace Sys2Proof.Machine

/-! ### What the block keeps track of beside the clock -/

/-- The clocks of the block: elapsed time, Thyme, the always-on count and Thyme's servo. -/
def State.clock (s : State) : Nat × DWord × Nat × ThySt := (s.now, s.thyme, s.aon, s.thy)

section
variable (s : State)

theorem State.clock_of_sansHost_eq {s t : State} (h : t.sansHost = s.sansHost) : t.clock = s.clock := (congrArg State.clock h :)

theorem State.clock_of_sansMac_eq {s t : State} (h : t.sansMac = s.sansMac) : t.clock = s.clock := (congrArg State.clock h :)

@[simp] theorem State.clock_addCnt (a n : Nat) : (s.addCnt a n).clock = s.clock := rfl

@[simp] theorem State.clock_bump (a : Nat) : (s.bump a).clock = s.clock := rfl

@[simp] theorem State.clock_updPort (p : Nat) (f : PortSt → PortSt) : (s.updPort p f).clock = s.clock := rfl

@[simp] theorem State.clock_updPair (k : Nat) (f : PairSt → PairSt) : (s.updPair k f).clock = s.clock := rfl

@[simp] theorem State.clock_updQp (q : Nat) (f : Qp → Qp) : (s.updQp q f).clock = s.clock := rfl

@[simp] theorem State.clock_updSeg (i : Nat) (f : Seg → Seg) : (s.updSeg i f).clock = s.clock := rfl

@[simp] theorem State.clock_updSfe (f : SfeSt → SfeSt) : (s.updSfe f).clock = s.clock := rfl

@[simp] theorem State.clock_updTile (t : Nat) (f : Tile → Tile) : (s.updTile t f).clock = s.clock := rfl

@[simp] theorem State.clock_updFab (f : FabSt → FabSt) : (s.updFab f).clock = s.clock := rfl

@[simp] theorem State.clock_event (code detail : Nat) : (s.event code detail).clock = s.clock := by
  rw [State.clock, State.now_event, State.thyme_event, State.aon_event, State.thy_event, State.clock]

@[simp] theorem State.clock_qpWrite (q addr : Nat) (b : List Byte) (relaxed : Bool) : (s.qpWrite q addr b relaxed).clock = s.clock :=
  State.clock_of_sansHost_eq (s.sansHost_qpWrite q addr b relaxed)

@[simp] theorem State.clock_writeRecord (q sqIndex kind status length : Nat) (cookie value : DWord) (info : Nat) :
    (s.writeRecord q sqIndex kind status length cookie value info).clock = s.clock :=
  State.clock_of_sansHost_eq (s.sansHost_writeRecord q sqIndex kind status length cookie value info)

@[simp] theorem State.clock_completeDesc (i status length : Nat) (value : DWord) (info : Nat) :
    (s.completeDesc i status length value info).clock = s.clock :=
  State.clock_of_sansHost_eq (s.sansHost_completeDesc i status length value info)

theorem State.clock_sendCloses : s.sendCloses.clock = s.clock := by
  refine foldl_keeps State.clock (fun t k => ?_) _ s
  unfold State.sendClose
  split
  · rfl
  · rw [State.clock_event, State.clock_updPair]

@[simp] theorem State.clock_nsIf (c : Bool) (a : Nat) : (s.nsIf c a).clock = s.clock := by cases c <;> rfl

theorem State.clock_countNs : s.countNs.clock = s.clock := by simp only [State.countNs, State.clock_addCnt, State.clock_nsIf]

@[simp] theorem State.clock_updPow (f : PowSt → PowSt) : (s.updPow f).clock = s.clock := rfl

@[simp] theorem State.clock_updFieldPow (f : Nat) (g : FieldPow → FieldPow) : (s.updFieldPow f g).clock = s.clock := rfl

theorem State.clock_notePower : s.notePower.clock = s.clock := by
  unfold State.notePower
  dsimp only
  rw [State.clock_updPow]
  refine foldl_keeps State.clock (fun t f => ?_) _ s
  rw [State.clock_updFieldPow]

theorem State.clock_measure (n : Nat) : (s.measure n).2.clock = s.clock := by
  unfold State.measure
  dsimp only
  split <;> rfl

theorem State.clock_of_measure_eq {u t : State} {n : Nat} {o : Option Nat} (h : u.measure n = (o, t)) : t.clock = u.clock := by
  have hm := u.clock_measure n
  rwa [h] at hm

theorem State.clock_noteTile (t : Nat) (w : Option StallKind) (ready : Bool) : (s.noteTile t w ready).clock = s.clock := by
  unfold State.noteTile
  extract_lets x u v
  have hu : u.clock = s.clock := by
    unfold u
    split <;> rfl
  have hv : v.clock = s.clock := (u.clock_updTile t _).trans hu
  split
  · exact hu
  · split
    · exact hv
    · split
      next h => rw [State.clock_bump, State.clock_of_measure_eq h, hv]
      next h => rw [State.clock_addCnt, State.clock_of_measure_eq h, hv]

theorem State.clock_noteSel (k : StallKind) (i : Nat) (now_ : Bool) : (s.noteSel k i now_).clock = s.clock := by
  unfold State.noteSel
  dsimp only
  split
  · rw [State.clock_updFab]
  · split
    next h => rw [State.clock_of_measure_eq h, State.clock_updFab]
    next h => rw [State.clock_addCnt, State.clock_of_measure_eq h, State.clock_updFab]
  · rfl

theorem State.clock_noteFabric : s.noteFabric.clock = s.clock := by
  unfold State.noteFabric
  extract_lets ids l u on
  have hu : u.clock = s.clock := foldl_keeps State.clock (fun t e => t.clock_noteTile _ _ _) _ s
  rw [State.clock_noteSel, State.clock_noteSel, State.clock_noteSel, State.clock_noteSel, hu]

theorem State.clock_noteGuard : s.noteGuard.clock = s.clock := by
  refine foldl_keeps State.clock (fun t p => ?_) _ s
  rw [State.clock_updPort]

/-! ### Copies that leave at a tick -/

/-- What `State.clock_deliverCopy` says, of any function in its place: a match on a copy's outcome is reduced only where `Bucket.take` and
`State.deliverCopy` are variables (see `CopyKept`). -/
def CopyKeepsClock (copy : State → Nat → Nat → List Byte → DWord → Nat → Bool × State) : Prop :=
  ∀ t q kind content value info, (copy t q kind content value info).2.clock = t.clock

theorem copyKeepsClock_deliverCopy : CopyKeepsClock @State.deliverCopy := by
  generalize hf : @State.deliverCopy = copy
  delta State.deliverCopy at hf
  subst hf
  generalize @Bucket.take = take
  revert take
  refine id fun take t q kind content value info => ?_
  dsimp only
  split
  · split
    · rw [State.clock_writeRecord, State.clock_qpWrite, State.clock_updQp, State.clock_updQp]
    · rw [State.clock_bump, State.clock_updQp]
  · rw [State.clock_bump, State.clock_updQp]

theorem State.clock_segDiscard (i reason : Nat) : (s.segDiscard i reason).clock = s.clock := by
  unfold State.segDiscard
  dsimp only
  split
  · rfl
  · rw [State.clock_completeDesc, State.clock_updSeg]

theorem State.clock_hostCopyOut (i : Nat) : (s.hostCopyOut i).clock = s.clock := by
  have hd := copyKeepsClock_deliverCopy
  generalize hf : @State.hostCopyOut = out
  delta State.hostCopyOut at hf
  subst hf
  generalize @Bucket.take = take, @State.deliverCopy = copy at hd ⊢
  revert take copy
  refine id fun take copy hd => ?_
  have hcopy : ∀ t q kind content value info, (copy t q kind content value info).2.clock = t.clock := hd
  simp only [State.clock_segDiscard, apply_ite State.clock, State.clock_bump, hcopy, State.clock_updSfe, ite_self]

theorem State.clock_hostCopies : s.hostCopies.clock = s.clock := by
  refine foldl_keeps State.clock (fun t i => ?_) _ s
  unfold State.hostCodec
  split
  · exact t.clock_hostCopyOut i
  · rfl

/-! ### Elapsed nanoseconds -/

/-- In an elapsed nanosecond the counts of elapsed time and of Thyme advance by one, and nothing else about the clocks changes. -/
theorem State.clock_elapse : s.elapse.clock = (s.now + 1, s.thyme + 1, s.aon, s.thy) := by
  have hc : s.sendCloses.countNs.clock = s.clock := by rw [State.clock_countNs, State.clock_sendCloses]
  simp only [State.clock, Prod.mk.injEq] at hc
  obtain ⟨hnow, hthyme, haon, hthy⟩ := hc
  unfold State.elapse
  dsimp only
  rw [State.clock_hostCopies, State.clock_noteGuard, State.clock_of_sansMac_eq (State.sansMac_pfcCheckAll _), State.clock_noteFabric,
    State.clock_notePower, State.clock, hnow, hthyme, haon, hthy]

theorem State.clock_elapseN (n : Nat) : (State.elapseN n s).clock = (s.now + n, s.thyme + BitVec.ofNat 64 n, s.aon, s.thy) := by
  induction n generalizing s with
  | zero => simp [State.elapseN, State.clock]
  | succ n ih =>
    have h := s.clock_elapse
    simp only [State.clock, Prod.mk.injEq] at h
    obtain ⟨hnow, hthyme, haon, hthy⟩ := h
    rw [State.elapseN, ih, hnow, hthyme, haon, hthy, Nat.add_assoc, BitVec.add_assoc, Nat.add_comm 1 n, BitVec.ofNat_add,
      BitVec.add_comm 1]
    rfl

end

/-! ### The tick -/

section
variable {s : State}

theorem step_of_empty_queue (h : s.pending = []) : step s = .next s.tick := by
  rw [step, h]

/-- Once the stretch has ended, a tick elapses the nanoseconds that Thyme's rate and the slew give. -/
theorem State.tick_of_phase (h : s.phase ≠ 0) :
    s.tick = State.elapseN (State.tickNs { s with aon := s.aon + 1 }).1 (State.tickNs { s with aon := s.aon + 1 }).2 := if_neg h

theorem State.thyRate_aon (n : Nat) : State.thyRate { s with aon := n } = s.thyRate := rfl

theorem State.tickNs_of_no_slew (h : s.thy.slew = none) : s.tickNs = ((s.thy.frac + s.thyRate) / nsParts,
    s.updThy fun t => { t with frac := (s.thy.frac + s.thyRate) % nsParts }) := by
  simp only [State.tickNs, State.updThy, h]

section
variable {v : Int} {b n : Nat} (h : s.thy.slew = some (v, b)) (hn : (s.thy.frac + s.thyRate) / nsParts = n + 1)
include h hn

/-- A tick in which the running slew of `v` ns since `b` adds or leaves out a nanosecond (R53). -/
theorem State.tickNs_of_slew_due (hd : s.thy.slewDone < min v.natAbs ((s.now + (n + 1) - b) / 10000)) :
    s.tickNs.1 = (if 0 ≤ v then n + 2 else n) ∧ s.tickNs.2.now = s.now ∧ s.tickNs.2.thy.slewDone = s.thy.slewDone + 1 := by
  simp only [State.tickNs, State.updThy, h, hn]
  rw [if_pos ⟨hd, n.succ_pos⟩]
  exact ⟨rfl, rfl, rfl⟩

theorem State.tickNs_of_slew_not_due (hd : ¬ s.thy.slewDone < min v.natAbs ((s.now + (n + 1) - b) / 10000)) :
    s.tickNs.1 = n + 1 ∧ s.tickNs.2.now = s.now ∧ s.tickNs.2.thy.slewDone = s.thy.slewDone := by
  simp only [State.tickNs, State.updThy, h, hn]
  rw [if_neg fun h => hd h.1]
  exact ⟨rfl, rfl, rfl⟩

end

end

/-- Thyme's rate without the servo (R48, R51). -/
theorem State.thyRate_of_not_pps {s : State} (h : s.fld Reg.THY_CTRL_src ≠ 1) :
    s.thyRate = (256000000000 + s.sfld Reg.THY_ADJ_FREQ_freq).toNat := by
  rw [State.thyRate, if_neg h]
  simp [nsParts]

/-! ### Steps and slews -/

section
variable {s : State}

theorem bits_or_eight (n : Nat) : bits (n ||| 8) 1 0 = bits n 1 0 := by
  simp [bits, Nat.or_mod_two_pow (n := 2)]

theorem exec_thymeStep (v : Word) (hr : s.reachable = true) : exec (.thymeStep v) s = .next (s.thyCtrlWrite (v.toNat ||| 8)) :=
  congrArg Host.Outcome.next (State.edgeWrite_of_reachable _ hr)

theorem exec_phaseAdjWrite (v : Word) (hr : s.reachable = true) : exec (.phaseAdjWrite v) s = .next (s.phaseAdjWrite v.toInt) :=
  congrArg Host.Outcome.next (State.edgeWrite_of_reachable _ hr)

theorem State.edgeWrite_self (s : State) {k : State → State} (h : k s = s) : s.edgeWrite k = s := by
  rw [State.edgeWrite, h, ite_self]

theorem State.regs_thyCtrlWritten (s : State) : s.thyCtrlWritten.regs = s.regs ∧ s.thyCtrlWritten.now = s.now := by
  unfold State.thyCtrlWritten
  dsimp only
  split <;> split <;> exact ⟨rfl, rfl⟩

theorem State.reportLock_keeps (s : State) (old : Nat) : (s.reportLock old).now = s.now ∧
    ∀ a, a ≠ Reg.HIF_COPY_DROP → (s.reportLock old).reg a = s.reg a := by
  unfold State.reportLock
  split
  · exact ⟨rfl, fun _ _ => rfl⟩
  · exact ⟨State.now_event _ _ _, fun a ha => State.reg_event_ne _ _ _ ha⟩

/-- THY_CTRL with the fields of a write stored. -/
def State.thyCtrlStored (s : State) (v : Nat) : State :=
  ((s.setFld Reg.THY_CTRL_src (bits v 1 0)).setFld Reg.THY_CTRL_pps_out_en (bits v 2 2)).setFld Reg.THY_CTRL_sw_state (bits v 5 4)

theorem State.reg_thyCtrlStored_ne (s : State) (v : Nat) {a : Nat} (ha : a ≠ Reg.THY_CTRL) : (s.thyCtrlStored v).reg a = s.reg a := by
  rw [State.thyCtrlStored, State.reg_setFld_ne _ _ _ ha, State.reg_setFld_ne _ _ _ ha, State.reg_setFld_ne _ _ _ ha]

theorem State.src_thyCtrlStored (s : State) (v : Nat) : (s.thyCtrlStored v).fld Reg.THY_CTRL_src = bits v 1 0 := by
  rw [State.thyCtrlStored, State.fld_setFld_of_disjoint _ _ (by decide) (by decide) (.inr (by decide)),
    State.fld_setFld_of_disjoint _ _ (by decide) (by decide) (.inr (by decide)), State.fld_setFld_self _ _ _ (by decide) (by decide)]
  exact Nat.mod_mod _ _

/-- What a write of THY_CTRL with the step bit and a legal source leaves (R53). -/
theorem State.thyCtrlWrite_step (s : State) {v : Nat} (hsrc : bits v 1 0 ≠ 3) :
    let t := s.thyCtrlWrite (v ||| 8)
    t.thyme = s.reg Reg.THY_SET ∧ t.now = s.now ∧ t.fld Reg.THY_CTRL_src = bits v 1 0 ∧
      t.fld Reg.THY_STEP_CNT_count = (s.fld Reg.THY_STEP_CNT_count + 1) % 2 ^ 32 := by
  intro t
  obtain ⟨u, hu⟩ : ∃ u, (s.thyCtrlStored (v ||| 8)).thyCtrlWritten.reportLock s.lockState = u := ⟨_, rfl⟩
  have ht : t = u.stepThyme := by
    have hbit : bit (v ||| 8) 3 = true := by rw [bit, Nat.testBit_or, show Nat.testBit 8 3 = true from rfl, Bool.or_true]
    rw [← hu]
    exact (if_neg (by rwa [bits_or_eight])).trans (if_pos hbit)
  obtain ⟨hregs, hnow⟩ := (s.thyCtrlStored (v ||| 8)).regs_thyCtrlWritten
  obtain ⟨hnow', hreg'⟩ := (s.thyCtrlStored (v ||| 8)).thyCtrlWritten.reportLock_keeps s.lockState
  have hreg : ∀ a, a ≠ Reg.HIF_COPY_DROP → u.reg a = (s.thyCtrlStored (v ||| 8)).reg a := fun a ha => by
    rw [← hu, hreg' a ha]
    exact congrArg (Regs.get · a) hregs
  rw [ht]
  refine ⟨?_, ?_, ?_, ?_⟩
  · exact (hreg _ (by decide)).trans (s.reg_thyCtrlStored_ne _ (by decide))
  · exact (congrArg State.now hu.symm).trans (hnow'.trans hnow)
  · have hstep : u.stepThyme.fld Reg.THY_CTRL_src = u.fld Reg.THY_CTRL_src := u.fld_setFld_ne _ _ _ (by decide)
    rw [hstep, State.fld_of_reg_eq (hreg _ (by decide)), State.src_thyCtrlStored, bits_or_eight]
  · have hcnt : u.fld Reg.THY_STEP_CNT_count = s.fld Reg.THY_STEP_CNT_count :=
      State.fld_of_reg_eq ((hreg _ (by decide)).trans (s.reg_thyCtrlStored_ne _ (by decide)))
    rw [← hcnt]
    exact u.fld_setFld_self _ _ (by decide) (by decide)

section
variable {v : Int} (hlo : -1000000 ≤ v) (hhi : v ≤ 1000000)
include hlo hhi

theorem State.phaseAdjWrite_starts (hs : s.thy.slew = none) :
    s.phaseAdjWrite v = s.updThy fun t => { t with slew := some (v, s.now), slewDone := 0 } := by
  rw [State.phaseAdjWrite, if_neg (by omega), hs]

theorem State.phaseAdjWrite_waits {x : Int × Nat} (hs : s.thy.slew = some x) (hn : s.thy.slewNext = none) :
    s.phaseAdjWrite v = s.updThy fun t => { t with slewNext := some v } := by
  rw [State.phaseAdjWrite, if_neg (by omega), hs, hn]

theorem State.phaseAdjWrite_busy {x : Int × Nat} {y : Int} (hs : s.thy.slew = some x) (hn : s.thy.slewNext = some y) :
    s.phaseAdjWrite v = s.stick Reg.THY_STAT_adj_busy := by
  rw [State.phaseAdjWrite, if_neg (by omega), hs, hn]

end

/-- A slew has nothing left once 10,000 ns have passed for each of its nanoseconds (R53). -/
theorem slewLeft_eq_zero {v : Int} {b now : Nat} (h : b + v.natAbs * 10000 ≤ now) : slewLeft v b now = 0 := by
  have hgone : v.natAbs ≤ (now - b) / 10000 := (Nat.le_div_iff_mul_le (by decide)).mpr (by omega)
  unfold slewLeft
  dsimp only
  split <;> omega

end

/-! ### O12 -/

/-- Settles O12: each clause from the fact about its write, its slew or its tick. -/
theorem thymeStepsAndSlews : Obligations.ThymeStepsAndSlews := by
  refine ⟨fun v s hr hsrc => ⟨_, exec_thymeStep v hr, s.thyCtrlWrite_step hsrc⟩, fun v s hsrc => ?_, fun v s hr hlo hhi hs => ?_,
    fun v s x hr hlo hhi hs hn => ?_, fun v s x y hr hlo hhi hs hn => ?_, fun v s hout => ?_, fun s v b hs hnow => ?_,
    fun s hq hp hs => ?_, fun s => State.thyRate_of_not_pps, fun s v b hq hp hrate hs => ?_⟩
  · exact congrArg Host.Outcome.next (s.edgeWrite_self (if_pos (by rw [bits_or_eight, hsrc])))
  · rw [exec_phaseAdjWrite v hr, State.phaseAdjWrite_starts hlo hhi hs]
  · rw [exec_phaseAdjWrite v hr, State.phaseAdjWrite_waits hlo hhi hs hn]
  · rw [exec_phaseAdjWrite v hr, State.phaseAdjWrite_busy hlo hhi hs hn]
  · exact congrArg Host.Outcome.next (s.edgeWrite_self (if_pos hout))
  · show execPhaseSlewDone s = _
    simp only [execPhaseSlewDone, hs]
    exact congrArg _ (if_pos ⟨slewLeft_eq_zero hnow, hnow⟩)
  · intro n
    have hns := State.tickNs_of_no_slew (s := { s with aon := s.aon + 1 }) hs
    have hc := State.clock_elapseN (State.updThy { s with aon := s.aon + 1 } fun t => { t with frac := (s.thy.frac + s.thyRate) % nsParts }) n
    simp only [State.clock, Prod.mk.injEq] at hc
    obtain ⟨hnow, hthyme, haon, hthy⟩ := hc
    refine ⟨_, (step_of_empty_queue hq).trans (by rw [State.tick_of_phase hp, hns, State.thyRate_aon]), hnow, hthyme, haon, ?_⟩
    exact congrArg ThySt.frac hthy
  · obtain ⟨n, hn⟩ : ∃ n, (s.thy.frac + nsParts) / nsParts = n + 1 := ⟨_, Nat.add_div_right _ (by decide)⟩
    have hn' : (s.thy.frac + State.thyRate { s with aon := s.aon + 1 }) / nsParts = n + 1 := by rw [State.thyRate_aon, hrate, hn]
    have hc := State.clock_elapseN (State.tickNs { s with aon := s.aon + 1 }).2 (State.tickNs { s with aon := s.aon + 1 }).1
    simp only [State.clock, Prod.mk.injEq] at hc
    obtain ⟨hnow, -, -, hthy⟩ := hc
    refine ⟨_, (step_of_empty_queue hq).trans (by rw [State.tick_of_phase hp]), ?_⟩
    rw [hnow, hthy, hn]
    by_cases hd : s.thy.slewDone < min v.natAbs ((s.now + (n + 1) - b) / 10000)
    · obtain ⟨hfst, hnow1, hdone⟩ := State.tickNs_of_slew_due (s := { s with aon := s.aon + 1 }) hs hn' hd
      dsimp only at hnow1 hdone
      rw [hfst, hnow1, hdone, if_pos hd]
      refine ⟨rfl, ?_⟩
      by_cases hv : 0 ≤ v
      · rw [if_pos hv, if_pos hv, if_pos hv]
        omega
      · rw [if_neg hv, if_neg hv, if_neg hv]
        omega
    · obtain ⟨hfst, hnow1, hdone⟩ := State.tickNs_of_slew_not_due (s := { s with aon := s.aon + 1 }) hs hn' hd
      dsimp only at hnow1 hdone
      rw [hfst, hnow1, hdone, if_neg hd, Nat.sub_self, ite_self]
      exact ⟨rfl, rfl⟩

end Sys2Proof.Machine
end

section
/-! The PPS servo, PPS_OUT, the reference clock and PTP delivery (R50 to R54, R397), and O13. -/

namespace Sys2Proof.Machine

/-! ### The lock state -/

section
variable (s : State) (l : Nat)

theorem State.thy_setLock : (s.setLock l).thy = { s.thy with lock := l } := by
  unfold State.setLock
  split
  next h => rw [← h]
  next => rw [State.thy_event]; rfl

theorem State.thyme_setLock : (s.setLock l).thyme = s.thyme := by
  unfold State.setLock
  split
  · rfl
  · exact State.thyme_event _ _ _

theorem State.reg_setLock_ne {a : Nat} (ha : a ≠ Reg.HIF_COPY_DROP) : (s.setLock l).reg a = s.reg a := by
  unfold State.setLock
  split
  · rfl
  · exact State.reg_event_ne _ _ _ ha

/-- HOLDOVER ends the phase term and keeps the frequency term; Thyme does not move (R51). -/
theorem State.enterHoldover_thy : s.enterHoldover.thy = { s.thy with phaseTerm := 0, goodRun := 0, badRun := 0, lock := 3 } ∧
    s.enterHoldover.thyme = s.thyme := by
  unfold State.enterHoldover
  rw [State.thy_setLock, State.thyme_setLock]
  exact ⟨rfl, rfl⟩

theorem State.flag_enterHoldover : s.enterHoldover.flag Reg.THY_STAT_holdover_entered = true := by
  unfold State.enterHoldover
  rw [State.flag_of_reg_eq (State.reg_setLock_ne _ _ (by decide))]
  exact s.flag_stick_self Reg.THY_STAT_holdover_entered rfl (by decide)

end

/-! ### An edge of PPS_IN -/

/-- `t` is `s` after work of the servo: the last valid edge stays, and no register but the count of steps and that of dropped copies changes. -/
structure State.ServoWork (s t : State) : Prop where
  lastValid : t.thy.lastValid = s.thy.lastValid
  regs : regsBut s t [Reg.THY_STEP_CNT, Reg.HIF_COPY_DROP]

namespace State.ServoWork

variable {s t : State}

theorem refl (s : State) : ServoWork s s := ⟨rfl, fun _ _ => rfl⟩

theorem ite {c : Prop} [Decidable c] {a b : State} (ha : ServoWork s a) (hb : ServoWork s b) : ServoWork s (if c then a else b) := by
  split <;> assumption

theorem updThy (h : ServoWork s t) {f : ThySt → ThySt} (hf : ∀ x, (f x).lastValid = x.lastValid := by intro _; rfl) : ServoWork s (t.updThy f) :=
  ⟨(hf _).trans h.lastValid, h.regs⟩

theorem setThyme (h : ServoWork s t) {v : DWord} : ServoWork s { t with thyme := v } := ⟨h.lastValid, h.regs⟩

theorem countStep (h : ServoWork s t) : ServoWork s (t.bumpFld Reg.THY_STEP_CNT_count) :=
  ⟨h.lastValid, fun a ha => (State.reg_setFld_ne _ _ _ (List.ne_of_not_mem_cons ha)).trans (h.regs a ha)⟩

theorem setLock (h : ServoWork s t) {l : Nat} : ServoWork s (t.setLock l) := by
  refine ⟨?_, fun a ha => ?_⟩
  · rw [State.thy_setLock]
    exact h.lastValid
  · rw [State.reg_setLock_ne _ _ (List.ne_of_not_mem_cons (List.not_mem_of_not_mem_cons ha)), h.regs a ha]

theorem ppsServo (h : ServoWork s t) {e : Int} : ServoWork s (t.ppsServo e) := by
  unfold State.ppsServo
  extract_lets woken counted stepped judged
  have hw : ServoWork s woken := .ite h.updThy.setLock h
  have hc : ServoWork s counted := hw.countStep.updThy
  have hs : ServoWork s stepped := .ite hc.setThyme hw.updThy
  have hj : ServoWork s judged := .ite hs.updThy hs.updThy
  exact .ite hj.setLock (.ite hj.updThy.setLock hj)

end State.ServoWork

/-- The error of an edge is Thyme's offset from the nearest whole second (R51). -/
theorem ppsError_spec (t : DWord) : -500000000 ≤ ppsError t ∧ ppsError t ≤ 499999999 ∧ (t.toNat - ppsError t) % 1000000000 = 0 := by
  unfold ppsError
  omega

/-- A valid edge as it is recorded, before the servo acts (R51). -/
def State.edgeNoted (s : State) : State :=
  ((s.setReg Reg.THY_PPS_IN_TS s.thyme).setFld Reg.THY_PPS_ERR_err (ofInt32 (ppsError s.thyme)).toNat).updThy
    fun t => { t with lastValid := some s.now, acqSince := s.now }

section
variable {s : State} (hsrc : s.fld Reg.THY_CTRL_src = 1)
include hsrc

theorem exec_ppsInEdge_glitch {x : Nat} (hx : s.thy.lastValid = some x) (hnow : s.now < x + 500000000) :
    exec .ppsInEdge s = .next (s.bumpFld Reg.THY_PPS_GLITCH_count) := by
  show execPpsInEdge s = _
  rw [execPpsInEdge, if_neg (not_not_intro hsrc), hx]
  exact congrArg _ (if_pos (decide_eq_true hnow))

theorem exec_ppsInEdge_valid (hv : ∀ x, s.thy.lastValid = some x → x + 500000000 ≤ s.now) :
    exec .ppsInEdge s = .next (if s.thy.refLost then s.edgeNoted else s.edgeNoted.ppsServo (ppsError s.thyme)) := by
  have hlost : s.edgeNoted.thy.refLost = s.thy.refLost := rfl
  show execPpsInEdge s = _
  rw [execPpsInEdge, if_neg (not_not_intro hsrc), if_neg, ← hlost]
  · rfl
  · split
    next => exact Bool.false_ne_true
    next x hx =>
      rw [decide_eq_true_iff]
      exact (hv x hx).not_gt

end

theorem State.reg_edgeNoted_ts (s : State) : s.edgeNoted.reg Reg.THY_PPS_IN_TS = s.thyme :=
  (State.reg_setFld_ne _ _ _ (by decide)).trans (State.reg_setReg_self _ _ _)

theorem State.fld_edgeNoted_err (s : State) : s.edgeNoted.fld Reg.THY_PPS_ERR_err = (BitVec.ofInt 32 (ppsError s.thyme)).toNat :=
  (State.fld_setFld_self _ Reg.THY_PPS_ERR_err _ (by decide) (by decide)).trans (Nat.mod_eq_of_lt (BitVec.isLt _))

/-! ### The reference clock -/

theorem exec_trefclkLoss {s : State} (hp : s.phase ≠ 0) (hl : s.thy.refLost = false) :
    let u := s.updThy fun t => { t with refLost := true }
    exec .trefclkLoss s = .next (if u.fld Reg.THY_CTRL_src = 1 ∧ (u.thy.lock = 1 ∨ u.thy.lock = 2) then u.enterHoldover
      else u.event 6 (u.lockState <<< 8)) :=
  congrArg Host.Outcome.next (if_neg (not_or_intro (by rw [hl]; exact Bool.false_ne_true) hp))

theorem exec_trefclkReturn {s : State} (hl : s.thy.refLost = true) :
    let u := s.updThy fun t => { t with refLost := false }
    exec .trefclkReturn s = .next (if u.fld Reg.THY_CTRL_src = 1 then
      (u.updThy fun t => { t with goodRun := 0, badRun := 0, acqSince := s.now }).setLock 1 else u) :=
  congrArg Host.Outcome.next (if_pos hl)

/-! ### O13 -/

/-- Settles O13: each clause from the fact about its edge, its timeout or its pin. -/
theorem ppsServoAndOutput : Obligations.PpsServoAndOutput := by
  refine ⟨fun s x hsrc hx hnow => exec_ppsInEdge_glitch hsrc hx hnow, fun s hsrc hv => ?_, fun s h => congrArg Host.Outcome.next (if_pos h),
    fun s hsrc hlock hnow => ?_, fun s hen hz => congrArg Host.Outcome.next (if_pos ⟨hen, hz⟩),
    fun s hout hw => congrArg Host.Outcome.next (if_pos ⟨hout, decide_eq_true hw⟩), fun s hp hl => ?_, fun s hl => ?_,
    fun f s hm hptp hdone => congrArg Host.Outcome.next (if_pos ⟨hm, hptp, hdone⟩)⟩
  · obtain ⟨hlo, hhi, hmod⟩ := ppsError_spec s.thyme
    have hw : s.edgeNoted.ServoWork (if s.thy.refLost then s.edgeNoted else s.edgeNoted.ppsServo (ppsError s.thyme)) :=
      .ite (.refl _) (State.ServoWork.refl _).ppsServo
    refine ⟨_, exec_ppsInEdge_valid hsrc hv, ?_, hw.lastValid, ppsError s.thyme, hlo, hhi, hmod, ?_⟩
    · rw [hw.regs _ (by decide), State.reg_edgeNoted_ts]
    · rw [State.fld_of_reg_eq (hw.regs _ (by decide)), State.fld_edgeNoted_err]
  · obtain ⟨hthy, hthyme⟩ := s.enterHoldover_thy
    have hexec : exec .ppsHoldoverTimeout s = .next s.enterHoldover := congrArg Host.Outcome.next (if_pos ⟨hsrc, hlock, decide_eq_true hnow⟩)
    refine ⟨_, hexec, ?_, ?_, ?_, s.flag_enterHoldover, hthyme⟩ <;> rw [hthy]
  · refine ⟨_, exec_trefclkLoss hp hl, ?_⟩
    split
    next h =>
      obtain ⟨hthy, hthyme⟩ := State.enterHoldover_thy (s.updThy fun t => { t with refLost := true })
      rw [hthy, hthyme]
      exact ⟨rfl, rfl, fun _ _ => rfl⟩
    next h =>
      rw [State.thy_event, State.thyme_event]
      exact ⟨rfl, rfl, fun hsrc hlock => absurd ⟨hsrc, hlock⟩ h⟩
  · refine ⟨_, exec_trefclkReturn hl, ?_⟩
    split
    next h =>
      rw [State.thy_setLock, State.thyme_setLock]
      exact ⟨rfl, rfl, fun _ => rfl⟩
    next h => exact ⟨rfl, rfl, fun hsrc => absurd hsrc h⟩

end Sys2Proof.Machine
end

section
/-! HB_KICK before Sage's firmware runs (R45, R288, R347): the mailbox takes the command from phase 2, where the host reaches it, but Sage kicks
from phase 3 on only. O50 says of every state in which the command waits that it renews the heartbeat of the pairs it names. -/

namespace Sys2Proof.Machine

/-- Phase 2: the host has given pair 0 to the firmware's heartbeat, and has written HB_KICK for that pair to the mailbox. -/
def hbKickInPhaseTwo : State :=
  (((State.reset.setFld Reg.RST_STAT_phase 2).setFld (Reg.MAC_PAIR_CTRL_hb_src 0) 1).setFld (Reg.SAG_MBOX_ARG_arg 1) 1).mboxWrite 4

/-- The command that waits in that mailbox. -/
def hbKickPairZero : Mbox := { code := 4, args := [0, 1, 0, 0, 0, 0, 0, 0] }

theorem hbKickInPhaseTwo_waits : hbKickInPhaseTwo.reachable = true ∧ hbKickInPhaseTwo.mboxAt 4 hbKickPairZero ∧
    bit (hbKickPairZero.arg 1) 0 = true ∧ hbKickInPhaseTwo.flag (Reg.MAC_PAIR_CTRL_hb_src 0) = true ∧
    hbKickInPhaseTwo.fwRuns = false ∧ (hbKickInPhaseTwo.pair 0).lastKick = none := by
  unfold State.mboxAt
  decide +kernel

/-- Sage does not kick while the firmware does not run (R45). -/
theorem State.kick_sage_of_not_fwRuns {s : State} (k : Nat) (h : s.fwRuns = false) : s.kick k .sage = s := by
  refine if_neg fun hk => ?_
  obtain ⟨-, hwho | hruns⟩ := hk
  · exact absurd hwho (by decide)
  · exact absurd (h.symm.trans hruns) Bool.false_ne_true

/-- What HB_KICK does to the pairs, one after the other. -/
def State.hbKickPair (s : State) (m : Mbox) (k : Nat) : State :=
  if bit (m.arg 1) k then (s.updPair k fun p => { p with hbKick := bit (m.arg 1) k, hbKickAt := s.now }).kick k .sage
  else s.updPair k fun p => { p with hbKick := bit (m.arg 1) k, hbKickAt := s.now }

theorem State.mboxRun_of_mboxAt {s : State} {c : Nat} {m : Mbox} (h : s.mboxAt c m) (k : Mbox → State → State) : s.mboxRun c k = k m s := by
  obtain ⟨hm, hc, hw, hk, hf⟩ := h
  rw [State.mboxRun, hm]
  exact if_pos (by simp [hc, hw, hk, hf])

theorem exec_hbKick {s : State} {m : Mbox} (h : s.mboxAt 4 m) :
    exec .hbKick s = .next (((List.range 8).foldl (fun u k => u.hbKickPair m k) s).mboxAnswer 0 []) := by
  show execHbKick s = _
  rw [execHbKick, State.mboxRun_of_mboxAt h]
  rfl

theorem lastKick_foldl_hbKickPair {s : State} (m : Mbox) (h : s.fwRuns = false) (l : List Nat) (j : Nat) :
    ((l.foldl (fun u k => u.hbKickPair m k) s).pair j).lastKick = (s.pair j).lastKick := by
  induction l generalizing s with
  | nil => rfl
  | cons k r ih =>
    have hpair : s.hbKickPair m k = s.updPair k fun p => { p with hbKick := bit (m.arg 1) k, hbKickAt := s.now } := by
      rw [State.hbKickPair, State.kick_sage_of_not_fwRuns k (show (State.updPair s k _).fwRuns = false from h), ite_self]
    have hkeep : ((s.hbKickPair m k).pair j).lastKick = (s.pair j).lastKick := by
      rw [hpair]
      by_cases hj : j = k
      · rw [hj, State.pair_updPair_self]
      · rw [State.pair_updPair_ne _ _ _ hj]
    rw [List.foldl_cons, ih (by rw [hpair]; exact h), hkeep]

/-- Before the firmware runs, HB_KICK renews no heartbeat. -/
theorem hbKick_renews_nothing {s t : State} {m : Mbox} (hat : s.mboxAt 4 m) (h : s.fwRuns = false) (ht : exec .hbKick s = .next t) (j : Nat) :
    (t.pair j).lastKick = (s.pair j).lastKick := by
  rw [← Host.Outcome.next.inj ((exec_hbKick hat).symm.trans ht)]
  exact lastKick_foldl_hbKickPair m h _ j

/-! ### O50 -/

/-- Refutes O50: in phase 2 HB_KICK for pair 0 is answered, hb_src is 1 and the pair is named, but Sage does not kick before phase 3 (R45), so
the pair's heartbeat is not renewed. -/
theorem not_sageMailboxRunsOneCommand : ¬ Obligations.SageMailboxRunsOneCommand := by
  intro h
  obtain ⟨-, -, hcmd, -⟩ := h
  obtain ⟨-, -, -, hkick, -⟩ := hcmd hbKickInPhaseTwo hbKickPairZero none
  obtain ⟨-, hat, hbit, hsrc, hruns, hnone⟩ := hbKickInPhaseTwo_waits
  obtain ⟨t, ht, -, -, hpairs⟩ := hkick hat
  obtain ⟨-, -, -, hrenewed, -⟩ := hpairs 0 (by decide)
  have hkept : (t.pair 0).lastKick = none := (hbKick_renews_nothing hat hruns ht 0).trans hnone
  exact absurd (hkept.symm.trans (hrenewed hbit hsrc)) (Option.some_ne_none _).symm

end Sys2Proof.Machine
end

section
/-! The rows of the parse instruction set (R63 to R67): what a row does where its chive is at an instruction of its opcode, and O14 and O15. -/

namespace Sys2Proof.Machine

theorem State.whenRuns_of_runs {s : State} {blk : Option Nat} (h : s.runs blk = true) (k : State → State) : s.whenRuns blk k = k s := if_pos h

/-! ### The bytes an instruction waits for (R63) -/

section
variable {s : State} {c n : Nat}

theorem State.ready_of_le (h : n ≤ s.copyBytes (s.chive c).frame) : s.ready c n = .go := if_pos h

theorem State.ready_of_ended (h : s.copyBytes (s.chive c).frame < n) (he : s.copyEnded (s.chive c).frame = true) : s.ready c n = .trunc := by
  rw [State.ready, if_neg (Nat.not_le.mpr h), if_pos he]

theorem State.ready_of_open (h : s.copyBytes (s.chive c).frame < n) (he : s.copyEnded (s.chive c).frame = false) : s.ready c n = .stall := by
  rw [State.ready, if_neg (Nat.not_le.mpr h), if_neg (by rw [he]; exact Bool.false_ne_true)]

end

/-! ### The order of the checks (R63, R66) -/

section
variable {s : State} {c : Nat} {i : PInstr}

theorem State.parseRow_of_atParse {op : Nat} (h : s.atParse c op i) : s.parseRow c op = s.parseOne c i := by
  obtain ⟨hruns, hphase, hsteps, hfetch, hop⟩ := h
  rw [State.parseRow, State.whenRuns_of_runs hruns, hfetch, if_pos ⟨hphase, hsteps, hop⟩]

section
variable (hlegal : illegalParse (s.chive c) (be (s.prvOf c) 38 2) i = false)
include hlegal

theorem State.parseOne_past_depth (hdepth : (s.chive c).depth < s.depthNeed c i) : s.parseOne c i = s.endProgram c 0x02 false := by
  rw [State.parseOne, if_neg (by rw [hlegal]; exact Bool.false_ne_true), if_pos hdepth]

theorem State.parseOne_go (hdepth : s.depthNeed c i ≤ (s.chive c).depth) (hready : s.ready c (s.byteNeed c i) = .go) :
    s.parseOne c i = s.parseEffect c i := by
  rw [State.parseOne, if_neg (by rw [hlegal]; exact Bool.false_ne_true), if_neg (Nat.not_lt.mpr hdepth), hready]

theorem State.parseOne_stall (hdepth : s.depthNeed c i ≤ (s.chive c).depth) (hready : s.ready c (s.byteNeed c i) = .stall) :
    s.parseOne c i = s := by
  rw [State.parseOne, if_neg (by rw [hlegal]; exact Bool.false_ne_true), if_neg (Nat.not_lt.mpr hdepth), hready]

/-- A UBP instruction that matches counts its bundle too where its bytes never come. -/
theorem State.parseOne_trunc (hop : i.op ≠ 0x12) (hdepth : s.depthNeed c i ≤ (s.chive c).depth)
    (hready : s.ready c (s.byteNeed c i) = .trunc) : s.parseOne c i = s.endProgram c 0x20 false := by
  rw [State.parseOne, if_neg (by rw [hlegal]; exact Bool.false_ne_true), if_neg (Nat.not_lt.mpr hdepth), hready]
  simp only [hop, decide_false, Bool.false_and, State.bumpIf, Bool.false_eq_true, if_false]

end

/-- The opcodes whose instructions can be illegal, name bytes of the frame, or wait for them. -/
def guardedOps : List Nat := [0x01, 0x0E, 0x0F, 0x10, 0x11, 0x12]

/-- An instruction of any other opcode is legal and names no byte, so it has its effect at once. -/
theorem State.parseOne_of_unguarded (hop : i.op ≤ 0x15 ∧ i.op ∉ guardedOps) : s.parseOne c i = s.parseEffect c i := by
  obtain ⟨hle, hmem⟩ := hop
  simp only [guardedOps, List.mem_cons, List.not_mem_nil, or_false, not_or] at hmem
  obtain ⟨h01, h0E, h0F, h10, h11, h12⟩ := hmem
  refine State.parseOne_go ?_ ?_ (State.ready_of_le ?_)
  · simp [illegalParse, h01, h0E, h0F, h10, h11, h12, hle]
  · simp [State.depthNeed, h01, h0E, h10]
  · simp [State.byteNeed, h01, h0E, h10, h12]

/-- The row of an unguarded opcode: its effect is the one `State.parseEffect` lists under the opcode. -/
theorem State.parseRow_of_unguarded {op : Nat} (hop : op ≤ 0x15 ∧ op ∉ guardedOps) (h : s.atParse c op i) :
    s.parseRow c op = s.parseEffect c { i with op := op } := by
  rw [State.parseRow_of_atParse h]
  obtain ⟨-, -, -, -, rfl⟩ := h
  exact State.parseOne_of_unguarded hop

end

/-! ### O14 -/

/-- Settles O14: the opcodes are unguarded, and under each the effect is the row of the opcode table. -/
theorem parseArithmeticAndBranches : Obligations.ParseArithmeticAndBranches := by
  intro c s i h put goto
  refine ⟨fun hat => ?_, fun hat => ?_, fun hat => ?_, fun hat => ?_, fun hat => ?_, fun hat => ?_, fun hat => ?_, fun hat => ?_, fun hat => ?_,
    fun hat => ?_, fun hat => ?_⟩ <;>
  exact congrArg Host.Outcome.next (State.parseRow_of_unguarded (by decide) hat)

/-! ### The guarded instructions of R65 to R67 -/

section
variable {s : State} {c : Nat} {i : PInstr}

theorem State.op_of_atParse {op : Nat} (h : s.atParse c op i) : i.op = op := by
  obtain ⟨-, -, -, -, hop⟩ := h
  exact hop

/-- A guarded row whose checks pass has the effect that `State.parseEffect` lists under its opcode. -/
theorem State.parseRow_go {op : Nat} (h : s.atParse c op i) (hlegal : illegalParse (s.chive c) (be (s.prvOf c) 38 2) i = false)
    (hdepth : s.depthNeed c i ≤ (s.chive c).depth) (hbytes : s.byteNeed c i ≤ s.copyBytes (s.chive c).frame) :
    s.parseRow c op = s.parseEffect c { i with op := op } := by
  rw [State.parseRow_of_atParse h, State.parseOne_go hlegal hdepth (State.ready_of_le hbytes)]
  obtain rfl := State.op_of_atParse h
  rfl

/-- What EXT needs: a legal width, and its bytes within the depth and there. -/
theorem State.parseNeed_ext (hop : i.op = 0x01) (hw : i.w ≠ 3) : illegalParse (s.chive c) (be (s.prvOf c) 38 2) i = false ∧
    s.depthNeed c i = (s.chive c).cursor + i.imm + widthOf i.w ∧ s.byteNeed c i = (s.chive c).cursor + i.imm + widthOf i.w := by
  simp [illegalParse, State.depthNeed, State.byteNeed, hop, hw]

theorem State.parseNeed_copy (hop : i.op = 0x10) (hwr : prvWritable i.poff (i.n + 1) = true) :
    illegalParse (s.chive c) (be (s.prvOf c) 38 2) i = false ∧
    s.depthNeed c i = (s.chive c).cursor + i.imm + i.n + 1 ∧ s.byteNeed c i = (s.chive c).cursor + i.imm + i.n + 1 := by
  simp [illegalParse, State.depthNeed, State.byteNeed, hop, hwr]

theorem State.parseNeed_setf (hop : i.op = 0x0F) (hw : i.w ≠ 3) (hwr : prvWritable i.poff (widthOf i.w) = true) :
    illegalParse (s.chive c) (be (s.prvOf c) 38 2) i = false ∧ s.depthNeed c i = 0 ∧ s.byteNeed c i = 0 := by
  simp [illegalParse, State.depthNeed, State.byteNeed, hop, hw, hwr]

theorem State.parseNeed_cnt (hop : i.op = 0x11) (hk : i.imm ≤ 2) :
    illegalParse (s.chive c) (be (s.prvOf c) 38 2) i = false ∧ s.depthNeed c i = 0 ∧ s.byteNeed c i = 0 := by
  simp [illegalParse, State.depthNeed, State.byteNeed, hop, hk]

/-- MARK of any layer but L3 names the byte at the cursor, and reads none (R66). -/
theorem State.parseNeed_mark (hop : i.op = 0x0E) (hle : i.imm % 8 ≤ 4) (hl3 : i.imm % 8 ≠ 1) :
    illegalParse (s.chive c) (be (s.prvOf c) 38 2) i = false ∧ s.depthNeed c i = (s.chive c).cursor + 1 ∧ s.byteNeed c i = 0 := by
  simp [illegalParse, State.depthNeed, State.byteNeed, State.markNeed, hop, hle, hl3]

theorem State.parseRow_setf (hat : s.atParse c 0x0F i) (hw : i.w ≠ 3) (hwr : prvWritable i.poff (widthOf i.w) = true) :
    s.parseRow c 0x0F = s.parseEffect c { i with op := 0x0F } := by
  obtain ⟨hlegal, hd, hb⟩ := State.parseNeed_setf (s := s) (c := c) (State.op_of_atParse hat) hw hwr
  exact State.parseRow_go hat hlegal (hd.trans_le (Nat.zero_le _)) (hb.trans_le (Nat.zero_le _))

/-- A MARK that names a byte within the depth acts at once, but for MARK L3. -/
theorem State.parseRow_mark (hat : s.atParse c 0x0E i) (hdepth : (s.chive c).cursor + 1 ≤ (s.chive c).depth) (hle : i.imm % 8 ≤ 4)
    (hl3 : i.imm % 8 ≠ 1) : s.parseRow c 0x0E = s.markInstr c i := by
  obtain ⟨hlegal, hd, hb⟩ := State.parseNeed_mark (s := s) (c := c) (State.op_of_atParse hat) hle hl3
  exact State.parseRow_go hat hlegal (hd.trans_le hdepth) (hb.trans_le (Nat.zero_le _))

theorem State.markInstr_frag (hl : i.imm % 8 = 4) : s.markInstr c i = s.endProgram c 0x01 false := by
  rw [State.markInstr, if_pos hl]

theorem State.markInstr_l2 (hl : i.imm % 8 = 0) : s.markInstr c i =
    (s.mark16 c (if (s.chive c).tun = 0 then 72 else 80) (s.chive c).cursor).updChive c Chive.advance := by
  simp only [State.markInstr, hl]
  rfl

theorem State.markInstr_l4 (hl : i.imm % 8 = 2) : s.markInstr c i =
    (s.mark16 c (if (s.chive c).tun = 0 then 76 else 84) (s.chive c).cursor).updChive c Chive.advance := by
  simp only [State.markInstr, hl]
  rfl

/-- CNT counts its layer, and ends the program where that passes the layer's limit (R65, R66). -/
theorem State.parseRow_cnt (hat : s.atParse c 0x11 i) (hk : i.imm ≤ 2) :
    let t := s.updChive c fun h => (h.count i.imm).advance
    s.parseRow c 0x11 = if ((s.chive c).count i.imm).overLimit then t.endProgram c 0x03 false else t := by
  intro t
  obtain ⟨hlegal, hd, hb⟩ := State.parseNeed_cnt (s := s) (c := c) (State.op_of_atParse hat) hk
  have hover : (t.chive c).overLimit = ((s.chive c).count i.imm).overLimit := by
    rw [State.chive_updChive_self]
    rfl
  rw [State.parseRow_go hat hlegal (hd.trans_le (Nat.zero_le _)) (hb.trans_le (Nat.zero_le _)), ← hover]
  rfl

theorem Chive.overLimit_iff (h : Chive) : h.overLimit = true ↔ 4 < h.vlan ∨ 8 < h.mpls ∨ 2 < h.tun := by
  simp [Chive.overLimit, or_assoc]

end

/-! ### O15 -/

/-- Settles O15: each clause from what its instruction needs, and from whether the depth, the copy and the limits give it. -/
theorem parseReadsMarksAndLimits : Obligations.ParseReadsMarksAndLimits := by
  intro c s i h step vec
  refine ⟨fun hat hw hdepth => ?_, fun hat hw hdepth => ?_, fun hat hw hwr => ?_, fun hat hwr hdepth hbytes => ?_, fun hat hdepth => ?_,
    fun hat => ?_, fun hat => ?_, fun hat hk => ?_⟩
  · obtain ⟨hlegal, hd, hb⟩ := State.parseNeed_ext (s := s) (c := c.val) (State.op_of_atParse hat) hw
    have hop : i.op ≠ 0x12 := by rw [State.op_of_atParse hat]; decide
    refine ⟨fun hbytes => ?_, fun hbytes hend => ?_, fun hbytes hopen => ?_⟩
    · exact congrArg Host.Outcome.next (State.parseRow_go hat hlegal (hd.trans_le hdepth) (hb.trans_le hbytes))
    · exact congrArg Host.Outcome.next ((State.parseRow_of_atParse hat).trans
        (State.parseOne_trunc hlegal hop (hd.trans_le hdepth) (State.ready_of_ended (hbytes.trans_eq hb.symm) hend)))
    · exact congrArg Host.Outcome.next ((State.parseRow_of_atParse hat).trans
        (State.parseOne_stall hlegal (hd.trans_le hdepth) (State.ready_of_open (hbytes.trans_eq hb.symm) hopen)))
  · obtain ⟨hlegal, hd, -⟩ := State.parseNeed_ext (s := s) (c := c.val) (State.op_of_atParse hat) hw
    exact congrArg Host.Outcome.next ((State.parseRow_of_atParse hat).trans (State.parseOne_past_depth hlegal (hdepth.trans_eq hd.symm)))
  · exact congrArg Host.Outcome.next (State.parseRow_setf hat hw hwr)
  · obtain ⟨hlegal, hd, hb⟩ := State.parseNeed_copy (s := s) (c := c.val) (State.op_of_atParse hat) hwr
    exact congrArg Host.Outcome.next (State.parseRow_go hat hlegal (hd.trans_le hdepth) (hb.trans_le hbytes))
  · refine ⟨fun hl => ?_, fun hl => ?_, fun hl => ?_⟩
    · exact congrArg Host.Outcome.next ((State.parseRow_mark hat hdepth (by omega) (by omega)).trans (State.markInstr_l2 hl))
    · exact congrArg Host.Outcome.next ((State.parseRow_mark hat hdepth (by omega) (by omega)).trans (State.markInstr_l4 hl))
    · exact congrArg Host.Outcome.next ((State.parseRow_mark hat hdepth (by omega) (by omega)).trans (State.markInstr_frag hl))
  · exact congrArg Host.Outcome.next (State.parseRow_of_unguarded (by decide) hat)
  · exact congrArg Host.Outcome.next (State.parseRow_of_unguarded (by decide) hat)
  · intro t
    refine congrArg Host.Outcome.next ((State.parseRow_cnt hat hk).trans ?_)
    simp only [Chive.overLimit_iff]
    rfl

end Sys2Proof.Machine
end

section
/-! The end of a parse program (R69 to R74, R79): the copies that follow it and what they leave alone, the stamped vector, the start of a bundle's
walk, and O16. -/

namespace Sys2Proof.Machine

/-! ### What the copies of a tail leave alone -/

theorem State.sansHost_bump (s : State) (a : Nat) : (s.bump a).sansHost = s.sansHost.bump a := rfl

/-- A copy is written to its queue pair, or counted as dropped (R271, R286). As in `CopyKept`, `Bucket.take` becomes a variable before its match
is reduced. -/
theorem State.sansHost_deliverCopy (s : State) (q kind : Nat) (content : List Byte) (value : DWord) (info : Nat) :
    (s.deliverCopy q kind content value info).2.sansHost = s.sansHost ∨
    (s.deliverCopy q kind content value info).2.sansHost = (s.bump Reg.HIF_COPY_DROP).sansHost := by
  generalize hf : @State.deliverCopy = copy
  delta State.deliverCopy at hf
  subst hf
  generalize @Bucket.take = take
  revert take
  refine id fun take => ?_
  dsimp only
  split
  · split
    · exact .inl (by rw [State.sansHost_writeRecord, State.sansHost_qpWrite, State.sansHost_updQp, State.sansHost_updQp])
    · exact .inr (by rw [State.sansHost_bump, State.sansHost_updQp, ← State.sansHost_bump])
  · exact .inr (by rw [State.sansHost_bump, State.sansHost_updQp, ← State.sansHost_bump])

/-- The parse cores, what waits in each port's reorder buffer, and which vectors have left it: what the work that follows the end of a program
or the release of a vector leaves as it was. -/
def State.vectors (s : State) : Tab Chive × (Nat → List Nat) × (Nat → Bool) :=
  (s.prs.chives, fun q => (s.port q).rob, fun f => (s.frame f).released)

section
variable (s : State)

theorem State.chive_of_vectors_eq {s t : State} (h : t.vectors = s.vectors) (c : Nat) : t.chive c = s.chive c :=
  congrArg (fun v : Tab Chive × (Nat → List Nat) × (Nat → Bool) => v.1.get c) h

theorem State.rob_of_vectors_eq {s t : State} (h : t.vectors = s.vectors) (p : Nat) : (t.port p).rob = (s.port p).rob :=
  congrArg (fun v => v.2.1 p) h

theorem State.released_of_vectors_eq {s t : State} (h : t.vectors = s.vectors) (f : Nat) : (t.frame f).released = (s.frame f).released :=
  congrArg (fun v => v.2.2 f) h

theorem State.vectors_of_sansHost_eq {s t : State} (h : t.sansHost = s.sansHost) : t.vectors = s.vectors := (congrArg State.vectors h :)

theorem State.vectors_bumpIf (b : Bool) (a : Nat) : (s.bumpIf b a).vectors = s.vectors := by cases b <;> rfl

theorem State.vectors_updRul (g : RulSt → RulSt) : (s.updRul g).vectors = s.vectors := rfl

theorem State.vectors_updFrame (f : Nat) {g : Frame → Frame} (hg : ∀ x, (g x).released = x.released) : (s.updFrame f g).vectors = s.vectors := by
  have hrel : (fun j => ((s.updFrame f g).frame j).released) = fun j => (s.frame j).released := funext fun j => by
    by_cases hj : j = f
    · rw [hj, State.frame_updFrame_self, hg]
    · rw [State.frame_updFrame_ne _ _ _ hj]
  exact congrArg (fun r => (s.prs.chives, (fun q => (s.port q).rob), r)) hrel

theorem State.vectors_updPort (p : Nat) {g : PortSt → PortSt} (hg : ∀ x, (g x).rob = x.rob) : (s.updPort p g).vectors = s.vectors :=
  congrArg (fun r => (s.prs.chives, r, fun f => (s.frame f).released)) (funext (s.port_updPort_keeps PortSt.rob p hg))

/-- What `State.vectors_deliverCopy` says, of any function in its place (see `CopyKept`). -/
def CopyKeepsVectors (copy : State → Nat → Nat → List Byte → DWord → Nat → Bool × State) : Prop :=
  ∀ t q kind content value info, (copy t q kind content value info).2.vectors = t.vectors

theorem copyKeepsVectors_deliverCopy : CopyKeepsVectors @State.deliverCopy := fun t q kind content value info =>
  (t.sansHost_deliverCopy q kind content value info).elim State.vectors_of_sansHost_eq State.vectors_of_sansHost_eq

theorem State.vectors_excCopy (c : Nat) (content : List Byte) (value : DWord) (info : Nat) :
    (s.excCopy c content value info).vectors = s.vectors := by
  have hd := copyKeepsVectors_deliverCopy
  generalize hf : @State.excCopy = exc
  delta State.excCopy at hf
  subst hf
  generalize @Bucket.take = take, @State.deliverCopy = copy at hd ⊢
  revert take copy
  refine id fun take copy hd => ?_
  dsimp only
  split
  · rw [State.vectors_bumpIf, hd]
    rfl
  · rfl

theorem State.vectors_tailHostCopies (f : Nat) : (s.tailHostCopies f).vectors = s.vectors := by
  have hd := copyKeepsVectors_deliverCopy
  unfold State.tailHostCopies
  generalize @State.deliverCopy = copy at hd ⊢
  revert copy
  refine id fun copy hd => ?_
  extract_lets fr u v w
  have hu : u.vectors = s.vectors := s.vectors_updFrame f fun _ => rfl
  have hw : w.vectors = v.vectors := v.vectors_updFrame f fun _ => rfl
  have hv : v.vectors = s.vectors := by
    unfold v
    split
    · rfl
    · split
      · rw [State.vectors_excCopy, hu]
      · exact hu
  split
  · rfl
  · split
    · exact hv
    · dsimp only
      rw [State.vectors_bumpIf, hd, hw, hv]

theorem State.vectors_mirrorTail (f : Nat) : (s.mirrorTail f).vectors = s.vectors := by
  unfold State.mirrorTail
  dsimp only
  split
  · split
    · rfl
    · split
      · exact s.vectors_updPort _ fun _ => rfl
      · exact State.vectors_updFrame _ f fun _ => rfl
  · rfl

theorem State.vectors_tailCopies (f : Nat) : (s.tailCopies f).vectors = s.vectors := by
  rw [State.tailCopies, State.vectors_tailHostCopies, State.vectors_mirrorTail]

end

/-! ### The bytes of a stamped vector (R69, R71) -/

theorem patch_zero {l b : List Byte} (h : b.length ≤ l.length) : patch l 0 b = b ++ l.drop b.length := by
  rw [patch, List.take_zero, List.nil_append, Nat.zero_add, List.take_of_length_le]
  simp
  omega

theorem beNat_two (n : Nat) : beNat [BitVec.ofNat 8 (n >>> 8), BitVec.ofNat 8 n] = n % 65536 := by
  simp only [beNat, List.foldl_cons, List.foldl_nil, BitVec.toNat_ofNat, Nat.shiftRight_eq_div_pow]
  omega

/-- Bytes 10, 12 and 13, and 14 of a vector at the end of its program: the rule version, the calibration epoch and the code. -/
theorem stampPrv_fields (fr : Frame) (h : Chive) (ver epoch code : Nat) (ubp : Bool) (hlen : fr.prv.length = 128) :
    byteAt (stampPrv fr h ver epoch code ubp) 10 = ver % 256 ∧ be (stampPrv fr h ver epoch code ubp) 12 2 = epoch % 65536 ∧
    byteAt (stampPrv fr h ver epoch code ubp) 14 = code % 256 := by
  rw [stampPrv, patch_zero (by simp [hlen, toBe])]
  simp [toBe, byteAt, be, slice, beNat_two]


/-! ### The end of a program (R59, R70, R71, R79) -/

/-- A frame at the end of its program: its vector stamped and ready, with the rule version and the calibration epoch of that instant. -/
def Frame.stamped (x : Frame) (h : Chive) (ver epoch code : Nat) (ubp : Bool) : Frame :=
  { x with
    prv := stampPrv x h ver epoch code ubp, prvReady := true, version := ver, epoch := epoch, holdsVer := true, holdsEpoch := true }

/-- What becomes of the copy of a frame at the end of its program. -/
def Frame.copyUsed (x : Frame) (ubp : Bool) : Frame := { x with copy := if ubp then x.copy else .finished }

/-- A chive at the end of its program. -/
def Chive.ended (h : Chive) (ubp : Bool) : Chive := if ubp then { h with phase := .walking } else { h with phase := .idle }

theorem Chive.phase_ended (h : Chive) (ubp : Bool) : (h.ended ubp).phase = if ubp then .walking else .idle := by cases ubp <;> rfl

section
variable (s : State) (c code : Nat) (ubp : Bool)

/-- The state in which a program has ended, before the vector is stamped. -/
def State.programOver : State := (s.updChive c fun h => h.ended ubp).updFrame (s.chive c).frame fun x => x.copyUsed ubp

/-- The state in which a program has ended and its frame is stamped. -/
def State.programStamped : State :=
  (s.programOver c ubp).updFrame (s.chive c).frame fun x => x.stamped (s.chive c) s.rul.current s.num.current code ubp

/-- What an exception adds: the action record of its class, and the class's count (R70, R79). -/
def State.excTaken (f : Nat) : State :=
  (s.updFrame f fun x => { x with record := some (s.excDisp (excClassOf code) x.port), excClass := some (excClassOf code) }).bump
    (if excClassOf code = 0 then Reg.PRS_EXC_SLOW else Reg.PRS_EXC_FAIL)

theorem State.frame_programStamped : (s.programStamped c code ubp).frame (s.chive c).frame =
    ((s.frame (s.chive c).frame).copyUsed ubp).stamped (s.chive c) s.rul.current s.num.current code ubp := by
  rw [State.programStamped, State.frame_updFrame_self, State.programOver, State.frame_updFrame_self]
  rfl

theorem State.reg_programStamped (a : Nat) : (s.programStamped c code ubp).reg a = s.reg a :=
  congrArg (Regs.get · a) (show (s.programStamped c code ubp).regs = s.regs from rfl)

theorem State.endProgram_of_not_runt (hr : (s.frame (s.chive c).frame).runt = false) : s.endProgram c code ubp =
    if code = 0 then s.programStamped c code ubp
    else ((s.programStamped c code ubp).excTaken code (s.chive c).frame).tailHostCopies (s.chive c).frame :=
  if_neg (by rw [hr]; exact Bool.false_ne_true)

theorem State.endProgram_without_exception (hr : (s.frame (s.chive c).frame).runt = false) :
    s.endProgram c 0 ubp = s.programStamped c 0 ubp := s.endProgram_of_not_runt c 0 ubp hr

theorem State.vectors_programOver : (s.programOver c ubp).vectors = (s.updChive c fun h => h.ended ubp).vectors :=
  State.vectors_updFrame (s.updChive c fun h => h.ended ubp) (s.chive c).frame (g := fun x => x.copyUsed ubp) fun _ => rfl

theorem State.vectors_programStamped : (s.programStamped c code ubp).vectors = (s.updChive c fun h => h.ended ubp).vectors := by
  rw [← State.vectors_programOver]
  exact (s.programOver c ubp).vectors_updFrame (s.chive c).frame fun _ => rfl

theorem State.vectors_excTaken (f : Nat) : (s.excTaken code f).vectors = s.vectors := s.vectors_updFrame f fun _ => rfl

/-- However its program ends, a chive walks on a bundle and is idle otherwise. -/
theorem State.chive_endProgram (hr : (s.frame (s.chive c).frame).runt = false) : (s.endProgram c code ubp).chive c = (s.chive c).ended ubp := by
  rw [State.endProgram_of_not_runt _ _ _ _ hr, ← State.chive_updChive_self s c fun h => h.ended ubp]
  refine State.chive_of_vectors_eq ?_ c
  split
  · exact s.vectors_programStamped c code ubp
  · rw [State.vectors_tailHostCopies, State.vectors_excTaken, State.vectors_programStamped]

/-- The frame of a program that has ended, but for the copies it owes: stamped, with its class's action record after an exception. -/
theorem State.paid_endProgram (hr : (s.frame (s.chive c).frame).runt = false) : ((s.endProgram c code ubp).frame (s.chive c).frame).paid =
    { ((s.frame (s.chive c).frame).copyUsed ubp).stamped (s.chive c) s.rul.current s.num.current code ubp with
      record := if code = 0 then (s.frame (s.chive c).frame).record
        else some (s.excDisp (excClassOf code) (s.frame (s.chive c).frame).port) }.paid := by
  rw [State.endProgram_of_not_runt _ _ _ _ hr]
  split
  · rw [State.frame_programStamped]
    rfl
  · rw [(State.TailWork.refl (s.chive c).frame _).tailHostCopies.paid]
    have hf (t : State) (f : Nat) : (t.excTaken code f).frame f =
        { t.frame f with record := some (t.excDisp (excClassOf code) (t.frame f).port), excClass := some (excClassOf code) } :=
      State.frame_updFrame_self _ _ _
    rw [hf, State.frame_programStamped]
    rfl

end

/-! ### What the tail settles for a bundle (R78) -/

theorem State.frame_bumpIf (s : State) (b : Bool) (a f : Nat) : (s.bumpIf b a).frame f = s.frame f := by cases b <;> rfl

theorem State.chive_bumpIf (s : State) (b : Bool) (a c : Nat) : (s.bumpIf b a).chive c = s.chive c := by cases b <;> rfl

/-- A bundle once the tail has been judged: its lengths compared, for an intact frame that has both. -/
def State.ubpJudged (s : State) (f : Nat) (u : Ubp) : Ubp :=
  { u with
    lenMismatch := decide ((s.frame f).tail = .good) && (s.frame f).cut.isNone && decide (u.bundleLen ≠ 0) &&
      decide (u.bundleLen ≠ u.udpLen - 8)
    tailDone := true }

theorem State.lenMismatch_ubpJudged (s : State) (f : Nat) (u : Ubp) : (s.ubpJudged f u).lenMismatch = true ↔
    (s.frame f).tail = .good ∧ (s.frame f).cut = none ∧ u.bundleLen ≠ 0 ∧ u.bundleLen ≠ u.udpLen - 8 := by
  simp [State.ubpJudged, and_assoc]

section
variable (s : State) (f : Nat) (u : Ubp)

theorem State.frame_tailBundle : ∃ v, (s.tailBundle f u).frame f = { s.frame f with ubp := some (s.ubpJudged f u), verdict := v } :=
  ⟨_, (State.frame_bumpIf _ _ _ f).trans (State.frame_updFrame_self _ _ _)⟩

theorem State.chive_tailBundle (c : Nat) : (s.tailBundle f u).chive c = s.chive c := State.chive_bumpIf _ _ _ c

theorem State.reg_tailBundle_ne {a : Nat} (ha : a ≠ Reg.PRS_LEN_MISMATCH) : (s.tailBundle f u).reg a = s.reg a :=
  State.reg_bumpIf_ne _ _ ha

end

/-! ### The start of a walk (R69, R72, R73, R76) -/

/-- What a walk goes by: where the bundle header is, where the UDP payload ends, how many segments it has, and who sent it. -/
def Ubp.header (u : Ubp) : Nat × Nat × Nat × Word × Word := (u.off, u.stop, u.segCount, u.bundleId, u.sender)

section
variable (s : State) (c udpLen : Nat)

/-- The bundle header at a chive's cursor. -/
def State.ubpAt : Ubp :=
  let b := s.frameBytes c (s.chive c).cursor 32
  { off := (s.chive c).cursor, stop := (s.chive c).cursor - 8 + udpLen, udpLen := udpLen, flags := be b 2 2 % 4096,
    bundleLen := be b 4 2, segCount := be b 6 1, bundleId := BitVec.ofNat 32 (be b 8 4),
    sender := BitVec.ofNat 32 (be b 12 4), capture := BitVec.ofNat 64 (be b 16 8) }

/-- The state in which the walk is about to start: the header is in the vector, the early reply unit knows the bundle, and the chive stands at the
first segment header. -/
def State.walkSet : State :=
  let f := (s.chive c).frame
  let u := s.ubpAt c udpLen
  let t := s.updFrame f fun x => { x with
    ubp := some u, walkDone := false
    prv := patch x.prv 88 (toBe 4 u.sender.toNat ++ toBe 4 u.bundleId.toNat ++ toBe 8 u.capture.toNat
      ++ toBe 1 (be (s.frameBytes c (s.chive c).cursor 32) 24 1) ++ toBe 1 u.segCount ++ toBe 2 u.flags) }
  let t := t.updBundle f fun _ => {
    frame := some f, port := (t.frame f).port, bundleId := u.bundleId, sender := u.sender,
    ingressTs := (t.frame f).stamp, segCount := u.segCount, sealReq := bit u.flags 0,
    origin := t.chipAddr, key := f }
  t.updChive c fun h => { h with pos := h.cursor + 32, idx := 0 }

/-- The same state with the bundle judged, where the tail has come already. -/
def State.walkJudged : State :=
  if (s.chive c).tailSeen then (s.walkSet c udpLen).tailBundle (s.chive c).frame (s.ubpAt c udpLen) else s.walkSet c udpLen

theorem State.startWalk_eq : s.startWalk c udpLen = (s.walkJudged c udpLen).endProgram c 0 true := rfl

theorem State.chive_walkSet : (s.walkSet c udpLen).chive c = { s.chive c with pos := (s.chive c).cursor + 32, idx := 0 } :=
  State.chive_updChive_self _ _ _

theorem State.chive_walkJudged : (s.walkJudged c udpLen).chive c = { s.chive c with pos := (s.chive c).cursor + 32, idx := 0 } := by
  unfold State.walkJudged
  split
  · rw [State.chive_tailBundle, State.chive_walkSet]
  · exact s.chive_walkSet c udpLen

theorem State.reg_walkSet (a : Nat) : (s.walkSet c udpLen).reg a = s.reg a :=
  congrArg (Regs.get · a) (show (s.walkSet c udpLen).regs = s.regs from rfl)

theorem State.reg_walkJudged_ne {a : Nat} (ha : a ≠ Reg.PRS_LEN_MISMATCH) : (s.walkJudged c udpLen).reg a = s.reg a := by
  unfold State.walkJudged
  split
  · rw [State.reg_tailBundle_ne _ _ _ ha, State.reg_walkSet]
  · exact s.reg_walkSet c udpLen a

theorem State.frame_walkSet : ∃ l, (s.walkSet c udpLen).frame (s.chive c).frame =
    { s.frame (s.chive c).frame with ubp := some (s.ubpAt c udpLen), walkDone := false, prv := l } :=
  ⟨_, State.frame_updFrame_self _ _ _⟩

theorem State.frame_walkJudged : ∃ u l v, (s.walkJudged c udpLen).frame (s.chive c).frame =
    { s.frame (s.chive c).frame with ubp := some u, walkDone := false, prv := l, verdict := v } ∧
    u.header = (s.ubpAt c udpLen).header := by
  obtain ⟨l, hl⟩ := s.frame_walkSet c udpLen
  unfold State.walkJudged
  split
  · obtain ⟨v, hv⟩ := (s.walkSet c udpLen).frame_tailBundle (s.chive c).frame (s.ubpAt c udpLen)
    exact ⟨(s.walkSet c udpLen).ubpJudged (s.chive c).frame (s.ubpAt c udpLen), l, v, by rw [hv, hl], rfl⟩
  · exact ⟨_, l, _, hl, rfl⟩

/-- A walk starts at the first segment header, with the vector of its frame ready (R69, R71, R76). -/
theorem State.startWalk_walks (hr : (s.frame (s.chive c).frame).runt = false) :
    let t := s.startWalk c udpLen
    (t.chive c).phase = .walking ∧ (t.chive c).pos = (s.chive c).cursor + 32 ∧ (t.chive c).idx = 0 ∧
    (t.frame (s.chive c).frame).prvReady = true ∧ (t.frame (s.chive c).frame).walkDone = false ∧
    (∃ u, (t.frame (s.chive c).frame).ubp = some u ∧ u.header = (s.ubpAt c udpLen).header) ∧
    t.reg Reg.PRS_UBP_BUNDLES = s.reg Reg.PRS_UBP_BUNDLES := by
  intro t
  obtain ⟨u, l, v, hf, hu⟩ := s.frame_walkJudged c udpLen
  have hc := s.chive_walkJudged c udpLen
  have hframe : ((s.walkJudged c udpLen).chive c).frame = (s.chive c).frame := by rw [hc]
  have hr' : ((s.walkJudged c udpLen).frame ((s.walkJudged c udpLen).chive c).frame).runt = false := by rw [hframe, hf]; exact hr
  have hchive : t.chive c = _ := State.chive_endProgram (s.walkJudged c udpLen) c 0 true hr'
  have ht : t = (s.walkJudged c udpLen).programStamped c 0 true :=
    (s.startWalk_eq c udpLen).trans (State.endProgram_without_exception _ _ _ hr')
  have hft := State.frame_programStamped (s.walkJudged c udpLen) c 0 true
  rw [← ht, hframe, hf] at hft
  rw [hc] at hchive
  rw [hchive, hft]
  refine ⟨rfl, rfl, rfl, rfl, rfl, ⟨u, rfl, hu⟩, ?_⟩
  rw [ht, State.reg_programStamped, State.reg_walkJudged_ne _ _ _ (by decide)]

end

/-! ### The UBP instruction (R65, R72, R74) -/

section
variable {s : State} {c : Nat} {i : PInstr}

theorem State.ubpMatches_iff : s.ubpMatches c = true ↔ (s.chive c).ubpEn = true ∧ be (s.prvOf c) 38 2 = (s.chive c).ubpPort := by
  simp [State.ubpMatches]

theorem illegalParse_ubp (hop : i.op = 0x12) : illegalParse (s.chive c) (be (s.prvOf c) 38 2) i =
    (s.ubpMatches c && decide ((s.chive c).cursor < 8)) := by
  simp [illegalParse, State.ubpMatches, hop]

theorem State.needs_ubp (hop : i.op = 0x12) : s.depthNeed c i = 0 ∧ s.byteNeed c i = s.ubpNeed c := by
  simp [State.depthNeed, State.byteNeed, hop]

theorem State.parseRow_ubp_other (hat : s.atParse c 0x12 i) (hm : s.ubpMatches c = false) : s.parseRow c 0x12 = s.updChive c Chive.advance := by
  have hop := State.op_of_atParse hat
  obtain ⟨hd, hb⟩ := State.needs_ubp (s := s) (c := c) hop
  have hneed : s.ubpNeed c = 0 := if_neg (by rw [hm]; exact Bool.false_ne_true)
  rw [State.parseRow_go hat (by rw [illegalParse_ubp hop, hm]; rfl) (hd.trans_le (Nat.zero_le _)) ((hb.trans hneed).trans_le (Nat.zero_le _))]
  exact if_neg (by rw [hm]; exact Bool.false_ne_true)

section
variable (hm : s.ubpMatches c = true) (hbytes : (s.chive c).cursor + 32 ≤ s.copyBytes (s.chive c).frame)
include hm hbytes

theorem State.ubpNeed_le : s.ubpNeed c ≤ s.copyBytes (s.chive c).frame := by
  rw [State.ubpNeed, if_pos hm]
  dsimp only
  split
  · split <;> omega
  · omega

theorem State.parseRow_ubp_match (hat : s.atParse c 0x12 i) (hcur : 8 ≤ (s.chive c).cursor) : s.parseRow c 0x12 = s.ubpInstr c := by
  have hop := State.op_of_atParse hat
  obtain ⟨hd, hb⟩ := State.needs_ubp (s := s) (c := c) hop
  have hlegal : illegalParse (s.chive c) (be (s.prvOf c) 38 2) i = false := by
    rw [illegalParse_ubp hop, decide_eq_false (Nat.not_lt.mpr hcur), Bool.and_false]
  exact State.parseRow_go hat hlegal (hd.trans_le (Nat.zero_le _)) (hb.trans_le (State.ubpNeed_le hm hbytes))

end

/-- The state in which a UBP instruction that matches has recorded its offset and counted its bundle. -/
def State.ubpNoted (s : State) (c : Nat) : State := (s.bump Reg.PRS_UBP_BUNDLES).mark16 c 86 (s.chive c).cursor

theorem State.bytes_ubpNoted (s : State) (c : Nat) : ((s.ubpNoted c).frame (s.chive c).frame).bytes = (s.frame (s.chive c).frame).bytes :=
  (congrArg Frame.bytes (State.frame_updFrame_self (s.bump Reg.PRS_UBP_BUNDLES) (s.chive c).frame _) :)

theorem State.frameBytes_ubpNoted (s : State) (c off n : Nat) : (s.ubpNoted c).frameBytes c off n = s.frameBytes c off n :=
  congrArg (slice · off n) (s.bytes_ubpNoted c)

/-- A header is valid (R72): the magic, version 1, and 1 to 32 segments. -/
def ubpHeaderOk (b : List Byte) : Prop := be b 0 2 = 0xC7A1 ∧ be b 2 2 / 4096 = 1 ∧ 1 ≤ be b 6 1 ∧ be b 6 1 ≤ 32

theorem State.ubpInstr_walks (hm : s.ubpMatches c = true) (hn : 40 ≤ beNat (s.frameBytes c ((s.chive c).cursor - 4) 2))
    (hdepth : (s.chive c).cursor + 32 ≤ (s.chive c).depth) (hok : ubpHeaderOk (s.frameBytes c (s.chive c).cursor 32)) :
    s.ubpInstr c = (s.ubpNoted c).startWalk c (beNat (s.frameBytes c ((s.chive c).cursor - 4) 2)) := by
  have hok' : ubpHeaderOk ((s.ubpNoted c).frameBytes c (s.chive c).cursor 32) := by rwa [State.frameBytes_ubpNoted]
  rw [State.ubpInstr, if_pos hm]
  dsimp only
  rw [if_neg (Nat.not_lt.mpr hn), if_neg (by omega)]
  exact if_pos hok'

end

/-! ### O16 -/

/-- What the end of a program leaves in its frame, whatever its code (R69, R71, R79). -/
theorem State.endProgram_stamps (s : State) (c code : Nat) (ubp : Bool) (hr : (s.frame (s.chive c).frame).runt = false)
    (hlen : (s.frame (s.chive c).frame).prv.length = 128) :
    let fr := (s.endProgram c code ubp).frame (s.chive c).frame
    fr.version = s.rul.current ∧ fr.epoch = s.num.current ∧ fr.prvReady = true ∧ fr.holdsVer = true ∧ fr.holdsEpoch = true ∧
    byteAt fr.prv 10 = s.rul.current % 256 ∧ be fr.prv 12 2 = s.num.current % 65536 ∧ byteAt fr.prv 14 = code % 256 ∧
    (code ≠ 0 → fr.record = some (s.excDisp (excClassOf code) (s.frame (s.chive c).frame).port)) := by
  intro fr
  have hp := s.paid_endProgram c code ubp hr
  have hprv : fr.prv = stampPrv ((s.frame (s.chive c).frame).copyUsed ubp) (s.chive c) s.rul.current s.num.current code ubp :=
    (congrArg Frame.prv hp :)
  obtain ⟨hver, hepoch, hcode⟩ := stampPrv_fields ((s.frame (s.chive c).frame).copyUsed ubp) (s.chive c) s.rul.current s.num.current code ubp hlen
  rw [← hprv] at hver hepoch hcode
  exact ⟨(congrArg Frame.version hp :), (congrArg Frame.epoch hp :), (congrArg Frame.prvReady hp :), (congrArg Frame.holdsVer hp :),
    (congrArg Frame.holdsEpoch hp :), hver, hepoch, hcode, fun h0 => ((congrArg Frame.record hp :) : fr.record = _).trans (if_neg h0)⟩

/-- Settles O16: the end of a program from what it stamps, each way to end from its row, and the walk from what UBP starts. -/
theorem programEndStampsVersionAndEpoch : Obligations.ProgramEndStampsVersionAndEpoch := by
  refine ⟨fun c s code ubp hr hlen hcode => ?_, fun c s i hat => ?_, fun c s i hat => ?_, fun c s i hat => ?_,
    fun c s hruns hphase hsteps hop => ?_, fun c s hruns hphase hsteps => ?_, fun c s i hat hother => ?_,
    fun c s i => ?_⟩
  · obtain ⟨h1, h2, h3, h4, h5, h6, h7, h8, h9⟩ := s.endProgram_stamps c code ubp hr hlen
    rw [Nat.mod_eq_of_lt hcode] at h8
    refine ⟨h1, h2, h3, h4, h5, h6, h7, h8, ?_, h9⟩
    rw [State.chive_endProgram _ _ _ _ hr, Chive.phase_ended]
  · exact congrArg Host.Outcome.next (State.parseRow_of_unguarded (by decide) hat)
  · exact congrArg Host.Outcome.next (State.parseRow_of_unguarded (by decide) hat)
  · exact congrArg Host.Outcome.next (State.parseRow_of_unguarded (by decide) hat)
  · have hill : illegalParse (s.chive c.val) (be (s.prvOf c.val) 38 2) (s.fetchParse c.val) = true := by simp [illegalParse, hop]
    exact congrArg Host.Outcome.next ((State.whenRuns_of_runs hruns _).trans (if_pos ⟨hphase, hsteps, hill⟩))
  · exact congrArg Host.Outcome.next ((State.whenRuns_of_runs hruns _).trans (if_pos ⟨hphase, hsteps⟩))
  · have hm : s.ubpMatches c.val = false := Bool.eq_false_iff.mpr fun hm => by
      obtain ⟨hen, hport⟩ := State.ubpMatches_iff.mp hm
      exact hother.elim (fun h => absurd (hen.symm.trans h) (by decide)) fun h => h hport
    exact congrArg Host.Outcome.next (State.parseRow_ubp_other hat hm)
  · intro h b n hat hen hport hcur hdepth hbytes hn hmagic hver hlo hhi hr
    have hm : s.ubpMatches c.val = true := State.ubpMatches_iff.mpr ⟨hen, hport⟩
    obtain ⟨h1, h2, h3, h4, h5, ⟨u, hu, hhdr⟩, h7⟩ := (s.ubpNoted c.val).startWalk_walks c.val n
      ((congrArg Frame.runt (State.frame_updFrame_self (s.bump Reg.PRS_UBP_BUNDLES) h.frame _)).trans hr)
    simp only [Ubp.header, State.ubpAt, State.frameBytes_ubpNoted, Prod.mk.injEq] at hhdr
    obtain ⟨hoff, hstop, hseg, hid, hsender⟩ := hhdr
    refine ⟨_, congrArg Host.Outcome.next ((State.parseRow_ubp_match hm hbytes hat hcur).trans
      (State.ubpInstr_walks hm hn hdepth ⟨hmagic, hver, hlo, hhi⟩)), h1, h2, h3, h4, h5,
      ⟨u, hu, hoff, hstop, hseg, hid, hsender⟩, h7.trans (State.reg_bump_self s Reg.PRS_UBP_BUNDLES)⟩

end Sys2Proof.Machine
end

section
/-! The two banks of the program store (R61): commits, window writes and the end of a drain, and O18. -/

namespace Sys2Proof.Machine

theorem State.coreWrite_of_busOk {s : State} {blk : Option Nat} (h : s.busOk blk) (k : State → State) : s.coreWrite blk k = k s := by
  obtain ⟨hreach, hready, hhung, hiso⟩ := h
  simp only [State.coreWrite, hreach, hready, hhung, hiso, Bool.true_eq_false, Bool.false_eq_true, if_false]

theorem exec_progCommit {s : State} (h : s.busOk (some 0)) : exec .progCommit s = .next s.progCommit :=
  congrArg Host.Outcome.next (State.coreWrite_of_busOk h _)

/-- A sticky bit changes the register file alone, and there its own register alone. -/
theorem State.stick_only (s : State) (f : Fld) : regsBut s (s.stick f) [f.addr] ∧ s.stick f = { s with regs := (s.stick f).regs } :=
  ⟨fun _ ha => State.reg_stick_ne s f (List.ne_of_not_mem_cons ha), rfl⟩

theorem State.flag_stick_prog_busy (s : State) : (s.stick Reg.PRS_PROG_STAT_busy).flag Reg.PRS_PROG_STAT_busy = true :=
  s.flag_stick_self _ rfl (by decide)

theorem State.progCommit_of_idle {s : State} (h : s.prs.draining = false) :
    s.progCommit = { s with prs := { s.prs with active := 1 - s.prs.active, draining := true, loaded := true } } :=
  if_neg (by rw [h]; exact Bool.false_ne_true)

theorem State.progCommit_of_draining {s : State} (h : s.prs.draining = true) : s.progCommit = s.stick Reg.PRS_PROG_STAT_busy := if_pos h

theorem State.progWinWrite_of_draining {s : State} (i : Nat) (v : DWord) (h : s.prs.draining = true) :
    s.progWinWrite i v = s.stick Reg.PRS_PROG_STAT_busy := if_pos h

/-- A window write goes to the bank that is not active. -/
theorem State.prs_progWinWrite {s : State} (i : Nat) (v : DWord) (h : s.prs.draining = false) : (s.progWinWrite i v).prs =
    if s.prs.active = 0 then { s.prs with bank1 := s.prs.bank1.set i v } else { s.prs with bank0 := s.prs.bank0.set i v } := by
  rw [State.progWinWrite, if_neg (by rw [h]; exact Bool.false_ne_true)]
  by_cases h0 : s.prs.active = 0 <;> simp [h0]

/-! ### O18 -/

/-- Settles O18: by whether a bank drains, from what the commit and the window write do in each case. -/
theorem programBanksSwapAndDrain : Obligations.ProgramBanksSwapAndDrain := by
  refine ⟨fun s hreach hready hhung hiso => ?_, fun s i v => ⟨fun h => ?_, fun h h0 => ?_, fun h h1 => ?_⟩, fun s hruns => ?_⟩
  · rw [exec_progCommit ⟨hreach, hready, hhung, hiso⟩]
    refine ⟨fun h => ?_, fun h => ?_⟩
    · rw [State.progCommit_of_idle h]
    · obtain ⟨hregs, hrest⟩ := s.stick_only Reg.PRS_PROG_STAT_busy
      exact ⟨_, congrArg Host.Outcome.next (State.progCommit_of_draining h), s.flag_stick_prog_busy, hregs, hrest⟩
  · rw [State.progWinWrite_of_draining i v h]
    exact ⟨s.flag_stick_prog_busy, rfl⟩
  · rw [State.prs_progWinWrite i v h, if_pos h0]
  · rw [State.prs_progWinWrite i v h, if_neg (by omega)]
  · exact congrArg Host.Outcome.next (State.whenRuns_of_runs hruns _)

end Sys2Proof.Machine
end

section
/-! From the crossing to the rule tables (R56, R58, R59, R63, R75 to R78): the copy dispatched next, the walk of a bundle's segments, the tail at a
chive, the release of ready vectors, and O17. -/

namespace Sys2Proof.Machine

/-! ### The copy dispatched next (R56) -/

section
variable (s : State)

/-- Copy `f` is dispatched before copy `g`, or the two tie. -/
def State.copyFirst (f g : Nat) : Prop :=
  (s.frame f).sof < (s.frame g).sof ∨ ((s.frame f).sof = (s.frame g).sof ∧ (s.frame f).port ≤ (s.frame g).port)

/-- Which of two copies is dispatched first. -/
def State.firstCopy (best g : Nat) : Nat :=
  if (s.frame g).sof < (s.frame best).sof ∨ ((s.frame g).sof = (s.frame best).sof ∧ (s.frame g).port < (s.frame best).port) then g else best

theorem State.copyFirst_refl (f : Nat) : s.copyFirst f f := .inr ⟨rfl, le_refl _⟩

theorem State.copyFirst_trans {f g h : Nat} (hfg : s.copyFirst f g) (hgh : s.copyFirst g h) : s.copyFirst f h := by
  unfold State.copyFirst at *
  omega

theorem State.firstCopy_first (f g : Nat) : s.copyFirst (s.firstCopy f g) f ∧ s.copyFirst (s.firstCopy f g) g := by
  unfold State.firstCopy State.copyFirst
  split <;> omega

theorem State.firstCopy_mem (f g : Nat) : s.firstCopy f g = f ∨ s.firstCopy f g = g := by
  unfold State.firstCopy
  split
  · exact .inr rfl
  · exact .inl rfl

/-- A fold of `State.firstCopy` finds a copy of the list that no other comes before. -/
theorem State.foldl_firstCopy (l : List Nat) (f : Nat) :
    l.foldl s.firstCopy f ∈ f :: l ∧ ∀ g ∈ f :: l, s.copyFirst (l.foldl s.firstCopy f) g := by
  induction l generalizing f with
  | nil => exact ⟨List.mem_singleton.mpr rfl, fun g hg => List.mem_singleton.mp hg ▸ s.copyFirst_refl f⟩
  | cons x r ih =>
    obtain ⟨hmem, hfirst⟩ := ih (s.firstCopy f x)
    obtain ⟨hf, hx⟩ := s.firstCopy_first f x
    have hbest := hfirst _ List.mem_cons_self
    refine ⟨?_, fun g hg => ?_⟩
    · rcases List.mem_cons.mp hmem with h | h
      · rw [List.foldl_cons, h]
        rcases s.firstCopy_mem f x with h | h <;> simp [h]
      · exact List.mem_cons_of_mem _ (List.mem_cons_of_mem _ h)
    · rcases List.mem_cons.mp hg with rfl | hg
      · exact s.copyFirst_trans hbest hf
      rcases List.mem_cons.mp hg with rfl | hg
      · exact s.copyFirst_trans hbest hx
      · exact hfirst g (List.mem_cons_of_mem _ hg)

/-- The copy dispatched next waits, is of an earlier nanosecond, and has no waiting copy before it. -/
theorem State.nextCopy_spec {f : Nat} (h : s.nextCopy = some f) :
    f ∈ s.prs.waiting ∧ (s.frame f).sof < s.now ∧ ∀ g ∈ s.prs.waiting, s.copyFirst f g := by
  unfold State.nextCopy at h
  split at h
  · exact absurd h.symm (Option.some_ne_none f)
  next x r hl =>
    obtain ⟨hmem, hfirst⟩ := s.foldl_firstCopy r x
    have hf : r.foldl s.firstCopy x = f := Option.some.inj h
    rw [hf, ← hl] at hmem
    rw [hf, ← hl] at hfirst
    obtain ⟨hwait, hsof⟩ := List.mem_filter.mp hmem
    have hsof : (s.frame f).sof < s.now := of_decide_eq_true hsof
    refine ⟨hwait, hsof, fun g hg => ?_⟩
    by_cases hg' : (s.frame g).sof < s.now
    · exact hfirst g (List.mem_filter.mpr ⟨hg, decide_eq_true hg'⟩)
    · exact .inl (hsof.trans_le (Nat.not_lt.mp hg'))

theorem State.idle_of_nextIdle {c : Nat} (h : s.nextIdle = some c) : (s.chive c).phase = .idle := by
  have hp := List.find?_some h
  exact of_decide_eq_true hp

end

/-! ### Dispatch (R56, R62, R63) -/

section
variable (s : State) (c f : Nat)

/-- A chive given frame `f`: all zero, with the bank and the limits in force. -/
def State.chiveFor : Chive :=
  { phase := .running, frame := f, bank := s.prs.active, depth := s.fld Reg.PRS_DEPTH_depth, ubpPort := s.fld Reg.PRS_UBP_PORT_port,
    ubpEn := s.flag Reg.PRS_CTRL_ubp_en }

/-- The state in which chive `c` has been given frame `f`. -/
def State.dispatched : State :=
  (((({ s with prs := { s.prs with lastChive := c, waiting := s.prs.waiting.filter (fun g => g != f) } } : State).updFrame f
    fun x => { x with copy := .dispatched }).updChive c fun _ => s.chiveFor f).bump Reg.PRS_FRAMES)

theorem State.chive_dispatched : (s.dispatched c f).chive c = s.chiveFor f := State.chive_updChive_self _ _ _

theorem State.chive_dispatched_ne {d : Nat} (hd : d ≠ c) : (s.dispatched c f).chive d = s.chive d := State.chive_updChive_ne _ _ _ hd

theorem State.frame_dispatched : (s.dispatched c f).frame f = { s.frame f with copy := .dispatched } := State.frame_updFrame_self _ _ _

theorem State.frame_dispatched_ne : framesBut s (s.dispatched c f) f := fun _ hg => State.frame_updFrame_ne _ _ _ hg

theorem State.reg_dispatched : (s.dispatched c f).reg Reg.PRS_FRAMES = s.reg Reg.PRS_FRAMES + 1 ∧ regsBut s (s.dispatched c f) [Reg.PRS_FRAMES] :=
  ⟨State.reg_bump_self _ _, fun _ ha => State.reg_bump_ne _ (List.ne_of_not_mem_cons ha)⟩

theorem exec_chiveDispatch {s : State} {c f : Nat} (hc : s.nextIdle = some c) (hf : s.nextCopy = some f) (hruns : s.runs (some 0) = true) :
    exec .chiveDispatch s = .next (s.dispatched c f) := by
  show execChiveDispatch s = _
  rw [execChiveDispatch, State.whenRuns_of_runs hruns, hc, hf]
  rfl

end

/-! ### What the end of a walk leaves alone (R59, R89) -/

section
variable (s : State)

theorem State.sansMac_releaseVer (f : Nat) : (s.releaseVer f).sansMac = s.sansMac := by
  unfold State.releaseVer
  dsimp only
  split <;> rfl

theorem State.frame_releaseVer (f : Nat) : ∃ b, (s.releaseVer f).frame f = { s.frame f with holdsVer := b } := by
  unfold State.releaseVer
  dsimp only
  split
  · exact ⟨false, State.frame_updFrame_self _ _ _⟩
  · exact ⟨_, rfl⟩

/-- The chive and the copy at the end of a walk, before the rule version is released. -/
def State.walkOver (c : Nat) : State :=
  let t := s.updFrame (s.chive c).frame fun x => { x with walkDone := true }
  if (t.chive c).tailSeen then
    (t.updChive c fun h => { h with phase := .idle }).updFrame (s.chive c).frame fun x => { x with copy := .finished }
  else t.updChive c fun h => { h with phase := .waitTail }

theorem State.endWalk_eq (c : Nat) : s.endWalk c = (s.walkOver c).releaseVer (s.chive c).frame := rfl

theorem State.chive_updFrame (f : Nat) (g : Frame → Frame) (c : Nat) : (s.updFrame f g).chive c = s.chive c := rfl

theorem State.walkOver_keeps (c : Nat) : (s.walkOver c).rul = s.rul ∧ (s.walkOver c).sfe = s.sfe ∧ (s.walkOver c).regs = s.regs ∧
    ∃ p, (s.walkOver c).chive c = { s.chive c with phase := p } := by
  unfold State.walkOver
  dsimp only
  split
  · refine ⟨?_, ?_, ?_, .idle, ?_⟩ <;> simp [State.chive_updFrame]
  · refine ⟨?_, ?_, ?_, .waitTail, ?_⟩ <;> simp [State.chive_updFrame]

/-- The end of a walk concerns the frame and its chive's phase. -/
theorem State.endWalk_keeps (c : Nat) : (s.endWalk c).rul = s.rul ∧ (s.endWalk c).sfe = s.sfe ∧ (s.endWalk c).regs = s.regs ∧
    ∃ p, (s.endWalk c).chive c = { s.chive c with phase := p } := by
  have hm := (s.walkOver c).sansMac_releaseVer (s.chive c).frame
  rw [← State.endWalk_eq] at hm
  obtain ⟨hrul, hsfe, hregs, p, hchive⟩ := s.walkOver_keeps c
  exact ⟨(congrArg State.rul hm).trans hrul, (congrArg State.sfe hm).trans hsfe, (congrArg State.regs hm).trans hregs, p,
    (congrArg (fun u : State => u.prs.chives.get c) hm).trans hchive⟩

theorem State.frame_walkOver (c : Nat) : ((s.walkOver c).frame (s.chive c).frame).walkDone = true ∧
    ((s.walkOver c).frame (s.chive c).frame).ubp = (s.frame (s.chive c).frame).ubp := by
  have hf := s.frame_updFrame_self (s.chive c).frame fun x => { x with walkDone := true }
  unfold State.walkOver
  dsimp only
  split
  · rw [State.frame_updFrame_self]
    exact ⟨(congrArg Frame.walkDone hf :), (congrArg Frame.ubp hf :)⟩
  · exact ⟨(congrArg Frame.walkDone hf :), (congrArg Frame.ubp hf :)⟩

theorem State.frame_endWalk (c : Nat) : ((s.endWalk c).frame (s.chive c).frame).walkDone = true ∧
    ((s.endWalk c).frame (s.chive c).frame).ubp = (s.frame (s.chive c).frame).ubp := by
  obtain ⟨b, hb⟩ := (s.walkOver c).frame_releaseVer (s.chive c).frame
  rw [State.endWalk_eq, hb]
  exact s.frame_walkOver c

end

/-! ### Bytes of a slice -/

theorem getElem?_slice (l : List Byte) (off n i : Nat) : (slice l off n)[i]? = if i < n then some ((l[off + i]?).getD 0) else none := by
  rw [slice, List.getElem?_append, List.length_take, List.length_drop]
  split
  next h =>
    rw [List.getElem?_take_of_lt (by omega), List.getElem?_drop, if_pos (by omega), List.getElem?_eq_getElem (by omega)]
    rfl
  next h =>
    rw [List.getElem?_replicate]
    by_cases hi : i < n
    · rw [if_pos (by omega), if_pos hi, List.getElem?_eq_none (by omega)]
      rfl
    · rw [if_neg (by omega), if_neg hi]

theorem slice_slice (l : List Byte) (off : Nat) {n a k : Nat} (h : a + k ≤ n) : slice (slice l off n) a k = slice l (off + a) k := by
  refine List.ext_getElem? fun i => ?_
  rw [getElem?_slice, getElem?_slice, getElem?_slice, Nat.add_assoc]
  by_cases hi : i < k
  · rw [if_pos hi, if_pos hi, if_pos (by omega)]
    rfl
  · rw [if_neg hi, if_neg hi]

/-- A field of the bytes that a chive reads is read from the frame. -/
theorem State.be_frameBytes (s : State) (c off : Nat) {n a k : Nat} (h : a + k ≤ n) :
    be (s.frameBytes c off n) a k = beNat (s.frameBytes c (off + a) k) := congrArg beNat (slice_slice _ off h)

/-! ### A segment record is handed on (R75, R77, R118) -/

/-- Whether a bundle's verdict is already a bad one. -/
def State.verdictBad (s : State) (f : Nat) : Bool := ((s.bundle f).verdict.map (fun c => decide (c ≠ .none))).getD false

/-- The withdrawal of a segment of a bundle whose verdict is already bad (R118). -/
def State.lateWithdrawn (s : State) (f idx : Nat) : State :=
  if s.verdictBad f then (s.updBundle f (fun x => { x with withdrawn := x.withdrawn ||| 1 <<< idx })).bump Reg.ERP_WITHDRAWN else s

/-- The record of the segment whose header a chive is at. -/
def State.segOf (s : State) (h : Chive) (b : List Byte) (u : Ubp) (bad : Bool) : Seg := {
  frame := some h.frame, bundle := h.frame, idx := h.idx, streamId := BitVec.ofNat 32 (be b 0 4),
  seq := BitVec.ofNat 16 (be b 4 2), len := be b 6 2, codec := be b 8 1, rate := be b 9 1, flags := be b 10 1,
  hint := be b 12 2, off := h.pos + 16, stamp := (s.frame h.frame).stamp,
  capture := if bit u.flags 2 then u.capture else (s.frame h.frame).stamp, epoch := (s.frame h.frame).epoch, st := .lookup
  withdrawn := bad }

/-- A segment record enters the queue of lookups under the next identifier, and its chive moves past the segment. -/
def State.segHanded (s : State) (c : Nat) (h : Chive) (seg : Seg) : State :=
  let t := { s.freshId.2 with
    sfe := { s.sfe with segs := s.sfe.segs.set s.nextId seg }
    rul := { s.rul with lookups := s.rul.lookups ++ [s.nextId] } }
  let t := t.updFrame h.frame (fun x => { x with
    segsOpen := x.segsOpen + 1
    ubp := x.ubp.map (fun u => { u with handed := u.handed ||| 1 <<< h.idx }) })
  (t.updChive c (fun x => { x with pos := x.pos + 16 + seg.len, idx := x.idx + 1 })).bump Reg.PRS_UBP_SEGS

section
variable (s : State) (c : Nat)

theorem State.emitSegment_eq (u : Ubp) :
    let h := s.chive c
    let t := s.lateWithdrawn h.frame h.idx
    s.emitSegment c u = t.segHanded c h (t.segOf h (s.frameBytes c h.pos 16) u (s.verdictBad h.frame)) := by
  intro h t
  rfl

theorem State.lateWithdrawn_keeps (f idx : Nat) : (s.lateWithdrawn f idx).rul = s.rul ∧ (s.lateWithdrawn f idx).nextId = s.nextId ∧
    (s.lateWithdrawn f idx).prs = s.prs ∧ (s.lateWithdrawn f idx).reg Reg.PRS_UBP_SEGS = s.reg Reg.PRS_UBP_SEGS := by
  unfold State.lateWithdrawn
  split
  · exact ⟨rfl, rfl, rfl, State.reg_bump_ne _ (by decide)⟩
  · exact ⟨rfl, rfl, rfl, rfl⟩

theorem State.segHanded_hands (h : Chive) (seg : Seg) : (s.segHanded c h seg).rul.lookups = s.rul.lookups ++ [s.nextId] ∧
    (s.segHanded c h seg).seg s.nextId = seg ∧
    (s.segHanded c h seg).chive c = { s.chive c with pos := (s.chive c).pos + 16 + seg.len, idx := (s.chive c).idx + 1 } ∧
    (s.segHanded c h seg).reg Reg.PRS_UBP_SEGS = s.reg Reg.PRS_UBP_SEGS + 1 :=
  ⟨rfl, Tab.get_set_self _ _ _, State.chive_updChive_self _ _ _, State.reg_bump_self _ _⟩

theorem State.emitSegment_hands (u : Ubp) :
    let h := s.chive c
    let t := s.emitSegment c u
    t.rul.lookups = s.rul.lookups ++ [s.nextId] ∧
    t.seg s.nextId = (s.lateWithdrawn h.frame h.idx).segOf h (s.frameBytes c h.pos 16) u (s.verdictBad h.frame) ∧
    t.chive c = { h with pos := h.pos + 16 + be (s.frameBytes c h.pos 16) 6 2, idx := h.idx + 1 } ∧
    t.reg Reg.PRS_UBP_SEGS = s.reg Reg.PRS_UBP_SEGS + 1 := by
  intro h t
  obtain ⟨hrul, hid, hprs, hreg⟩ := s.lateWithdrawn_keeps h.frame h.idx
  have hchive : (s.lateWithdrawn h.frame h.idx).chive c = h := congrArg (fun p : PrsSt => p.chives.get c) hprs
  have hh := (s.lateWithdrawn h.frame h.idx).segHanded_hands c h
    ((s.lateWithdrawn h.frame h.idx).segOf h (s.frameBytes c h.pos 16) u (s.verdictBad h.frame))
  rw [← State.emitSegment_eq, hrul, hid, hchive, hreg] at hh
  exact hh

/-- The end of the loop leaves the records, the queue of lookups and the chive's place as they are. -/
theorem State.walkTail_keeps (u : Ubp) : (s.walkTail c u).rul = s.rul ∧ (s.walkTail c u).sfe = s.sfe ∧
    ((s.walkTail c u).chive c).pos = (s.chive c).pos ∧ ((s.walkTail c u).chive c).idx = (s.chive c).idx ∧
    ∀ a, a ≠ Reg.PRS_UBP_TRAIL → (s.walkTail c u).reg a = s.reg a := by
  unfold State.walkTail
  split
  · obtain ⟨hrul, hsfe, hregs, p, hchive⟩ := (s.bumpIf (decide ((s.chive c).pos < u.stop)) Reg.PRS_UBP_TRAIL).endWalk_keeps c
    rw [hrul, hsfe, hchive, State.chive_bumpIf]
    refine ⟨?_, ?_, rfl, rfl, fun a ha => ?_⟩
    · unfold State.bumpIf
      split <;> rfl
    · unfold State.bumpIf
      split <;> rfl
    · exact (congrArg (Regs.get · a) hregs).trans (State.reg_bumpIf_ne _ _ ha)
  · exact ⟨rfl, rfl, rfl, rfl, fun _ _ => rfl⟩

/-- The rest of a bundle is discarded, and its walk ends (R76). -/
theorem State.segOverrun_discards {u : Ubp} (hu : (s.frame (s.chive c).frame).ubp = some u) :
    (s.segOverrun c).rul.lookups = s.rul.lookups ∧ (s.segOverrun c).reg Reg.PRS_SEG_OVERRUN = s.reg Reg.PRS_SEG_OVERRUN + 1 ∧
    ((s.segOverrun c).frame (s.chive c).frame).walkDone = true ∧
    ((s.segOverrun c).frame (s.chive c).frame).ubp = some { u with firstDisc := some (s.chive c).idx } := by
  unfold State.segOverrun
  dsimp only
  generalize ht : State.updFrame _ _ _ = t
  have hc : t.chive c = s.chive c := by rw [← ht]; rfl
  have hf : (t.frame (s.chive c).frame).ubp = some { u with firstDisc := some (s.chive c).idx } := by
    rw [← ht]
    refine (congrArg Frame.ubp (State.frame_updFrame_self _ _ _)).trans ?_
    show ((s.frame (s.chive c).frame).ubp).map _ = _
    rw [hu]
    rfl
  obtain ⟨hrul, -, hregs, -⟩ := t.endWalk_keeps c
  obtain ⟨hdone, hubp⟩ := t.frame_endWalk c
  rw [hc] at hdone hubp
  refine ⟨?_, ?_, hdone, hubp.trans hf⟩
  · rw [hrul, ← ht]
    rfl
  · refine (congrArg (Regs.get · _) hregs).trans ?_
    rw [← ht]
    exact State.reg_bump_self s _

end

/-! ### The rows of the walk and of the tail -/

section
variable {c : Fin 256} {s : State} {u : Ubp} (hruns : s.runs (some 0) = true) (hu : (s.frame (s.chive c.val).frame).ubp = some u)
include hruns hu

theorem exec_segmentHeaderWalk_handsOn (hphase : (s.chive c.val).phase = .walking) (hhdr : (s.chive c.val).pos + 16 ≤ u.stop)
    (hready : s.ready c.val ((s.chive c.val).pos + 16) = .go)
    (hpay : (s.chive c.val).pos + 16 + be (s.frameBytes c.val (s.chive c.val).pos 16) 6 2 ≤ u.stop) :
    exec (.segmentHeaderWalk c) s = .next ((s.emitSegment c.val u).walkTail c.val u) := by
  rw [State.be_frameBytes s c.val _ (by decide)] at hpay
  show execSegmentHeaderWalk c s = _
  rw [execSegmentHeaderWalk, State.whenRuns_of_runs hruns]
  simp only [hu, hphase, hready, Nat.not_lt.mpr hhdr, Nat.not_lt.mpr hpay, ne_eq, not_true_eq_false, if_false]

theorem exec_segmentHeaderWalk_overrun (hphase : (s.chive c.val).phase = .walking) (hhdr : u.stop < (s.chive c.val).pos + 16) :
    exec (.segmentHeaderWalk c) s = .next (s.segOverrun c.val) := by
  show execSegmentHeaderWalk c s = _
  rw [execSegmentHeaderWalk, State.whenRuns_of_runs hruns]
  simp only [hu, hphase, hhdr, ne_eq, not_true_eq_false, if_false, if_true]

end

/-! ### The tail at a chive (R59, R78) -/

section
variable (s : State) (c f : Nat) (u : Ubp)

/-- The state in which the tail has reached a chive that only waited for it: the bundle is judged, and the chive is idle. -/
def State.tailTaken : State :=
  (((s.updChive c fun h => { h with tailSeen := true }).tailBundle f u).updChive c fun h => { h with phase := .idle }).updFrame f
    fun x => { x with copy := .finished }

theorem State.chive_tailTaken : (s.tailTaken c f u).chive c = { s.chive c with tailSeen := true, phase := .idle } := by
  rw [State.tailTaken, State.chive_updFrame, State.chive_updChive_self, State.chive_tailBundle, State.chive_updChive_self]

theorem State.frame_tailTaken : ∃ v, (s.tailTaken c f u).frame f =
    { s.frame f with ubp := some (s.ubpJudged f u), verdict := v, copy := .finished } := by
  obtain ⟨v, hv⟩ := (s.updChive c fun h => { h with tailSeen := true }).frame_tailBundle f u
  refine ⟨v, ?_⟩
  rw [State.tailTaken, State.frame_updFrame_self]
  exact congrArg (fun x : Frame => { x with copy := .finished }) hv

end

theorem exec_tailAtChive_waiting {c : Fin 256} {s : State} {u : Ubp} (hruns : s.runs (some 0) = true) (hphase : (s.chive c.val).phase = .waitTail)
    (hseen : (s.chive c.val).tailSeen = false) (hu : (s.frame (s.chive c.val).frame).ubp = some u)
    (hend : s.copyEnded (s.chive c.val).frame = true) : exec (.tailAtChive c) s = .next (s.tailTaken c.val (s.chive c.val).frame u) := by
  have hu' : ((s.updChive c.val fun h => { h with tailSeen := true }).frame (s.chive c.val).frame).ubp = some u := hu
  show execTailAtChive c s = _
  rw [execTailAtChive, State.whenRuns_of_runs hruns]
  simp only [hphase, hseen, hend, hu', Bool.true_eq_false, Bool.false_eq_true, reduceCtorEq, or_self, if_false, if_true]
  rfl

/-! ### Ready vectors leave the reorder buffer (R58, R82, R94) -/

section
variable (s : State)

theorem State.vectors_meterFrame (i : Nat) (fr : Frame) : (s.meterFrame i fr).2.vectors = s.vectors := by
  unfold State.meterFrame
  dsimp only
  split
  · rw [State.vectors_bumpIf, State.vectors_bumpIf, State.vectors_updRul]
  · rfl

theorem State.vectors_steer (w : Nat) (prv : List Byte) : (s.steer w prv).2.vectors = s.vectors := by
  unfold State.steer
  extract_lets sel i
  split <;> rfl

theorem State.vectors_entryDisp (e : TEntry) (fr : Frame) : (s.entryDisp e fr).2.vectors = s.vectors := by
  unfold State.entryDisp
  split
  · rfl
  · split
    · rfl
    · split
      · exact s.vectors_steer _ _
      · rfl

theorem State.vectors_countAdd (i n : Nat) : (s.countAdd i n).vectors = s.vectors := s.vectors_updRul _

theorem State.vectors_countActions (e : TEntry) (len : Nat) : (s.countActions e len).vectors = s.vectors := by
  refine foldl_keeps State.vectors (fun t w => ?_) _ s
  simp only [apply_ite State.vectors, State.vectors_countAdd, ite_self]

theorem State.vectors_noMatch (f : Nat) : (s.noMatch f).vectors = s.vectors :=
  (State.vectors_tailCopies _ f).trans (State.vectors_updFrame _ f fun _ => rfl)

theorem State.vectors_applyEntry (f : Nat) (e : TEntry) : (s.applyEntry f e).vectors = s.vectors := by
  unfold State.applyEntry
  extract_lets fr
  split
  next act t ht =>
  have ht : t.vectors = s.vectors := by
    split at ht
    · cases ht
      rfl
    · split at ht
      next c v hv =>
      cases ht
      exact (congrArg (fun p : Nat × State => p.2.vectors) hv).symm.trans (s.vectors_meterFrame _ fr)
  split
  next d u hu =>
  have hu : u.vectors = s.vectors := by
    split at hu
    · cases hu
      exact ht
    · exact ((congrArg (fun p : Disp × State => p.2.vectors) hu).symm.trans (t.vectors_entryDisp e fr)).trans ht
  rw [State.vectors_tailCopies, ← hu]
  generalize hv : State.countActions _ e _ = v
  have hv : v.vectors = u.vectors := by
    rw [← hv, State.vectors_countActions]
    exact u.vectors_updFrame f fun _ => rfl
  rw [← hv]
  split
  · rfl
  · split
    · exact v.vectors_updFrame f fun _ => rfl
    · rfl

theorem State.vectors_classify (f : Nat) : (s.classify f).vectors = s.vectors := by
  unfold State.classify
  dsimp only
  split
  · rfl
  · split
    · split
      · exact State.vectors_noMatch _ f
      · exact State.vectors_applyEntry _ f _
    · exact State.vectors_noMatch _ f

end

section
variable {s : State} {p f : Nat}

theorem State.releaseHead_of_not_ready {l : List Nat} (hrob : (s.port p).rob = f :: l) (hready : (s.frame f).prvReady = false) (n : Nat) :
    s.releaseHead p n = s := by
  cases n with
  | zero => rfl
  | succ n =>
    rw [State.releaseHead, hrob]
    exact if_neg (by rw [hready]; exact Bool.false_ne_true)

/-- A vector that has left a reorder buffer in which it was alone. -/
def State.releasedAlone (s : State) (p f : Nat) : State :=
  (s.updPort p fun q => { q with rob := [] }).updFrame f fun x => { x with released := true }

theorem State.releaseHead_of_one (hrob : (s.port p).rob = [f]) (hready : (s.frame f).prvReady = true) :
    s.releaseHead p 1 = (s.releasedAlone p f).classify f := by
  rw [State.releaseHead, hrob]
  exact if_pos hready

theorem State.classify_releasedAlone (s : State) (p f : Nat) : (((s.releasedAlone p f).classify f).port p).rob = [] ∧
    (((s.releasedAlone p f).classify f).frame f).released = true := by
  have hv := (s.releasedAlone p f).vectors_classify f
  rw [State.rob_of_vectors_eq hv, State.released_of_vectors_eq hv]
  exact ⟨(congrArg PortSt.rob (s.port_updPort_self p _) :), (congrArg Frame.released (State.frame_updFrame_self _ f _) :)⟩

end

/-! ### O17 -/

/-- Settles O17: each clause from the facts about the dispatch, the walk, the tail or the release it runs. The comparison of lengths is made
whether or not the UDP length passes the tail, which is the model's choice (log 178). -/
theorem segmentWalkHandsOnInOrder : Obligations.SegmentWalkHandsOnInOrder := by
  refine ⟨fun s c f hc hf hruns => ?_, fun s f hf => s.nextCopy_spec hf, fun c s u => ?_, fun c s u hruns hu hphase hhdr => ?_,
    fun c s u hruns hphase hseen hu hend => ?_, fun p s f l hrob hready => ?_, fun p s f hruns hrob hready => ?_⟩
  · obtain ⟨hcount, hregs⟩ := s.reg_dispatched c f
    refine ⟨_, exec_chiveDispatch hc hf hruns, s.idle_of_nextIdle hc, rfl, rfl, ?_⟩
    rw [State.chive_dispatched, State.frame_dispatched]
    exact ⟨rfl, rfl, rfl, rfl, rfl, rfl, rfl, fun d hd => s.chive_dispatched_ne c f hd, s.frame_dispatched_ne c f, hcount, hregs⟩
  · intro h b hruns hu hphase hhdr hready hpay
    obtain ⟨hlook, hseg, hchive, hcount⟩ := s.emitSegment_hands c.val u
    obtain ⟨hrul, hsfe, hpos, hidx, hregs⟩ := (s.emitSegment c.val u).walkTail_keeps c.val u
    have hseg' : ((s.emitSegment c.val u).walkTail c.val u).seg s.nextId = _ := (congrArg (fun x : SfeSt => x.segs.get s.nextId) hsfe).trans hseg
    refine ⟨_, exec_segmentHeaderWalk_handsOn hruns hu hphase hhdr hready hpay, by rw [hrul, hlook], ?_⟩
    rw [hseg', hidx, hpos, hchive, hregs _ (by decide), hcount]
    exact ⟨rfl, rfl, rfl, rfl, rfl, rfl, rfl, rfl, rfl, rfl⟩
  · exact ⟨_, exec_segmentHeaderWalk_overrun hruns hu hphase hhdr, s.segOverrun_discards c.val hu⟩
  · obtain ⟨v, hv⟩ := s.frame_tailTaken c.val (s.chive c.val).frame u
    refine ⟨_, exec_tailAtChive_waiting hruns hphase hseen hu hend, ?_⟩
    rw [State.chive_tailTaken, hv]
    exact ⟨rfl, rfl, rfl, _, rfl, rfl, s.lenMismatch_ubpJudged _ u⟩
  · refine congrArg Host.Outcome.next ?_
    rw [State.whenRuns, State.releaseHead_of_not_ready hrob hready, ite_self]
  · have hrel : s.releaseHead p.val (s.port p.val).rob.length = (s.releasedAlone p.val f).classify f := by
      rw [hrob]
      exact State.releaseHead_of_one hrob hready
    exact ⟨_, congrArg Host.Outcome.next ((State.whenRuns_of_runs hruns _).trans hrel), s.classify_releasedAlone p.val f⟩

end Sys2Proof.Machine
end

section
/-! Completion of descriptors (R270, R284): what records and the drain of a queue pair leave as it was, and what becomes of the descriptor. -/

namespace Sys2Proof.Machine

theorem State.rul_of_sansHost_eq {s t : State} (h : t.sansHost = s.sansHost) : t.rul = s.rul := (congrArg State.rul h :)

theorem State.sfe_of_sansHost_eq {s t : State} (h : t.sansHost = s.sansHost) : t.sfe = s.sfe := (congrArg State.sfe h :)

theorem State.adp_of_sansHost_eq {s t : State} (h : t.sansHost = s.sansHost) : t.adp = s.adp := (congrArg State.adp h :)

theorem State.flag_of_sansHost_eq {s t : State} (h : t.sansHost = s.sansHost) (f : Fld) : t.flag f = s.flag f :=
  State.flag_of_reg_eq (State.reg_of_sansHost_eq h f.addr)

/-- `t` is `s` after records have been written: every descriptor stands as it stood, and what left the block stays in front in the outbox. -/
structure State.Recorded (s t : State) : Prop where
  descs : t.hif.descs = s.hif.descs
  out : s.out <+: t.out

namespace State.Recorded

variable {s t : State}

theorem refl (s : State) : Recorded s s := ⟨rfl, List.prefix_refl _⟩

theorem ite {c : Prop} [Decidable c] {a b : State} (ha : Recorded s a) (hb : Recorded s b) : Recorded s (if c then a else b) := by
  split <;> assumption

theorem emit {o : Output} (h : Recorded s t) : Recorded s (t.emit o) := ⟨h.descs, h.out.trans (List.prefix_append _ _)⟩

theorem updQp {q : Nat} {f : Qp → Qp} (h : Recorded s t) : Recorded s (t.updQp q f) := ⟨h.descs, h.out⟩

theorem sendHeld {x : HostHeld} (h : Recorded s t) : Recorded s (t.sendHeld x) := .ite h.emit ⟨h.descs, h.out⟩

theorem qpWrite {q addr : Nat} {b : List Byte} {relaxed : Bool} (h : Recorded s t) : Recorded s (t.qpWrite q addr b relaxed) := h.sendHeld

theorem interrupt {q : Nat} (h : Recorded s t) : Recorded s (t.interrupt q) := h.sendHeld.updQp

theorem writeRecord {q sqIndex kind status length : Nat} {cookie value : DWord} {info : Nat} (h : Recorded s t) :
    Recorded s (t.writeRecord q sqIndex kind status length cookie value info) := .ite h.qpWrite.updQp.interrupt h.qpWrite.updQp

theorem drainQp {q : Nat} (h : Recorded s t) : Recorded s (t.drainQp q) :=
  .ite (List.foldlRecOn (motive := Recorded s) _ _ h fun _ hu _ _ => hu.updQp.writeRecord).updQp h

end State.Recorded

section
variable {s : State}

theorem State.drainQp_of_not_draining {q : Nat} (h : (s.qp q).st ≠ .draining) : s.drainQp q = s := if_neg fun hd => h hd.1

/-- A descriptor is marked done and gives back its CQ entry, before its record is written (R270). -/
def State.descDone (s : State) (i : Nat) : State :=
  (s.updDesc i fun d => { d with st := .done }).updQp (s.desc i).qp fun p => { p with reserved := p.reserved - 1 }

/-- The cookie of a descriptor's completion record: its own, or a free value for a command block (R284). -/
def State.cookieOf (s : State) (d : Desc) : DWord × State := if cmdBlockOp d.op then s.free else (BitVec.ofNat 64 (le d.bytes 8 8), s)

/-- The completion of a descriptor that is alive, up to the drain of its queue pair. -/
def State.descRecorded (s : State) (i status length : Nat) (value : DWord) (info : Nat) : State :=
  let d := s.desc i
  let c := (s.descDone i).cookieOf d
  if d.noCq && status = 0 then c.2 else c.2.writeRecord d.qp d.sqIndex d.op status length c.1 value info

variable {i : Nat} (hlive : s.descLive i = true) (status length : Nat) (value : DWord) (info : Nat)
include hlive

theorem State.completeDesc_of_live :
    s.completeDesc i status length value info = (s.descRecorded i status length value info).drainQp (s.desc i).qp := if_pos hlive

theorem State.recorded_completeDesc : (s.descDone i).Recorded (s.completeDesc i status length value info) := by
  have hcookie (u : State) (d : Desc) : u.Recorded (u.cookieOf d).2 := by
    unfold State.cookieOf
    split
    · exact ⟨rfl, List.prefix_refl _⟩
    · exact .refl _
  rw [State.completeDesc_of_live hlive]
  exact .drainQp (.ite (hcookie _ _) (hcookie _ _).writeRecord)

/-- A descriptor that was alive is done, and nothing else of it changes. -/
theorem State.desc_completeDesc_self : (s.completeDesc i status length value info).desc i = { s.desc i with st := .done } :=
  (congrArg (Tab.get · i) (State.recorded_completeDesc hlive status length value info).descs).trans (s.desc_updDesc_self i _)

theorem State.out_completeDesc : s.out <+: (s.completeDesc i status length value info).out :=
  (State.recorded_completeDesc hlive status length value info).out

end

end Sys2Proof.Machine
end

section
/-! Rule commits and versions (R82, R86 to R89): the three cases of a request, the one step of a commit, the retirement of the draining version,
the entry a lookup answers, and O19 and O20. -/

namespace Sys2Proof.Machine

/-! ### Requests (R88) -/

theorem State.flag_stick_ver_busy (s : State) : (s.stick Reg.RUL_VER_STAT_busy).flag Reg.RUL_VER_STAT_busy = true :=
  s.flag_stick_self _ rfl (by decide)

section
variable {s : State} {src : CommitSrc}

theorem State.requestCommit_of_free (hpend : s.rul.pending = none) (hexec : s.rul.executing = none) (hdrain : s.rul.draining = none) :
    s.requestCommit src = s.updRul fun r => { r with executing := some src } := by
  simp [State.requestCommit, hpend, hexec, hdrain]

theorem State.requestCommit_of_running (hpend : s.rul.pending = none) (hrun : s.rul.executing.isSome = true ∨ s.rul.draining.isSome = true) :
    s.requestCommit src = s.updRul fun r => { r with pending := some src } := by
  simp [State.requestCommit, hpend, hrun]

/-- A request while another is pending is refused: BUSY is set, and a descriptor completes with a record. -/
theorem State.requestCommit_of_pending (hpend : s.rul.pending.isSome = true) :
    (s.requestCommit src).sansHost = (s.stick Reg.RUL_VER_STAT_busy).sansHost := by
  unfold State.requestCommit
  rw [if_pos hpend]
  cases src with
  | reg => rfl
  | desc d => exact State.sansHost_completeDesc _ d _ _ _ _

/-! ### A commit executes (R88) -/

/-- The rule tables after a commit: the current version drains, the staged one is current, and the next after it is staged. -/
def RulSt.committed (r : RulSt) : RulSt :=
  { r with draining := some r.current, current := r.staged, staged := (r.staged + 1) % 16, commitSeq := r.commitSeq + 1, executing := none }

theorem State.rul_executeCommit (s : State) (src : CommitSrc) : (s.executeCommit src).rul = s.rul.committed := by
  cases src with
  | reg => rfl
  | desc d => exact State.rul_of_sansHost_eq (State.sansHost_completeDesc _ d _ _ _ _)

theorem State.desc_executeCommit {d : Nat} (hlive : s.descLive d = true) : ((s.executeCommit (.desc d)).desc d).st = .done :=
  congrArg Desc.st (State.desc_completeDesc_self (s := s.updRul RulSt.committed) hlive 0 0 0 0)

theorem exec_commitExecute (hruns : s.runs (some 1) = true) (hexec : s.rul.executing = some src) (hdrain : s.rul.draining = none) :
    exec .commitExecute s = .next (s.executeCommit src) := by
  show execCommitExecute s = _
  rw [execCommitExecute, State.whenRuns_of_runs hruns, hexec, hdrain]

/-! ### A version retires (R89) -/

/-- The state when the draining version has retired, before a pending commit executes. -/
def State.retired (s : State) : State :=
  s.updRul fun r => { r with draining := none, tcam := r.tcam.mapCells fun _ e => e.retire r.current }

/-- A pending commit executes at the instant at which the draining version retires. -/
def State.commitPending (s : State) : State :=
  match s.rul.pending with
  | none => s
  | some src => (s.updRul fun r => { r with pending := none }).executeCommit src

theorem State.commitPending_of_none (hpend : s.rul.pending = none) : s.commitPending = s := by
  rw [State.commitPending, hpend]

theorem State.commitPending_of_some (hpend : s.rul.pending = some src) :
    s.commitPending = (s.updRul fun r => { r with pending := none }).executeCommit src := by
  rw [State.commitPending, hpend]

variable {v : Nat} (hdrain : s.rul.draining = some v)
include hdrain

theorem exec_versionRetire_of_held (hheld : s.verHeld v = true) : exec .versionRetire s = .next s := by
  show execVersionRetire s = _
  rw [execVersionRetire, State.whenRuns, hdrain]
  simp only [hheld, if_true, ite_self]

theorem exec_versionRetire_of_unheld (hruns : s.runs (some 1) = true) (hheld : s.verHeld v = false) :
    exec .versionRetire s = .next s.retired.commitPending := by
  show execVersionRetire s = _
  rw [execVersionRetire, State.whenRuns_of_runs hruns, hdrain]
  exact congrArg Host.Outcome.next (if_neg (by simp [hheld]))

end

/-- Settles O19: the three cases of a request by what is pending, executing and draining, and the two commands that execute a commit from the one
step of `RulSt.committed`. -/
theorem ruleCommitsSerialise : Obligations.RuleCommitsSerialise := by
  refine ⟨fun s hbus => ?_, fun s src => ⟨?_, ?_, fun hpend => ?_⟩, fun s src hruns hexec hdrain => ?_,
    fun s src v hruns hdrain hheld hpend => ?_⟩
  · exact congrArg Host.Outcome.next (State.coreWrite_of_busOk hbus _)
  · exact State.requestCommit_of_free
  · exact State.requestCommit_of_running
  · have hrest := State.requestCommit_of_pending (src := src) hpend
    exact ⟨(State.rul_of_sansHost_eq hrest).trans rfl, (State.flag_of_sansHost_eq hrest _).trans s.flag_stick_ver_busy⟩
  · refine ⟨_, exec_commitExecute hruns hexec hdrain, s.rul_executeCommit src, fun d hsrc hlive => ?_⟩
    rw [hsrc]
    exact State.desc_executeCommit hlive
  · refine ⟨_, exec_versionRetire_of_unheld hdrain hruns hheld, ?_⟩
    rw [State.commitPending_of_some (s := s.retired) hpend, State.rul_executeCommit]
    exact ⟨rfl, rfl, rfl, rfl, rfl⟩

/-! ### What a version sees (R87, R89) -/

theorem verAge_self {o : Nat} (ho : o < 16) : verAge o o = 0 := by
  rw [verAge, Nat.mod_eq_of_lt ho, Nat.add_sub_cancel_left]

theorem TEntry.visible_of_not_used {e : TEntry} (h : e.used = false) (o v : Nat) : e.visible o v = false := by
  simp [TEntry.visible, h]

/-- Under the new oldest version an entry shows itself as it did before the retirement: its age there is 0. -/
theorem TEntry.visible_retire (e : TEntry) {o : Nat} (v : Nat) (ho : o < 16) : (e.retire o).visible o v = e.visible o v := by
  unfold TEntry.retire
  split
  next hfreed =>
    simp only [Bool.and_eq_true, decide_eq_true_eq] at hfreed
    obtain ⟨⟨-, hdel⟩, hver⟩ := hfreed
    simp [TEntry.visible, hdel, hver, verAge_self ho]
  next =>
    split
    next hlive =>
      simp only [Bool.and_eq_true, decide_eq_true_eq] at hlive
      obtain ⟨-, hver⟩ := hlive
      simp [TEntry.visible, hver, verAge_self ho]
    next => rfl

/-! ### The entry of the lowest index (R82) -/

theorem Tab.rising_of_wf {α : Type} [DecidableEq α] {t : Tab α} (h : t.wf = true) : cellsRising t.cells = true := (Bool.and_eq_true_iff.1 h).1

theorem mem_of_cellsGet {α : Type} {l : List (Nat × α)} {k : Nat} {v : α} (h : cellsGet l k = some v) : (k, v) ∈ l := by
  induction l with
  | nil => cases h
  | cons c r ih =>
    obtain ⟨j, w⟩ := c
    by_cases hj : j = k
    · simp only [cellsGet, hj, if_true, Option.some.injEq] at h
      rw [hj, h]
      exact List.mem_cons_self
    · simp only [cellsGet, hj, if_false] at h
      exact List.mem_cons_of_mem _ (ih h)

theorem cellsGet_eq_none {α : Type} {l : List (Nat × α)} {k : Nat} (h : ∀ d ∈ l, d.1 ≠ k) : cellsGet l k = none := by
  cases hg : cellsGet l k with
  | none => rfl
  | some v => exact absurd rfl (h _ (mem_of_cellsGet hg))

theorem cellsGet_of_mem {α : Type} {l : List (Nat × α)} (hl : cellsRising l = true) {k : Nat} {v : α} (h : (k, v) ∈ l) :
    cellsGet l k = some v := by
  induction l with
  | nil => cases h
  | cons c r ih =>
    obtain ⟨hfirst, hr⟩ := (cellsRising_cons _ _).1 hl
    rcases List.mem_cons.1 h with rfl | hmem
    · exact if_pos rfl
    · exact (if_neg (hfirst _ hmem).ne).trans (ih hr hmem)

/-- In a list of rising keys the first entry that passes a test has the lowest key of those that pass. -/
theorem find?_lowest {α : Type} {l : List (Nat × α)} (hl : cellsRising l = true) {p : Nat × α → Bool} {c : Nat × α}
    (h : l.find? p = some c) : ∀ d ∈ l, p d = true → c.1 ≤ d.1 := by
  induction l with
  | nil => cases h
  | cons b r ih =>
    obtain ⟨hfirst, hr⟩ := (cellsRising_cons _ _).1 hl
    intro d hd hp
    by_cases hb : p b = true
    · rw [List.find?_cons_of_pos hb, Option.some.injEq] at h
      rcases List.mem_cons.1 hd with rfl | hd
      · rw [h]
      · rw [← h]
        exact (hfirst d hd).le
    · rw [List.find?_cons_of_neg hb] at h
      rcases List.mem_cons.1 hd with rfl | hd
      · exact absurd hp hb
      · exact ih hr h d hd hp

/-- Whether the entry at an index matches a key and is visible to a version. -/
def State.tcamHit (s : State) (p v : Nat) (key : BitVec 640) (i : Nat) : Bool :=
  (s.rul.tcam.get i).isMatch p key && (s.rul.tcam.get i).visible s.rul.oldest v

theorem State.tcamHit_iff (s : State) (p v : Nat) (key : BitVec 640) (i : Nat) : s.tcamHit p v key i = true ↔
    (s.rul.tcam.get i).profile = p ∧ (key &&& (s.rul.tcam.get i).mask) = ((s.rul.tcam.get i).key &&& (s.rul.tcam.get i).mask) ∧
      (s.rul.tcam.get i).visible s.rul.oldest v = true := by
  simp [State.tcamHit, TEntry.isMatch, and_assoc]

section
variable {s : State} {p v : Nat} {key : BitVec 640} (hwf : s.rul.tcam.wf = true)

include hwf in
theorem State.tcam_get_of_mem {c : Nat × TEntry} (h : c ∈ s.rul.tcam.cells) : s.rul.tcam.get c.1 = c.2 := by
  rw [Tab.get, cellsGet_of_mem (Tab.rising_of_wf hwf) h, Option.getD_some]

/-- Only a listed entry hits, since one that is not listed is not in use. -/
theorem State.mem_of_tcamHit (hdflt : s.rul.tcam.dflt = {}) {i : Nat} (h : s.tcamHit p v key i = true) :
    (i, s.rul.tcam.get i) ∈ s.rul.tcam.cells := by
  cases hg : cellsGet s.rul.tcam.cells i with
  | some e =>
    rw [Tab.get, hg]
    exact mem_of_cellsGet hg
  | none =>
    have hget : s.rul.tcam.get i = {} := by rw [Tab.get, hg, Option.getD_none, hdflt]
    have hvis := (Bool.and_eq_true_iff.1 h).2
    rw [hget, TEntry.visible_of_not_used rfl] at hvis
    cases hvis

theorem State.tcamLookup_none (hdflt : s.rul.tcam.dflt = {}) (h : s.tcamLookup p key v = none) (i : Nat) : ¬ s.tcamHit p v key i = true := by
  intro hhit
  exact List.find?_eq_none.1 (Option.map_eq_none_iff.1 h) _ (State.mem_of_tcamHit hdflt hhit) hhit

include hwf in
theorem State.tcamLookup_some {e : TEntry} (hdflt : s.rul.tcam.dflt = {}) (h : s.tcamLookup p key v = some e) :
    ∃ i, s.rul.tcam.get i = e ∧ s.tcamHit p v key i = true ∧ ∀ j, j < i → ¬ s.tcamHit p v key j = true := by
  obtain ⟨c, hfind, hc⟩ := Option.map_eq_some_iff.1 h
  have hget := State.tcam_get_of_mem hwf (List.mem_of_find?_eq_some hfind)
  have hhit := List.find?_some hfind
  refine ⟨c.1, hget.trans hc, ?_, fun j hj hhj => ?_⟩
  · rw [State.tcamHit, hget]
    exact hhit
  · exact absurd (find?_lowest (Tab.rising_of_wf hwf) hfind _ (State.mem_of_tcamHit hdflt hhj) hhj) (by simpa using hj)

end

/-- Settles O20: the retirement by whether a frame holds the version, and the lookup from the order of the listed entries. -/
theorem versionRetiresWhenUnheld : Obligations.VersionRetiresWhenUnheld := by
  refine ⟨fun s v hdrain hheld => ?_, fun s v hruns hdrain hheld hpend => ?_, fun e o v ho => e.visible_retire v ho,
    fun s p v key hwf hdflt => ?_⟩
  · exact exec_versionRetire_of_held hdrain hheld
  · exact (exec_versionRetire_of_unheld hdrain hruns hheld).trans (congrArg _ (State.commitPending_of_none hpend))
  · simp only [← State.tcamHit_iff]
    exact ⟨fun e he => State.tcamLookup_some hwf hdflt he, State.tcamLookup_none hdflt⟩

end Sys2Proof.Machine
end

section
/-! Commands of two stages (R422) and the ternary table (R90, R93): what a write of a command takes or refuses, the check and the effect at its
completion, and O21. -/

namespace Sys2Proof.Machine

/-! ### Commands taken and finished (R422) -/

section
variable {s : State} {done status : Fld} {code : Nat}

theorem State.startCmd_of_done (h : s.flag done = true) (k : State → State) : s.startCmd done status code k = k (s.setFld done 0) := if_pos h

theorem State.startCmd_of_running (h : s.flag done = false) (k : State → State) : s.startCmd done status code k = s.setFld status code :=
  if_neg (by rw [h]; exact Bool.false_ne_true)

/-- A command that has finished shows its status and done. -/
theorem State.finishCmd_shows (s : State) (hdone : done.lo = done.hi) (hdone' : done.hi < 64) (hst : status.lo ≤ status.hi) (hst' : status.hi < 64)
    (hapart : done.hi < status.lo ∨ status.hi < done.lo) (hcode : code < 2 ^ (status.hi + 1 - status.lo)) :
    (s.finishCmd done status code).flag done = true ∧ (s.finishCmd done status code).fld status = code := by
  have hle := Nat.le_of_eq hdone
  constructor
  · simp [State.finishCmd, State.flag, State.fld_setFld_self _ _ _ hle hdone', hdone]
  · rw [State.finishCmd, State.fld_setFld_of_disjoint _ _ hle hdone' hapart, State.fld_setFld_self _ _ _ hst hst', Nat.mod_eq_of_lt hcode]

end

/-! ### The ternary table (R90, R93) -/

theorem State.rul_hwUpdate (s : State) (k : State → State) : (s.hwUpdate k).rul = (k s).rul := by
  unfold State.hwUpdate
  refine foldl_keeps State.rul (fun _ _ => ?_) _ _
  rfl

theorem State.rul_putWords (s : State) (base n : Nat) (l : List Byte) : (s.putWords base n l).rul = s.rul := by
  induction n generalizing s base l with
  | zero => rfl
  | succ n ih => exact ih _ _ _

theorem State.rul_loadWdata (s : State) (e : TEntry) : (s.loadWdata e).rul = s.rul := by
  have hslots (u : State) : ((List.range 4).foldl (fun u i =>
      (u.setFld (Reg.RUL_TCAM_SLOT_word (2 * i)) (((e.slots[i]?).getD 0).toNat % 2 ^ 32)).setFld
        (Reg.RUL_TCAM_SLOT_word (2 * i + 1)) (((e.slots[i]?).getD 0).toNat >>> 32)) u).rul = u.rul :=
    foldl_keeps State.rul (fun _ _ => by simp only [State.setFld_rest]) _ u
  unfold State.loadWdata
  simp only [State.setReg_rest, hslots, State.rul_putWords]

section
variable {s : State} {op : Nat} {i : Fin 16384}

/-- The state when a ternary command has been taken at its write (R90). -/
def State.tcamTaken (s : State) (i op : Nat) : State := s.updRul fun r => { r with tcamCmd := some ⟨i, op, s.tcamWdata⟩ }

theorem State.tcamWrite_of_done (hop : op ≠ 3) (hdone : s.flag Reg.RUL_TCAM_STAT_done = true) (i : Nat) :
    s.tcamWrite i op = (s.setFld Reg.RUL_TCAM_STAT_done 0).tcamTaken i op :=
  (if_neg hop).trans (State.startCmd_of_done hdone _)

theorem State.tcamWrite_of_running (hop : op ≠ 3) (hrun : s.flag Reg.RUL_TCAM_STAT_done = false) (i : Nat) :
    s.tcamWrite i op = s.setFld Reg.RUL_TCAM_STAT_status 5 :=
  (if_neg hop).trans (State.startCmd_of_running hrun _)

/-- The three commands of the ternary table, by their ops. -/
theorem exec_tcam_of_busOk (hbus : s.busOk (some 1)) (i : Fin 16384) : exec (.tcamAdd i) s = .next (s.tcamWrite i.val 0) ∧
    exec (.tcamDelete i) s = .next (s.tcamWrite i.val 1) ∧ exec (.tcamRead i) s = .next (s.tcamWrite i.val 2) :=
  ⟨congrArg Host.Outcome.next (State.coreWrite_of_busOk hbus _), congrArg Host.Outcome.next (State.coreWrite_of_busOk hbus _),
    congrArg Host.Outcome.next (State.coreWrite_of_busOk hbus _)⟩

end

section
variable {s : State} {c : TcamCmd}

theorem State.tcamStatus_le (s : State) (c : TcamCmd) : s.tcamStatus c ≤ 4 := by
  simp only [State.tcamStatus]
  split_ifs <;> omega

theorem State.tcamStatus_read (hop : c.op = 2) : s.tcamStatus c = 0 := if_pos hop

theorem State.tcamStatus_frozen (hop : c.op ≠ 2) (hpend : s.rul.pending.isSome = true) : s.tcamStatus c = 4 := by
  simp only [State.tcamStatus, hop, hpend, if_true, if_false]

theorem State.tcamStatus_add (hop : c.op = 0) (hpend : s.rul.pending = none) :
    s.tcamStatus c = if (s.rul.tcam.get c.index).used = true then 1 else if badAction c.entry.slots = true then 3 else 0 := by
  simp [State.tcamStatus, hop, hpend]

theorem State.tcamStatus_delete (hop : c.op = 1) (hpend : s.rul.pending = none) :
    s.tcamStatus c = if (s.rul.tcam.get c.index).visible s.rul.oldest s.rul.staged = true then 0 else 2 := by
  simp [State.tcamStatus, hop, hpend]

/-- The entry an ADD writes (R90). -/
def TcamCmd.added (c : TcamCmd) (staged : Nat) : TEntry :=
  { c.entry with used := true, addVer := staged, addLive := true, delVer := 0, del := false }

/-- What a DELETE leaves of an entry: nothing of one added for the staged version, a mark on any other (R90). -/
def TEntry.deleted (e : TEntry) (staged : Nat) : TEntry :=
  if e.addVer = staged ∧ e.addLive = true then {} else { e with del := true, delVer := staged }

/-- The ternary table after a command whose checks passed. -/
def State.tcamAfter (s : State) (c : TcamCmd) : Tab TEntry :=
  if c.op = 2 then s.rul.tcam
  else if c.op = 0 then s.rul.tcam.set c.index (c.added s.rul.staged)
  else s.rul.tcam.set c.index ((s.rul.tcam.get c.index).deleted s.rul.staged)

theorem State.rul_tcamEffect (s : State) (c : TcamCmd) : (s.tcamEffect c).rul = { s.rul with tcam := s.tcamAfter c } := by
  unfold State.tcamEffect State.tcamAfter TEntry.deleted
  dsimp only
  split_ifs
  · rw [State.rul_hwUpdate, State.rul_loadWdata]
  · rfl
  · rfl
  · rfl

theorem State.get_tcamAfter_ne {j : Nat} (hj : j ≠ c.index) : (s.tcamAfter c).get j = s.rul.tcam.get j := by
  unfold State.tcamAfter
  split_ifs
  · rfl
  · exact Tab.get_set_ne _ _ hj
  · exact Tab.get_set_ne _ _ hj

theorem State.get_tcamAfter_add (hop : c.op = 0) : (s.tcamAfter c).get c.index = c.added s.rul.staged := by
  simp [State.tcamAfter, hop]

theorem State.get_tcamAfter_delete (hop : c.op = 1) : (s.tcamAfter c).get c.index = (s.rul.tcam.get c.index).deleted s.rul.staged := by
  simp [State.tcamAfter, hop]

/-- A ternary command completes: its status and done are shown, and the table changes only where its checks passed. -/
theorem exec_tcamCmdComplete (hruns : s.runs (some 1) = true) (hcmd : s.rul.tcamCmd = some c) :
    ∃ t, exec .tcamCmdComplete s = .next t ∧ t.flag Reg.RUL_TCAM_STAT_done = true ∧ t.fld Reg.RUL_TCAM_STAT_status = s.tcamStatus c ∧
      t.rul = { s.rul with tcamCmd := none, tcam := if s.tcamStatus c = 0 then s.tcamAfter c else s.rul.tcam } := by
  have hexec : exec .tcamCmdComplete s = .next ((if s.tcamStatus c = 0 then (s.updRul fun r => { r with tcamCmd := none }).tcamEffect c
      else s.updRul fun r => { r with tcamCmd := none }).finishCmd Reg.RUL_TCAM_STAT_done Reg.RUL_TCAM_STAT_status (s.tcamStatus c)) := by
    show execTcamCmdComplete s = _
    rw [execTcamCmdComplete, State.whenRuns_of_runs hruns, hcmd]
  have hcode : s.tcamStatus c < 2 ^ (Reg.RUL_TCAM_STAT_status.hi + 1 - Reg.RUL_TCAM_STAT_status.lo) :=
    (s.tcamStatus_le c).trans_lt (by decide)
  obtain ⟨hflag, hfld⟩ := State.finishCmd_shows _ (done := Reg.RUL_TCAM_STAT_done) rfl (by decide) (by decide) (by decide) (by decide) hcode
  refine ⟨_, hexec, hflag, hfld, ?_⟩
  show State.rul (if s.tcamStatus c = 0 then _ else _) = _
  split
  · exact State.rul_tcamEffect _ c
  · rfl

end

/-- Settles O21: the writes by whether a command runs; the completion from the status of each op and from the table it leaves. -/
theorem ternaryCommandsTwoStages : Obligations.TernaryCommandsTwoStages := by
  refine ⟨fun i s hbus => ?_, fun s c hruns hcmd => ?_⟩
  · obtain ⟨hadd, hdel, hread⟩ := exec_tcam_of_busOk hbus i
    rw [hadd, hdel, hread]
    refine ⟨fun hdone => ?_, fun hrun => ?_⟩
    · simp only [State.tcamWrite_of_done (by decide : (0 : Nat) ≠ 3) hdone, State.tcamWrite_of_done (by decide : (1 : Nat) ≠ 3) hdone,
        State.tcamWrite_of_done (by decide : (2 : Nat) ≠ 3) hdone]
      exact ⟨rfl, rfl, rfl⟩
    · simp only [State.tcamWrite_of_running (by decide : (0 : Nat) ≠ 3) hrun, State.tcamWrite_of_running (by decide : (1 : Nat) ≠ 3) hrun,
        State.tcamWrite_of_running (by decide : (2 : Nat) ≠ 3) hrun, and_self]
  · obtain ⟨t, hexec, hdone, hstatus, hrul⟩ := exec_tcamCmdComplete hruns hcmd
    have htcam : t.rul.tcam = if s.tcamStatus c = 0 then s.tcamAfter c else s.rul.tcam := by rw [hrul]
    have hok (h : s.tcamStatus c = 0) : t.rul.tcam = s.tcamAfter c := htcam.trans (if_pos h)
    have hbad (h : s.tcamStatus c ≠ 0) : t.rul.tcam = s.rul.tcam := htcam.trans (if_neg h)
    refine ⟨t, hexec, by rw [hrul], hdone, hstatus, fun j hj => ?_, hbad, fun hop => ?_, State.tcamStatus_frozen, fun hop hpend hused => ?_,
      fun hop hpend hused => ⟨fun hact => ?_, fun hact => ?_⟩, fun hop hpend hvis => ?_, fun hop hpend hvis => ?_⟩
    · by_cases h : s.tcamStatus c = 0
      · rw [hok h, State.get_tcamAfter_ne hj]
      · rw [hbad h]
    · exact ⟨State.tcamStatus_read hop, (hok (State.tcamStatus_read hop)).trans (if_pos hop)⟩
    · rw [State.tcamStatus_add hop hpend, if_pos hused]
    · rw [State.tcamStatus_add hop hpend, if_neg (by simp [hused]), if_pos hact]
    · have h : s.tcamStatus c = 0 := by rw [State.tcamStatus_add hop hpend, if_neg (by simp [hused]), if_neg (by simp [hact])]
      exact ⟨h, by rw [hok h, State.get_tcamAfter_add hop]; rfl⟩
    · rw [State.tcamStatus_delete hop hpend, if_neg (by simp [hvis])]
    · have h : s.tcamStatus c = 0 := by rw [State.tcamStatus_delete hop hpend, if_pos hvis]
      rw [hok h, State.get_tcamAfter_delete hop]
      rfl

end Sys2Proof.Machine
end

section
/-! The stream table (R84, R85, R91): the entry of a key in a table of two-choice buckets, what placing, replacing and removing an entry does to
every lookup, the commands, and O22. -/

namespace Sys2Proof.Machine

/-! ### A bucket -/

/-- The entry of a key in a bucket. -/
def bucketFind (l : List StreamEntry) (k : Nat) : Option StreamEntry := l.find? fun e => e.key == k

/-- A bucket with the entry of a key replaced or, for `none`, removed. -/
def bucketReplace (k : Nat) (e : Option StreamEntry) (l : List StreamEntry) : List StreamEntry :=
  l.filterMap fun x => if x.key = k then e else some x

theorem bucketFind_cons (x : StreamEntry) (l : List StreamEntry) (k : Nat) :
    bucketFind (x :: l) k = if x.key = k then some x else bucketFind l k := by
  by_cases h : x.key = k <;> simp [bucketFind, h]

theorem bucketFind_append_ne (l : List StreamEntry) {e : StreamEntry} {k : Nat} (h : k ≠ e.key) : bucketFind (l ++ [e]) k = bucketFind l k := by
  simp [bucketFind, List.find?_append, Ne.symm h]

theorem bucketFind_append_self {l : List StreamEntry} {e : StreamEntry} (h : bucketFind l e.key = none) : bucketFind (l ++ [e]) e.key = some e := by
  rw [bucketFind] at h
  simp [bucketFind, List.find?_append, h]

section
variable {k : Nat} {e : Option StreamEntry} {x : StreamEntry}

theorem bucketReplace_cons_self (hx : x.key = k) (l : List StreamEntry) : bucketReplace k e (x :: l) = e.toList ++ bucketReplace k e l := by
  cases e <;> simp [bucketReplace, hx]

theorem bucketReplace_cons_ne (hx : x.key ≠ k) (l : List StreamEntry) : bucketReplace k e (x :: l) = x :: bucketReplace k e l := by
  simp [bucketReplace, hx]

variable (he : ∀ y ∈ e, y.key = k)
include he

theorem bucketFind_replace_ne (l : List StreamEntry) {j : Nat} (h : j ≠ k) : bucketFind (bucketReplace k e l) j = bucketFind l j := by
  induction l with
  | nil => rfl
  | cons x r ih =>
    by_cases hx : x.key = k
    · rw [bucketReplace_cons_self hx, bucketFind_cons, if_neg (hx.trans_ne h.symm), ← ih]
      cases e with
      | none => rfl
      | some y => exact (bucketFind_cons y _ j).trans (if_neg ((he y rfl).trans_ne h.symm))
    · rw [bucketReplace_cons_ne hx, bucketFind_cons, bucketFind_cons, ih]

/-- Where the key was found its new entry is, and nothing where it was not. -/
theorem bucketFind_replace_self (l : List StreamEntry) : bucketFind (bucketReplace k e l) k = (bucketFind l k).bind fun _ => e := by
  induction l with
  | nil => rfl
  | cons x r ih =>
    by_cases hx : x.key = k
    · rw [bucketReplace_cons_self hx, bucketFind_cons, if_pos hx]
      cases e with
      | none => exact ih.trans (Option.bind_fun_none _)
      | some y => exact (bucketFind_cons y _ k).trans (if_pos (he y rfl))
    · rw [bucketReplace_cons_ne hx, bucketFind_cons, bucketFind_cons, if_neg hx, if_neg hx, ih]

end

/-! ### The table (R84) -/

/-- The entry of a key in a table. -/
def emFindIn (em : Tab (List StreamEntry)) (k : Nat) : Option StreamEntry := (bucketFind (em.get (emB0 k)) k).or (bucketFind (em.get (emB1 k)) k)

theorem State.emFind_eq (s : State) (k : Nat) : s.emFind k = emFindIn s.rul.em k := by
  unfold State.emFind emFindIn bucketFind
  split <;> simp [*]

/-- A table with a bucket changed answers as before for a key whose entries the change keeps. -/
theorem emFindIn_upd {em : Tab (List StreamEntry)} {b k : Nat} {f : List StreamEntry → List StreamEntry}
    (h : ∀ l, bucketFind (f l) k = bucketFind l k) : emFindIn (em.upd b f) k = emFindIn em k := by
  have hget (a : Nat) : bucketFind ((em.upd b f).get a) k = bucketFind (em.get a) k := by
    rw [Tab.get_upd]
    split
    next hab => rw [hab, h]
    next => rfl
  rw [emFindIn, emFindIn, hget, hget]

/-- The table with the entry of a key replaced or removed. -/
def emReplaced (em : Tab (List StreamEntry)) (k : Nat) (e : Option StreamEntry) : Tab (List StreamEntry) :=
  (em.upd (emB0 k) (bucketReplace k e)).upd (emB1 k) (bucketReplace k e)

section
variable {em : Tab (List StreamEntry)} {k : Nat} {e : Option StreamEntry} (he : ∀ x ∈ e, x.key = k)
include he

theorem emFindIn_replaced_ne {j : Nat} (h : j ≠ k) : emFindIn (emReplaced em k e) j = emFindIn em j :=
  (emFindIn_upd fun l => bucketFind_replace_ne he l h).trans (emFindIn_upd fun l => bucketFind_replace_ne he l h)

/-- Replacing twice finds what replacing once finds: the two buckets of a key may be one. -/
theorem bucketFind_replaced {b : Nat} (hb : b = emB0 k ∨ b = emB1 k) :
    bucketFind ((emReplaced em k e).get b) k = (bucketFind (em.get b) k).bind fun _ => e := by
  have hone := bucketFind_replace_self he
  have htwo (l : List StreamEntry) : bucketFind (bucketReplace k e (bucketReplace k e l)) k = (bucketFind l k).bind fun _ => e := by
    rw [hone, hone]
    cases bucketFind l k <;> cases e <;> rfl
  rw [emReplaced, Tab.get_upd, Tab.get_upd, Tab.get_upd]
  by_cases h1 : b = emB1 k <;> by_cases h2 : emB1 k = emB0 k
  · rw [if_pos h1, if_pos h2, htwo, h1, h2]
  · rw [if_pos h1, if_neg h2, hone, h1]
  · have h0 := hb.resolve_right h1
    exact absurd (h0.trans h2.symm) h1
  · have h0 := hb.resolve_right h1
    rw [if_neg h1, if_pos h0, hone, h0]

theorem emFindIn_replaced_self : emFindIn (emReplaced em k e) k = (emFindIn em k).bind fun _ => e := by
  rw [emFindIn, bucketFind_replaced he (.inl rfl), bucketFind_replaced he (.inr rfl), emFindIn]
  cases bucketFind (em.get (emB0 k)) k <;> cases bucketFind (em.get (emB1 k)) k <;> cases e <;> rfl

end

/-- A new entry is found in whichever of its buckets it was placed. -/
theorem emFindIn_placed {em : Tab (List StreamEntry)} {b : Nat} {e : StreamEntry} (hb : b = emB0 e.key ∨ b = emB1 e.key)
    (hnew : emFindIn em e.key = none) : emFindIn (em.upd b fun l => l ++ [e]) e.key = some e := by
  obtain ⟨h0, h1⟩ := Option.or_eq_none_iff.1 hnew
  rw [emFindIn, Tab.get_upd, Tab.get_upd]
  by_cases hb0 : emB0 e.key = b
  · rw [if_pos hb0, ← hb0, bucketFind_append_self h0]
    rfl
  · have hb1 := (hb.resolve_left (Ne.symm hb0)).symm
    rw [if_neg hb0, h0, if_pos hb1, ← hb1, bucketFind_append_self h1]
    rfl

/-! ### The commands (R91) -/

section
variable {s : State} {c : EmCmd}

theorem State.emStatus_le (s : State) (c : EmCmd) : s.emStatus c ≤ 4 := by
  simp only [State.emStatus]
  split_ifs <;> omega

theorem State.emStatus_bad (hop : c.op ≠ 2) (hbad : c.entry.bad = true) : s.emStatus c = 4 := if_pos ⟨hop, hbad⟩

theorem State.emStatus_insert (hop : c.op = 0) (hgood : c.entry.bad = false) : s.emStatus c =
    if (s.emFind c.entry.key).isSome = true then 1
    else if 8 ≤ (s.rul.em.get (emB0 c.entry.key)).length ∧ 8 ≤ (s.rul.em.get (emB1 c.entry.key)).length then 3 else 0 := by
  simp [State.emStatus, hop, hgood]

theorem State.emStatus_present (hop : c.op = 1 ∧ c.entry.bad = false ∨ c.op = 2) :
    s.emStatus c = if (s.emFind c.entry.key).isSome = true then 0 else 2 := by
  rcases hop with ⟨hop, hgood⟩ | hop
  · simp [State.emStatus, hop, hgood]
  · simp [State.emStatus, hop]

theorem EmCmd.good_of_emStatus_zero (h : s.emStatus c = 0) (hop : c.op ≠ 2) : c.entry.bad = false := by
  by_contra hbad
  rw [State.emStatus_bad hop (Bool.not_eq_false _ ▸ hbad)] at h
  cases h

/-- An INSERT that completes OK had no entry of its key. -/
theorem State.emFind_of_insert_ok (h : s.emStatus c = 0) (hop : c.op = 0) : s.emFind c.entry.key = none := by
  rw [State.emStatus_insert hop (EmCmd.good_of_emStatus_zero h (by omega))] at h
  by_contra hsome
  rw [if_pos (Option.isSome_iff_ne_none.2 hsome)] at h
  cases h

/-- A MODIFY or DELETE that completes OK had an entry of its key. -/
theorem State.emFind_of_present_ok (h : s.emStatus c = 0) (hop : c.op = 1 ∨ c.op = 2) : ∃ e, s.emFind c.entry.key = some e := by
  have hpresent : c.op = 1 ∧ c.entry.bad = false ∨ c.op = 2 := hop.imp_left fun h1 => ⟨h1, EmCmd.good_of_emStatus_zero h (by omega)⟩
  rw [State.emStatus_present hpresent] at h
  refine Option.isSome_iff_exists.1 ?_
  by_contra hnone
  rw [if_neg hnone] at h
  cases h

/-- The stream table after a command whose checks passed. -/
def State.emAfter (s : State) (c : EmCmd) : Tab (List StreamEntry) :=
  if c.op = 0 then
    s.rul.em.upd (if (s.rul.em.get (emB1 c.entry.key)).length < (s.rul.em.get (emB0 c.entry.key)).length then emB1 c.entry.key
      else emB0 c.entry.key) fun l => l ++ [c.entry]
  else emReplaced s.rul.em c.entry.key (if c.op = 1 then some c.entry else none)

theorem State.rul_emEffect (s : State) (c : EmCmd) :
    (s.emEffect c).rul.em = s.emAfter c ∧ (s.emEffect c).rul.emCmd = s.rul.emCmd := by
  unfold State.emEffect State.emAfter
  dsimp only
  split_ifs
  · exact ⟨rfl, rfl⟩
  · exact ⟨rfl, rfl⟩
  · exact ⟨rfl, rfl⟩
  · exact ⟨rfl, rfl⟩

theorem EmCmd.key_of_mem_put (c : EmCmd) : ∀ x ∈ (if c.op = 1 then some c.entry else none), x.key = c.entry.key := by
  intro x hx
  split at hx
  · rw [Option.mem_some_iff.1 hx]
  · cases hx

theorem State.emFindIn_after_ne {k : Nat} (hk : k ≠ c.entry.key) : emFindIn (s.emAfter c) k = emFindIn s.rul.em k := by
  unfold State.emAfter
  split
  · exact emFindIn_upd fun l => bucketFind_append_ne l hk
  · exact emFindIn_replaced_ne c.key_of_mem_put hk

theorem State.emFindIn_after_insert (hop : c.op = 0) (hnew : s.emFind c.entry.key = none) : emFindIn (s.emAfter c) c.entry.key = some c.entry := by
  rw [State.emAfter, if_pos hop]
  refine emFindIn_placed ?_ (s.emFind_eq _ ▸ hnew)
  split
  · exact .inr rfl
  · exact .inl rfl

theorem State.emFindIn_after_present (hop : c.op ≠ 0) {e : StreamEntry} (hold : s.emFind c.entry.key = some e) :
    emFindIn (s.emAfter c) c.entry.key = if c.op = 1 then some c.entry else none := by
  rw [State.emAfter, if_neg hop, emFindIn_replaced_self c.key_of_mem_put, ← s.emFind_eq, hold]
  rfl

/-- A stream-table command completes: its status and done are shown, and the table changes only where its checks passed. -/
theorem exec_emCmdComplete (hruns : s.runs (some 1) = true) (hcmd : s.rul.emCmd = some c) :
    ∃ t, exec .emCmdComplete s = .next t ∧ t.flag Reg.RUL_EM_STAT_done = true ∧ t.fld Reg.RUL_EM_STAT_status = s.emStatus c ∧
      t.rul.emCmd = none ∧ t.rul.em = if s.emStatus c = 0 then s.emAfter c else s.rul.em := by
  have hexec : exec .emCmdComplete s = .next ((if s.emStatus c = 0 then (s.updRul fun r => { r with emCmd := none }).emEffect c
      else s.updRul fun r => { r with emCmd := none }).finishCmd Reg.RUL_EM_STAT_done Reg.RUL_EM_STAT_status (s.emStatus c)) := by
    show execEmCmdComplete s = _
    rw [execEmCmdComplete, State.whenRuns_of_runs hruns, hcmd]
  have hcode : s.emStatus c < 2 ^ (Reg.RUL_EM_STAT_status.hi + 1 - Reg.RUL_EM_STAT_status.lo) := (s.emStatus_le c).trans_lt (by decide)
  obtain ⟨hflag, hfld⟩ := State.finishCmd_shows _ (done := Reg.RUL_EM_STAT_done) rfl (by decide) (by decide) (by decide) (by decide) hcode
  obtain ⟨hem, hnone⟩ := State.rul_emEffect (s.updRul fun r => { r with emCmd := none }) c
  refine ⟨_, hexec, hflag, hfld, ?_, ?_⟩
  · show (State.rul (if s.emStatus c = 0 then _ else _)).emCmd = none
    split
    · exact hnone
    · rfl
  · show (State.rul (if s.emStatus c = 0 then _ else _)).em = _
    split
    · exact hem
    · rfl

/-- The state when a stream-table command has been taken at its write (R91). -/
def State.emTaken (s : State) (op : Nat) : State :=
  s.updRul fun r => { r with emCmd := some ⟨op, ⟨(List.range 8).map fun i => BitVec.ofNat 32 (s.fld (Reg.RUL_EM_DATA_word i))⟩⟩ }

theorem State.emWrite_of_done {op : Nat} (hop : op ≠ 3) (hdone : s.flag Reg.RUL_EM_STAT_done = true) :
    s.emWrite op = (s.setFld Reg.RUL_EM_STAT_done 0).emTaken op :=
  (if_neg hop).trans (State.startCmd_of_done hdone _)

theorem State.emWrite_of_running {op : Nat} (hop : op ≠ 3) (hrun : s.flag Reg.RUL_EM_STAT_done = false) :
    s.emWrite op = s.setFld Reg.RUL_EM_STAT_status 5 :=
  (if_neg hop).trans (State.startCmd_of_running hrun _)

/-- The three commands of the stream table, by their ops. -/
theorem exec_em_of_busOk (hbus : s.busOk (some 1)) : exec .emInsert s = .next (s.emWrite 0) ∧ exec .emModify s = .next (s.emWrite 1) ∧
    exec .emDelete s = .next (s.emWrite 2) :=
  ⟨congrArg Host.Outcome.next (State.coreWrite_of_busOk hbus _), congrArg Host.Outcome.next (State.coreWrite_of_busOk hbus _),
    congrArg Host.Outcome.next (State.coreWrite_of_busOk hbus _)⟩

end

/-- Settles O22: the writes by whether a command runs; the completion from the status of each op and from what is found in the table it leaves. -/
theorem streamTableCommands : Obligations.StreamTableCommands := by
  refine ⟨fun s hbus => ?_, fun s c hruns hcmd hops => ?_⟩
  · obtain ⟨hins, hmod, hdel⟩ := exec_em_of_busOk hbus
    rw [hins, hmod, hdel]
    refine ⟨fun hdone => ?_, fun hrun => ?_⟩
    · rw [State.emWrite_of_done (by decide) hdone, State.emWrite_of_done (by decide) hdone, State.emWrite_of_done (by decide) hdone]
      exact ⟨rfl, rfl, rfl⟩
    · rw [State.emWrite_of_running (by decide) hrun, State.emWrite_of_running (by decide) hrun, State.emWrite_of_running (by decide) hrun]
      exact ⟨rfl, rfl, rfl⟩
  · obtain ⟨t, hexec, hdone, hstatus, hnone, hem⟩ := exec_emCmdComplete hruns hcmd
    have hok (h : s.emStatus c = 0) (k : Nat) : t.emFind k = emFindIn (s.emAfter c) k := by rw [t.emFind_eq, hem, if_pos h]
    have hbad (h : s.emStatus c ≠ 0) : t.rul.em = s.rul.em := hem.trans (if_neg h)
    refine ⟨t, hexec, hnone, hdone, hstatus, fun k hk => ?_, hbad, fun h hop => ?_, fun h hop => ?_, State.emStatus_bad, fun hop hgood hsome => ?_,
      fun hop hmiss => ?_, fun hop hgood hmiss h0 h1 => ?_⟩
    · by_cases h : s.emStatus c = 0
      · rw [hok h, State.emFindIn_after_ne hk, s.emFind_eq]
      · rw [t.emFind_eq, hbad h, s.emFind_eq]
    · rw [hok h]
      by_cases h0 : c.op = 0
      · exact State.emFindIn_after_insert h0 (State.emFind_of_insert_ok h h0)
      · have h1 : c.op = 1 := by omega
        obtain ⟨e, he⟩ := State.emFind_of_present_ok h (.inl h1)
        rw [State.emFindIn_after_present h0 he, if_pos h1]
    · obtain ⟨e, he⟩ := State.emFind_of_present_ok h (.inr hop)
      rw [hok h, State.emFindIn_after_present (by omega) he, if_neg (by omega)]
    · rw [State.emStatus_insert hop hgood, if_pos hsome]
    · rw [State.emStatus_present hop, hmiss]
      rfl
    · rw [State.emStatus_insert hop hgood, hmiss, if_neg (by simp), if_pos ⟨h0, h1⟩]

end Sys2Proof.Machine
end

section
/-! Stream lookups (R91, R95, R276): what an exception copy and the end of a segment leave as they were, the branches of a lookup, the fill of the
stream cache, and O23. -/

namespace Sys2Proof.Machine

/-! ### What the work of a lookup leaves alone -/

/-- The rule tables and the front end. -/
def State.lookupSide (s : State) : RulSt × SfeSt := (s.rul, s.sfe)

theorem State.lookupSide_of_sansHost_eq {s t : State} (h : t.sansHost = s.sansHost) : t.lookupSide = s.lookupSide := (congrArg State.lookupSide h :)

/-- What `State.sansHost_deliverCopy` says of the rule tables and the front end, of any function in its place (see `CopyKept`). -/
def CopyKeepsLookupSide (copy : State → Nat → Nat → List Byte → DWord → Nat → Bool × State) : Prop :=
  ∀ t q kind content value info, (copy t q kind content value info).2.lookupSide = t.lookupSide

theorem copyKeepsLookupSide_deliverCopy : CopyKeepsLookupSide @State.deliverCopy := fun t q kind content value info =>
  (t.sansHost_deliverCopy q kind content value info).elim State.lookupSide_of_sansHost_eq State.lookupSide_of_sansHost_eq

section
variable (s : State)

theorem State.lookupSide_bumpIf (b : Bool) (a : Nat) : (s.bumpIf b a).lookupSide = s.lookupSide := by cases b <;> rfl

theorem State.lookupSide_excCopy (c : Nat) (content : List Byte) (value : DWord) (info : Nat) :
    (s.excCopy c content value info).lookupSide = s.lookupSide := by
  have hd := copyKeepsLookupSide_deliverCopy
  generalize hf : @State.excCopy = exc
  delta State.excCopy at hf
  subst hf
  generalize @Bucket.take = take, @State.deliverCopy = copy at hd ⊢
  revert take copy
  refine id fun take copy hd => ?_
  dsimp only
  split
  · rw [State.lookupSide_bumpIf, hd]
    rfl
  · rfl

/-- An exception copy counts nothing but copies that were dropped. -/
theorem State.regsBut_excCopy (c : Nat) (content : List Byte) (value : DWord) (info : Nat) :
    regsBut s (s.excCopy c content value info) copyDropCounters := (State.TailWork.refl 0 s).excCopy.counters

theorem State.sansHost_segDiscard (i reason : Nat) :
    (s.segDiscard i reason).sansHost = (s.updSeg i fun g => { g with st := .done }).sansHost := by
  unfold State.segDiscard
  dsimp only
  split
  · rfl
  · exact State.sansHost_completeDesc _ _ _ _ _ _

theorem State.sansMac_segClassified (i : Nat) : (s.segClassified i).sansMac = s.sansMac := by
  unfold State.segClassified
  split
  · rfl
  · exact State.sansMac_releaseVer _ _

end

/-- What waits for a lookup, what waits for HBM, and the keys in the stream cache. -/
def State.lineUps (s : State) : List Nat × List Nat × List Nat := (s.rul.lookups, s.rul.misses, s.rul.emCache)

theorem State.lineUps_of_rul_eq {s t : State} (h : t.rul = s.rul) : t.lineUps = s.lineUps := by
  rw [State.lineUps, h]
  rfl

theorem State.of_lineUps_eq {s t : State} (h : t.lineUps = s.lineUps) :
    t.rul.lookups = s.rul.lookups ∧ t.rul.misses = s.rul.misses ∧ t.rul.emCache = s.rul.emCache := by
  simpa only [State.lineUps, Prod.mk.injEq] using h

/-! ### A lookup without an entry (R91) -/

section
variable (s : State) (i : Nat)

/-- A lookup that finds no entry, before its segment is discarded: it is counted and, where the INFER action asks for it, copied. -/
def State.missCounted : State :=
  let u := s.bump Reg.RUL_EM_MISS
  match (s.seg i).frame with
  | some f =>
    if (s.seg i).missCopy then
      u.excCopy 2 ((u.frame f).prv ++ slice (u.frame f).bytes ((s.seg i).off - 16) 16) (u.frame f).stamp (u.frame f).copyInfo
    else u
  | none => u

theorem State.lookupSide_missCounted : (s.missCounted i).lookupSide = s.lookupSide := by
  unfold State.missCounted
  dsimp only
  split
  · split
    · exact State.lookupSide_excCopy _ _ _ _ _
    · rfl
  · rfl

theorem State.reg_missCounted {a : Nat} (ha : a ∉ copyDropCounters) : (s.missCounted i).reg a = (s.bump Reg.RUL_EM_MISS).reg a := by
  unfold State.missCounted
  dsimp only
  split
  · split
    · exact State.regsBut_excCopy _ _ _ _ _ a ha
    · rfl
  · rfl

/-- The end of a lookup without an entry: the segment is done. -/
def State.missDone : State := ((s.missCounted i).segDiscard i 1).segClassified i

theorem State.missDone_keeps : (s.missDone i).rul = s.rul ∧ (s.missDone i).sfe = (s.updSeg i fun g => { g with st := .done }).sfe ∧
    ∀ a, (s.missDone i).reg a = (s.missCounted i).reg a := by
  have hmac := State.sansMac_segClassified ((s.missCounted i).segDiscard i 1) i
  have hhost := State.sansHost_segDiscard (s.missCounted i) i 1
  have hside := s.lookupSide_missCounted i
  have hrul : (s.missCounted i).rul = s.rul := congrArg Prod.fst hside
  have hsfe : (s.missCounted i).sfe = s.sfe := congrArg Prod.snd hside
  refine ⟨(congrArg State.rul hmac).trans ((State.rul_of_sansHost_eq hhost).trans hrul), ?_, fun a => ?_⟩
  · refine (congrArg State.sfe hmac).trans ((State.sfe_of_sansHost_eq hhost).trans ?_)
    exact congrArg (fun x : SfeSt => { x with segs := x.segs.upd i fun g => { g with st := .done } }) hsfe
  · exact (congrArg (fun u : State => u.reg a) hmac).trans (State.reg_of_sansHost_eq hhost a)

/-! ### A lookup with an entry (R95, R276) -/

/-- A hit is counted, and in the counters of its entry where that asks for it. -/
def State.hitCounted (e : StreamEntry) : State :=
  let u := s.bump Reg.RUL_EM_HITS
  if e.cntEn then (u.countAdd e.cntIndex 1).countAdd (e.cntIndex + 1) (s.seg i).len else u

/-- A lookup that finds an entry is counted, and its segment takes the entry and a model. -/
def State.hitTaken (e : StreamEntry) (h : Nat) : State :=
  let u := s.hitCounted i e
  u.updSeg i fun g => { g with entry := e, model := h, prof := u.sfe.profiles.get e.norm }

/-- A segment whose model its domain may use goes on to the front end (R95). -/
def State.toFrontEnd : State :=
  let u := s.updSeg i fun g => { g with st := .admission }
  { u with sfe := { u.sfe with queue := u.sfe.queue ++ [i] } }

/-- A segment whose model its domain may not use is answered DENIED (R276). -/
def State.deniedDone : State := (s.sendResult i 2 0 false).segClassified i

theorem State.lineUps_countAdd (k n : Nat) : (s.countAdd k n).lineUps = s.lineUps := by
  unfold State.countAdd State.lineUps State.updRul
  dsimp only
  split <;> rfl

/-- A hit that is taken leaves what waits, the results and the rights of the domains as they were, and counts in one register. -/
theorem State.hitTaken_keeps (e : StreamEntry) (h : Nat) : (s.hitTaken i e h).lineUps = s.lineUps ∧
    (s.hitTaken i e h).sfe.queue = s.sfe.queue ∧ (s.hitTaken i e h).erp = s.erp ∧ (s.hitTaken i e h).hif = s.hif ∧
    (s.hitTaken i e h).regs = (s.bump Reg.RUL_EM_HITS).regs := by
  unfold State.hitTaken State.hitCounted
  dsimp only
  split
  · exact ⟨(State.lineUps_countAdd _ _ _).trans (State.lineUps_countAdd _ _ _), rfl, rfl, rfl, rfl⟩
  · exact ⟨rfl, rfl, rfl, rfl, rfl⟩

theorem State.seg_hitTaken (e : StreamEntry) (h : Nat) : ((s.hitTaken i e h).seg i).entry = e ∧ ((s.hitTaken i e h).seg i).model = h := by
  unfold State.hitTaken
  simp only [State.seg_updSeg_self, and_self]

theorem State.seg_toFrontEnd : (s.toFrontEnd i).seg i = { s.seg i with st := .admission } := State.seg_updSeg_self s i _

theorem State.deniedDone_keeps : (s.deniedDone i).rul = s.rul ∧ (s.deniedDone i).sfe = (s.updSeg i fun g => { g with st := .done }).sfe ∧
    (s.deniedDone i).regs = s.regs := by
  have hmac := State.sansMac_segClassified (s.sendResult i 2 0 false) i
  exact ⟨(congrArg State.rul hmac :), (congrArg State.sfe hmac :), (congrArg State.regs hmac :)⟩

theorem State.deniedDone_answers : ∃ x, (s.deniedDone i).erp.results = s.erp.results ++ [x] ∧ x.rstat = 2 ∧ x.result = 0 ∧ x.seg = i := by
  have hmac := State.sansMac_segClassified (s.sendResult i 2 0 false) i
  exact ⟨_, (congrArg (fun u : State => u.erp.results) hmac :), rfl, rfl, rfl⟩

end

/-! ### The branches of a lookup -/

/-- The model a segment asks for: the bundle's hint where its entry allows one, and the entry's otherwise (R95). -/
def Seg.askedModel (g : Seg) (e : StreamEntry) : Nat := if e.hintOk && decide (g.hint ≠ 0) then g.hint else e.model

theorem Seg.askedModel_of_no_hint {g : Seg} {e : StreamEntry} (h : e.hintOk = false ∨ g.hint = 0) : g.askedModel e = e.model := by
  rcases h with h | h <;> simp [Seg.askedModel, h]

section
variable {s : State} {i : Nat}

theorem State.finishLookup_of_none (h : s.emFind ((s.seg i).ns <<< 32 + (s.seg i).streamId.toNat) = none) : s.finishLookup i = s.missDone i := by
  unfold State.finishLookup
  dsimp only
  rw [h]
  rfl

theorem State.finishLookup_of_some {e : StreamEntry} (h : s.emFind ((s.seg i).ns <<< 32 + (s.seg i).streamId.toNat) = some e) :
    s.finishLookup i = if (s.domRights e.domain).hasHandle ((s.seg i).askedModel e) then
      (s.hitTaken i e ((s.seg i).askedModel e)).toFrontEnd i else (s.hitTaken i e ((s.seg i).askedModel e)).deniedDone i := by
  obtain ⟨-, -, -, hhif, -⟩ := s.hitTaken_keeps i e ((s.seg i).askedModel e)
  have hrights : (s.hitTaken i e ((s.seg i).askedModel e)).domRights e.domain = s.domRights e.domain :=
    congrArg (fun x : HifSt => (x.doms.get e.domain).rights) hhif
  rw [← hrights]
  unfold State.finishLookup
  dsimp only
  rw [h]
  rfl

/-- A lookup whose entry is read now takes nothing from the lists of what waits, nor from the cache. -/
theorem State.lineUps_finishLookup (s : State) (i : Nat) : (s.finishLookup i).lineUps = s.lineUps := by
  cases h : s.emFind ((s.seg i).ns <<< 32 + (s.seg i).streamId.toNat) with
  | none =>
    rw [State.finishLookup_of_none h]
    obtain ⟨hrul, -, -⟩ := s.missDone_keeps i
    exact State.lineUps_of_rul_eq hrul
  | some e =>
    obtain ⟨hhit, -, -, -, -⟩ := s.hitTaken_keeps i e ((s.seg i).askedModel e)
    obtain ⟨hrul, -, -⟩ := (s.hitTaken i e ((s.seg i).askedModel e)).deniedDone_keeps i
    rw [State.finishLookup_of_some h]
    split
    · exact hhit
    · exact (State.lineUps_of_rul_eq hrul).trans hhit

/-- The segment of a lookup, taken from the line with the namespace of its INFER (R95). -/
def State.lookupTaken (s : State) (i : Nat) (l : List Nat) (ns : Nat) (mc : Bool) : State :=
  (s.updRul fun r => { r with lookups := l }).updSeg i fun g => { g with ns := ns, missCopy := mc }

/-- A segment whose key is not in the stream cache waits for its bucket from HBM (R91). -/
def State.cacheMissed (s : State) (i : Nat) : State :=
  ((s.updSeg i fun g => { g with st := .miss }).updRul fun r => { r with misses := r.misses ++ [i] }).bump Reg.RUL_EM_CACHE_MISS

variable {l : List Nat} {ns : Nat} {mc : Bool} (hruns : s.runs (some 1) = true) (hline : s.rul.lookups = i :: l)
  (hready : s.lookupReady i = true) (hns : s.segNs i = some (ns, mc))

theorem State.seg_lookupTaken : (s.lookupTaken i l ns mc).seg i = { s.seg i with ns := ns, missCopy := mc } := State.seg_updSeg_self _ _ _

include hruns hline hready hns

theorem exec_streamLookup : exec .streamLookup s =
    .next (if s.rul.emCache.contains (ns <<< 32 + (s.seg i).streamId.toNat) then (s.lookupTaken i l ns mc).finishLookup i
      else (s.lookupTaken i l ns mc).cacheMissed i) := by
  have hfirst : takeFirst s.lookupReady s.rul.lookups = some (i, l) := by rw [hline, takeFirst, if_pos hready]
  have hns' : (s.updRul fun r => { r with lookups := l }).segNs i = some (ns, mc) := hns
  show execStreamLookup s = _
  rw [execStreamLookup, State.whenRuns_of_runs hruns, hfirst]
  simp only [hns']
  rw [State.seg_updSeg_self]
  rfl

variable (hcached : s.rul.emCache.contains (ns <<< 32 + (s.seg i).streamId.toNat) = true)
include hcached

theorem exec_streamLookup_of_none (hmiss : s.emFind (ns <<< 32 + (s.seg i).streamId.toNat) = none) :
    exec .streamLookup s = .next ((s.lookupTaken i l ns mc).missDone i) := by
  rw [exec_streamLookup hruns hline hready hns, if_pos hcached]
  refine congrArg Host.Outcome.next (State.finishLookup_of_none ?_)
  rw [State.seg_lookupTaken]
  exact hmiss

theorem exec_streamLookup_of_some {e : StreamEntry} (hhit : s.emFind (ns <<< 32 + (s.seg i).streamId.toNat) = some e)
    (hhint : e.hintOk = false ∨ (s.seg i).hint = 0) : exec .streamLookup s = .next (if (s.domRights e.domain).hasHandle e.model then
      ((s.lookupTaken i l ns mc).hitTaken i e e.model).toFrontEnd i else ((s.lookupTaken i l ns mc).hitTaken i e e.model).deniedDone i) := by
  have hmodel : ((s.lookupTaken i l ns mc).seg i).askedModel e = e.model := by
    rw [State.seg_lookupTaken]
    exact Seg.askedModel_of_no_hint hhint
  rw [exec_streamLookup hruns hline hready hns, if_pos hcached, State.finishLookup_of_some (e := e), hmodel]
  · rfl
  · rw [State.seg_lookupTaken]
    exact hhit

end

/-! ### The fill of the stream cache (R84, R91) -/

theorem State.emInstall_installs {s : State} (hroom : s.rul.emCache.length < 65536) (key : Nat) :
    (s.emInstall key).rul.emCache.contains key = true ∧ (s.emInstall key).rul.misses = s.rul.misses := by
  unfold State.emInstall
  split
  next hin => exact ⟨hin, rfl⟩
  next => exact ⟨by simp [State.updRul], rfl⟩

theorem exec_streamCacheFill {s : State} {k i : Nat} (hruns : s.runs (some 1) = true) (hmiss : s.rul.misses[k]? = some i) :
    exec (.streamCacheFill k) s = .next (((s.updRul fun r => { r with misses := r.misses.eraseIdx k }).emInstall
      ((s.seg i).ns <<< 32 + (s.seg i).streamId.toNat)).finishLookup i) := by
  show execStreamCacheFill k s = _
  rw [execStreamCacheFill, State.whenRuns_of_runs hruns, hmiss]
  rfl

/-- Settles O23: each branch of the lookup by what it writes to the rule tables, the front end and the counters. -/
theorem streamLookupHitMissOrWait : Obligations.StreamLookupHitMissOrWait := by
  refine ⟨fun s i l ns mc hruns hline hready hns => ⟨fun hcold => ?_, fun hcached hmiss => ?_, fun hcached e hhit hhint =>
    ⟨fun hmay => ?_, fun hmay => ?_⟩⟩, fun s k i hruns hmiss hroom => ?_⟩
  · refine ⟨_, (exec_streamLookup hruns hline hready hns).trans (congrArg _ (if_neg (by rw [hcold]; exact Bool.false_ne_true))), rfl, rfl, ?_,
      State.reg_bump_self _ _, fun a ha => State.reg_bump_ne _ (List.ne_of_not_mem_cons ha)⟩
    exact congrArg Seg.st (State.seg_updSeg_self (s.lookupTaken i l ns mc) i _)
  · obtain ⟨hrul, hsfe, hregs⟩ := (s.lookupTaken i l ns mc).missDone_keeps i
    refine ⟨_, exec_streamLookup_of_none hruns hline hready hns hcached hmiss, by rw [hrul]; rfl, ?_, by rw [hsfe]; rfl, ?_, ?_⟩
    · exact congrArg Seg.st ((congrArg (fun x : SfeSt => x.segs.get i) hsfe).trans (State.seg_updSeg_self (s.lookupTaken i l ns mc) i _))
    · rw [hregs, State.reg_missCounted _ _ (by decide), State.reg_bump_self]
      rfl
    · rw [hregs, State.reg_missCounted _ _ (by decide), State.reg_bump_ne _ (by decide)]
      rfl
  · obtain ⟨hlines, hqueue, -, -, hregs⟩ := (s.lookupTaken i l ns mc).hitTaken_keeps i e e.model
    obtain ⟨hline', -, -⟩ := State.of_lineUps_eq hlines
    obtain ⟨hentry, hmodel⟩ := (s.lookupTaken i l ns mc).seg_hitTaken i e e.model
    have hseg := ((s.lookupTaken i l ns mc).hitTaken i e e.model).seg_toFrontEnd i
    refine ⟨_, (exec_streamLookup_of_some hruns hline hready hns hcached hhit hhint).trans (congrArg _ (if_pos hmay)), hline',
      congrArg (fun q : List Nat => q ++ [i]) hqueue, by rw [hseg], by rw [hseg, hentry], by rw [hseg, hmodel], ?_⟩
    exact (congrArg (fun r : Regs => r.get Reg.RUL_EM_HITS) hregs).trans (State.reg_bump_self _ _)
  · obtain ⟨hlines, hqueue, herp, -, -⟩ := (s.lookupTaken i l ns mc).hitTaken_keeps i e e.model
    obtain ⟨hline', -, -⟩ := State.of_lineUps_eq hlines
    obtain ⟨hrul', hsfe', -⟩ := ((s.lookupTaken i l ns mc).hitTaken i e e.model).deniedDone_keeps i
    obtain ⟨x, hx, hanswer⟩ := ((s.lookupTaken i l ns mc).hitTaken i e e.model).deniedDone_answers i
    refine ⟨_, (exec_streamLookup_of_some hruns hline hready hns hcached hhit hhint).trans (congrArg _ (if_neg (by simp [hmay]))),
      ?_, ?_, ?_, x, ?_, hanswer⟩
    · rw [hrul']
      exact hline'
    · rw [hsfe']
      exact hqueue
    · exact congrArg Seg.st ((congrArg (fun y : SfeSt => y.segs.get i) hsfe').trans (State.seg_updSeg_self _ i _))
    · rw [hx, herp]
      rfl
  · obtain ⟨hkey, hmisses⟩ := State.emInstall_installs (s := s.updRul fun r => { r with misses := r.misses.eraseIdx k }) hroom
      ((s.seg i).ns <<< 32 + (s.seg i).streamId.toNat)
    have hkeep := State.lineUps_finishLookup ((s.updRul fun r => { r with misses := r.misses.eraseIdx k }).emInstall
      ((s.seg i).ns <<< 32 + (s.seg i).streamId.toNat)) i
    obtain ⟨-, hmisses', hcache⟩ := State.of_lineUps_eq hkeep
    refine ⟨_, exec_streamCacheFill hruns hmiss, hmisses'.trans hmisses, ?_⟩
    exact (congrArg (fun c : List Nat => c.contains ((s.seg i).ns <<< 32 + (s.seg i).streamId.toNat)) hcache).trans hkey

end Sys2Proof.Machine
end

section
/-! Counters and meters (R98 to R102): a counter's value through sweeps and clears, the configuration of a meter, the colouring of a frame, and
O24. -/

namespace Sys2Proof.Machine

/-! ### The value of a counter (R100, R102) -/

/-- Adding the cells of a bank to the images adds to each image its own delta. -/
theorem get_foldl_addCells (l : List (Nat × Nat)) (hl : cellsRising l = true) (images : Tab DWord) (i : Nat) :
    (l.foldl (fun t c => t.upd c.1 (· + BitVec.ofNat 64 c.2)) images).get i = images.get i + BitVec.ofNat 64 ((cellsGet l i).getD 0) := by
  induction l generalizing images with
  | nil => simp [cellsGet]
  | cons c r ih =>
    obtain ⟨hfirst, hr⟩ := (cellsRising_cons _ _).1 hl
    obtain ⟨k, v⟩ := c
    rw [List.foldl_cons, ih hr, Tab.get_upd]
    by_cases hi : i = k
    · have habsent : cellsGet r i = none := cellsGet_eq_none fun d hd => hi ▸ (hfirst d hd).ne'
      rw [if_pos hi, habsent, ← hi]
      simp [cellsGet]
    · simp [cellsGet, hi, Ne.symm hi]

theorem get_addBank {bank : Tab Nat} (hwf : bank.wf = true) (hzero : bank.dflt = 0) (images : Tab DWord) (i : Nat) :
    (addBank images bank).get i = images.get i + BitVec.ofNat 64 (bank.get i) := by
  have hget : bank.get i = (cellsGet bank.cells i).getD 0 := by rw [Tab.get, hzero]
  rw [addBank, get_foldl_addCells _ (Tab.rising_of_wf hwf), hget]

theorem get_clear {bank : Tab Nat} (hzero : bank.dflt = 0) (i : Nat) : bank.clear.get i = 0 := hzero

/-- The value of a counter, by the images and the two banks. -/
def RulSt.value (r : RulSt) (i : Nat) : DWord := r.images.get i + BitVec.ofNat 64 (r.bank0.get i) + BitVec.ofNat 64 (r.bank1.get i)

/-- The rule tables when the frozen bank has entered the images (R100). -/
def RulSt.swept (r : RulSt) : RulSt :=
  if r.activeBank = 0 then { r with images := addBank r.images r.bank1, bank1 := r.bank1.clear, sweepTs := none }
  else { r with images := addBank r.images r.bank0, bank0 := r.bank0.clear, sweepTs := none }

theorem RulSt.value_swept {s : State} (hcan : s.canonical) (i : Nat) : s.rul.swept.value i = s.rul.value i := by
  obtain ⟨-, hwf0, hwf1, hzero0, hzero1⟩ := hcan
  unfold RulSt.swept RulSt.value
  split
  · simp [get_addBank hwf1 hzero1, get_clear hzero1, add_right_comm]
  · simp [get_addBank hwf0 hzero0, get_clear hzero0]

/-! ### Sweeps (R100, R101) -/

section
variable {s : State}

/-- The state at a sweep instant: the next one is due a period later. -/
def State.sweepNoted (s : State) : State := s.updRul fun r => { r with lastSweep := r.lastSweep + s.fld Reg.RUL_CNT_PERIOD_period_ns }

/-- A sweep that is due swaps the banks or, behind one that is under way, waits and is counted. -/
def State.sweepDue (s : State) : State :=
  match s.rul.sweepTs with
  | none => s.sweepNoted.swapBanks
  | some _ => (s.sweepNoted.updRul fun r => { r with swapWaits := true }).bump Reg.RUL_CNT_SWEEP_LATE

theorem exec_counterSweep (s : State) : exec .counterSweep s = .next (if s.runs (some 1) then
    if s.passed s.rul.lastSweep (s.fld Reg.RUL_CNT_PERIOD_period_ns) then s.sweepDue else s else s) := rfl

theorem exec_counterSweep_due (hruns : s.runs (some 1) = true) (hdue : s.passed s.rul.lastSweep (s.fld Reg.RUL_CNT_PERIOD_period_ns) = true) :
    exec .counterSweep s = .next s.sweepDue := by
  rw [exec_counterSweep, if_pos hruns, if_pos hdue]

theorem State.sweepDue_of_none (h : s.rul.sweepTs = none) : s.sweepDue = s.sweepNoted.swapBanks := by rw [State.sweepDue, h]

theorem State.sweepDue_of_some (h : s.rul.sweepTs ≠ none) :
    s.sweepDue = (s.sweepNoted.updRul fun r => { r with swapWaits := true }).bump Reg.RUL_CNT_SWEEP_LATE := by
  obtain ⟨x, hx⟩ := Option.ne_none_iff_exists'.1 h
  rw [State.sweepDue, hx]

theorem State.counterValue_sweepDue (s : State) (i : Nat) : s.sweepDue.counterValue i = s.counterValue i := by
  cases h : s.rul.sweepTs with
  | none =>
    rw [State.sweepDue_of_none h]
    rfl
  | some x =>
    rw [State.sweepDue_of_some (by simp [h])]
    rfl

/-- The state when a sweep has published its generation and its instant, before a swap that waited. -/
def State.sweepPublished (s : State) (x : DWord) : State := ((s.updRul RulSt.swept).bumpFld Reg.RUL_CNT_GEN_gen).setReg Reg.RUL_CNT_GEN_TS x

theorem exec_sweepComplete {x : DWord} (hruns : s.runs (some 1) = true) (hts : s.rul.sweepTs = some x) :
    exec .sweepComplete s = .next (if (s.sweepPublished x).rul.swapWaits then (s.sweepPublished x).swapBanks else s.sweepPublished x) := by
  show execSweepComplete s = _
  rw [execSweepComplete, State.whenRuns_of_runs hruns, hts]
  rfl

theorem State.gen_sweepPublished (s : State) (x : DWord) : (s.sweepPublished x).reg Reg.RUL_CNT_GEN_TS = x ∧
    (s.sweepPublished x).fld Reg.RUL_CNT_GEN_gen = (s.fld Reg.RUL_CNT_GEN_gen + 1) % 2 ^ 32 := by
  refine ⟨State.reg_setReg_self _ _ _, ?_⟩
  have hts : (s.sweepPublished x).fld Reg.RUL_CNT_GEN_gen = ((s.updRul RulSt.swept).bumpFld Reg.RUL_CNT_GEN_gen).fld Reg.RUL_CNT_GEN_gen :=
    State.fld_of_reg_eq (State.reg_setReg_ne _ _ (by decide))
  rw [hts, State.bumpFld, State.fld_setFld_self _ _ _ (by decide) (by decide)]
  rfl

/-! ### Meters (R98) -/

theorem State.meterRefused_iff (s : State) : s.meterRefused = true ↔
    s.fld Reg.RUL_MTR_PIR_rate < s.fld Reg.RUL_MTR_CIR_rate ∨ s.fld Reg.RUL_MTR_CBS_size = 0 ∨ s.fld Reg.RUL_MTR_PBS_size = 0 := by
  simp [State.meterRefused, or_assoc]

/-- The meter that a legal write loads: its buckets full, its last refill now. -/
def State.meterLoaded (s : State) : Meter := {
  cir := s.fld Reg.RUL_MTR_CIR_rate, pir := s.fld Reg.RUL_MTR_PIR_rate, cbs := s.fld Reg.RUL_MTR_CBS_size, pbs := s.fld Reg.RUL_MTR_PBS_size
  aware := s.flag Reg.RUL_MTR_MODE_aware, enable := s.flag Reg.RUL_MTR_MODE_enable, tc := s.fld Reg.RUL_MTR_CBS_size * 1000000000
  tp := s.fld Reg.RUL_MTR_PBS_size * 1000000000, last := s.thyme.toNat }

theorem State.meterWrite_of_legal (h : s.meterRefused = false) :
    s.meterWrite = s.updRul fun r => { r with meters := r.meters.set (s.fld Reg.RUL_MTR_SEL_meter) s.meterLoaded } :=
  if_neg (by rw [h]; exact Bool.false_ne_true)

theorem State.meterWrite_of_refused (h : s.meterRefused = true) : s.meterWrite = s.stick Reg.RUL_MTR_STAT_refused := if_pos h

theorem State.fld_meterRead (s : State) : (s.meterRead).rul = s.rul ∧
    s.meterRead.fld Reg.RUL_MTR_CIR_rate = (s.rul.meters.get (s.fld Reg.RUL_MTR_SEL_meter)).cir % 2 ^ (Reg.RUL_MTR_CIR_rate.hi + 1) ∧
    s.meterRead.fld Reg.RUL_MTR_PIR_rate = (s.rul.meters.get (s.fld Reg.RUL_MTR_SEL_meter)).pir % 2 ^ (Reg.RUL_MTR_PIR_rate.hi + 1) ∧
    s.meterRead.fld Reg.RUL_MTR_MODE_enable = b2n (s.rul.meters.get (s.fld Reg.RUL_MTR_SEL_meter)).enable := by
  have hne (u : State) (f g : Fld) (n : Nat) (h : g.addr ≠ f.addr) := u.fld_setFld_ne f g n h
  refine ⟨rfl, ?_, ?_, ?_⟩
  · rw [State.meterRead, hne _ _ _ _ (by decide), hne _ _ _ _ (by decide), hne _ _ _ _ (by decide), hne _ _ _ _ (by decide),
      hne _ _ _ _ (by decide), State.fld_setFld_self _ _ _ (by decide) (by decide)]
    rfl
  · rw [State.meterRead, hne _ _ _ _ (by decide), hne _ _ _ _ (by decide), hne _ _ _ _ (by decide), hne _ _ _ _ (by decide),
      State.fld_setFld_self _ _ _ (by decide) (by decide)]
    rfl
  · rw [State.meterRead, State.fld_setFld_self _ _ _ (by decide) (by decide)]
    cases (s.rul.meters.get (s.fld Reg.RUL_MTR_SEL_meter)).enable <;> rfl

end

/-! ### Colours (R99) -/

theorem refill_le {t rate cap dt : Nat} (ht : t ≤ cap) : refill t rate cap dt ≤ cap := by
  unfold refill
  split
  · exact ht
  · split
    next => exact le_refl _
    next hrate hdt =>
      have hfit : rate * dt ≤ cap - t := (Nat.mul_comm _ _).trans_le ((Nat.le_div_iff_mul_le (Nat.pos_of_ne_zero hrate)).1 (by omega))
      omega

/-- A meter whose buckets have been refilled up to an instant. -/
def Meter.refilled (m : Meter) (ts : Nat) : Meter :=
  let dt := if m.last < ts then ts - m.last else 0
  { m with last := max m.last ts, tp := refill m.tp m.pir (m.pbs * 1000000000) dt, tc := refill m.tc m.cir (m.cbs * 1000000000) dt }

theorem Meter.colour_eq (m : Meter) (ts len pre : Nat) : m.colour ts len pre =
    let r := m.refilled ts
    let b := len * 1000000000
    if (r.aware && decide (pre = 2)) || decide (r.tp < b) then (2, r)
    else if (r.aware && decide (pre = 1)) || decide (r.tc < b) then (1, { r with tp := r.tp - b })
    else (0, { r with tp := r.tp - b, tc := r.tc - b }) := rfl

/-- A colour takes from refilled buckets, and green takes the frame's bytes from both. -/
theorem Meter.colour_within (m : Meter) (ts len pre : Nat) (hc : m.tc ≤ m.cbs * 1000000000) (hp : m.tp ≤ m.pbs * 1000000000) :
    (m.colour ts len pre).2.tc ≤ m.cbs * 1000000000 ∧ (m.colour ts len pre).2.tp ≤ m.pbs * 1000000000 ∧
    m.last ≤ (m.colour ts len pre).2.last ∧ (m.colour ts len pre).1 ≤ 2 ∧
    ((m.colour ts len pre).1 = 0 → (m.colour ts len pre).2.tc + len * 1000000000 ≤ m.cbs * 1000000000 ∧
      (m.colour ts len pre).2.tp + len * 1000000000 ≤ m.pbs * 1000000000) := by
  have htc : (m.refilled ts).tc ≤ m.cbs * 1000000000 := refill_le hc
  have htp : (m.refilled ts).tp ≤ m.pbs * 1000000000 := refill_le hp
  have hlast : m.last ≤ (m.refilled ts).last := le_max_left _ _
  rw [Meter.colour_eq]
  generalize m.refilled ts = r at *
  dsimp only
  split
  next => exact ⟨htc, htp, hlast, le_refl _, by simp⟩
  next hred =>
    have hpay : len * 1000000000 ≤ r.tp := by simpa using (Bool.or_eq_false_iff.1 (Bool.eq_false_iff.2 hred)).2
    split
    next => exact ⟨htc, by simp only; omega, hlast, one_le_two, by simp⟩
    next hyellow =>
      have hpay' : len * 1000000000 ≤ r.tc := by simpa using (Bool.or_eq_false_iff.1 (Bool.eq_false_iff.2 hyellow)).2
      exact ⟨by simp only; omega, by simp only; omega, hlast, zero_le_two, fun _ => ⟨by simp only; omega, by simp only; omega⟩⟩

/-- Settles O24: sweeps by what they do to `RulSt.value`, clears and meters by what they write, and colours from the refill of both buckets. -/
theorem countersLoseNoEvent : Obligations.CountersLoseNoEvent := by
  refine ⟨fun s _ => ?_, fun s x hcan hruns hts => ?_, fun s hruns hdue => ⟨fun h => ?_, fun h => ?_⟩, fun s hbus => ?_,
    fun s hbus => ⟨fun hrate hcbs hpbs => ?_, fun hbad => ?_, ?_⟩, Meter.colour_within⟩
  · refine ⟨_, exec_counterSweep s, fun i => ?_⟩
    split
    · split
      · exact s.counterValue_sweepDue i
      · rfl
    · rfl
  · obtain ⟨hgen, hts'⟩ := s.gen_sweepPublished x
    have hvalue (i : Nat) : (s.sweepPublished x).counterValue i = s.counterValue i := RulSt.value_swept hcan i
    refine ⟨_, exec_sweepComplete hruns hts, ?_⟩
    split
    · exact ⟨hvalue, hgen, hts'⟩
    · exact ⟨hvalue, hgen, hts'⟩
  · exact ⟨_, exec_counterSweep_due hruns hdue, by rw [State.sweepDue_of_none h]; rfl, by rw [State.sweepDue_of_none h]; rfl⟩
  · refine ⟨_, exec_counterSweep_due hruns hdue, ?_⟩
    rw [State.sweepDue_of_some h]
    exact ⟨rfl, rfl, State.reg_bump_self _ _⟩
  · refine ⟨_, congrArg Host.Outcome.next (State.coreWrite_of_busOk hbus _), ?_, fun i hi => ?_, rfl⟩
    · simp [State.counterValue, State.counterClear, State.updRul]
    · simp [State.counterValue, State.counterClear, State.updRul, Tab.get_set_ne _ _ hi]
  · have hlegal : s.meterRefused = false := Bool.eq_false_iff.2 fun h => by
      rcases s.meterRefused_iff.1 h with h | h | h
      · omega
      · exact hcbs h
      · exact hpbs h
    refine ⟨_, s.meterLoaded, (congrArg Host.Outcome.next (State.coreWrite_of_busOk hbus _)).trans
      (congrArg Host.Outcome.next (State.meterWrite_of_legal hlegal)), Tab.get_set_self _ _ _, rfl, rfl, rfl, rfl, rfl,
      fun i hi => Tab.get_set_ne _ _ hi⟩
  · exact (congrArg Host.Outcome.next (State.coreWrite_of_busOk hbus _)).trans
      (congrArg Host.Outcome.next (State.meterWrite_of_refused (s.meterRefused_iff.2 hbad)))
  · exact ⟨_, congrArg Host.Outcome.next (State.coreWrite_of_busOk hbus _), s.fld_meterRead⟩

end Sys2Proof.Machine
end

section
/-! Descriptors (R270, R280 to R284, R424): the bytes of a record and the place it takes, when a descriptor may start, what each opcode does, the
return of payload data, and O47. -/

namespace Sys2Proof.Machine

/-! ### A completion record (R270, R284) -/

theorem length_toLe (n v : Nat) : (toLe n v).length = n := by
  induction n generalizing v with
  | zero => rfl
  | succ n ih => rw [toLe, List.length_cons, ih]

theorem length_cqRecord (sqIndex kind status length : Nat) (cookie value : DWord) (info sqHead : Nat) (phase : Bool) :
    (cqRecord sqIndex kind status length cookie value info sqHead phase).length = 32 := by
  simp only [cqRecord, List.length_append, length_toLe]

/-- The CQ index moves on and wraps, and the phase turns at the wrap. -/
theorem Qp.wrote_place (p : Qp) (now : Nat) (h : p.cqTail < p.cqSize) : (p.wrote now).cqTail = (p.cqTail + 1) % p.cqSize ∧
    (p.wrote now).cqUsed = p.cqUsed + 1 ∧ (p.wrote now).phase = (if p.cqTail + 1 = p.cqSize then !p.phase else p.phase) := by
  unfold Qp.wrote
  by_cases hwrap : p.cqTail + 1 = p.cqSize
  · cases p.armed <;> simp [hwrap]
  · have hmod : (p.cqTail + 1) % p.cqSize = p.cqTail + 1 := Nat.mod_eq_of_lt (by omega)
    cases p.armed <;> simp [hwrap, hmod]

theorem Qp.wrote_keeps (p : Qp) (now : Nat) : (p.wrote now).st = p.st ∧ (p.wrote now).reserved = p.reserved ∧ (p.wrote now).armed = p.armed := by
  unfold Qp.wrote
  by_cases hwrap : p.cqTail + 1 = p.cqSize <;> cases harmed : p.armed <;> simp [hwrap]

section
variable {s : State}

theorem State.sendHeld_of_busMaster {x : HostHeld} (h : (s.func x.func).busMaster = true) : s.sendHeld x = s.emit x.out := if_pos h

/-- A record whose queue pair is not armed is a host write and no interrupt. -/
theorem State.writeRecord_of_unarmed {q : Nat} (hbus : (s.func (s.qp q).func).busMaster = true) (harmed : (s.qp q).armed = false)
    (sqIndex kind status length : Nat) (cookie value : DWord) (info : Nat) : s.writeRecord q sqIndex kind status length cookie value info =
      (s.emit (.hostWrite (s.qp q).func ((s.qp q).cqBase + 32 * (s.qp q).cqTail)
        (cqRecord sqIndex kind status length cookie value info (s.qp q).sqHead (s.qp q).phase) false)).updQp q fun p => p.wrote s.now := by
  have hquiet (p : Qp) (h : p.armed = false) : ¬ p.modDue = true := by simp [Qp.modDue, h]
  unfold State.writeRecord State.qpWrite
  dsimp only
  rw [State.sendHeld_of_busMaster hbus]
  refine if_neg (hquiet _ ?_)
  obtain ⟨-, -, hkeep⟩ := (s.qp q).wrote_keeps s.now
  rw [State.qp_updQp_self]
  exact hkeep.trans harmed

/-! ### When a descriptor may start (R270) -/

theorem State.of_mayStart {d op : Nat} (h : s.mayStart d op = true) : (s.desc d).st = .waiting ∧ (s.desc d).op = op ∧ s.descLive d = true ∧
    (s.func (s.qp (s.desc d).qp).func).busMaster = true := by
  simp only [State.mayStart, Bool.and_eq_true, decide_eq_true_eq] at h
  obtain ⟨⟨⟨⟨hst, hop⟩, hlive⟩, hbus⟩, -⟩ := h
  exact ⟨hst, hop, hlive, hbus⟩

/-- An opcode's row on a descriptor that may not start changes nothing. -/
theorem exec_of_not_mayStart (d : Nat) :
    ∀ e ∈ [(0, Instr.descNop d), (1, .infer d), (2, .txFrame d), (3, .rxBuf d), (4, .counterDump d), (5, .commitRules d)],
      s.mayStart d e.1 = false → exec e.2 s = .next s := by
  have hstay {op : Nat} {t : State} (h : s.mayStart d op = false) : (if s.mayStart d op then t else s) = s :=
    if_neg (by rw [h]; exact Bool.false_ne_true)
  simp only [List.forall_mem_cons, List.not_mem_nil, false_implies, implies_true, and_true]
  exact ⟨fun h => congrArg _ (hstay h), fun h => congrArg _ (hstay h), fun h => congrArg _ (hstay h), fun h => congrArg _ (hstay h),
    fun h => congrArg _ (hstay h), fun h => congrArg _ (hstay h)⟩

/-! ### The opcodes (R280 to R282) -/

variable {d : Nat}

theorem State.cookieOf_general {x : Desc} (hop : cmdBlockOp x.op = false) : s.cookieOf x = (BitVec.ofNat 64 (le x.bytes 8 8), s) :=
  if_neg (by rw [hop]; exact Bool.false_ne_true)

theorem State.qp_descDone (s : State) (d : Nat) :
    (s.descDone d).qp (s.desc d).qp = { s.qp (s.desc d).qp with reserved := (s.qp (s.desc d).qp).reserved - 1 } :=
  State.qp_updQp_self (s.updDesc d fun x => { x with st := .done }) _ _

theorem State.desc_descDone (s : State) (d : Nat) : (s.descDone d).desc d = { s.desc d with st := .done } := State.desc_updDesc_self s d _

section
variable (hmay : s.mayStart d 0 = true) (hactive : (s.qp (s.desc d).qp).st = .active)
include hmay

theorem exec_descNop_completes : exec (.descNop d) s = .next ((s.descRecorded d 0 0 0 0).drainQp (s.desc d).qp) := by
  obtain ⟨-, -, hlive, -⟩ := State.of_mayStart hmay
  exact (congrArg Host.Outcome.next (if_pos hmay)).trans (congrArg _ (State.completeDesc_of_live hlive 0 0 0 0))

theorem State.cookieOf_descNop (u : State) : u.cookieOf (s.desc d) = (BitVec.ofNat 64 (le (s.desc d).bytes 8 8), u) := by
  obtain ⟨-, hop, -, -⟩ := State.of_mayStart hmay
  exact State.cookieOf_general (by rw [hop]; decide)

include hactive

/-- A descriptor of an ACTIVE queue pair that asks for no record completes without one. -/
theorem exec_descNop_silent (hcq : (s.desc d).noCq = true) : ∃ t, exec (.descNop d) s = .next t ∧ (t.desc d).st = .done ∧ t.out = s.out := by
  have hrec : s.descRecorded d 0 0 0 0 = s.descDone d := by
    rw [State.descRecorded, State.cookieOf_descNop hmay, hcq]
    rfl
  have hst : ((s.descDone d).qp (s.desc d).qp).st ≠ .draining := by
    rw [State.qp_descDone, hactive]
    nofun
  have hexec := exec_descNop_completes hmay
  rw [hrec, State.drainQp_of_not_draining hst] at hexec
  exact ⟨_, hexec, by rw [State.desc_descDone], rfl⟩

/-- A descriptor of an ACTIVE queue pair that asks for a record: where the pair is not armed, the record is all that leaves. -/
theorem exec_descNop_records (harmed : (s.qp (s.desc d).qp).armed = false) (hcq : (s.desc d).noCq = false) : ∃ t, exec (.descNop d) s = .next t ∧
    (t.desc d).st = .done ∧ (t.qp (s.desc d).qp).reserved = (s.qp (s.desc d).qp).reserved - 1 ∧
    t.out = s.out ++ [.hostWrite (s.qp (s.desc d).qp).func ((s.qp (s.desc d).qp).cqBase + 32 * (s.qp (s.desc d).qp).cqTail)
      (cqRecord (s.desc d).sqIndex 0 0 0 (BitVec.ofNat 64 (le (s.desc d).bytes 8 8)) 0 0 (s.qp (s.desc d).qp).sqHead
        (s.qp (s.desc d).qp).phase) false] := by
  obtain ⟨-, hop, -, hbus⟩ := State.of_mayStart hmay
  have hqp := s.qp_descDone d
  have hrec : s.descRecorded d 0 0 0 0 = (s.descDone d).writeRecord (s.desc d).qp (s.desc d).sqIndex 0 0 0
      (BitVec.ofNat 64 (le (s.desc d).bytes 8 8)) 0 0 := by
    rw [State.descRecorded, State.cookieOf_descNop hmay, hcq, hop]
    rfl
  rw [State.writeRecord_of_unarmed (by rw [hqp]; exact hbus) (by rw [hqp]; exact harmed), hqp] at hrec
  obtain ⟨hst, hres, -⟩ := Qp.wrote_keeps { s.qp (s.desc d).qp with reserved := (s.qp (s.desc d).qp).reserved - 1 } s.now
  have hwrote : (s.descRecorded d 0 0 0 0).qp (s.desc d).qp =
      ({ s.qp (s.desc d).qp with reserved := (s.qp (s.desc d).qp).reserved - 1 } : Qp).wrote s.now := by
    rw [hrec, State.qp_updQp_self]
    exact congrArg (Qp.wrote · s.now) hqp
  have hexec := exec_descNop_completes hmay
  rw [State.drainQp_of_not_draining (by rw [hwrote, hst, hactive]; nofun)] at hexec
  refine ⟨_, hexec, ?_, by rw [hwrote, hres], ?_⟩
  · rw [hrec]
    exact congrArg Desc.st (s.desc_descDone d)
  · rw [hrec]
    rfl

end

/-- The payload read is issued as the queue pair's function. -/
theorem State.payloadRead_issues (hbus : (s.func (s.qp (s.desc d).qp).func).busMaster = true) :
    (s.payloadRead d).desc d = { s.desc d with st := .reading s.now } ∧
    (s.payloadRead d).out = s.out ++ [.hostRead (s.qp (s.desc d).qp).func (descAddr (s.desc d).bytes) (descLen (s.desc d).bytes)] ∧
    (s.payloadRead d).regs = s.regs := by
  have hread : s.payloadRead d = (s.updDesc d fun x => { x with st := .reading s.now }).emit
      (.hostRead (s.qp (s.desc d).qp).func (descAddr (s.desc d).bytes) (descLen (s.desc d).bytes)) := State.sendHeld_of_busMaster hbus
  rw [hread]
  exact ⟨State.desc_updDesc_self s d _, rfl, rfl⟩

/-- The buffer that an RX_BUF descriptor posts (R280). -/
def Desc.rxBuf (x : Desc) : RxBuf :=
  { sqIndex := x.sqIndex, cookie := BitVec.ofNat 64 (le x.bytes 8 8), addr := descAddr x.bytes, len := descLen x.bytes, domEpoch := x.domEpoch }

theorem exec_rxBuf_posts (hmay : s.mayStart d 3 = true) (hactive : (s.qp (s.desc d).qp).st = .active) : ∃ t r, exec (.rxBuf d) s = .next t ∧
    (t.desc d).st = .done ∧ t.out = s.out ∧ t.qp (s.desc d).qp = { s.qp (s.desc d).qp with rx := (s.qp (s.desc d).qp).rx ++ [r] } ∧
    r.addr = descAddr (s.desc d).bytes ∧ r.len = descLen (s.desc d).bytes ∧ r.sqIndex = (s.desc d).sqIndex := by
  have hexec : exec (.rxBuf d) s = .next (((s.updDesc d fun x => { x with st := .done }).updQp (s.desc d).qp
      fun p => { p with rx := p.rx ++ [(s.desc d).rxBuf] }).drainQp (s.desc d).qp) := congrArg Host.Outcome.next (if_pos hmay)
  have hqp := State.qp_updQp_self (s.updDesc d fun x => { x with st := .done }) (s.desc d).qp
    fun p => { p with rx := p.rx ++ [(s.desc d).rxBuf] }
  have hst : (s.qp (s.desc d).qp).st ≠ .draining := by
    rw [hactive]
    nofun
  rw [State.drainQp_of_not_draining (by rw [hqp]; exact hst)] at hexec
  exact ⟨_, _, hexec, congrArg Desc.st (State.desc_updDesc_self s d _), rfl, hqp, rfl, rfl, rfl⟩

/-- The bytes that a COUNTER_DUMP writes: eight for each counter (R100). -/
def State.dumpBytes (s : State) (x : Desc) : List Byte :=
  (List.range (le x.bytes 28 4)).flatMap fun i => toLe 8 (s.rul.images.get (le x.bytes 24 4 + i)).toNat

theorem State.length_dumpBytes (s : State) (x : Desc) : (s.dumpBytes x).length = 8 * le x.bytes 28 4 := by
  simp [State.dumpBytes, List.length_flatMap, length_toLe, Nat.mul_comm]

/-- The state when the counters of a COUNTER_DUMP have been written, before its descriptor completes. -/
def State.dumped (s : State) (d : Nat) : State :=
  s.emit (.hostWrite (s.qp (s.desc d).qp).func (descAddr (s.desc d).bytes) (s.dumpBytes (s.desc d)) true)

theorem exec_counterDump_writes (hmay : s.mayStart d 4 = true) : ∃ t data l, exec (.counterDump d) s = .next t ∧ (t.desc d).st = .done ∧
    t.out = s.out ++ [.hostWrite (s.qp (s.desc d).qp).func (descAddr (s.desc d).bytes) data true] ++ l ∧
    data.length = 8 * le (s.desc d).bytes 28 4 ∧ t.rul = s.rul := by
  obtain ⟨-, -, hlive, hbus⟩ := State.of_mayStart hmay
  have hwrite : s.qpWrite (s.desc d).qp (descAddr (s.desc d).bytes) (s.dumpBytes (s.desc d)) true = s.dumped d := State.sendHeld_of_busMaster hbus
  have hexec : exec (.counterDump d) s = .next ((s.qpWrite (s.desc d).qp (descAddr (s.desc d).bytes) (s.dumpBytes (s.desc d)) true).completeDesc d 0
      (8 * le (s.desc d).bytes 28 4) (s.reg Reg.RUL_CNT_GEN_TS) (s.fld Reg.RUL_CNT_GEN_gen)) := congrArg Host.Outcome.next (if_pos hmay)
  have hlive' : (s.dumped d).descLive d = true := hlive
  obtain ⟨l, hl⟩ := State.out_completeDesc hlive' 0 (8 * le (s.desc d).bytes 28 4) (s.reg Reg.RUL_CNT_GEN_TS) (s.fld Reg.RUL_CNT_GEN_gen)
  rw [hwrite] at hexec
  exact ⟨_, _, l, hexec, congrArg Desc.st (State.desc_completeDesc_self hlive' _ _ _ _), hl.symm, s.length_dumpBytes _,
    (State.rul_of_sansHost_eq (State.sansHost_completeDesc _ d _ _ _ _)).trans rfl⟩

theorem exec_commitRules_requests (hmay : s.mayStart d 5 = true) (hpend : s.rul.pending = none) (hexec : s.rul.executing = none)
    (hdrain : s.rul.draining = none) :
    ∃ t, exec (.commitRules d) s = .next t ∧ t.rul = { s.rul with executing := some (.desc d) } ∧ (t.desc d).st = .running := by
  refine ⟨_, congrArg Host.Outcome.next (if_pos hmay), ?_⟩
  rw [State.requestCommit_of_free (s := s.updDesc d _) hpend hexec hdrain]
  exact ⟨rfl, congrArg Desc.st (State.desc_updDesc_self s d _)⟩

/-! ### Adaptation commands (R282) -/

theorem State.descLive_running (hlive : s.descLive d = true) : (s.updDesc d fun x => { x with st := .running }).descLive d = true := by
  have hdesc := s.desc_updDesc_self d fun x => { x with st := .running }
  simp only [State.descLive, Bool.and_eq_true, decide_eq_true_eq] at hlive ⊢
  obtain ⟨⟨⟨-, habort⟩, hlease⟩, hfence⟩ := hlive
  rw [hdesc]
  exact ⟨⟨⟨nofun, habort⟩, hlease⟩, hfence⟩

/-- An adaptation command that may start: it joins the line, or completes BUSY behind two others. -/
def State.adaptTaken (s : State) (d : Nat) : State :=
  let u := s.updDesc d fun x => { x with st := .running }
  if 2 ≤ b2n u.adp.latched.isSome + u.adp.cmds.length then u.completeDesc d 0x21 0 0 (u.job (byteAt (u.desc d).bytes 1)).st
  else u.updAdp fun a => { a with cmds := a.cmds ++ [d] }

theorem exec_adaptBatch (s : State) (d : Nat) : exec (.adaptBatch d) s =
    .next (if decide (0x21 ≤ (s.desc d).op) && decide ((s.desc d).op ≤ 0x25) && s.mayStart d (s.desc d).op then s.adaptTaken d else s) := rfl

theorem exec_adaptBatch_of_not_mayStart (h : s.mayStart d (s.desc d).op = false) : exec (.adaptBatch d) s = .next s := by
  rw [exec_adaptBatch, h, Bool.and_false]
  rfl

section
variable (hlo : 0x21 ≤ (s.desc d).op) (hhi : (s.desc d).op ≤ 0x25) (hmay : s.mayStart d (s.desc d).op = true)
include hlo hhi hmay

theorem exec_adaptBatch_of_mayStart : exec (.adaptBatch d) s = .next (s.adaptTaken d) := by
  rw [exec_adaptBatch, if_pos (by simp [hlo, hhi, hmay])]

theorem exec_adaptBatch_joins (hroom : b2n s.adp.latched.isSome + s.adp.cmds.length < 2) : ∃ t, exec (.adaptBatch d) s = .next t ∧
    t.adp = { s.adp with cmds := s.adp.cmds ++ [d] } ∧ (t.desc d).st = .running ∧ t.out = s.out := by
  refine ⟨_, (exec_adaptBatch_of_mayStart hlo hhi hmay).trans (congrArg Host.Outcome.next (if_neg (Nat.not_le.2 hroom))), ?_⟩
  exact ⟨rfl, congrArg Desc.st (State.desc_updDesc_self s d _), rfl⟩

theorem exec_adaptBatch_busy (hfull : 2 ≤ b2n s.adp.latched.isSome + s.adp.cmds.length) : ∃ t, exec (.adaptBatch d) s = .next t ∧
    t.adp = s.adp ∧ (t.desc d).st = .done := by
  obtain ⟨-, -, hlive, -⟩ := State.of_mayStart hmay
  refine ⟨_, (exec_adaptBatch_of_mayStart hlo hhi hmay).trans (congrArg Host.Outcome.next (if_pos hfull)), ?_, ?_⟩
  · exact (State.adp_of_sansHost_eq (State.sansHost_completeDesc _ d _ _ _ _)).trans rfl
  · exact congrArg Desc.st (State.desc_completeDesc_self (State.descLive_running hlive) _ _ _ _)

end

/-! ### Payload data return (R281, R283, R424) -/

/-- The state when the payload of a descriptor is there. -/
def State.payloadTaken (s : State) (d : Nat) (b : List Byte) : State := s.updDesc d fun x => { x with payload := fit b (descLen x.bytes) }

theorem State.desc_payloadTaken (s : State) (d : Nat) (b : List Byte) :
    (s.payloadTaken d b).desc d = { s.desc d with payload := fit b (descLen (s.desc d).bytes) } := State.desc_updDesc_self s d _

theorem State.submitInfer_hands (s : State) (d : Nat) : ∃ i, (s.submitInfer d).rul.lookups = s.rul.lookups ++ [i] ∧
    ((s.submitInfer d).desc d).st = .running ∧ ((s.submitInfer d).seg i).desc = some d ∧ ((s.submitInfer d).seg i).st = .lookup ∧
    ((s.submitInfer d).seg i).len = descLen (s.desc d).bytes ∧ ((s.submitInfer d).seg i).epoch = (s.desc d).calEpoch ∧
    ((s.submitInfer d).seg i).ns = byteAt (s.desc d).bytes 48 := by
  have hseg : (s.submitInfer d).seg (s.nextId + 1) = _ := State.seg_updSeg_self _ _ _
  have hdesc : (s.submitInfer d).desc d = _ := State.desc_updDesc_self _ d _
  refine ⟨s.nextId + 1, rfl, by rw [hdesc], ?_⟩
  rw [hseg]
  exact ⟨rfl, rfl, rfl, rfl, rfl⟩

theorem State.submitFrame_queues (hup : s.portUp (le (s.desc d).bytes 2 2 % 16) = true) : ∃ e,
    ((s.submitFrame d).port (le (s.desc d).bytes 2 2 % 16)).egress = (s.port (le (s.desc d).bytes 2 2 % 16)).egress ++ [e] ∧ e.rank = 5 ∧
    ((s.submitFrame d).desc d).st = .running := by
  have hsubmit : s.submitFrame d = _ := if_pos hup
  rw [hsubmit]
  exact ⟨_, congrArg PortSt.egress (State.port_updPort_self _ _ _), rfl, congrArg Desc.st (State.desc_updDesc_self s d _)⟩

/-- No data and no timeout come to a descriptor that has issued no read. -/
theorem exec_payload_of_waiting (hst : (s.desc d).st = .waiting) :
    exec (.completionTimeout d) s = .next s ∧ ∀ b, exec (.dmaReadCompletion d b) s = .next s := by
  refine ⟨?_, fun b => ?_⟩
  · show execCompletionTimeout d s = _
    rw [execCompletionTimeout, hst]
  · show execDmaReadCompletion d b s = _
    unfold execDmaReadCompletion
    rw [hst]

variable {n : Nat} (hst : (s.desc d).st = .reading n)
include hst

theorem exec_completionTimeout_early (h : s.now < n + 50000000) : exec (.completionTimeout d) s = .next s := by
  show execCompletionTimeout d s = _
  rw [execCompletionTimeout, hst]
  exact congrArg Host.Outcome.next (if_neg (by simpa [State.passed] using h))

variable (hlive : s.descLive d = true)
include hlive

theorem exec_completionTimeout_due (h : n + 50000000 ≤ s.now) : ∃ t l, exec (.completionTimeout d) s = .next t ∧ (t.desc d).st = .done ∧
    t.out = s.out ++ [.completionTimeout (s.qp (s.desc d).qp).func] ++ l := by
  have hexec : exec (.completionTimeout d) s =
      .next ((s.emit (.completionTimeout (s.qp (s.desc d).qp).func)).completeDesc d 0x09 0 0 0) := by
    show execCompletionTimeout d s = _
    rw [execCompletionTimeout, hst]
    exact congrArg Host.Outcome.next (if_pos (decide_eq_true h))
  have hlive' : (s.emit (.completionTimeout (s.qp (s.desc d).qp).func)).descLive d = true := hlive
  obtain ⟨l, hl⟩ := State.out_completeDesc hlive' 0x09 0 0 0
  exact ⟨_, l, hexec, congrArg Desc.st (State.desc_completeDesc_self hlive' _ _ _ _), hl.symm⟩

/-- A read that failed completes its descriptor HOST_READ. -/
theorem exec_dmaReadCompletion_failed : ∃ t, exec (.dmaReadCompletion d none) s = .next t ∧ (t.desc d).st = .done ∧ t.rul = s.rul ∧
    t.mac = s.mac := by
  have hexec : exec (.dmaReadCompletion d none) s = .next (s.completeDesc d 0x09 0 0 0) := by
    show execDmaReadCompletion d none s = _
    rw [execDmaReadCompletion, hst]
    exact congrArg Host.Outcome.next (if_neg (by rw [hlive]; decide))
  have hrest := s.sansHost_completeDesc d 0x09 0 0 0
  exact ⟨_, hexec, congrArg Desc.st (State.desc_completeDesc_self hlive _ _ _ _), State.rul_of_sansHost_eq hrest, State.mac_of_sansHost_eq hrest⟩

theorem exec_dmaReadCompletion_data (b : List Byte) : exec (.dmaReadCompletion d (some b)) s =
    .next (if (s.desc d).op = 1 then (s.payloadTaken d b).submitInfer d else (s.payloadTaken d b).submitFrame d) := by
  have hop : ((s.payloadTaken d b).desc d).op = (s.desc d).op := by
    rw [State.desc_payloadTaken]
    rfl
  rw [← hop]
  show execDmaReadCompletion d (some b) s = _
  rw [execDmaReadCompletion, hst]
  exact congrArg Host.Outcome.next (if_neg (by rw [hlive]; decide))

theorem exec_dmaReadCompletion_infer (b : List Byte) (hop : (s.desc d).op = 1) : ∃ t i, exec (.dmaReadCompletion d (some b)) s = .next t ∧
    t.rul.lookups = s.rul.lookups ++ [i] ∧ (t.desc d).st = .running ∧ (t.seg i).desc = some d ∧ (t.seg i).st = .lookup ∧
    (t.seg i).len = descLen (s.desc d).bytes ∧ (t.seg i).epoch = (s.desc d).calEpoch ∧ (t.seg i).ns = byteAt (s.desc d).bytes 48 := by
  obtain ⟨i, hands⟩ := (s.payloadTaken d b).submitInfer_hands d
  rw [State.desc_payloadTaken] at hands
  exact ⟨_, i, (exec_dmaReadCompletion_data hst hlive b).trans (congrArg _ (if_pos hop)), hands⟩

theorem exec_dmaReadCompletion_frame (b : List Byte) (hop : (s.desc d).op = 2) (hup : s.portUp (le (s.desc d).bytes 2 2 % 16) = true) :
    ∃ t e, exec (.dmaReadCompletion d (some b)) s = .next t ∧
      (t.port (le (s.desc d).bytes 2 2 % 16)).egress = (s.port (le (s.desc d).bytes 2 2 % 16)).egress ++ [e] ∧ e.rank = 5 ∧
      (t.desc d).st = .running := by
  have hqueue := State.submitFrame_queues (s := s.payloadTaken d b) (d := d)
  rw [State.desc_payloadTaken] at hqueue
  obtain ⟨e, hegress⟩ := hqueue hup
  exact ⟨_, e, (exec_dmaReadCompletion_data hst hlive b).trans (congrArg _ (if_neg (by rw [hop]; decide))), hegress⟩

end

/-! ### O47 -/

/-- Settles O47: by the record's bytes and place, by what each opcode's row does where its descriptor may start, and by what comes of its read. -/
theorem descriptorsCompleteOnce : Obligations.DescriptorsCompleteOnce := by
  refine ⟨length_cqRecord, Qp.wrote_place, fun d s => ⟨exec_of_not_mayStart d, exec_adaptBatch_of_not_mayStart, exec_descNop_records,
    exec_descNop_silent, fun hmay => ?_, fun hmay => ?_, exec_rxBuf_posts, exec_counterDump_writes, exec_commitRules_requests,
    fun hlo hhi hmay => ⟨exec_adaptBatch_joins hlo hhi hmay, exec_adaptBatch_busy hlo hhi hmay⟩,
    fun n hst hlive => ⟨exec_dmaReadCompletion_failed hst hlive, exec_dmaReadCompletion_infer hst hlive, exec_dmaReadCompletion_frame hst hlive,
      exec_completionTimeout_early hst, exec_completionTimeout_due hst hlive⟩, exec_payload_of_waiting⟩⟩
  · obtain ⟨-, -, -, hbus⟩ := State.of_mayStart hmay
    exact ⟨_, congrArg Host.Outcome.next (if_pos hmay), State.payloadRead_issues hbus⟩
  · obtain ⟨-, -, -, hbus⟩ := State.of_mayStart hmay
    exact ⟨_, congrArg Host.Outcome.next (if_pos hmay), State.payloadRead_issues hbus⟩

end Sys2Proof.Machine
end

section
/-! Arbitration of an egress port (R40, R104, R121): the frame that is taken, the boundary of a port with one frame of the host, the guard, the
mirror wait, and O8. -/

namespace Sys2Proof.Machine

/-! ### The frame taken (R121) -/

/-- What `takeFirst` takes is the first element of its kind, and the rest keeps its order. -/
theorem takeFirst_eq_some {α : Type} {p : α → Bool} {l rest : List α} {x : α} (h : takeFirst p l = some (x, rest)) :
    ∃ a b, l = a ++ x :: b ∧ rest = a ++ b ∧ p x = true ∧ ∀ y ∈ a, p y = false := by
  induction l generalizing rest with
  | nil => exact absurd h (by simp [takeFirst])
  | cons y r ih =>
    by_cases hy : p y = true
    · obtain ⟨rfl, rfl⟩ : y = x ∧ r = rest := by simpa [takeFirst, hy] using h
      exact ⟨[], r, rfl, rfl, hy, by simp⟩
    · obtain ⟨l', hl', rfl⟩ : ∃ l', takeFirst p r = some (x, l') ∧ y :: l' = rest := by simpa [takeFirst, hy] using h
      obtain ⟨a, b, rfl, rfl, hx, ha⟩ := ih hl'
      refine ⟨y :: a, b, rfl, rfl, hx, fun z hz => ?_⟩
      rcases List.mem_cons.1 hz with rfl | hz
      · exact Bool.eq_false_of_not_eq_true hy
      · exact ha z hz

/-- The frame taken is the first of the lowest order among the eligible ones. -/
theorem State.of_pick {s : State} {p : Nat} {e : EFrame} {rest : List EFrame} (h : s.pick p = some (e, rest)) :
    ∃ a b, (s.port p).egress = a ++ e :: b ∧ rest = a ++ b ∧ s.eligible p e = true ∧
      (∀ x ∈ (s.port p).egress, s.eligible p x = true → e.order ≤ x.order) ∧ ∀ x ∈ a, s.eligible p x = true → e.order < x.order := by
  unfold State.pick at h
  dsimp only at h
  split at h
  · exact absurd h nofun
  next o hmin =>
    obtain ⟨-, hle⟩ := List.min?_eq_some_iff.1 hmin
    obtain ⟨a, b, hl, hrest, he, ha⟩ := takeFirst_eq_some h
    obtain ⟨helig, rfl⟩ : s.eligible p e = true ∧ e.order = o := by simpa using he
    have hlow : ∀ x ∈ (s.port p).egress, s.eligible p x = true → e.order ≤ x.order := fun x hx hex =>
      hle _ (List.mem_map_of_mem (List.mem_filter.2 ⟨hx, hex⟩))
    refine ⟨a, b, hl, hrest, helig, hlow, fun x hx hex => lt_of_le_of_ne (hlow x (hl ▸ List.mem_append_left _ hx) hex) fun heq => ?_⟩
    simpa [hex, heq] using ha x hx

theorem State.pick_of_one {s : State} {p : Nat} {e : EFrame} (hl : (s.port p).egress = [e]) (he : s.eligible p e = true) :
    s.pick p = some (e, []) := by
  simp [State.pick, hl, he, takeFirst]

/-! ### The boundary of a port with one frame of the host (R40, R121) -/

/-- A port written as it was. -/
theorem State.port_updPort_same {s : State} {p : Nat} {g : PortSt → PortSt} (h : g (s.port p) = s.port p) (q : Nat) :
    (s.updPort p g).port q = s.port q := by
  by_cases hq : q = p
  · rw [hq, State.port_updPort_self, h]
  · rw [State.port_updPort_ne _ _ _ hq]

section
variable {s : State} {p : Nat}

theorem State.settleTx_of_idle (h : (s.port p).tx = none) : s.settleTx p = s := by
  rw [State.settleTx, h]

theorem State.dropDead_of_carried (h : ∀ e ∈ (s.port p).egress, s.canCarry p e = true) :
    s.dropDead p = s.updPort p fun q => { q with egress := (s.port p).egress } := by
  have hdead : (s.port p).egress.filter (fun e => !s.canCarry p e) = [] := List.filter_eq_nil_iff.2 fun e he => by simp [h e he]
  rw [State.dropDead, hdead, List.filter_eq_self.2 h]
  rfl

theorem State.pfcCheck_of_off (h : s.flag (Reg.MAC_PORT_CTRL_pfc_tx_en p) = false) : s.pfcCheck p = s := if_neg (by rw [h]; exact Bool.false_ne_true)

variable {d : Nat} {b : List Byte} {e : EFrame}

theorem State.dropIdleRecalls_of_host (hk : e.kind = .host d b) (hl : (s.port p).egress = [e]) (q : Nat) :
    (s.dropIdleRecalls p).port q = s.port q := by
  refine State.port_updPort_same ?_ q
  rw [show (s.port p).egress.filter _ = (s.port p).egress by rw [hl, List.filter_cons, hk]; rfl]

/-- The state in which a boundary takes a frame: what has ended or can no longer be carried has left the port. -/
def State.cleaned (s : State) (p : Nat) : State := (((s.settleTx p).dropDead p).dropIdleRecalls p).pfcCheck p

/-- Nothing leaves an idle port where one frame of the host waits. -/
theorem State.cleaned_of_host (hk : e.kind = .host d b) (hl : (s.port p).egress = [e]) (htx : (s.port p).tx = none)
    (hup : s.portUp p = true) (hpfc : s.flag (Reg.MAC_PORT_CTRL_pfc_tx_en p) = false) :
    ∃ m : MacSt, s.cleaned p = { s with mac := m } ∧ ∀ q, (s.cleaned p).port q = s.port q := by
  have hcarry : ∀ x ∈ (s.port p).egress, s.canCarry p x = true := fun x hx => by
    obtain rfl : x = e := by simpa [hl] using hx
    rw [State.canCarry, hk]
    exact hup
  have hdead := State.dropDead_of_carried hcarry
  have hports : ∀ q, (s.dropDead p).port q = s.port q := fun q => by
    rw [hdead]
    exact State.port_updPort_same rfl q
  have hkeep : ∀ q, ((s.dropDead p).dropIdleRecalls p).port q = s.port q := fun q =>
    (State.dropIdleRecalls_of_host hk ((congrArg PortSt.egress (hports p)).trans hl) q).trans (hports q)
  have hclean : s.cleaned p = (s.dropDead p).dropIdleRecalls p := by
    rw [State.cleaned, State.settleTx_of_idle htx, State.pfcCheck_of_off]
    rw [hdead]
    exact hpfc
  exact ⟨((s.dropDead p).dropIdleRecalls p).mac, hclean.trans (by rw [hdead]; rfl), hclean ▸ hkeep⟩

theorem State.eligible_host (hk : e.kind = .host d b) (hheld : (s.port p).heldPrio e.prio = false) : s.eligible p e = true := by
  simp [State.eligible, State.sendable, hk, hheld]

theorem State.startTx_host (hk : e.kind = .host d b) : s.startTx p e = s.putTx p e (s.ptpOneStep p s.thyme b) false := by
  rw [State.startTx, hk]

/-- A port that may send and has no PFC frame to send puts the frame that is taken on the wire. -/
theorem State.boundary_of_pick {rest : List EFrame} (htx : ((s.cleaned p).port p).tx = none) (hpfc : ((s.cleaned p).port p).pfcOut = [])
    (hfree : ((s.cleaned p).port p).nextFree ≤ (s.cleaned p).now10) (hup : (s.cleaned p).portUp p = true)
    (hpick : (s.cleaned p).pick p = some (e, rest)) :
    s.boundary p = ((s.cleaned p).updPort p fun q => { q with egress := rest }).startTx p e := by
  unfold State.cleaned at *
  unfold State.boundary
  generalize (((s.settleTx p).dropDead p).dropIdleRecalls p).pfcCheck p = u at *
  have hmay : ¬ ((u.port p).tx.isSome = true ∨ u.now10 < (u.port p).nextFree ∨ u.portUp p = false) := by
    simp [htx, hup, hfree]
  dsimp only
  rw [if_neg hmay, hpfc, hpick]

end

theorem exec_egressFrameBoundary_host {p : Fin 16} {s : State} {d : Nat} {b : List Byte} {e : EFrame} (hk : e.kind = .host d b)
    (hl : (s.port p.val).egress = [e]) (htx : (s.port p.val).tx = none) (hpfc : (s.port p.val).pfcOut = [])
    (hfree : (s.port p.val).nextFree ≤ s.now10) (hup : s.portUp p.val = true) (hheld : (s.port p.val).heldPrio e.prio = false)
    (hoff : s.flag (Reg.MAC_PORT_CTRL_pfc_tx_en p.val) = false) : ∃ t, exec (.egressFrameBoundary p) s = .next t ∧ (t.port p.val).egress = [] ∧
      (t.port p.val).tx = some ⟨e, s.now10, s.ptpOneStep p.val s.thyme b, false, false, s.thyme⟩ ∧
      portsBut s t p.val ∧ t = { s with mac := t.mac } := by
  obtain ⟨m, hclean, hports⟩ := State.cleaned_of_host hk hl htx hup hoff
  have hport := hports p.val
  have hup' : (s.cleaned p.val).portUp p.val = true := by
    rw [State.portUp, hport, hclean]
    exact hup
  have hpick : (s.cleaned p.val).pick p.val = some (e, []) :=
    State.pick_of_one (hport ▸ hl) (State.eligible_host hk (hport ▸ hheld))
  have hnow : (s.cleaned p.val).now10 = s.now10 := by rw [hclean]; rfl
  have hexec : exec (.egressFrameBoundary p) s =
      .next (((s.cleaned p.val).updPort p.val fun q => { q with egress := [] }).putTx p.val e (s.ptpOneStep p.val s.thyme b) false) := by
    refine congrArg Host.Outcome.next ?_
    rw [State.boundary_of_pick (hport ▸ htx) (hport ▸ hpfc) (hport ▸ hnow ▸ hfree) hup' hpick, State.startTx_host hk, hclean]
    rfl
  refine ⟨_, hexec, ?_, ?_, fun q hq => ?_, ?_⟩
  · rw [State.putTx, State.port_updPort_self, State.port_updPort_self]
  · rw [State.putTx, State.port_updPort_self, hclean]
    rfl
  · rw [State.putTx, State.port_updPort_ne _ _ _ hq, State.port_updPort_ne _ _ _ hq, hports]
  · rw [hclean]
    rfl

/-! ### The guard and the mirror wait (R104, R121) -/

theorem exec_arbGuardExpiry (p : Fin 16) (s : State) : exec (.arbGuardExpiry p) s = .next (s.updPort p.val fun q => { q with
    egress := q.egress.map fun e => { e with promoted := e.promoted || (decide (4 ≤ e.rank) && s.eligible p.val e &&
      s.passed e.since (s.fld Reg.ERP_ARB_GUARD_guard_ns)) } }) := by
  have hpromote : ∀ e : EFrame, (if 4 ≤ e.rank ∧ s.eligible p.val e = true ∧ s.passed e.since (s.fld Reg.ERP_ARB_GUARD_guard_ns) = true
      then { e with promoted := true } else e) = { e with promoted := e.promoted || (decide (4 ≤ e.rank) && s.eligible p.val e &&
      s.passed e.since (s.fld Reg.ERP_ARB_GUARD_guard_ns)) } := fun e => by
    split
    next h =>
      obtain ⟨hrank, helig, hpassed⟩ := h
      simp [hrank, helig, hpassed]
    next h =>
      have hno : (decide (4 ≤ e.rank) && s.eligible p.val e && s.passed e.since (s.fld Reg.ERP_ARB_GUARD_guard_ns)) = false := by
        simpa [and_assoc] using h
      rw [hno, Bool.or_false]
  change Host.Outcome.next (s.updPort p.val fun q => { q with egress := q.egress.map _ }) = _
  rw [funext hpromote]

theorem exec_mirrorWaitExpiry {f : Nat} {s : State} {m : MirrorAct} (hm : (s.frame f).mirror = some m) (hw : s.mirrorWaits m.port f = true)
    (hpassed : s.passed (s.frame f).tailAt (s.fld Reg.RUL_MIRROR_WAIT_wait_ns) = true) : exec (.mirrorWaitExpiry f) s =
    .next (((s.updPort m.port fun q => { q with egress := q.egress.filter fun e => e.kind != .mirror f }).updFrame f
      fun x => { x with mirror := none }).bump Reg.RUL_MIRROR_DROP) := by
  change execMirrorWaitExpiry f s = _
  rw [execMirrorWaitExpiry, hm]
  exact congrArg Host.Outcome.next (if_pos ⟨hw, hpassed⟩)

/-! ### O8 -/

/-- Settles O8: by what is first among the frames of the lowest order, and by what each expiry writes to the port. -/
theorem egressArbitrationOrder : Obligations.EgressArbitrationOrder := by
  refine ⟨fun s p e rest h => State.of_pick h, fun p s d b e hk hl htx hpfc hfree hup hheld hoff =>
    exec_egressFrameBoundary_host hk hl htx hpfc hfree hup hheld hoff, exec_arbGuardExpiry,
    fun f s m hm hw hpassed => ⟨_, exec_mirrorWaitExpiry hm hw hpassed, ?_, ?_, ?_, fun g hg => ?_, fun q hq => ?_, fun a ha => ?_⟩⟩
  · exact congrArg Frame.mirror (State.frame_updFrame_self _ f _)
  · exact State.reg_bump_self _ _
  · exact congrArg PortSt.egress (State.port_updPort_self s m.port _)
  · exact State.frame_updFrame_ne _ _ _ hg
  · exact State.port_updPort_ne _ _ _ hq
  · exact State.reg_bump_ne _ (List.ne_of_not_mem_cons ha)

end Sys2Proof.Machine
end

section
/-! The early reply unit at a verdict (R114 to R118): what its work leaves of bundles, of the front end and of Oslink as it was, and what becomes
of held records, of coalescing records and of segments. -/

namespace Sys2Proof.Machine

/-! ### Tables changed cell by cell -/

theorem Tab.get_of_not_listed {α : Type} (t : Tab α) {k : Nat} (h : k ∉ t.keys) : t.get k = t.dflt := by
  rw [Tab.get, cellsGet_eq_none fun d hd e => h (List.mem_map.2 ⟨d, hd, e⟩)]
  rfl

section
variable {α : Type} [DecidableEq α] (t : Tab α)

@[simp] theorem Tab.dflt_set (k : Nat) (v : α) : (t.set k v).dflt = t.dflt := by
  unfold Tab.set
  split <;> rfl

theorem Tab.get_foldl_set (g : Nat → α) (l : List Nat) (k : Nat) :
    (l.foldl (fun u j => u.set j (g j)) t).get k = if k ∈ l then g k else t.get k := by
  induction l generalizing t with
  | nil => simp
  | cons j r ih =>
    rw [List.foldl_cons, ih]
    by_cases hr : k ∈ r
    · simp [hr]
    · by_cases hk : k = j
      · simp [hk]
      · simp [hr, hk, Tab.get_set_ne _ _ hk]

theorem Tab.get_mapCells (f : Nat → α → α) (k : Nat) : (t.mapCells f).get k = if k ∈ t.keys then f k (t.get k) else t.get k :=
  t.get_foldl_set (fun j => f j (t.get j)) t.keys k

theorem Tab.dflt_mapCells (f : Nat → α → α) : (t.mapCells f).dflt = t.dflt :=
  foldl_keeps Tab.dflt (fun u j => u.dflt_set j _) t.keys t

theorem Tab.wf_mapCells (f : Nat → α → α) (h : t.wf = true) : (t.mapCells f).wf = true :=
  List.foldlRecOn (motive := fun u : Tab α => u.wf = true) t.keys _ h fun u hu j _ => u.wf_set j _ hu

/-- Every cell of a canonical table that was changed cell by cell is the image of a cell. -/
theorem Tab.cell_mapCells (f : Nat → α → α) (h : t.wf = true) {c : Nat × α} (hc : c ∈ (t.mapCells f).cells) : c.2 = f c.1 (t.get c.1) := by
  have hwf := t.wf_mapCells f h
  have hget : (t.mapCells f).get c.1 = c.2 := by rw [Tab.get, cellsGet_of_mem (Tab.rising_of_wf hwf) hc]; rfl
  have hlisted : c.1 ∈ t.keys := by
    by_contra hk
    have hall := (Bool.and_eq_true_iff.1 hwf).2
    have hne : c.2 ≠ (t.mapCells f).dflt := of_decide_eq_true (List.all_eq_true.1 hall c hc)
    rw [Tab.get_mapCells, if_neg hk, t.get_of_not_listed hk] at hget
    exact hne (hget.symm.trans (t.dflt_mapCells f).symm)
  rw [← hget, Tab.get_mapCells, if_pos hlisted]

end

/-! ### What the work of the unit leaves alone -/

/-- A bundle without its notes of what was sent, entered or withdrawn. -/
def Bundle.sansSent (b : Bundle) : Bundle := { b with shares := [], entered := 0, withdrawn := 0, firstProv := none }

/-- The bundles but for those notes, the front end and Oslink: what the unit leaves as it was when it sends, coalesces and settles frames. -/
def State.aside (s : State) : (Nat → Bundle) × SfeSt × OslSt := (fun b => (s.bundle b).sansSent, s.sfe, s.osl)

/-- That, with the records held and the coalescing buffers. -/
def State.unitSide (s : State) : ((Nat → Bundle) × SfeSt × OslSt) × List (Nat × Record) × Tab (Option Coal) :=
  (s.aside, s.erp.held, s.erp.coal)

theorem Bundle.verdict_of_sansSent_eq {x y : Bundle} {v : Option Cause} {n : Nat}
    (h : x.sansSent = { y.sansSent with verdict := v, verdictAt := n }) : x.verdict = v ∧ x.verdictAt = n :=
  ⟨(congrArg Bundle.verdict h :), (congrArg Bundle.verdictAt h :)⟩

theorem Bundle.cond_of_sansSent_eq {x y : Bundle} {v : Option Cause} {n : Nat}
    (h : x.sansSent = { y.sansSent with verdict := v, verdictAt := n }) : x.rcond = y.rcond ∧ x.rfirst = y.rfirst :=
  ⟨(congrArg Bundle.rcond h :), (congrArg Bundle.rfirst h :)⟩

theorem Bundle.sansSent_updShare (b : Bundle) (prof : Nat) (g : ProfShare → ProfShare) : (b.updShare prof g).sansSent = b.sansSent := by
  unfold Bundle.updShare
  split <;> rfl

section
variable {s t : State}

theorem State.sansSent_of_aside_eq (h : t.aside = s.aside) (b : Nat) : (t.bundle b).sansSent = (s.bundle b).sansSent :=
  congrArg (fun v => v.1 b) h

theorem State.sfe_of_aside_eq (h : t.aside = s.aside) : t.sfe = s.sfe := congrArg (fun v => v.2.1) h

theorem State.osl_of_aside_eq (h : t.aside = s.aside) : t.osl = s.osl := congrArg (fun v => v.2.2) h

theorem State.aside_of_unitSide_eq (h : t.unitSide = s.unitSide) : t.aside = s.aside := congrArg (fun v => v.1) h

theorem State.held_of_unitSide_eq (h : t.unitSide = s.unitSide) : t.erp.held = s.erp.held := congrArg (fun v => v.2.1) h

theorem State.coal_of_unitSide_eq (h : t.unitSide = s.unitSide) : t.erp.coal = s.erp.coal := congrArg (fun v => v.2.2) h

theorem State.unitSide_of_sansHost_eq (h : t.sansHost = s.sansHost) : t.unitSide = s.unitSide := (congrArg State.unitSide h :)

theorem State.erp_of_sansMac_eq (h : t.sansMac = s.sansMac) : t.erp = s.erp := (congrArg State.erp h :)

theorem State.unitSide_of_sansMac_eq (h : t.sansMac = s.sansMac) : t.unitSide = s.unitSide := (congrArg State.unitSide h :)

end

section
variable (s : State)

theorem State.unitSide_bump (a : Nat) : (s.bump a).unitSide = s.unitSide := rfl

theorem State.unitSide_bumpIf (c : Bool) (a : Nat) : (s.bumpIf c a).unitSide = s.unitSide := by cases c <;> rfl

theorem State.unitSide_updBundle (b : Nat) {g : Bundle → Bundle} (hg : ∀ x, (g x).sansSent = x.sansSent) :
    (s.updBundle b g).unitSide = s.unitSide := by
  have hb : (fun j => ((s.updBundle b g).bundle j).sansSent) = fun j => (s.bundle j).sansSent := funext fun j => by
    by_cases hj : j = b
    · rw [hj, State.bundle_updBundle_self, hg]
    · rw [State.bundle_updBundle_ne _ _ _ hj]
  exact congrArg (fun v => ((v, s.sfe, s.osl), s.erp.held, s.erp.coal)) hb

theorem State.unitSide_origGone (f : Nat) : (s.origGone f).unitSide = s.unitSide := State.unitSide_of_sansMac_eq (State.sansMac_pfcCheck _ _)

theorem State.unitSide_replyEnded (r : ReplyFrame) : (s.replyEnded r).unitSide = s.unitSide :=
  foldl_keeps State.unitSide (fun u x => by
    split
    · exact u.unitSide_updBundle _ fun b => b.sansSent_updShare _ _
    · rfl) r.records s

theorem State.unitSide_settleTx (p : Nat) : (s.settleTx p).unitSide = s.unitSide := by
  unfold State.settleTx
  split
  · rfl
  · split
    · extract_lets lenErr bad gone sent counted
      have hc : counted.unitSide = s.unitSide := by rw [State.unitSide_bumpIf, State.unitSide_bumpIf]; rfl
      split
      · rw [State.unitSide_origGone, hc]
      · exact hc
      · rw [State.unitSide_of_sansHost_eq (State.sansHost_completeDesc ..), hc]
      · split
        · rw [State.unitSide_replyEnded, hc]
        · exact hc
    · rfl

theorem State.unitSide_settleAll : s.settleAll.unitSide = s.unitSide := foldl_keeps State.unitSide State.unitSide_settleTx _ s

theorem State.unitSide_withdraw (b i : Nat) : (s.withdraw b i).unitSide = s.unitSide := by
  unfold State.withdraw
  split
  · rfl
  · exact s.unitSide_updBundle b fun _ => rfl

theorem State.unitSide_enterCrossing (r : ReplyFrame) : (s.enterCrossing r).unitSide = s.unitSide := by
  unfold State.enterCrossing
  split
  · exact foldl_keeps State.unitSide (f := fun u (x : Record) => u.updBundle x.bundle fun b => { b with entered := b.entered ||| 1 <<< x.segIndex })
      (fun u _ => u.unitSide_updBundle _ fun _ => rfl) _ s
  · exact s.unitSide_bump _

theorem State.unitSide_sendVerdict (bi p kind : Nat) (c : Cause) : (s.sendVerdict bi p kind c).unitSide = s.unitSide :=
  s.unitSide_enterCrossing _

theorem State.unitSide_sendGood (bi p : Nat) : (s.sendGood bi p).unitSide = s.unitSide := by
  unfold State.sendGood
  dsimp only
  split
  · exact s.unitSide_sendVerdict ..
  · split
    · exact s.unitSide_sendVerdict ..
    · rfl

/-! ### Coalescing (R116) -/

theorem State.aside_enterCrossing (r : ReplyFrame) : (s.enterCrossing r).aside = s.aside := State.aside_of_unitSide_eq (s.unitSide_enterCrossing r)

theorem State.aside_openCoal (p : Nat) (x : Record) : (s.openCoal p x).aside = s.aside := by
  unfold State.openCoal
  dsimp only
  split
  · exact s.aside_enterCrossing _
  · rfl

theorem State.aside_flushCoal (p : Nat) : (s.flushCoal p).aside = s.aside := by
  unfold State.flushCoal
  split
  · rfl
  · exact State.aside_enterCrossing _ _

theorem State.aside_coalesce (p : Nat) (x : Record) : (s.coalesce p x).aside = s.aside := by
  unfold State.coalesce
  split
  · exact s.aside_openCoal p x
  · split
    · rw [State.aside_openCoal, State.aside_flushCoal]
    · dsimp only
      split
      · exact State.aside_enterCrossing _ _
      · rfl

theorem State.aside_leaveHold : s.leaveHold.aside = s.aside := by
  unfold State.leaveHold
  split
  exact foldl_keeps State.aside (fun u h => by
    split
    · rfl
    · exact u.aside_coalesce _ _) _ _

/-- No record held under HOLD belongs to a bundle. -/
def State.heldClear (s : State) (bi : Nat) : Prop := ∀ h ∈ s.erp.held, h.2.bundle ≠ bi

/-- No record in a coalescing buffer belongs to a bundle. -/
def State.coalClear (s : State) (bi : Nat) : Prop := ∀ p k, s.erp.coal.get p = some k → ∀ x ∈ k.frame.records, x.bundle ≠ bi

end

section
variable {s : State} {bi : Nat}

theorem State.coalClear.of_coal_eq {t : State} (h : s.coalClear bi) (ht : t.erp.coal = s.erp.coal) : t.coalClear bi := fun p => by
  rw [ht]
  exact h p

theorem State.coalClear.setCoal (h : s.coalClear bi) (p : Nat) {c : Option Coal}
    (hc : ∀ k, c = some k → ∀ x ∈ k.frame.records, x.bundle ≠ bi) : (s.setCoal p c).coalClear bi := fun q k hk => by
  by_cases hq : q = p
  · refine hc k (Eq.trans ?_ hk)
    exact hq ▸ (s.erp.coal.get_set_self p c).symm
  · exact h q k ((s.erp.coal.get_set_ne c hq).symm.trans hk)

theorem State.coalClear.enterCrossing (h : s.coalClear bi) (r : ReplyFrame) : (s.enterCrossing r).coalClear bi :=
  h.of_coal_eq (State.coal_of_unitSide_eq (s.unitSide_enterCrossing r))

theorem State.coalClear.openCoal (h : s.coalClear bi) (p : Nat) {x : Record} (hx : x.bundle ≠ bi) : (s.openCoal p x).coalClear bi := by
  unfold State.openCoal
  dsimp only
  split
  · exact h.enterCrossing _
  · refine h.setCoal p fun k hk y hy => ?_
    obtain rfl := Option.some.inj hk
    rwa [List.mem_singleton.1 hy]

theorem State.coalClear.clearBuffer (h : s.coalClear bi) (p : Nat) : (s.setCoal p none).coalClear bi := h.setCoal p nofun

theorem State.coalClear.flushCoal (h : s.coalClear bi) (p : Nat) : (s.flushCoal p).coalClear bi := by
  unfold State.flushCoal
  split
  · exact h
  · exact (h.clearBuffer p).enterCrossing _

theorem State.coalClear.coalesce (h : s.coalClear bi) (p : Nat) {x : Record} (hx : x.bundle ≠ bi) : (s.coalesce p x).coalClear bi := by
  unfold State.coalesce
  split
  · exact h.openCoal p hx
  next c hc =>
    split
    · exact (h.flushCoal p).openCoal p hx
    · dsimp only
      split
      · exact (h.clearBuffer p).enterCrossing _
      · refine h.setCoal p fun k hk y hy => ?_
        obtain rfl := Option.some.inj hk
        rcases List.mem_append.1 hy with hy | hy
        · exact h p c hc y hy
        · rwa [List.mem_singleton.1 hy]

/-! ### What leaves HOLD (R115, R122) -/

/-- What leaves HOLD and what stays was held. -/
theorem mem_of_mem_holdSplit (l : List (Nat × Record)) : (∀ h ∈ (holdSplit l).1, h ∈ l) ∧ ∀ h ∈ (holdSplit l).2, h ∈ l := by
  refine List.foldlRecOn (motive := fun a : List (Nat × Record) × List (Nat × Record) => (∀ h ∈ a.1, h ∈ l) ∧ ∀ h ∈ a.2, h ∈ l) l _
    ⟨nofun, nofun⟩ fun a ⟨hgo, hstay⟩ x hx => ?_
  have hadd : ∀ b : List (Nat × Record), (∀ h ∈ b, h ∈ l) → ∀ h ∈ b ++ [x], h ∈ l := fun b hb h hh =>
    (List.mem_append.1 hh).elim (hb h) fun e => List.mem_singleton.1 e ▸ hx
  split
  · exact ⟨hadd _ hgo, hstay⟩
  · exact ⟨hgo, hadd _ hstay⟩

theorem State.held_coalesce (s : State) (p : Nat) (x : Record) : (s.coalesce p x).erp.held = s.erp.held := by
  have hcross : ∀ (u : State) r, (u.enterCrossing r).erp.held = u.erp.held := fun u r => State.held_of_unitSide_eq (u.unitSide_enterCrossing r)
  have hopen : ∀ u : State, (u.openCoal p x).erp.held = u.erp.held := fun u => by
    unfold State.openCoal
    dsimp only
    split
    · exact hcross u _
    · rfl
  have hflush : (s.flushCoal p).erp.held = s.erp.held := by
    unfold State.flushCoal
    split
    · rfl
    · exact hcross _ _
  unfold State.coalesce
  split
  · exact hopen s
  · split
    · rw [hopen, hflush]
    · dsimp only
      split
      · exact hcross _ _
      · rfl

theorem State.held_leaveHold (s : State) : s.leaveHold.erp.held = (holdSplit s.erp.held).2 := by
  unfold State.leaveHold
  split
  next go stay hsplit =>
    rw [hsplit]
    refine foldl_keeps (fun u : State => u.erp.held) (fun u h => ?_) _ _
    split
    · rfl
    · exact u.held_coalesce _ _

theorem State.heldClear.leaveHold (h : s.heldClear bi) : s.leaveHold.heldClear bi := fun x hx =>
  h x ((mem_of_mem_holdSplit _).2 x (s.held_leaveHold ▸ hx))

theorem State.coalClear.leaveHold (h : s.coalClear bi) (hheld : s.heldClear bi) : s.leaveHold.coalClear bi := by
  unfold State.leaveHold
  split
  next go stay hsplit =>
    have hgo : ∀ x ∈ go, x.2.bundle ≠ bi := fun x hx => hheld x ((mem_of_mem_holdSplit _).1 x (by rw [hsplit]; exact hx))
    refine List.foldlRecOn (motive := fun u : State => u.coalClear bi) go _ (h.of_coal_eq rfl) fun u hu x hx => ?_
    split
    · exact hu.of_coal_eq rfl
    · exact hu.coalesce _ (hgo x hx)

/-! ### Verdicts (R117, R118) -/

/-- The verdict of a bundle is recorded with its instant. -/
def State.verdictNoted (s : State) (bi : Nat) (c : Cause) : State := s.updBundle bi fun b => { b with verdict := some c, verdictAt := s.now }

/-- Every segment of a bundle is withdrawn. -/
def State.segsWithdrawn (s : State) (bi : Nat) : State :=
  { s with sfe := { s.sfe with segs := s.sfe.segs.mapCells fun _ g => if g.bundle = bi then { g with withdrawn := true } else g } }

theorem State.aside_segsWithdrawn {t : State} (h : t.aside = s.aside) : (t.segsWithdrawn bi).aside = (s.segsWithdrawn bi).aside :=
  congrArg (fun v : (Nat → Bundle) × SfeSt × OslSt => (v.1, { v.2.1 with segs := v.2.1.segs.mapCells fun _ g =>
    if g.bundle = bi then { g with withdrawn := true } else g }, v.2.2)) h

/-- The records of a bundle are taken out of a coalescing buffer; a frame that held only such is gone. -/
def Coal.without (bi : Nat) (c : Coal) : Option Coal :=
  let l := c.frame.records.filter fun x => x.bundle != bi
  if l.isEmpty then none else some ⟨c.t0, { c.frame with records := l }⟩

/-- The coalescing buffers and HOLD without the records of a bundle. -/
def ErpSt.without (e : ErpSt) (bi : Nat) : ErpSt :=
  { e with coal := e.coal.mapCells fun _ c => c.bind (Coal.without bi), held := e.held.filter fun h => h.2.bundle != bi }

theorem ErpSt.held_without (e : ErpSt) (bi : Nat) : ∀ h ∈ (e.without bi).held, h.2.bundle ≠ bi := fun h hh => by
  simpa using (List.mem_filter.1 hh).2

theorem ErpSt.coal_without {e : ErpSt} (bi : Nat) (hdflt : e.coal.dflt = none) :
    ∀ p k, (e.without bi).coal.get p = some k → ∀ x ∈ k.frame.records, x.bundle ≠ bi := fun p k hk x hx => by
  rw [ErpSt.without, Tab.get_mapCells] at hk
  split at hk
  · obtain ⟨c, -, hc⟩ := Option.bind_eq_some_iff.1 hk
    unfold Coal.without at hc
    dsimp only at hc
    split at hc
    · exact absurd hc nofun
    · obtain rfl := Option.some.inj hc
      simpa using (List.mem_filter.1 hx).2
  next hp =>
    rw [Tab.get_of_not_listed _ hp, hdflt] at hk
    exact absurd hk nofun

/-- Frames of the ports apart, the records of a bundle are taken out of the coalescing buffers and HOLD. -/
theorem State.sansMac_removeRecords : (s.removeRecords bi).sansMac = (s.updErp fun e => e.without bi).sansMac := by
  have hcells : (fun (_ : Nat) (c : Option Coal) => match c with
      | none => none
      | some c =>
        let l := c.frame.records.filter fun x => x.bundle != bi
        if l.isEmpty then none else some (⟨c.t0, { c.frame with records := l }⟩ : Coal)) = fun _ c => c.bind (Coal.without bi) :=
    funext fun _ => funext fun c => by cases c <;> rfl
  unfold State.removeRecords
  refine (foldl_keeps State.sansMac (fun u p => by rfl) _ _).trans ?_
  exact congrArg (fun f => (s.updErp fun e => { e with coal := e.coal.mapCells f, held := e.held.filter fun h => h.2.bundle != bi }).sansMac) hcells

theorem State.erp_removeRecords : (s.removeRecords bi).erp = s.erp.without bi := State.erp_of_sansMac_eq State.sansMac_removeRecords

theorem State.aside_updErp_without : (s.updErp fun e => e.without bi).aside = s.aside := rfl

theorem State.aside_removeRecords : (s.removeRecords bi).aside = s.aside :=
  (State.aside_of_unitSide_eq (State.unitSide_of_sansMac_eq State.sansMac_removeRecords)).trans State.aside_updErp_without

theorem State.aside_goodVerdict : (s.goodVerdict bi).aside = s.aside := by
  have hsend : ∀ (u : State) p, (u.sendGood bi p).aside = u.aside := fun u p => State.aside_of_unitSide_eq (u.unitSide_sendGood bi p)
  unfold State.goodVerdict
  extract_lets shares settled
  have hs : settled.aside = s.aside := rfl
  split
  · exact hs
  · split
    · split
      · rw [hsend, hs]
      · exact hs
    · rw [foldl_keeps State.aside fun u _ => hsend u _, hs]

/-- The state of a bad verdict before withdrawals are counted and RECALL is sent. -/
def State.recordsGone (s : State) (bi : Nat) : State := (s.settleAll.removeRecords bi).segsWithdrawn bi

theorem State.unitSide_badVerdict {c : Cause} : (s.badVerdict bi c).unitSide = (s.recordsGone bi).unitSide := by
  have hwithdraw : ∀ (u : State) (l : List Nat) (q : State → Nat → Bool),
      (l.foldl (fun u i => if q u i then u else u.withdraw bi i) u).unitSide = u.unitSide := fun u l q =>
    foldl_keeps State.unitSide (fun v i => by
      split
      · rfl
      · exact v.unitSide_withdraw bi i) l u
  have hrecall : ∀ (u : State) (l : List ProfShare) (q : State → ProfShare → Bool),
      (l.foldl (fun u h => if q u h then u.sendVerdict bi h.prof 1 c else u) u).unitSide = u.unitSide := fun u l q =>
    foldl_keeps State.unitSide (fun v h => by
      split
      · exact v.unitSide_sendVerdict ..
      · rfl) l u
  exact (hrecall _ _ _).trans (hwithdraw _ _ _)

theorem State.erp_segsWithdrawn : (s.segsWithdrawn bi).erp = s.erp := rfl

theorem State.erp_recordsGone : (s.recordsGone bi).erp = s.settleAll.erp.without bi := by
  rw [State.recordsGone, State.erp_segsWithdrawn, State.erp_removeRecords]

theorem State.aside_recordsGone : (s.recordsGone bi).aside = (s.segsWithdrawn bi).aside :=
  State.aside_segsWithdrawn (State.aside_removeRecords.trans (State.aside_of_unitSide_eq s.unitSide_settleAll))

theorem State.heldClear_badVerdict {c : Cause} : (s.badVerdict bi c).heldClear bi := by
  rw [State.heldClear, State.held_of_unitSide_eq State.unitSide_badVerdict, State.erp_recordsGone]
  exact ErpSt.held_without _ bi

theorem State.coalClear_badVerdict {c : Cause} (hdflt : s.erp.coal.dflt = none) : (s.badVerdict bi c).coalClear bi := by
  rw [State.coalClear, State.coal_of_unitSide_eq State.unitSide_badVerdict, State.erp_recordsGone]
  exact ErpSt.coal_without bi ((congrArg Tab.dflt (State.coal_of_unitSide_eq s.unitSide_settleAll)).trans hdflt)

theorem State.segsWithdrawn_withdraws (hwf : s.sfe.segs.wf = true) :
    ∀ g ∈ (s.segsWithdrawn bi).sfe.segs.cells, g.2.bundle = bi → g.2.withdrawn = true := fun g hg hbundle => by
  have himage := Tab.cell_mapCells _ _ hwf hg
  by_cases hold : (s.sfe.segs.get g.1).bundle = bi
  · rw [himage, if_pos hold]
  · rw [if_neg hold] at himage
    exact absurd (himage ▸ hbundle) hold

end

section
variable (s : State) (bi : Nat) {c : Cause}

theorem State.aside_applyVerdict_good : (s.applyVerdict bi .none).aside = (s.verdictNoted bi .none).aside :=
  (State.aside_leaveHold _).trans State.aside_goodVerdict

theorem State.applyVerdict_bad (hc : c ≠ .none) : s.applyVerdict bi c = ((s.verdictNoted bi c).badVerdict bi c).leaveHold := by
  rw [State.applyVerdict, if_neg hc]
  rfl

theorem State.aside_applyVerdict_bad (hc : c ≠ .none) : (s.applyVerdict bi c).aside = ((s.verdictNoted bi c).segsWithdrawn bi).aside := by
  rw [State.applyVerdict_bad _ _ hc, State.aside_leaveHold, State.aside_of_unitSide_eq State.unitSide_badVerdict, State.aside_recordsGone]

/-- The bundle that a verdict reaches has it, with its instant; what was sent of it apart, nothing else of it changes. -/
theorem State.bundle_applyVerdict (c : Cause) : ((s.applyVerdict bi c).bundle bi).sansSent =
    { (s.bundle bi).sansSent with verdict := some c, verdictAt := s.now } := by
  have hnoted : ((s.verdictNoted bi c).bundle bi).sansSent = { (s.bundle bi).sansSent with verdict := some c, verdictAt := s.now } :=
    congrArg Bundle.sansSent (s.bundle_updBundle_self bi _)
  by_cases hc : c = .none
  · subst hc
    exact (State.sansSent_of_aside_eq (s.aside_applyVerdict_good bi) bi).trans hnoted
  · exact (State.sansSent_of_aside_eq (s.aside_applyVerdict_bad bi hc) bi).trans hnoted

theorem State.verdict_applyVerdict (c : Cause) : ((s.applyVerdict bi c).bundle bi).verdict = some c ∧
    ((s.applyVerdict bi c).bundle bi).verdictAt = s.now :=
  Bundle.verdict_of_sansSent_eq (s.bundle_applyVerdict bi c)

/-- A verdict keeps what else a VERDICT record brought of its bundle (R113, R125). -/
theorem State.cond_applyVerdict (c : Cause) : ((s.applyVerdict bi c).bundle bi).rcond = (s.bundle bi).rcond ∧
    ((s.applyVerdict bi c).bundle bi).rfirst = (s.bundle bi).rfirst :=
  Bundle.cond_of_sansSent_eq (s.bundle_applyVerdict bi c)

theorem State.osl_applyVerdict (c : Cause) : (s.applyVerdict bi c).osl = s.osl := by
  by_cases hc : c = .none
  · subst hc
    exact (State.osl_of_aside_eq (s.aside_applyVerdict_good bi)).trans rfl
  · exact (State.osl_of_aside_eq (s.aside_applyVerdict_bad bi hc)).trans rfl

/-- After a bad verdict nothing of the bundle is held or coalescing, and its segments are withdrawn. -/
theorem State.applyVerdict_withdraws (hc : c ≠ .none) : (s.applyVerdict bi c).heldClear bi ∧
    (s.erp.coal.dflt = none → (s.applyVerdict bi c).coalClear bi) ∧
    ∀ g ∈ (s.applyVerdict bi c).sfe.segs.cells, g.2.bundle = bi → s.sfe.segs.wf = true → g.2.withdrawn = true := by
  have hsfe := State.sfe_of_aside_eq (s.aside_applyVerdict_bad bi hc)
  rw [State.applyVerdict_bad _ _ hc] at hsfe ⊢
  refine ⟨State.heldClear_badVerdict.leaveHold, fun hdflt => ?_, fun g hg hbundle hwf => ?_⟩
  · exact (State.coalClear_badVerdict (s := s.verdictNoted bi c) hdflt).leaveHold State.heldClear_badVerdict
  · exact State.segsWithdrawn_withdraws (s := s.verdictNoted bi c) hwf g (hsfe ▸ hg) hbundle

end

end Sys2Proof.Machine
end

section
/-! The commands of a verdict (R117 to R120, R126): what Oslink leaves alone of the unit, VERDICT_AT_ERP and REMOTE_WAIT_EXPIRY, the stomp of started
replies, and O26. -/

namespace Sys2Proof.Machine

/-! ### What Oslink leaves alone of the unit (R304, R305) -/

/-- The early reply unit and the front end. -/
def State.replySide (s : State) : ErpSt × SfeSt := (s.erp, s.sfe)

section
variable (s : State)

theorem State.replySide_updLink (l : Nat) (g : LinkSt → LinkSt) : (s.updLink l g).replySide = s.replySide := rfl

theorem State.replySide_sendFrame (l : Nat) (recs : List OslRec) : (s.sendFrame l recs).replySide = s.replySide := rfl

theorem State.replySide_leavePool (c : Carried) : (s.leavePool c).replySide = s.replySide := by
  unfold State.leavePool
  split
  · rfl
  · split <;> rfl

theorem State.replySide_drainLink (l : Nat) : (s.drainLink l).replySide = s.replySide := by
  unfold State.drainLink
  dsimp only
  refine (State.replySide_updLink _ l _).trans (foldl_keeps (fun a : State × List Carried => a.1.replySide) (fun a c => ?_) _ _)
  split
  · rw [State.replySide_leavePool, State.replySide_sendFrame, State.replySide_updLink]
  · rfl

theorem State.replySide_giveLink (l : Nat) (c : Carried) : (s.giveLink l c).replySide = s.replySide := State.replySide_drainLink _ l

theorem State.replySide_sendDir (dim : Nat) (minus : Bool) (c : Carried) : (s.sendDir dim minus c).replySide = s.replySide := by
  unfold State.sendDir
  dsimp only
  split
  · rfl
  · exact s.replySide_giveLink _ c

theorem State.replySide_switchDir (dim : Nat) (minus : Bool) : (s.switchDir dim minus).replySide = s.replySide :=
  foldl_keeps State.replySide (fun u c => u.replySide_sendDir dim minus c) _ (s.takeSet dim minus).2

theorem State.replySide_toDir (dim : Nat) (minus : Bool) (c : Carried) : (s.toDir dim minus c).replySide = s.replySide := by
  unfold State.toDir
  dsimp only
  split
  · exact s.replySide_sendDir dim minus c
  · split
    · rw [State.replySide_sendDir, State.replySide_switchDir]
    · rfl

theorem State.replySide_deliverRec (r : OslRec) : (s.deliverRec r).replySide = s.replySide := by
  unfold State.deliverRec
  split
  · rfl
  · split
    · dsimp only
      split <;> rfl
    · split <;> rfl

theorem State.replySide_oslSubmit (d : Option Nat) (r : OslRec) : (s.oslSubmit d r).replySide = s.replySide := by
  unfold State.oslSubmit State.oslCarry
  split
  · rw [State.replySide_deliverRec, State.replySide_leavePool]
  next det _ =>
    rw [State.replySide_toDir]
    cases det <;> rfl
  · exact foldl_keeps State.replySide (fun u p => by rfl) _ _

theorem State.replySide_sendVerdictTo (bi chip : Nat) : (s.sendVerdictTo bi chip).replySide = s.replySide := by
  unfold State.sendVerdictTo
  dsimp only
  split
  · rfl
  · exact s.replySide_oslSubmit none _

end

/-! ### VERDICT_AT_ERP and REMOTE_WAIT_EXPIRY (R117, R118, R126) -/

/-- A frame's verdict that reaches the unit takes effect there, and leaves for other chips. -/
theorem exec_verdictAtErp {f : Nat} {s : State} {c : Cause} (hruns : s.runs (some 3) = true) (hready : (s.frame f).verdictReady = some c)
    (hframe : (s.bundle f).frame = some f) (hnone : (s.bundle f).verdict = none) :
    ∃ t, exec (.verdictAtErp f) s = .next t ∧ t.replySide = (s.applyVerdict f c).replySide := by
  have hat : s.verdictAtErp f = s.applyVerdict f c := by
    rw [State.verdictAtErp, hready]
    exact if_pos ⟨hframe, hnone⟩
  have hexec : exec (.verdictAtErp f) s =
      .next (((s.applyVerdict f c).verdictChips f).foldl (fun u d => u.sendVerdictTo f d) (s.applyVerdict f c)) := by
    change execVerdictAtErp f s = _
    rw [execVerdictAtErp, State.whenRuns_of_runs hruns, hat]
    exact congrArg Host.Outcome.next (if_pos ⟨hnone, by rw [(s.verdict_applyVerdict f c).1]; exact Option.some_ne_none c⟩)
  exact ⟨_, hexec, foldl_keeps State.replySide (fun u d => u.replySide_sendVerdictTo f d) _ _⟩

theorem exec_remoteWaitExpiry {b x : Nat} {s : State} (hruns : s.runs (some 3) = true) (hprov : (s.bundle b).firstProv = some x)
    (hremote : (s.bundle b).remote = true) (hnone : (s.bundle b).verdict = none) (hpassed : x + s.fld Reg.ERP_REMOTE_WAIT_wait_ns ≤ s.now) :
    exec (.remoteWaitExpiry b) s = .next (s.applyVerdict b .verdictLost) := by
  change execRemoteWaitExpiry b s = _
  rw [execRemoteWaitExpiry, State.whenRuns_of_runs hruns]
  dsimp only
  rw [hprov]
  exact congrArg Host.Outcome.next (if_pos ⟨hremote, hnone, decide_eq_true hpassed⟩)

/-! ### The stomp of started replies (R119) -/

/-- Whether a frame on the wire is a REPLY of a bundle's records alone whose FCS has not begun. -/
def TxFrame.mayStomp (bi now10 byteTime : Nat) (x : TxFrame) : Bool :=
  match x.item.kind with
  | .reply r => decide (r.kind = 0) && !x.stomped && r.records.all (fun y => y.bundle == bi) && decide (now10 < x.start + x.bytes.length * byteTime)
  | _ => false

/-- The frame is to end with an invalid FCS. -/
def TxFrame.stomp (x : TxFrame) : TxFrame := { x with badFcs := true, stomped := true }

/-- Whether a port has such a frame on its wire. -/
def State.stompable (s : State) (bi q : Nat) : Bool := (s.port q).tx.any (TxFrame.mayStomp bi s.now10 s.byteTime)

/-- A stomp reaches a port. -/
def State.stompPort (s : State) (bi q : Nat) : State :=
  if s.stompable bi q then (s.updPort q fun u => { u with tx := (s.port q).tx.map TxFrame.stomp }).bump Reg.ERP_STOMPED else s

theorem State.stompBundle_eq (s : State) (bi : Nat) : s.stompBundle bi = (List.range 16).foldl (fun u q => u.stompPort bi q) s.settleAll := by
  unfold State.stompBundle
  congr 1
  funext u q
  unfold State.stompPort State.stompable TxFrame.mayStomp
  rcases (u.port q).tx with - | ⟨⟨kind, -, -, -, -⟩, start, bytes, -, stomped, -⟩
  · rfl
  · cases kind with
    | reply r =>
      dsimp only [Option.any]
      by_cases h : r.kind = 0 ∧ stomped = false ∧ r.records.all (fun y => y.bundle == bi) = true ∧ u.now10 < start + bytes.length * u.byteTime
      · rw [if_pos h, if_pos]
        · rfl
        · simpa [and_assoc] using h
      · rw [if_neg h, if_neg]
        simpa [and_assoc] using h
    | _ => rfl

/-! ### Frames that have ended (R27) -/

/-- The frames on the wires, the instant, the port mode and the count of stomps. -/
def State.wireSide (s : State) : (Nat → Option TxFrame) × Nat × DWord × DWord :=
  (fun q => (s.port q).tx, s.now, s.reg Reg.MAC_MODE, s.reg Reg.ERP_STOMPED)

section
variable {s t : State}

theorem State.wireSide_bump {a : Nat} (hmode : Reg.MAC_MODE ≠ a) (hstomped : Reg.ERP_STOMPED ≠ a) : (s.bump a).wireSide = s.wireSide :=
  congrArg₂ (fun x y => (fun q => (s.port q).tx, s.now, x, y)) (State.reg_bump_ne s hmode) (State.reg_bump_ne s hstomped)

theorem State.wireSide_bumpIf (c : Bool) {a : Nat} (hmode : Reg.MAC_MODE ≠ a) (hstomped : Reg.ERP_STOMPED ≠ a) :
    (s.bumpIf c a).wireSide = s.wireSide := by
  cases c
  · rfl
  · exact State.wireSide_bump hmode hstomped

theorem State.wireSide_of_sansHost_eq (h : t.sansHost = s.sansHost) : t.wireSide = s.wireSide := (congrArg State.wireSide h :)

theorem State.wireSide_updPort {p : Nat} {g : PortSt → PortSt} (hg : ∀ x, (g x).tx = x.tx) : (s.updPort p g).wireSide = s.wireSide :=
  congrArg (fun x => (x, s.now, s.reg Reg.MAC_MODE, s.reg Reg.ERP_STOMPED)) (funext (s.port_updPort_keeps PortSt.tx p hg))

theorem State.wireSide_origGone (f : Nat) : (s.origGone f).wireSide = s.wireSide := by
  unfold State.origGone State.pfcCheck
  split
  · split
    · split
      · exact State.wireSide_updPort fun _ => rfl
      · rfl
    · split
      · exact State.wireSide_updPort fun _ => rfl
      · rfl
  · rfl

theorem State.wireSide_replyEnded (r : ReplyFrame) : (s.replyEnded r).wireSide = s.wireSide :=
  foldl_keeps State.wireSide (fun u x => by split <;> rfl) r.records s

/-- A frame that has ended leaves the wire of its port; the other wires are as they were. -/
theorem State.wireSide_settleTx {p : Nat} (hp : p < 16) : (s.settleTx p).wireSide = s.wireSide ∨
    ∃ x, (s.port p).tx = some x ∧ s.txEnded x = true ∧ (s.settleTx p).wireSide = (s.updPort p fun q => { q with tx := none }).wireSide := by
  unfold State.settleTx
  split
  · exact .inl rfl
  next x hx =>
    split
    next hended =>
      refine .inr ⟨x, hx, hended, ?_⟩
      extract_lets lenErr bad gone sent counted
      have hframes : Reg.MAC_MODE ≠ Reg.MAC_TX_FRAMES p ∧ Reg.ERP_STOMPED ≠ Reg.MAC_TX_FRAMES p := by
        simp only [Reg.MAC_MODE, Reg.ERP_STOMPED, Reg.MAC_TX_FRAMES]
        omega
      have hfcs : Reg.MAC_MODE ≠ Reg.MAC_TX_BAD_FCS p ∧ Reg.ERP_STOMPED ≠ Reg.MAC_TX_BAD_FCS p := by
        simp only [Reg.MAC_MODE, Reg.ERP_STOMPED, Reg.MAC_TX_BAD_FCS]
        omega
      have hsent : sent.wireSide = gone.wireSide := State.wireSide_bump hframes.1 hframes.2
      have hc : counted.wireSide = gone.wireSide := by
        rw [State.wireSide_bumpIf _ (by decide) (by decide), State.wireSide_bumpIf _ hfcs.1 hfcs.2, hsent]
      split
      · rw [State.wireSide_origGone, hc]
      · exact hc
      · rw [State.wireSide_of_sansHost_eq (State.sansHost_completeDesc ..), hc]
      · split
        · rw [State.wireSide_replyEnded, hc]
        · exact hc
    · exact .inl rfl

/-- `t` is `s` after frames that had ended left their wires. -/
structure State.Settled (s t : State) : Prop where
  now : t.now = s.now
  mode : t.reg Reg.MAC_MODE = s.reg Reg.MAC_MODE
  count : t.reg Reg.ERP_STOMPED = s.reg Reg.ERP_STOMPED
  tx : ∀ q, (t.port q).tx = (s.port q).tx ∨
    (t.port q).tx = none ∧ ∃ x, (s.port q).tx = some x ∧ x.start + (x.bytes.length + 4) * s.byteTime ≤ s.now10

theorem State.byteTime_of_mode (h : t.reg Reg.MAC_MODE = s.reg Reg.MAC_MODE) : t.byteTime = s.byteTime :=
  congrArg byteTimeOf (State.portMode_of_reg_eq h)

theorem State.Settled.trans {u : State} (h : s.Settled t) (h' : t.Settled u) : s.Settled u := by
  refine ⟨h'.now.trans h.now, h'.mode.trans h.mode, h'.count.trans h.count, fun q => ?_⟩
  rcases h'.tx q with hsame | ⟨hnone, x, hx, hend⟩
  · exact hsame ▸ h.tx q
  · rcases h.tx q with hq | ⟨hq, -⟩
    · rw [State.byteTime_of_mode h.mode, State.now10, h.now] at hend
      exact .inr ⟨hnone, x, hq ▸ hx, hend⟩
    · exact absurd (hq.symm.trans hx) nofun

theorem State.Settled.settleTx (h : s.Settled t) {p : Nat} (hp : p < 16) : s.Settled (t.settleTx p) := by
  refine h.trans ?_
  rcases t.wireSide_settleTx hp with heq | ⟨x, hx, hended, heq⟩
  · exact ⟨congrArg (fun v => v.2.1) heq, congrArg (fun v => v.2.2.1) heq, congrArg (fun v => v.2.2.2) heq,
      fun q => .inl (congrArg (fun v => v.1 q) heq)⟩
  · refine ⟨congrArg (fun v => v.2.1) heq, congrArg (fun v => v.2.2.1) heq, congrArg (fun v => v.2.2.2) heq, fun q => ?_⟩
    have htx : ((t.settleTx p).port q).tx = ((t.updPort p fun q => { q with tx := none }).port q).tx := congrArg (fun v => v.1 q) heq
    by_cases hq : q = p
    · subst hq
      rw [State.port_updPort_self] at htx
      have htime := (Bool.and_eq_true_iff.1 hended).1
      exact .inr ⟨htx, x, hx, of_decide_eq_true htime⟩
    · rw [State.port_updPort_ne _ _ _ hq] at htx
      exact .inl htx

theorem State.settled_settleAll (s : State) : s.Settled s.settleAll :=
  List.foldlRecOn (motive := s.Settled) (List.range 16) _ ⟨rfl, rfl, rfl, fun _ => .inl rfl⟩ fun _ h _ hp => h.settleTx (List.mem_range.1 hp)

/-- A frame whose FCS has not begun has not ended, so what may be stomped is on the wire still. -/
theorem State.Settled.tx_of_stompable (h : s.Settled t) {bi q : Nat} (hq : s.stompable bi q = true) : (t.port q).tx = (s.port q).tx := by
  rcases h.tx q with hsame | ⟨-, x, hx, hend⟩
  · exact hsame
  · rw [State.stompable, hx] at hq
    have hlate : s.now10 < x.start + x.bytes.length * s.byteTime := by
      unfold TxFrame.mayStomp at hq
      dsimp only [Option.any] at hq
      split at hq
      · exact of_decide_eq_true (Bool.and_eq_true_iff.1 hq).2
      · exact absurd hq Bool.false_ne_true
    have hle : x.bytes.length * s.byteTime ≤ (x.bytes.length + 4) * s.byteTime := Nat.mul_le_mul_right _ (Nat.le_add_right _ _)
    omega

theorem State.stompable_congr {bi q : Nat} (htx : (t.port q).tx = (s.port q).tx) (hnow : t.now = s.now)
    (hmode : t.reg Reg.MAC_MODE = s.reg Reg.MAC_MODE) : t.stompable bi q = s.stompable bi q := by
  rw [State.stompable, htx, State.now10, hnow, State.byteTime_of_mode hmode]
  rfl

theorem State.Settled.stompable (h : s.Settled t) (bi q : Nat) : t.stompable bi q = s.stompable bi q := by
  rcases h.tx q with hsame | ⟨hnone, -⟩
  · exact State.stompable_congr hsame h.now h.mode
  · have hno : t.stompable bi q = false := by rw [State.stompable, hnone]; rfl
    rw [hno]
    refine (Bool.eq_false_of_not_eq_true fun hq => ?_).symm
    have htrue := (State.stompable_congr (h.tx_of_stompable hq) h.now h.mode (bi := bi)).trans hq
    exact absurd (hno.symm.trans htrue) Bool.false_ne_true

/-! ### The stomp of a bundle -/

theorem State.tx_stompPort (s : State) (bi p q : Nat) : ((s.stompPort bi p).port q).tx =
    if q = p ∧ s.stompable bi q = true then (s.port q).tx.map TxFrame.stomp else (s.port q).tx := by
  unfold State.stompPort
  by_cases hq : q = p
  · subst hq
    by_cases hs : s.stompable bi q = true
    · rw [if_pos hs, if_pos ⟨rfl, hs⟩]
      exact congrArg PortSt.tx (s.port_updPort_self q _)
    · rw [if_neg hs, if_neg fun h => hs h.2]
  · refine Eq.trans ?_ (if_neg fun h => hq h.1).symm
    split
    · exact congrArg PortSt.tx (s.port_updPort_ne p _ hq)
    · rfl

theorem State.stompable_stompPort_ne (s : State) (bi : Nat) {p q : Nat} (hq : q ≠ p) : (s.stompPort bi p).stompable bi q = s.stompable bi q := by
  refine State.stompable_congr ((s.tx_stompPort bi p q).trans (if_neg fun h => hq h.1)) ?_ ?_
  all_goals
    unfold State.stompPort
    split
  · rfl
  · rfl
  · exact State.reg_bump_ne _ (by decide)
  · rfl

theorem State.reg_stompPort (s : State) (bi p : Nat) : (s.stompPort bi p).reg Reg.ERP_STOMPED =
    s.reg Reg.ERP_STOMPED + BitVec.ofNat 64 ([p].filter (s.stompable bi)).length := by
  unfold State.stompPort
  by_cases hs : s.stompable bi p = true
  · rw [if_pos hs, List.filter_cons_of_pos hs]
    exact State.reg_bump_self _ _
  · rw [if_neg hs, List.filter_cons_of_neg hs]
    exact (BitVec.add_zero _).symm

/-- The ports whose frame may be stomped are stomped, each once, and counted. -/
theorem State.foldl_stompPort (bi : Nat) {l : List Nat} (hl : l.Nodup) (s : State) :
    (∀ q ∈ l, s.stompable bi q = true → ((l.foldl (fun u q => u.stompPort bi q) s).port q).tx = (s.port q).tx.map TxFrame.stomp) ∧
    (∀ q ∉ l, ((l.foldl (fun u q => u.stompPort bi q) s).port q).tx = (s.port q).tx) ∧
    (l.foldl (fun u q => u.stompPort bi q) s).reg Reg.ERP_STOMPED =
      s.reg Reg.ERP_STOMPED + BitVec.ofNat 64 (l.filter (s.stompable bi)).length := by
  induction l generalizing s with
  | nil => exact ⟨nofun, fun _ _ => rfl, (BitVec.add_zero _).symm⟩
  | cons p r ih =>
    obtain ⟨hp, hr⟩ := List.nodup_cons.1 hl
    obtain ⟨hin, hout, hreg⟩ := ih hr (s.stompPort bi p)
    have hne : ∀ q ∈ r, q ≠ p := fun q hq e => hp (e ▸ hq)
    refine ⟨fun q hq hs => ?_, fun q hq => ?_, ?_⟩
    · rcases List.mem_cons.1 hq with rfl | hq
      · exact (hout q hp).trans ((s.tx_stompPort bi q q).trans (if_pos ⟨rfl, hs⟩))
      · rw [List.foldl_cons, hin q hq ((s.stompable_stompPort_ne bi (hne q hq)).trans hs), s.tx_stompPort, if_neg fun h => hne q hq h.1]
    · obtain ⟨hqp, hqr⟩ := not_or.1 (List.mem_cons.not.1 hq)
      exact (hout q hqr).trans ((s.tx_stompPort bi p q).trans (if_neg fun h => hqp h.1))
    · have hfilter : r.filter ((s.stompPort bi p).stompable bi) = r.filter (s.stompable bi) :=
        List.filter_congr fun q hq => s.stompable_stompPort_ne bi (hne q hq)
      rw [List.foldl_cons, hreg, hfilter, s.reg_stompPort, BitVec.add_assoc, ← BitVec.ofNat_add, ← List.length_append, ← List.filter_append]
      rfl

theorem State.stompBundle_stomps (s : State) (bi : Nat) :
    (∀ q < 16, s.stompable bi q = true → ((s.stompBundle bi).port q).tx = (s.port q).tx.map TxFrame.stomp) ∧
    (s.stompBundle bi).reg Reg.ERP_STOMPED = s.reg Reg.ERP_STOMPED + BitVec.ofNat 64 ((List.range 16).filter (s.stompable bi)).length := by
  have hsettled := s.settled_settleAll
  obtain ⟨hin, -, hreg⟩ := State.foldl_stompPort bi (List.nodup_range (n := 16)) s.settleAll
  rw [← State.stompBundle_eq] at hreg
  refine ⟨fun q hq hs => ?_, ?_⟩
  · rw [State.stompBundle_eq, hin q (List.mem_range.2 hq) ((hsettled.stompable bi q).trans hs), hsettled.tx_of_stompable hs]
  · rw [hreg, hsettled.count, List.filter_congr fun q _ => hsettled.stompable bi q]

theorem exec_stomp {f : Nat} {c : Cause} (hruns : s.runs (some 3) = true) (hv : (s.frame f).verdict = some (c, true)) (hc : c ≠ .none) :
    exec (.stomp f) s = .next (s.stompBundle f) := by
  change execStomp f s = _
  rw [execStomp, State.whenRuns_of_runs hruns, hv]
  exact congrArg Host.Outcome.next (if_pos (decide_eq_true hc))

end

/-! ### O26 -/

/-- Settles O26: by what a verdict's work leaves of HOLD, the coalescing buffers and the segments, and by the frames that a stomp finds on the
wires. -/
theorem badVerdictWithdrawsBundle : Obligations.BadVerdictWithdrawsBundle := by
  refine ⟨fun f s c hruns hready hframe hnone => ?_, fun f s c hruns hv hc => ?_, fun b s x hruns hprov hremote hnone hpassed =>
    ⟨_, exec_remoteWaitExpiry hruns hprov hremote hnone hpassed, s.verdict_applyVerdict b _⟩⟩
  · obtain ⟨t, hexec, hside⟩ := exec_verdictAtErp hruns hready hframe hnone
    have herp : t.erp = (s.applyVerdict f c).erp := congrArg Prod.fst hside
    have hsfe : t.sfe = (s.applyVerdict f c).sfe := congrArg Prod.snd hside
    obtain ⟨hverdict, hat⟩ := s.verdict_applyVerdict f c
    refine ⟨t, hexec, by rw [State.bundle, herp]; exact hverdict, by rw [State.bundle, herp]; exact hat, fun hc => ?_⟩
    rw [herp, hsfe]
    exact s.applyVerdict_withdraws f hc
  · obtain ⟨hstomped, hcount⟩ := s.stompBundle_stomps f
    intro hit
    have hhit : hit = s.stompable f := funext fun q => by
      unfold hit State.stompable
      cases (s.port q).tx <;> rfl
    rw [hhit]
    exact ⟨_, exec_stomp hruns hv hc, hstomped, hcount⟩

end Sys2Proof.Machine
end

section
/-! Floods and notices (R125, R309, R310, R312 to R314): the control records that have arrived, the two floods that act on programs, notices of passes
and spans, and verdicts of other chips. -/

namespace Sys2Proof.Machine

/-! ### Program entries -/

@[simp] theorem State.prog_updProg_self (s : State) (p : Nat) (f : ProgSt → ProgSt) : (s.updProg p f).prog p = f (s.prog p) := by
  simp [State.prog, State.updProg, State.updOsl]

theorem State.prog_updProg_ne (s : State) (p : Nat) (f : ProgSt → ProgSt) {j : Nat} (hne : j ≠ p) : (s.updProg p f).prog j = s.prog j := by
  simp [State.prog, State.updProg, State.updOsl, Tab.get_upd_ne _ _ hne]

/-! ### Records that have arrived (R293) -/

/-- The block once an arrived control record has been taken. -/
def State.sansArrived (s : State) (i : Nat) : State := s.updOsl fun _ => { s.osl with arrived := s.osl.arrived.eraseIdx i }

section
variable {s : State} {i : Nat} {r : OslRec}

theorem State.takeArrived_of_none (h : s.osl.arrived[i]? = none) (kind : Nat) : s.takeArrived i kind = none := by
  rw [State.takeArrived, h]

theorem State.takeArrived_of_some (h : s.osl.arrived[i]? = some r) : s.takeArrived i r.kind = some (r, s.sansArrived i) := by
  rw [State.takeArrived, h]
  exact if_pos rfl

theorem exec_of_none_arrived (h : s.osl.arrived[i]? = none) : exec (.progAbort i) s = .next s ∧ exec (.chipAbsent i) s = .next s ∧
    exec (.passNotice i) s = .next s ∧ exec (.spanNotice i) s = .next s ∧ exec (.verdict i) s = .next s := by
  have htake := State.takeArrived_of_none h
  refine ⟨?_, ?_, ?_, ?_, ?_⟩
  · change execProgAbort i s = _
    rw [execProgAbort, htake]
  · change execChipAbsent i s = _
    rw [execChipAbsent, htake]
  · change execPassNotice i s = _
    rw [execPassNotice, htake]
  · change execSpanNotice i s = _
    rw [execSpanNotice, htake]
  · change execVerdict i s = _
    rw [execVerdict, htake]

theorem State.floodOut_of_none_active (h : ∀ l, l < 16 → (s.link l).st ≠ 2) (r : OslRec) : s.floodOut r = s :=
  List.foldlRecOn (motive := fun u => u = s) (List.range 16) _ rfl fun u hu l hl => by
    rw [hu]
    exact if_neg (h l (List.mem_range.1 hl))

/-! ### PROG_ABORT (R312, R313) -/

/-- A chip has forwarded the flood that aborts a program under a generation. -/
def State.abortNoted (s : State) (p g : Nat) : State := s.updOsl fun o => { o with abortsSeen := o.abortsSeen ++ [(p, g)] }

/-- A program entry after an abort: the next generation, in RECOVER from this instant unless it is HALTED. -/
def ProgSt.aborted (e : ProgSt) (now : Nat) : ProgSt :=
  { e with gen := (e.gen + 1) % 256, st := if e.st = 3 then 3 else 2, since := if e.st = 3 then e.since else now }

theorem State.dropNotices_of_none {p : Nat} (h : (s.prog p).notices = []) :
    s.dropNotices p = s.updProg p fun e => { e with notices := [], results := [] } := by
  rw [State.dropNotices, h]
  rfl

/-- A program that this chip holds has been aborted: its generation rises, its notices end and its slice's plot is revoked. -/
def State.progAborted (s : State) (p g : Nat) : State :=
  let t := (((s.updProg p (·.aborted s.now)).bump Reg.OSL_PROG_ABORT).dropNotices p).updOsl
    fun o => { o with abortsSeen := o.abortsSeen.filter fun a => a != (p, (g + 1) % 256) }
  match t.slicePlot p with
  | some q => t.revokePlot q
  | none => t

theorem State.progAborted_of_no_slice {p : Nat} (hnotices : (s.prog p).notices = []) (hslice : s.slicePlot p = none) (g : Nat) :
    (s.progAborted p g).prog p = { (s.prog p).aborted s.now with results := [] } ∧
    (s.progAborted p g).reg Reg.OSL_PROG_ABORT = s.reg Reg.OSL_PROG_ABORT + 1 ∧
    (∀ q, q ≠ p → (s.progAborted p g).prog q = s.prog q) ∧ (s.progAborted p g).osl.arrived = s.osl.arrived := by
  have hnow : (((s.updProg p (·.aborted s.now)).bump Reg.OSL_PROG_ABORT).prog p).notices = [] :=
    (congrArg ProgSt.notices (s.prog_updProg_self p _)).trans hnotices
  have hdone : s.progAborted p g = (((s.updProg p (·.aborted s.now)).bump Reg.OSL_PROG_ABORT).updProg p
      fun e => { e with notices := [], results := [] }).updOsl
        fun o => { o with abortsSeen := o.abortsSeen.filter fun a => a != (p, (g + 1) % 256) } := by
    unfold State.progAborted
    rw [State.dropNotices_of_none hnow]
    dsimp only
    split
    next q hq => exact absurd (hslice.symm.trans hq) nofun
    · rfl
  rw [hdone]
  refine ⟨?_, State.reg_bump_self _ _, fun q hq => ?_, rfl⟩
  · refine (State.prog_updProg_self ((s.updProg p (·.aborted s.now)).bump Reg.OSL_PROG_ABORT) p _).trans ?_
    rw [show ((s.updProg p (·.aborted s.now)).bump Reg.OSL_PROG_ABORT).prog p = (s.prog p).aborted s.now from
      s.prog_updProg_self p _, ← hnotices]
    rfl
  · exact (State.prog_updProg_ne ((s.updProg p (·.aborted s.now)).bump Reg.OSL_PROG_ABORT) p _ hq).trans (s.prog_updProg_ne p _ hq)

section
variable {p g : Nat} (harr : s.osl.arrived[i]? = some r) (hkind : r.kind = 4) (hp : bits r.data.toNat 123 120 = p)
  (hg : bits r.data.toNat 119 112 = g)
include harr hkind hp hg

theorem exec_progAbort_seen (hseen : (p, g) ∈ s.osl.abortsSeen) : exec (.progAbort i) s = .next (s.sansArrived i) := by
  have htake : s.takeArrived i 4 = some (r, s.sansArrived i) := hkind ▸ State.takeArrived_of_some harr
  subst hp hg
  change execProgAbort i s = _
  rw [execProgAbort, htake]
  exact congrArg Host.Outcome.next (if_pos (List.contains_iff_mem.2 hseen))

/-- The first copy of an abort is forwarded, and acts on a program of its generation that is here. -/
theorem exec_progAbort_new (hnew : (p, g) ∉ s.osl.abortsSeen) (hlinks : ∀ l, l < 16 → (s.link l).st ≠ 2) : exec (.progAbort i) s =
    .next (if (s.prog p).st ≠ 0 ∧ (s.prog p).gen = g then ((s.sansArrived i).abortNoted p g).progAborted p g
      else (s.sansArrived i).abortNoted p g) := by
  have htake : s.takeArrived i 4 = some (r, s.sansArrived i) := hkind ▸ State.takeArrived_of_some harr
  have hflood := State.floodOut_of_none_active (s := (s.sansArrived i).abortNoted p g) hlinks r
  subst hp hg
  change execProgAbort i s = _
  rw [execProgAbort, htake]
  refine congrArg Host.Outcome.next ((if_neg (mt List.contains_iff_mem.1 hnew)).trans ?_)
  unfold State.abortNoted at hflood
  rw [hflood]
  rfl

end

/-! ### CHIP_ABSENT (R314) -/

/-- Whether a program is halted where a chip is declared absent: it runs or recovers, and its box holds the chip. -/
abbrev State.haltsFor (s : State) (chip : Nat) (e : ProgSt) : Prop := (e.st = 1 ∨ e.st = 2) ∧ s.inBox e chip = true

/-- A program is HALTED for an absent chip, and at its home chip the rows queued for it are discarded. -/
def State.haltAt (s : State) (chip p : Nat) : State :=
  if s.haltsFor chip (s.prog p) then
    let t := s.updProg p fun e => { e with st := 3 }
    if t.homeChip (s.prog p) = t.me then
      (t.addCnt Reg.OSL_HALT_DROP (t.model (s.prog p).handle).queued.length).abortQueue (s.prog p).handle
    else t
  else s

theorem State.haltAt_of_not_home {chip p : Nat} (h : s.homeChip (s.prog p) ≠ s.me) :
    s.haltAt chip p = if s.haltsFor chip (s.prog p) then s.updProg p fun e => { e with st := 3 } else s := by
  unfold State.haltAt
  split
  · exact if_neg h
  · rfl

/-- The entry of a program after its chip has acted on an absent chip. -/
def State.haltedFor (s : State) (chip : Nat) (e : ProgSt) : ProgSt := if s.haltsFor chip e then { e with st := 3 } else e

theorem State.prog_haltAt {chip p : Nat} (h : s.homeChip (s.prog p) ≠ s.me) : (s.haltAt chip p).prog p = s.haltedFor chip (s.prog p) := by
  rw [State.haltAt_of_not_home h, State.haltedFor]
  split
  · exact s.prog_updProg_self p _
  · rfl

theorem State.prog_haltAt_ne {chip p q : Nat} (h : s.homeChip (s.prog p) ≠ s.me) (hq : q ≠ p) : (s.haltAt chip p).prog q = s.prog q := by
  rw [State.haltAt_of_not_home h]
  split
  · exact s.prog_updProg_ne p _ hq
  · rfl

theorem State.haltAt_keeps {chip p : Nat} (h : s.homeChip (s.prog p) ≠ s.me) :
    (s.haltAt chip p).regs = s.regs ∧ (s.haltAt chip p).osl.arrived = s.osl.arrived := by
  rw [State.haltAt_of_not_home h]
  split <;> exact ⟨rfl, rfl⟩

theorem State.progChip_of_regs_eq {s t : State} (h : t.regs = s.regs) (e : ProgSt) (pc : Nat) : t.progChip e pc = s.progChip e pc := by
  have hdims : t.dims = s.dims := by simp only [State.dims, State.fld, State.reg, h]
  rw [State.progChip, State.progChip, hdims]

theorem State.inBox_of_regs_eq {s t : State} (h : t.regs = s.regs) (e : ProgSt) (chip : Nat) : t.inBox e chip = s.inBox e chip := by
  simp only [State.inBox, State.progChip_of_regs_eq h]

theorem State.haltedFor_of_regs_eq {s t : State} (h : t.regs = s.regs) (chip : Nat) (e : ProgSt) : t.haltedFor chip e = s.haltedFor chip e := by
  simp only [State.haltedFor, State.haltsFor, State.inBox_of_regs_eq h]

/-- Where this chip is the home of no program, an absent chip halts each program whose box holds it and does nothing else. -/
theorem State.foldl_haltAt (chip : Nat) {l : List Nat} (hl : l.Nodup) (s : State) (hhome : ∀ q ∈ l, s.homeChip (s.prog q) ≠ s.me) :
    (l.foldl (fun u q => u.haltAt chip q) s).osl.arrived = s.osl.arrived ∧
    (∀ q ∈ l, (l.foldl (fun u q => u.haltAt chip q) s).prog q = s.haltedFor chip (s.prog q)) ∧
    ∀ q ∉ l, (l.foldl (fun u q => u.haltAt chip q) s).prog q = s.prog q := by
  induction l generalizing s with
  | nil => exact ⟨rfl, nofun, fun _ _ => rfl⟩
  | cons p r ih =>
    obtain ⟨hp, hr⟩ := List.nodup_cons.1 hl
    have hhere := hhome p List.mem_cons_self
    obtain ⟨hregs, harr⟩ := State.haltAt_keeps (chip := chip) hhere
    have hne : ∀ q ∈ r, q ≠ p := fun q hq e => hp (e ▸ hq)
    have hsame : ∀ q ∈ r, (s.haltAt chip p).prog q = s.prog q := fun q hq => State.prog_haltAt_ne hhere (hne q hq)
    have hme : (s.haltAt chip p).me = s.me := by simp only [State.me, State.fld, State.reg, hregs]
    obtain ⟨harr', hin, hout⟩ := ih hr (s.haltAt chip p) fun q hq => by
      rw [hsame q hq, State.homeChip, State.progChip_of_regs_eq hregs, hme]
      exact hhome q (List.mem_cons_of_mem _ hq)
    refine ⟨harr'.trans harr, fun q hq => ?_, fun q hq => ?_⟩
    · rcases List.mem_cons.1 hq with rfl | hq
      · exact (hout q hp).trans (State.prog_haltAt hhere)
      · rw [List.foldl_cons, hin q hq, hsame q hq, State.haltedFor_of_regs_eq hregs]
    · obtain ⟨hqp, hqr⟩ := not_or.1 (List.mem_cons.not.1 hq)
      exact (hout q hqr).trans (State.prog_haltAt_ne hhere hqp)

/-- A chip has forwarded the flood that declares a chip absent. -/
def State.absentNoted (s : State) (chip n : Nat) : State := s.updOsl fun o => { o with absentSeen := o.absentSeen ++ [(chip, n)] }

theorem exec_chipAbsent_halts (harr : s.osl.arrived[i]? = some r) (hkind : r.kind = 5)
    (hnew : (bits r.data.toNat 126 112, bits r.data.toNat 111 80) ∉ s.osl.absentSeen) (hlinks : ∀ l, l < 16 → (s.link l).st ≠ 2)
    (hhome : ∀ q, q < 16 → s.homeChip (s.prog q) ≠ s.me) : ∃ t, exec (.chipAbsent i) s = .next t ∧
      t.osl.arrived = (s.sansArrived i).osl.arrived ∧ ∀ q, q < 16 → t.prog q = s.haltedFor (bits r.data.toNat 126 112) (s.prog q) := by
  have htake : s.takeArrived i 5 = some (r, s.sansArrived i) := hkind ▸ State.takeArrived_of_some harr
  have hflood := State.floodOut_of_none_active
    (s := (s.sansArrived i).absentNoted (bits r.data.toNat 126 112) (bits r.data.toNat 111 80)) hlinks r
  have hexec : exec (.chipAbsent i) s = .next ((List.range 16).foldl (fun u q => u.haltAt (bits r.data.toNat 126 112) q)
      ((s.sansArrived i).absentNoted (bits r.data.toNat 126 112) (bits r.data.toNat 111 80))) := by
    change execChipAbsent i s = _
    rw [execChipAbsent, htake]
    refine congrArg Host.Outcome.next ((if_neg (mt List.contains_iff_mem.1 hnew)).trans ?_)
    unfold State.absentNoted at hflood ⊢
    rw [hflood]
    rfl
  obtain ⟨hsame, hhalted, -⟩ := State.foldl_haltAt (bits r.data.toNat 126 112) (List.nodup_range (n := 16))
    ((s.sansArrived i).absentNoted (bits r.data.toNat 126 112) (bits r.data.toNat 111 80)) fun q hq => hhome q (List.mem_range.1 hq)
  exact ⟨_, hexec, hsame, fun q hq => hhalted q (List.mem_range.2 hq)⟩

/-! ### PASS_NOTICE and SPAN_NOTICE (R309, R310, R312) -/

theorem State.stale_iff {p gen : Nat} : s.stale p gen = true ↔ (s.prog p).st ≠ 1 ∨ (s.prog p).gen % 16 ≠ gen := by
  simp [State.stale]

section
variable (harr : s.osl.arrived[i]? = some r) (hkind : r.kind = 1)
include harr hkind

theorem exec_passNotice_stale (h : s.stale (bits r.data.toNat 79 76) r.gen = true) :
    exec (.passNotice i) s = .next ((s.sansArrived i).bump Reg.OSL_STALE_GEN) := by
  have htake : s.takeArrived i 1 = some (r, s.sansArrived i) := hkind ▸ State.takeArrived_of_some harr
  change execPassNotice i s = _
  rw [execPassNotice, htake]
  exact congrArg Host.Outcome.next (if_pos h)

theorem exec_passNotice_current (h : s.stale (bits r.data.toNat 79 76) r.gen = false) : exec (.passNotice i) s = .next
    (if s.liveEpochs.contains (bits r.data.toNat 95 80) = false then
      ((s.sansArrived i).bump Reg.OSL_EPOCH_MISS).raiseAbort (bits r.data.toNat 79 76)
    else match s.slicePlot (bits r.data.toNat 79 76) with
      | some q => if s.sliceFree q then (s.sansArrived i).beginPass q none (bits r.data.toNat 95 80) (bits r.data.toNat 127 96) [] else s
      | none => s) := by
  have htake : s.takeArrived i 1 = some (r, s.sansArrived i) := hkind ▸ State.takeArrived_of_some harr
  change execPassNotice i s = _
  rw [execPassNotice, htake]
  exact congrArg Host.Outcome.next (if_neg (by rw [show (s.sansArrived i).stale _ _ = _ from h]; exact Bool.false_ne_true))

end

theorem exec_spanNotice_first (harr : s.osl.arrived[i]? = some r) (hkind : r.kind = 2) (hfirst : bit r.hdr.toNat 36 = false) :
    exec (.spanNotice i) s = .next ((s.sansArrived i).updProg (bits r.hdr.toNat 35 32)
      fun x => { x with notices := x.notices ++ [{ first := r }] }) := by
  have htake : s.takeArrived i 2 = some (r, s.sansArrived i) := hkind ▸ State.takeArrived_of_some harr
  change execSpanNotice i s = _
  rw [execSpanNotice, htake]
  exact congrArg Host.Outcome.next (if_pos hfirst)

/-! ### VERDICT (R125, R126, R310) -/

theorem State.aside_stompBundle (bi : Nat) : (s.stompBundle bi).aside = s.aside := by
  rw [State.stompBundle_eq]
  refine (foldl_keeps State.aside (fun u q => ?_) _ _).trans (State.aside_of_unitSide_eq s.unitSide_settleAll)
  unfold State.stompPort
  split <;> rfl

/-- The bundle that a VERDICT names, by its stamp, its sender and its identifier. -/
def State.verdictBundle (s : State) (r : OslRec) : Option Nat :=
  s.remoteBundle (BitVec.ofNat 64 (bits r.data.toNat 127 64)) (BitVec.ofNat 32 (bits r.data.toNat 63 32)) (BitVec.ofNat 32 (bits r.data.toNat 31 0))

/-- The cause that a VERDICT brings. -/
def OslRec.cause (r : OslRec) : Cause := if bits r.hdr.toNat 31 24 = 1 then .fcsBad else if bits r.hdr.toNat 31 24 = 2 then .truncated else .none

/-- A bundle takes the conditions that its VERDICT brings. -/
def State.condTaken (s : State) (r : OslRec) (b : Nat) : State := s.updBundle b fun x => { x with
  rcond := bits r.hdr.toNat 17 16, touched := bit r.hdr.toNat 19, rfirst := bits r.hdr.toNat 15 8, segCount := bits r.hdr.toNat 7 0 }

/-- The state in which a VERDICT is applied: its conditions are taken, and a bad one of the clocked edge has stomped. -/
def State.verdictTaken (s : State) (r : OslRec) (b : Nat) : State :=
  if r.cause.bad && bit r.hdr.toNat 32 then (s.condTaken r b).stompBundle b else s.condTaken r b

theorem State.verdictTaken_keeps (r : OslRec) (b : Nat) : (s.verdictTaken r b).osl = s.osl ∧
    ((s.verdictTaken r b).bundle b).rcond = bits r.hdr.toNat 17 16 ∧ ((s.verdictTaken r b).bundle b).rfirst = bits r.hdr.toNat 15 8 := by
  have haside : (s.verdictTaken r b).aside = (s.condTaken r b).aside := by
    unfold State.verdictTaken
    split
    · exact State.aside_stompBundle b
    · rfl
  obtain ⟨hcond, hfirst⟩ := Bundle.cond_of_sansSent_eq (State.sansSent_of_aside_eq haside b)
  refine ⟨(State.osl_of_aside_eq haside).trans rfl, hcond.trans ?_, hfirst.trans ?_⟩
  · exact congrArg Bundle.rcond (s.bundle_updBundle_self b _)
  · exact congrArg Bundle.rfirst (s.bundle_updBundle_self b _)

section
variable (harr : s.osl.arrived[i]? = some r) (hkind : r.kind = 3)
include harr hkind

theorem exec_verdict_ignored (h : s.verdictBundle r = none) : exec (.verdict i) s = .next (s.sansArrived i) := by
  have htake : s.takeArrived i 3 = some (r, s.sansArrived i) := hkind ▸ State.takeArrived_of_some harr
  change execVerdict i s = _
  rw [execVerdict, htake]
  dsimp only
  rw [show (s.sansArrived i).remoteBundle _ _ _ = none from h]

theorem exec_verdict_late {b : Nat} (h : s.verdictBundle r = some b) (hlost : (s.bundle b).verdict = some .verdictLost) :
    exec (.verdict i) s = .next ((s.sansArrived i).bump Reg.ERP_VERDICT_LATE) := by
  have htake : s.takeArrived i 3 = some (r, s.sansArrived i) := hkind ▸ State.takeArrived_of_some harr
  change execVerdict i s = _
  rw [execVerdict, htake]
  dsimp only
  rw [show (s.sansArrived i).remoteBundle _ _ _ = some b from h]
  dsimp only
  rw [show ((s.sansArrived i).bundle b).verdict = some .verdictLost from hlost]

theorem exec_verdict_applies {b : Nat} (h : s.verdictBundle r = some b) (hnone : (s.bundle b).verdict = none) :
    exec (.verdict i) s = .next (((s.sansArrived i).verdictTaken r b).applyVerdict b r.cause) := by
  have htake : s.takeArrived i 3 = some (r, s.sansArrived i) := hkind ▸ State.takeArrived_of_some harr
  change execVerdict i s = _
  rw [execVerdict, htake]
  dsimp only
  rw [show (s.sansArrived i).remoteBundle _ _ _ = some b from h]
  dsimp only
  rw [show ((s.sansArrived i).bundle b).verdict = none from hnone]
  rfl

theorem exec_verdict_completes {b : Nat} (h : s.verdictBundle r = some b) (hnone : (s.bundle b).verdict = none) :
    ∃ t, exec (.verdict i) s = .next t ∧ t.osl = (s.sansArrived i).osl ∧ (t.bundle b).verdict = some r.cause ∧
      (t.bundle b).rcond = bits r.hdr.toNat 17 16 ∧ (t.bundle b).rfirst = bits r.hdr.toNat 15 8 := by
  obtain ⟨hosl, hcond, hfirst⟩ := State.verdictTaken_keeps (s := s.sansArrived i) r b
  obtain ⟨hcond', hfirst'⟩ := ((s.sansArrived i).verdictTaken r b).cond_applyVerdict b r.cause
  exact ⟨_, exec_verdict_applies harr hkind h hnone, (State.osl_applyVerdict _ b _).trans hosl, (State.verdict_applyVerdict _ b _).1,
    hcond'.trans hcond, hfirst'.trans hfirst⟩

end

/-! ### Floods that start here, and the end of RECOVER (R312 to R314) -/

theorem State.raiseAbort_raises (s : State) (p : Nat) : (s.raiseAbort p).osl.arrived.length = s.osl.arrived.length + 1 ∧
    (s.raiseAbort p).regs = s.regs := ⟨List.length_append, rfl⟩

theorem exec_recoverEnd_early {p : Fin 16} (h : (s.prog p.val).st ≠ 2 ∨ s.now < (s.prog p.val).since + 2 * s.fld Reg.OSL_ABSENT_NS_ns) :
    exec (.recoverEnd p) s = .next s := by
  refine congrArg Host.Outcome.next (if_neg fun ⟨hst, hpassed⟩ => ?_)
  exact h.elim (fun hne => hne hst) (Nat.not_lt.2 (of_decide_eq_true hpassed))

theorem exec_recoverEnd_due {p : Fin 16} (hst : (s.prog p.val).st = 2) (hdue : (s.prog p.val).since + 2 * s.fld Reg.OSL_ABSENT_NS_ns ≤ s.now) :
    exec (.recoverEnd p) s = .next (s.updProg p.val fun e => { e with st := 1 }) :=
  congrArg Host.Outcome.next (if_pos ⟨hst, decide_eq_true hdue⟩)

/-- The neighbour in a direction. -/
def State.neighbourIn (s : State) (dim : Nat) (minus : Bool) : Nat := s.neighbour ((dirLinks s.oslMode dim minus).headD 0)

/-- The enabled links toward it. -/
def State.linksTo (s : State) (dim : Nat) (minus : Bool) : List Nat :=
  (s.facing dim (s.neighbourIn dim minus)).filter fun l => s.flag (Reg.OSL_LINK_CTRL_enable l)

/-- A direction's chip is noted as absent, or not. -/
def State.dirNoted (s : State) (v : Bool) (d : Nat) : State := s.updOsl fun o => { o with dirs := o.dirs.upd d fun x => { x with absent := v } }

theorem State.absent_dirNoted (s : State) (v : Bool) (d k : Nat) :
    ((s.dirNoted v d).osl.dirs.get k).absent = if k = d then v else (s.osl.dirs.get k).absent := by
  refine (congrArg DirSt.absent (s.osl.dirs.get_upd d k _)).trans ?_
  split <;> rfl

theorem State.absent_foldl_dirNoted (v : Bool) (l : List Nat) (s : State) (k : Nat) :
    ((l.foldl (fun u d => u.dirNoted v d) s).osl.dirs.get k).absent = if k ∈ l then v else (s.osl.dirs.get k).absent := by
  induction l generalizing s with
  | nil => rfl
  | cons d r ih =>
    rw [List.foldl_cons, ih, State.absent_dirNoted]
    by_cases hr : k ∈ r <;> by_cases hd : k = d <;> simp [hr, hd]

/-- Noting that the chip in a direction is absent notes it of that direction, and changes no link and no record that has arrived. -/
theorem State.noteAbsent_notes (s : State) (dim : Nat) (minus v : Bool) :
    ((s.noteAbsent dim (s.neighbourIn dim minus) v).osl.dirs.get (dirIndex dim minus)).absent = v ∧
    (s.noteAbsent dim (s.neighbourIn dim minus) v).osl.arrived = s.osl.arrived ∧
    (s.noteAbsent dim (s.neighbourIn dim minus) v).osl.links = s.osl.links := by
  have hmem : dirIndex dim minus ∈ s.dirsTo dim (s.neighbourIn dim minus) :=
    List.mem_filterMap.2 ⟨minus, by cases minus <;> simp, if_pos rfl⟩
  refine ⟨(s.absent_foldl_dirNoted v _ _).trans (if_pos hmem), ?_, ?_⟩
  · exact foldl_keeps (fun u : State => u.osl.arrived) (f := fun u d => u.dirNoted v d) (fun _ _ => rfl) _ s
  · exact foldl_keeps (fun u : State => u.osl.links) (f := fun u d => u.dirNoted v d) (fun _ _ => rfl) _ s

section
variable {d : Fin 3} {plus : Bool}

theorem exec_absentTimeout_early (h : s.linksTo d.val (!plus) = [] ∨
    ∃ k ∈ s.linksTo d.val (!plus), (s.link k).st ≠ 4 ∨ s.now < (s.link k).failedAt + s.fld Reg.OSL_ABSENT_NS_ns) :
    exec (.absentTimeout d plus) s = .next s := by
  refine congrArg Host.Outcome.next (if_neg fun ⟨_, hsome, _, hall⟩ => ?_)
  rcases h with hnone | ⟨k, hk, hearly⟩
  · have hempty : (s.linksTo d.val (!plus)).isEmpty = true := List.isEmpty_iff.2 hnone
    exact absurd (hempty.symm.trans hsome) nofun
  · obtain ⟨hst, hpassed⟩ := Bool.and_eq_true_iff.1 (List.all_eq_true.1 hall k hk)
    exact hearly.elim (fun hne => hne (of_decide_eq_true hst)) (Nat.not_lt.2 (of_decide_eq_true hpassed))

/-- Every enabled link toward a neighbour has been FAILED long enough: the chip is declared absent. -/
theorem exec_absentTimeout_due (hon : s.flag Reg.OSL_CTRL_enable = true) (hsome : s.linksTo d.val (!plus) ≠ [])
    (habsent : (s.osl.dirs.get (dirIndex d.val (!plus))).absent = false)
    (hall : ∀ k ∈ s.linksTo d.val (!plus), (s.link k).st = 4 ∧ (s.link k).failedAt + s.fld Reg.OSL_ABSENT_NS_ns ≤ s.now) :
    ∃ t, exec (.absentTimeout d plus) s = .next t ∧ (t.osl.dirs.get (dirIndex d.val (!plus))).absent = true ∧
      t.osl.arrived.length = s.osl.arrived.length + 1 ∧ t.osl.links = s.osl.links := by
  have hexec : exec (.absentTimeout d plus) s =
      .next ((s.noteAbsent d.val (s.neighbourIn d.val (!plus)) true).raiseAbsent (s.neighbourIn d.val (!plus))) := by
    refine congrArg Host.Outcome.next (if_pos ⟨hon, ?_, habsent, List.all_eq_true.2 fun k hk => ?_⟩)
    · exact Bool.eq_false_of_not_eq_true (mt List.isEmpty_iff.1 hsome)
    · obtain ⟨hst, hpassed⟩ := hall k hk
      exact Bool.and_eq_true_iff.2 ⟨decide_eq_true hst, decide_eq_true hpassed⟩
  obtain ⟨hnoted, harr, hlinks⟩ := s.noteAbsent_notes d.val (!plus) true
  exact ⟨_, hexec, hnoted, List.length_append.trans (congrArg (·.length + 1) harr), hlinks⟩

end

end

end Sys2Proof.Machine
end

section
/-! Program commands, bypass pins and the remote reset (R301, R309, R312, R315, R316, R318, R418), and O52. -/

namespace Sys2Proof.Machine

/-! ### Program commands (R309, R312, R315, R318) -/

section
variable {s : State}

/-- The state in which a program command acts: done is cleared (R422). -/
def State.progStarted (s : State) : State := s.setFld Reg.OSL_PROG_STAT_done 0

/-- A program command has finished with a status: that and done are shown, and no program but the one selected has changed. -/
def State.progEnds (s t : State) (c : Nat) : Prop :=
  t.fld Reg.OSL_PROG_STAT_status = c ∧ t.flag Reg.OSL_PROG_STAT_done = true ∧ regsBut s t [Reg.OSL_PROG_STAT] ∧
    ∀ q, q ≠ s.fld Reg.OSL_PROG_SEL_prog → t.prog q = s.prog q

/-- A program command finishes. -/
abbrev State.progFinish (s : State) (c : Nat) : State := s.finishCmd Reg.OSL_PROG_STAT_done Reg.OSL_PROG_STAT_status c

theorem State.fld_progStarted (s : State) {f : Fld} (h : f.addr ≠ Reg.OSL_PROG_STAT) : s.progStarted.fld f = s.fld f :=
  s.fld_setFld_ne Reg.OSL_PROG_STAT_done f 0 h

theorem State.progData_progStarted (s : State) : s.progStarted.progData = s.progData := by
  refine List.map_congr_left fun i hi => ?_
  have haddr : Reg.OSL_PROG_DATA0 + 4 * i ≠ Reg.OSL_PROG_STAT := Nat.ne_of_gt (Nat.lt_add_right _ (by decide))
  rw [State.wreg, State.wreg, State.progStarted, State.reg_setFld_ne _ _ _ haddr]

theorem State.dims_progStarted (s : State) : s.progStarted.dims = s.dims := by
  rw [State.dims, State.dims, s.fld_progStarted (by decide), s.fld_progStarted (by decide), s.fld_progStarted (by decide)]

theorem State.progChip_progStarted (s : State) (e : ProgSt) (pc : Nat) : s.progStarted.progChip e pc = s.progChip e pc := by
  rw [State.progChip, State.progChip, s.dims_progStarted]

theorem State.sliceCheck_progStarted (s : State) (e : ProgSt) : s.progStarted.sliceCheck e = s.sliceCheck e := by
  have hme : s.progStarted.me = s.me := s.fld_progStarted (by decide)
  simp only [State.sliceCheck, State.inBox, State.homeChip, State.progChip_progStarted, hme]
  rfl

theorem State.progBad_progStarted (s : State) (e : ProgSt) : s.progStarted.progBad e = s.progBad e := by
  simp only [State.progBad, s.dims_progStarted, State.flag, s.fld_progStarted (f := Reg.OSL_CTRL_enable) (by decide)]

theorem State.sliceCheck_lt (s : State) (e : ProgSt) : s.sliceCheck e < 8 := by
  unfold State.sliceCheck
  dsimp only
  split_ifs <;> decide

/-- A command that finishes after changing the selected program alone. -/
theorem State.progEnds_progFinish {u : State} {c : Nat} (hregs : u.regs = s.progStarted.regs)
    (hprogs : ∀ q, q ≠ s.fld Reg.OSL_PROG_SEL_prog → u.prog q = s.prog q) (hc : c < 8) : s.progEnds (u.progFinish c) c := by
  obtain ⟨hdone, hstatus⟩ := u.finishCmd_shows (done := Reg.OSL_PROG_STAT_done) (status := Reg.OSL_PROG_STAT_status) (code := c)
    rfl (by decide) (by decide) (by decide) (by decide) hc
  refine ⟨hstatus, hdone, fun a ha => ?_, hprogs⟩
  have hne : a ≠ Reg.OSL_PROG_STAT := mt List.mem_singleton.2 ha
  have hreg : u.reg a = s.progStarted.reg a := by rw [State.reg, State.reg, hregs]
  exact (State.reg_setFld_ne _ _ _ hne).trans ((State.reg_setFld_ne _ _ _ hne).trans (hreg.trans (State.reg_setFld_ne _ _ _ hne)))

/-- A refused command changes no program. -/
theorem State.progFinish_refused (s : State) {c : Nat} (hc : c < 8) :
    s.progEnds (s.progStarted.progFinish c) c ∧ (s.progStarted.progFinish c).osl = s.osl :=
  ⟨State.progEnds_progFinish rfl (fun _ _ => rfl) hc, rfl⟩

/-- A command that is carried out changes the selected program. -/
theorem State.progFinish_changed (s : State) (f : ProgSt → ProgSt) :
    s.progEnds ((s.progStarted.updProg (s.fld Reg.OSL_PROG_SEL_prog) f).progFinish 0) 0 ∧
    ((s.progStarted.updProg (s.fld Reg.OSL_PROG_SEL_prog) f).progFinish 0).prog (s.fld Reg.OSL_PROG_SEL_prog) =
      f (s.prog (s.fld Reg.OSL_PROG_SEL_prog)) :=
  ⟨State.progEnds_progFinish rfl (fun _ hq => State.prog_updProg_ne _ _ f hq) (by decide), State.prog_updProg_self _ _ f⟩

/-- DISABLE ends the notices kept for the program and its results, and then the program. -/
theorem State.progFinish_disabled {p : Nat} (hp : s.fld Reg.OSL_PROG_SEL_prog = p) (hnone : (s.prog p).notices = []) :
    s.progEnds (((s.progStarted.updProg p fun e => { e with notices := [], results := [] }).updProg p fun e => { e with st := 0 }).progFinish 0) 0 ∧
    (((s.progStarted.updProg p fun e => { e with notices := [], results := [] }).updProg p fun e => { e with st := 0 }).progFinish 0).prog p =
      { s.prog p with st := 0, results := [] } := by
  subst hp
  refine ⟨State.progEnds_progFinish rfl (fun _ hq => (State.prog_updProg_ne _ _ _ hq).trans (State.prog_updProg_ne _ _ _ hq)) (by decide), ?_⟩
  have hdrop : { s.prog (s.fld Reg.OSL_PROG_SEL_prog) with notices := [], results := [] } =
      { s.prog (s.fld Reg.OSL_PROG_SEL_prog) with results := [] } := by rw [← hnone]
  refine (State.prog_updProg_self _ _ _).trans ?_
  rw [State.prog_updProg_self]
  exact congrArg (fun e : ProgSt => { e with st := 0 }) hdrop

theorem exec_prog_running (hbus : s.busOk (some 6)) (hrun : s.flag Reg.OSL_PROG_STAT_done = false) {c : Instr}
    (hc : c ∈ [Instr.progWrite, .progEnable, .progDisable, .progResume, .progRemap]) :
    exec c s = .next (s.setFld Reg.OSL_PROG_STAT_status 1) := by
  have hop (op : Nat) : s.coreWrite (some 6) (fun u => u.progCommand op) = s.setFld Reg.OSL_PROG_STAT_status 1 :=
    (State.coreWrite_of_busOk hbus _).trans (State.startCmd_of_running hrun _)
  simp only [List.mem_cons, List.not_mem_nil, or_false] at hc
  rcases hc with rfl | rfl | rfl | rfl | rfl
  · exact congrArg Host.Outcome.next (hop 0)
  · exact congrArg Host.Outcome.next (hop 1)
  · exact congrArg Host.Outcome.next (hop 2)
  · exact congrArg Host.Outcome.next (hop 3)
  · exact congrArg Host.Outcome.next (hop 4)

section
variable {p : Nat} {e : ProgSt} (hbus : s.busOk (some 6)) (hdone : s.flag Reg.OSL_PROG_STAT_done = true)
  (hp : s.fld Reg.OSL_PROG_SEL_prog = p) (he : s.prog p = e)
include hbus hdone hp he

theorem exec_progWrite_taken : exec .progWrite s = .next (if e.st ≠ 0 then s.progStarted.progFinish 6
    else (s.progStarted.updProg p fun e => { e with words := s.progData }).progFinish 0) := by
  subst hp he
  refine congrArg Host.Outcome.next ((State.coreWrite_of_busOk hbus _).trans ((State.startCmd_of_done hdone _).trans ?_))
  change (if (s.progStarted.prog (s.progStarted.fld _)).st ≠ 0 then _ else
    (s.progStarted.updProg (s.progStarted.fld _) fun e => { e with words := s.progStarted.progData }).progFinish 0) = _
  rw [s.fld_progStarted (by decide), s.progData_progStarted]
  rfl

theorem exec_progEnable_taken : exec .progEnable s = .next (if e.st ≠ 0 then s.progStarted.progFinish 6
    else if s.progBad e = true then s.progStarted.progFinish 2
    else if s.sliceCheck e = 0 then (s.progStarted.updProg p fun e => { e with st := 1 }).progFinish 0
    else s.progStarted.progFinish (s.sliceCheck e)) := by
  subst hp he
  refine congrArg Host.Outcome.next ((State.coreWrite_of_busOk hbus _).trans ((State.startCmd_of_done hdone _).trans ?_))
  rw [← s.progBad_progStarted, ← s.sliceCheck_progStarted, ← s.fld_progStarted (f := Reg.OSL_PROG_SEL_prog) (by decide)]
  refine if_congr Iff.rfl rfl (if_congr Iff.rfl rfl ?_)
  split
  next hzero => exact (if_pos hzero).symm
  next hfails => exact (if_neg hfails).symm

theorem exec_progDisable_taken (hnone : e.notices = []) : exec .progDisable s =
    .next (((s.progStarted.updProg p fun e => { e with notices := [], results := [] }).updProg p fun e => { e with st := 0 }).progFinish 0) := by
  subst hp he
  refine congrArg Host.Outcome.next ((State.coreWrite_of_busOk hbus _).trans ((State.startCmd_of_done hdone _).trans ?_))
  change ((s.progStarted.dropNotices (s.progStarted.fld _)).updProg (s.progStarted.fld _) fun e => { e with st := 0 }).progFinish 0 = _
  rw [s.fld_progStarted (by decide), State.dropNotices_of_none (s := s.progStarted) hnone]

theorem exec_progResume_taken : exec .progResume s = .next (if e.st ≠ 3 then s.progStarted.progFinish 6
    else if s.sliceCheck e = 0 then (s.progStarted.updProg p fun e => { e with gen := (e.gen + 1) % 256, st := 1 }).progFinish 0
    else s.progStarted.progFinish (s.sliceCheck e)) := by
  subst hp he
  refine congrArg Host.Outcome.next ((State.coreWrite_of_busOk hbus _).trans ((State.startCmd_of_done hdone _).trans ?_))
  rw [← s.sliceCheck_progStarted, ← s.fld_progStarted (f := Reg.OSL_PROG_SEL_prog) (by decide)]
  refine if_congr Iff.rfl rfl ?_
  split
  next hzero => exact (if_pos hzero).symm
  next hfails => exact (if_neg hfails).symm

theorem exec_progRemap_taken : exec .progRemap s = .next (if e.st = 0 ∨ e.st = 3 then
    (s.progStarted.updProg p fun e => { e with words := e.words.take 4 ++ s.progData.drop 4 }).progFinish 0
    else s.progStarted.progFinish 6) := by
  subst hp he
  refine congrArg Host.Outcome.next ((State.coreWrite_of_busOk hbus _).trans ((State.startCmd_of_done hdone _).trans ?_))
  rw [← s.progData_progStarted, ← s.fld_progStarted (f := Reg.OSL_PROG_SEL_prog) (by decide)]
  rfl

end
end

/-! ### Bypass pins (R301, R418) -/

theorem mem_setBits {n bound k : Nat} : k ∈ setBits n bound ↔ k < bound ∧ n.testBit k = true := by
  rw [setBits, List.mem_filter, List.mem_range]

theorem State.mem_lbypRefused {s : State} {opens k : Nat} :
    k ∈ s.lbypRefused opens ↔ k < 8 ∧ opens.testBit k = true ∧ s.lbypAllowed k = false := by
  rw [State.lbypRefused, List.mem_filter, mem_setBits, and_assoc, Bool.not_eq_true']

theorem testBit_foldl_set (l : List Nat) (n k : Nat) :
    (l.foldl (fun n j => n ||| 1 <<< j) n).testBit k = (n.testBit k || decide (k ∈ l)) := by
  induction l generalizing n with
  | nil => simp
  | cons j l ih =>
    rw [List.foldl_cons, ih, Nat.testBit_or, Nat.one_shiftLeft, Nat.testBit_two_pow, Bool.or_assoc]
    simp [eq_comm]

section
variable {s : State} {m : BitVec 8}

theorem State.lbypWrite_of_none_refused {opens : Nat} (h : s.lbypRefused opens = []) (closes : Nat) : s.lbypWrite opens closes =
    s.updOsl fun o => { o with pins := (o.pins ||| BitVec.ofNat 8 opens) &&& ~~~ BitVec.ofNat 8 closes } := by
  rw [State.lbypWrite, h]

theorem State.lbypWrite_of_refused {opens : Nat} (h : s.lbypRefused opens ≠ []) (closes : Nat) : s.lbypWrite opens closes =
    s.setFld Reg.OSL_LBYP_STAT_open_refused
      ((s.lbypRefused opens).foldl (fun n k => n ||| 1 <<< k) (s.fld Reg.OSL_LBYP_STAT_open_refused)) := by
  rw [State.lbypWrite]
  split
  next hnone => exact absurd hnone h
  · rfl

theorem exec_lbypClose (hbus : s.busOk (some 6)) (m : BitVec 8) :
    exec (.lbypClose m) s = .next (s.updOsl fun o => { o with pins := o.pins &&& ~~~ m }) := by
  have hnone : s.lbypRefused 0 = [] := List.eq_nil_iff_forall_not_mem.2 fun k hk => by
    simp [State.mem_lbypRefused] at hk
  refine congrArg Host.Outcome.next ((State.coreWrite_of_busOk hbus _).trans ((State.lbypWrite_of_none_refused hnone _).trans ?_))
  simp

theorem exec_lbypOpen_allowed (hbus : s.busOk (some 6)) (hall : ∀ k, k < 8 → m.getLsbD k = true → s.lbypAllowed k = true) :
    exec (.lbypOpen m) s = .next (s.updOsl fun o => { o with pins := o.pins ||| m }) := by
  have hnone : s.lbypRefused m.toNat = [] := List.eq_nil_iff_forall_not_mem.2 fun k hk => by
    obtain ⟨hk8, hbit, hnot⟩ := State.mem_lbypRefused.1 hk
    exact Bool.false_ne_true (hnot.symm.trans (hall k hk8 hbit))
  refine congrArg Host.Outcome.next ((State.coreWrite_of_busOk hbus _).trans ((State.lbypWrite_of_none_refused hnone _).trans ?_))
  have hkept (v : BitVec 8) : (v ||| m) &&& 255#8 = v ||| m := BitVec.and_allOnes
  simp [hkept]

/-- Where the bypass of one named pair is refused, no pin changes, and the refused pairs are marked (R418). -/
theorem exec_lbypOpen_refused (hbus : s.busOk (some 6)) (hsome : ∃ k, k < 8 ∧ m.getLsbD k = true ∧ s.lbypAllowed k = false) :
    ∃ t, exec (.lbypOpen m) s = .next t ∧ t.osl = s.osl ∧ regsBut s t [Reg.OSL_LBYP_STAT] ∧
      ∀ k, k < 8 → (t.fld Reg.OSL_LBYP_STAT_open_refused).testBit k =
        ((s.fld Reg.OSL_LBYP_STAT_open_refused).testBit k || (m.getLsbD k && !s.lbypAllowed k)) := by
  obtain ⟨j, hj⟩ := hsome
  have hrefused : s.lbypRefused m.toNat ≠ [] := List.ne_nil_of_mem (State.mem_lbypRefused.2 hj)
  refine ⟨_, congrArg Host.Outcome.next ((State.coreWrite_of_busOk hbus _).trans (State.lbypWrite_of_refused hrefused _)), rfl,
    fun a ha => State.reg_setFld_ne _ _ _ (mt List.mem_singleton.2 ha), fun k hk => ?_⟩
  have hmem : decide (k ∈ s.lbypRefused m.toNat) = (m.getLsbD k && !s.lbypAllowed k) := by
    rw [← BitVec.testBit_toNat]
    simp [State.mem_lbypRefused, hk]
  rw [State.fld_setFld_self _ _ _ (by decide) (by decide), Nat.testBit_mod_two_pow, testBit_foldl_set, hmem]
  exact (congrArg (· && _) (decide_eq_true hk)).trans (Bool.true_and _)

end

/-! ### The remote reset (R316) -/

theorem State.oslSubmit_here {s : State} {r : OslRec} (hdst : r.dst = s.me) (htype : r.type = 4) (hkind : r.kind = 6) :
    s.oslSubmit none r = s.updOsl fun o => { o with arrived := o.arrived ++ [r] } := by
  have hroute : s.route none r = (.localChip, r, false) := by
    have hfind : (List.range 3).find? (fun k => chipCoord s.me k != chipCoord r.dst k) = none :=
      List.find?_eq_none.2 fun k _ => by simp [hdst]
    rw [State.route, hfind]
  have hprog : r.prog = none := by simp [OslRec.prog, htype, hkind]
  have hdeliver : s.deliverRec r = s.updOsl fun o => { o with arrived := o.arrived ++ [r] } := by
    simp [State.deliverRec, hprog, htype]
  rw [State.oslSubmit, State.oslCarry, hroute]
  exact hdeliver

/-- The first word of a CONTROL record, as a sum of its fields. -/
theorem toNat_hdr_controlRec {dst kind : Nat} (hdst : dst < 2 ^ 15) (hkind : kind < 2 ^ 6) (low : Nat) (data : Flit) :
    (controlRec dst kind low data).hdr.toNat = 4 * 2 ^ 61 + (dst * 2 ^ 46 + (kind * 2 ^ 40 + low % 2 ^ 37)) := by
  have hlow : low % 2 ^ 37 < 2 ^ 40 := by omega
  have hlow' : kind <<< 40 + low % 2 ^ 37 < 2 ^ 46 := by rw [Nat.shiftLeft_eq]; omega
  have hlow'' : dst <<< 46 + (kind <<< 40 + low % 2 ^ 37) < 2 ^ 61 := by rw [Nat.shiftLeft_eq, Nat.shiftLeft_eq]; omega
  have hsum : 4 <<< 61 ||| dst <<< 46 ||| kind <<< 40 ||| low % 2 ^ 37 = 4 <<< 61 + (dst <<< 46 + (kind <<< 40 + low % 2 ^ 37)) := by
    rw [Nat.or_assoc, Nat.or_assoc, Nat.shiftLeft_add_eq_or_of_lt hlow'', Nat.shiftLeft_add_eq_or_of_lt hlow',
      Nat.shiftLeft_add_eq_or_of_lt hlow]
  rw [controlRec, hsum, BitVec.toNat_ofNat, Nat.shiftLeft_eq, Nat.shiftLeft_eq, Nat.shiftLeft_eq]
  exact Nat.mod_eq_of_lt (by omega)

/-- The fields of a CONTROL record. -/
theorem controlRec_fields {dst kind : Nat} (hdst : dst < 2 ^ 15) (hkind : kind < 2 ^ 6) (low : Nat) (data : Flit) :
    (controlRec dst kind low data).type = 4 ∧ (controlRec dst kind low data).kind = kind ∧ (controlRec dst kind low data).dst = dst := by
  have hlow : low % 2 ^ 37 < 2 ^ 37 := Nat.mod_lt _ (Nat.two_pow_pos _)
  rw [OslRec.type, OslRec.kind, OslRec.dst, toNat_hdr_controlRec hdst hkind]
  simp only [bits, Nat.shiftRight_eq_div_pow]
  omega

/-- A field of the register file fits its width. -/
theorem State.fld_lt (s : State) (f : Fld) : s.fld f < 2 ^ (f.hi + 1 - f.lo) := Nat.mod_lt _ (Nat.two_pow_pos _)

/-- The code of a REMOTE_RESET lies in the first word of its payload. -/
theorem bits_code {code : Nat} (h : code < 2 ^ 32) : bits (BitVec.ofNat 128 (code <<< 96)).toNat 127 96 = code := by
  simp only [bits, Nat.shiftRight_eq_div_pow, Nat.shiftLeft_eq, BitVec.toNat_ofNat]
  omega

theorem exec_rrstGo {s : State} {x : BitVec 15} (hbus : s.busOk (some 6)) (hme : s.me = x.toNat) : ∃ t r, exec (.rrstGo x) s = .next t ∧
    t.osl = { s.osl with arrived := s.osl.arrived ++ [r] } ∧ r.type = 4 ∧ r.kind = 6 ∧ r.dst = x.toNat ∧
    bits r.data.toNat 127 96 = s.fld Reg.OSL_RRST_CODE_code ∧ t.fld Reg.OSL_RRST_target = x.toNat := by
  have htarget : (s.setFld Reg.OSL_RRST_target x.toNat).fld Reg.OSL_RRST_target = x.toNat :=
    (State.fld_setFld_self _ _ _ (by decide) (by decide)).trans (Nat.mod_eq_of_lt x.isLt)
  have hcode : (s.setFld Reg.OSL_RRST_target x.toNat).fld Reg.OSL_RRST_CODE_code = s.fld Reg.OSL_RRST_CODE_code :=
    State.fld_setFld_ne _ _ _ _ (by decide)
  have hself : (s.setFld Reg.OSL_RRST_target x.toNat).me = x.toNat := (State.fld_setFld_ne _ _ _ _ (by decide)).trans hme
  let r := controlRec x.toNat 6 0 (BitVec.ofNat 128 (s.fld Reg.OSL_RRST_CODE_code <<< 96))
  obtain ⟨htype, hkind, hdst⟩ : r.type = 4 ∧ r.kind = 6 ∧ r.dst = x.toNat := controlRec_fields x.isLt (by decide) 0 _
  have hexec : exec (.rrstGo x) s =
      .next ((s.setFld Reg.OSL_RRST_target x.toNat).updOsl fun o => { o with arrived := o.arrived ++ [r] }) := by
    refine congrArg Host.Outcome.next ((State.coreWrite_of_busOk hbus _).trans ?_)
    rw [State.sendRemoteReset, htarget, hcode]
    exact State.oslSubmit_here (hdst.trans hself.symm) htype hkind
  exact ⟨_, r, hexec, rfl, htype, hkind, hdst, bits_code (s.fld_lt Reg.OSL_RRST_CODE_code), htarget⟩

/-! ### O52 -/

/-- The first copy of an abort, by whether the program is one of its generation without a slice here. -/
theorem exec_progAbort_effect {s : State} {i p g : Nat} {r : OslRec} (harr : s.osl.arrived[i]? = some r) (hkind : r.kind = 4)
    (hp : bits r.data.toNat 123 120 = p) (hg : bits r.data.toNat 119 112 = g) (hnew : (p, g) ∉ s.osl.abortsSeen)
    (hlinks : ∀ l, l < 16 → (s.link l).st ≠ 2) :
    (¬ ((s.prog p).st ≠ 0 ∧ (s.prog p).gen = g) → exec (.progAbort i) s = .next ((s.sansArrived i).abortNoted p g)) ∧
    ((s.prog p).st ≠ 0 → (s.prog p).gen = g → s.slicePlot p = none → (s.prog p).notices = [] → ∃ t, exec (.progAbort i) s = .next t ∧
      (t.prog p).st = (if (s.prog p).st = 3 then 3 else 2) ∧ (t.prog p).gen = (g + 1) % 256 ∧
      (t.prog p).since = (if (s.prog p).st = 3 then (s.prog p).since else s.now) ∧
      t.reg Reg.OSL_PROG_ABORT = s.reg Reg.OSL_PROG_ABORT + 1 ∧ (∀ q, q ≠ p → t.prog q = s.prog q) ∧
      t.osl.arrived = (s.sansArrived i).osl.arrived) := by
  have hexec := exec_progAbort_new harr hkind hp hg hnew hlinks
  refine ⟨fun hother => hexec.trans (congrArg Host.Outcome.next (if_neg hother)), fun hst hgen hslice hnotices => ?_⟩
  obtain ⟨hprog, hcount, hrest, harrived⟩ :=
    State.progAborted_of_no_slice (s := (s.sansArrived i).abortNoted p g) (p := p) hnotices hslice g
  refine ⟨_, hexec.trans (congrArg Host.Outcome.next (if_pos ⟨hst, hgen⟩)), ?_, ?_, ?_, hcount, hrest, harrived⟩
  · exact congrArg ProgSt.st hprog
  · exact (congrArg ProgSt.gen hprog).trans (congrArg (fun n => (n + 1) % 256) hgen)
  · exact congrArg ProgSt.since hprog

/-- A notice of a program that runs here under its generation, by its epoch and the program's slice. -/
theorem exec_passNotice_effect {s : State} {i : Nat} {r : OslRec} (harr : s.osl.arrived[i]? = some r) (hkind : r.kind = 1)
    (hst : (s.prog (bits r.data.toNat 79 76)).st = 1) (hgen : (s.prog (bits r.data.toNat 79 76)).gen % 16 = r.gen) :
    (bits r.data.toNat 95 80 ∉ s.liveEpochs →
      exec (.passNotice i) s = .next (((s.sansArrived i).bump Reg.OSL_EPOCH_MISS).raiseAbort (bits r.data.toNat 79 76))) ∧
    (bits r.data.toNat 95 80 ∈ s.liveEpochs →
      (s.slicePlot (bits r.data.toNat 79 76) = none → exec (.passNotice i) s = .next s) ∧
      (∀ q, s.slicePlot (bits r.data.toNat 79 76) = some q → s.sliceFree q = false → exec (.passNotice i) s = .next s) ∧
      (∀ q, s.slicePlot (bits r.data.toNat 79 76) = some q → s.sliceFree q = true →
        exec (.passNotice i) s = .next ((s.sansArrived i).beginPass q none (bits r.data.toNat 95 80) (bits r.data.toNat 127 96) []))) := by
  have hfresh : s.stale (bits r.data.toNat 79 76) r.gen = false :=
    Bool.eq_false_of_not_eq_true fun hstale => (State.stale_iff.1 hstale).elim (· hst) (· hgen)
  have hexec := exec_passNotice_current harr hkind hfresh
  refine ⟨fun hdead => ?_, fun hlive => ?_⟩
  · rw [hexec, if_pos (by simpa using hdead)]
  · rw [hexec, if_neg (by simpa using hlive)]
    refine ⟨fun hnone => ?_, fun q hq hbusy => ?_, fun q hq hfree => ?_⟩
    · rw [hnone]
    · rw [hq]
      exact congrArg Host.Outcome.next (if_neg (Bool.eq_false_iff.1 hbusy))
    · rw [hq]
      exact congrArg Host.Outcome.next (if_pos hfree)

/-- What each program command does to the selected program, with none under way. -/
theorem exec_prog_effect {s : State} {p : Nat} {e : ProgSt} (hbus : s.busOk (some 6)) (hdone : s.flag Reg.OSL_PROG_STAT_done = true)
    (hp : s.fld Reg.OSL_PROG_SEL_prog = p) (he : s.prog p = e) :
    (e.st ≠ 0 → ∀ c ∈ [Instr.progWrite, .progEnable], ∃ t, exec c s = .next t ∧ s.progEnds t 6 ∧ t.osl = s.osl) ∧
    (e.st = 0 → ∃ t, exec .progWrite s = .next t ∧ s.progEnds t 0 ∧ t.prog p = { e with words := s.progData }) ∧
    (e.st = 0 → s.progBad e = true → ∃ t, exec .progEnable s = .next t ∧ s.progEnds t 2 ∧ t.osl = s.osl) ∧
    (e.st = 0 → s.progBad e = false → s.sliceCheck e ≠ 0 →
      ∃ t, exec .progEnable s = .next t ∧ s.progEnds t (s.sliceCheck e) ∧ t.osl = s.osl) ∧
    (e.st = 0 → s.progBad e = false → s.sliceCheck e = 0 →
      ∃ t, exec .progEnable s = .next t ∧ s.progEnds t 0 ∧ t.prog p = { e with st := 1 }) ∧
    (e.notices = [] → ∃ t, exec .progDisable s = .next t ∧ s.progEnds t 0 ∧ t.prog p = { e with st := 0, results := [] }) ∧
    (e.st ≠ 3 → ∃ t, exec .progResume s = .next t ∧ s.progEnds t 6 ∧ t.osl = s.osl) ∧
    (e.st = 3 → s.sliceCheck e ≠ 0 → ∃ t, exec .progResume s = .next t ∧ s.progEnds t (s.sliceCheck e) ∧ t.osl = s.osl) ∧
    (e.st = 3 → s.sliceCheck e = 0 →
      ∃ t, exec .progResume s = .next t ∧ s.progEnds t 0 ∧ t.prog p = { e with gen := (e.gen + 1) % 256, st := 1 }) ∧
    (e.st = 1 ∨ e.st = 2 → ∃ t, exec .progRemap s = .next t ∧ s.progEnds t 6 ∧ t.osl = s.osl) ∧
    (e.st = 0 ∨ e.st = 3 → ∃ t, exec .progRemap s = .next t ∧ s.progEnds t 0 ∧
      t.prog p = { e with words := e.words.take 4 ++ s.progData.drop 4 }) := by
  have hwrite := exec_progWrite_taken hbus hdone hp he
  have henable := exec_progEnable_taken hbus hdone hp he
  have hresume := exec_progResume_taken hbus hdone hp he
  have hremap := exec_progRemap_taken hbus hdone hp he
  have hrefused {c : Nat} (hc : c < 8) := s.progFinish_refused hc
  have hchecked := hrefused (s.sliceCheck_lt e)
  subst hp he
  refine ⟨fun hst c hc => ?_, fun hst => ?_, fun hst hbad => ?_, fun hst hfits hcheck => ?_, fun hst hfits hcheck => ?_, fun hnone => ?_,
    fun hst => ?_, fun hst hcheck => ?_, fun hst hcheck => ?_, fun hst => ?_, fun hst => ?_⟩
  · simp only [List.mem_cons, List.not_mem_nil, or_false] at hc
    rcases hc with rfl | rfl
    · exact ⟨_, hwrite.trans (congrArg _ (if_pos hst)), hrefused (by decide)⟩
    · exact ⟨_, henable.trans (congrArg _ (if_pos hst)), hrefused (by decide)⟩
  · exact ⟨_, hwrite.trans (congrArg _ (if_neg (not_not.2 hst))), s.progFinish_changed _⟩
  · exact ⟨_, henable.trans (congrArg _ ((if_neg (not_not.2 hst)).trans (if_pos hbad))), hrefused (by decide)⟩
  · exact ⟨_, henable.trans (congrArg _ ((if_neg (not_not.2 hst)).trans ((if_neg (Bool.eq_false_iff.1 hfits)).trans (if_neg hcheck)))), hchecked⟩
  · exact ⟨_, henable.trans (congrArg _ ((if_neg (not_not.2 hst)).trans ((if_neg (Bool.eq_false_iff.1 hfits)).trans (if_pos hcheck)))),
      s.progFinish_changed _⟩
  · exact ⟨_, exec_progDisable_taken hbus hdone rfl rfl hnone, State.progFinish_disabled rfl hnone⟩
  · exact ⟨_, hresume.trans (congrArg _ (if_pos hst)), hrefused (by decide)⟩
  · exact ⟨_, hresume.trans (congrArg _ ((if_neg (not_not.2 hst)).trans (if_neg hcheck))), hchecked⟩
  · exact ⟨_, hresume.trans (congrArg _ ((if_neg (not_not.2 hst)).trans (if_pos hcheck))), s.progFinish_changed _⟩
  · exact ⟨_, hremap.trans (congrArg _ (if_neg (by omega))), hrefused (by decide)⟩
  · exact ⟨_, hremap.trans (congrArg _ (if_pos hst)), s.progFinish_changed _⟩

/-- Settles O52: each record that has arrived by what it finds here, the timeouts by their instants, the program commands by the state of the selected
entry, and the two direct writes of the block. -/
theorem floodsNoticesAndPrograms : Obligations.FloodsNoticesAndPrograms := by
  refine ⟨fun i s hnone => exec_of_none_arrived hnone, fun i s r harr => ⟨fun hkind => ⟨fun hseen => ?_, fun hnew hlinks => ?_⟩,
    fun hkind hnew hlinks hhome => ?_, fun hkind => ⟨fun hstale => ?_, fun hst hgen => ?_, fun hst hgen => ?_⟩, fun hkind hfirst => ?_,
    fun hkind => ⟨fun hnone => ?_, fun b hb hlost => ?_, fun b hb hnone => ?_⟩⟩, State.raiseAbort_raises, fun p s => ⟨?_, ?_⟩,
    fun d plus s => ⟨?_, ?_⟩, fun s hbus => ⟨fun hrun c hc => ?_, fun hdone => ?_⟩, fun m s hbus => ⟨?_, ?_, ?_⟩,
    fun x s hbus hme => ?_⟩
  · exact exec_progAbort_seen harr hkind rfl rfl hseen
  · exact exec_progAbort_effect harr hkind rfl rfl hnew hlinks
  · exact exec_chipAbsent_halts harr hkind hnew hlinks hhome
  · exact exec_passNotice_stale harr hkind (State.stale_iff.2 hstale)
  · exact (exec_passNotice_effect harr hkind hst hgen).1
  · exact (exec_passNotice_effect harr hkind hst hgen).2
  · exact exec_spanNotice_first harr hkind hfirst
  · exact exec_verdict_ignored harr hkind hnone
  · exact exec_verdict_late harr hkind hb hlost
  · exact exec_verdict_completes harr hkind hb hnone
  · exact exec_recoverEnd_early
  · exact exec_recoverEnd_due
  · exact exec_absentTimeout_early
  · exact exec_absentTimeout_due
  · exact exec_prog_running hbus hrun hc
  · exact exec_prog_effect hbus hdone rfl rfl
  · exact exec_lbypClose hbus m
  · exact exec_lbypOpen_allowed hbus
  · exact exec_lbypOpen_refused hbus
  · exact exec_rrstGo hbus hme

end Sys2Proof.Machine
end

section
/-! The commands of normalisation profiles (R130, R153, R422), and O29. -/

namespace Sys2Proof.Machine

section
variable {s : State}

/-- The state in which a command of normalisation profiles acts: done is cleared (R422). -/
def State.sfeProfStarted (s : State) : State := s.setFld Reg.SFE_PROF_STAT_done 0

/-- A command of normalisation profiles finishes. -/
abbrev State.sfeProfFinish (s : State) (c : Nat) : State := s.finishCmd Reg.SFE_PROF_STAT_done Reg.SFE_PROF_STAT_status c

/-- The profile that the data registers spell, one generation after the selected one (R130). -/
def State.sfeProfNext (s : State) : SfeProfile :=
  ⟨s.sfeData 0, s.sfeData 1, s.sfeData 2, s.sfeData 3, s.sfeData 4, (s.sfe.profiles.get (s.fld Reg.SFE_PROF_SEL_profile)).gen + 1⟩

/-- The selected profile takes the data registers. -/
def State.sfeProfStored (s : State) : State :=
  s.updSfe fun e => { e with profiles := e.profiles.set (s.fld Reg.SFE_PROF_SEL_profile) s.sfeProfNext }

/-- A profile stands in the data registers, with the size of its region and its generation (R153). -/
def State.sfeProfShown (s : State) (p : SfeProfile) : State :=
  (((((((s.setReg Reg.SFE_PROF_DATA0 (p.d0.setWidth 64)).setReg Reg.SFE_PROF_DATA1 (p.d1.setWidth 64)).setReg Reg.SFE_PROF_DATA2
    (p.d2.setWidth 64)).setReg Reg.SFE_PROF_DATA3 (p.d3.setWidth 64)).setReg Reg.SFE_PROF_DATA4 (p.d4.setWidth 64)).setFld
    Reg.SFE_PROF_DATA5_fe_bytes p.feBytes).setFld Reg.SFE_PROF_DATA5_gen p.gen.toNat)

/-! ### The data registers -/

/-- The data of a profile are in five registers. -/
theorem State.sfeData_of_reg_eq {t : State} {i : Nat} (hi : i < 5)
    (h : ∀ a ∈ [Reg.SFE_PROF_DATA0, Reg.SFE_PROF_DATA1, Reg.SFE_PROF_DATA2, Reg.SFE_PROF_DATA3, Reg.SFE_PROF_DATA4], t.reg a = s.reg a) :
    t.sfeData i = s.sfeData i := by
  unfold State.sfeData State.wreg
  rw [List.getElem?_eq_getElem hi, Option.getD_some, h _ (List.getElem_mem hi)]

theorem State.sfeData_setFld_stat {f : Fld} (hf : f.addr = Reg.SFE_PROF_STAT) (n : Nat) {i : Nat} (hi : i < 5) :
    (s.setFld f n).sfeData i = s.sfeData i :=
  State.sfeData_of_reg_eq hi fun a ha => State.reg_setFld_ne _ _ _ (by
    rw [hf]
    rintro rfl
    revert ha
    decide)

theorem State.sfeData_sfeProfFinish (c : Nat) {i : Nat} (hi : i < 5) : (s.sfeProfFinish c).sfeData i = s.sfeData i :=
  (State.sfeData_setFld_stat rfl _ hi).trans (State.sfeData_setFld_stat rfl _ hi)

theorem State.wreg_of_reg_eq {a : Nat} {w : Word} (h : s.reg a = w.setWidth 64) : s.wreg a = w := by
  rw [State.wreg, h, BitVec.ofNat_toNat]
  exact BitVec.setWidth_setWidth_of_le w (by decide)

theorem State.fld_sel_sfeProfStarted (s : State) :
    s.sfeProfStarted.fld Reg.SFE_PROF_SEL_profile = s.fld Reg.SFE_PROF_SEL_profile := State.fld_setFld_ne _ _ _ _ (by decide)

theorem State.sfeProfNext_started (s : State) : s.sfeProfStarted.sfeProfNext = s.sfeProfNext := by
  have hdata {i : Nat} (hi : i < 5) : s.sfeProfStarted.sfeData i = s.sfeData i := State.sfeData_setFld_stat rfl _ hi
  simp only [State.sfeProfNext, hdata, Nat.reduceLT, State.fld_sel_sfeProfStarted]
  rfl

/-- A profile that is shown reads back whole. -/
theorem State.sfeProfShown_reads (s : State) (p : SfeProfile) :
    (s.sfeProfShown p).sfeData 0 = p.d0 ∧ (s.sfeProfShown p).sfeData 1 = p.d1 ∧ (s.sfeProfShown p).sfeData 2 = p.d2 ∧
    (s.sfeProfShown p).sfeData 3 = p.d3 ∧ (s.sfeProfShown p).sfeData 4 = p.d4 ∧
    (s.sfeProfShown p).fld Reg.SFE_PROF_DATA5_gen = p.gen.toNat := by
  have hset {u : State} {a b : Nat} {v w : DWord} (hne : b ≠ a) (h : u.reg b = w) : (u.setReg a v).reg b = w :=
    (State.reg_setReg_ne u v hne).trans h
  have hfld {u : State} {f : Fld} {n b : Nat} {w : DWord} (hne : b ≠ f.addr) (h : u.reg b = w) : (u.setFld f n).reg b = w :=
    (State.reg_setFld_ne u f n hne).trans h
  have hself (u : State) (a : Nat) (v : DWord) : (u.setReg a v).reg a = v := State.reg_setReg_self u a v
  refine ⟨State.wreg_of_reg_eq ?_, State.wreg_of_reg_eq ?_, State.wreg_of_reg_eq ?_, State.wreg_of_reg_eq ?_, State.wreg_of_reg_eq ?_, ?_⟩
  · exact hfld (by decide) (hfld (by decide) (hset (by decide) (hset (by decide) (hset (by decide) (hset (by decide) (hself ..))))))
  · exact hfld (by decide) (hfld (by decide) (hset (by decide) (hset (by decide) (hset (by decide) (hself ..)))))
  · exact hfld (by decide) (hfld (by decide) (hset (by decide) (hset (by decide) (hself ..))))
  · exact hfld (by decide) (hfld (by decide) (hset (by decide) (hself ..)))
  · exact hfld (by decide) (hfld (by decide) (hself ..))
  · exact (State.fld_setFld_self _ Reg.SFE_PROF_DATA5_gen _ (by decide) (by decide)).trans (Nat.mod_eq_of_lt p.gen.isLt)

/-! ### The two commands -/

theorem State.sfeProfFinish_shows (s : State) {c : Nat} (hc : c < 4) :
    (s.sfeProfFinish c).fld Reg.SFE_PROF_STAT_status = c ∧ (s.sfeProfFinish c).flag Reg.SFE_PROF_STAT_done = true :=
  (s.finishCmd_shows (done := Reg.SFE_PROF_STAT_done) (status := Reg.SFE_PROF_STAT_status) rfl (by decide) (by decide) (by decide) (by decide)
    hc).symm

section
variable (hbus : s.busOk (some 2))
include hbus

theorem exec_sfeProfile_running (hrun : s.flag Reg.SFE_PROF_STAT_done = false) :
    exec .sfeProfileWrite s = .next (s.setFld Reg.SFE_PROF_STAT_status 2) ∧ exec .sfeProfileRead s = .next (s.setFld Reg.SFE_PROF_STAT_status 2) :=
  ⟨congrArg Host.Outcome.next ((State.coreWrite_of_busOk hbus _).trans (State.startCmd_of_running hrun _)),
    congrArg Host.Outcome.next ((State.coreWrite_of_busOk hbus _).trans (State.startCmd_of_running hrun _))⟩

variable (hdone : s.flag Reg.SFE_PROF_STAT_done = true)
include hdone

theorem exec_sfeProfileWrite_taken : exec .sfeProfileWrite s =
    .next (if s.sfeProfNext.bad then s.sfeProfStarted.sfeProfFinish 1 else s.sfeProfStarted.sfeProfStored.sfeProfFinish 0) := by
  rw [← s.sfeProfNext_started]
  exact congrArg Host.Outcome.next ((State.coreWrite_of_busOk hbus _).trans (State.startCmd_of_done hdone _))

theorem exec_sfeProfileRead_taken : exec .sfeProfileRead s =
    .next ((s.sfeProfStarted.sfeProfShown (s.sfe.profiles.get (s.fld Reg.SFE_PROF_SEL_profile))).sfeProfFinish 0) := by
  rw [← s.fld_sel_sfeProfStarted]
  exact congrArg Host.Outcome.next ((State.coreWrite_of_busOk hbus _).trans (State.startCmd_of_done hdone _))

end

/-- A write that is accepted changes the selected profile alone. -/
theorem State.profiles_sfeProfStored (s : State) :
    s.sfeProfStarted.sfeProfStored.sfe.profiles.get (s.fld Reg.SFE_PROF_SEL_profile) = s.sfeProfNext ∧
    ∀ j, j ≠ s.fld Reg.SFE_PROF_SEL_profile → s.sfeProfStarted.sfeProfStored.sfe.profiles.get j = s.sfe.profiles.get j := by
  have hprofiles : s.sfeProfStarted.sfeProfStored.sfe.profiles = s.sfe.profiles.set (s.fld Reg.SFE_PROF_SEL_profile) s.sfeProfNext := by
    rw [← s.fld_sel_sfeProfStarted, ← s.sfeProfNext_started]
    rfl
  rw [hprofiles]
  exact ⟨Tab.get_set_self _ _ _, fun j hj => Tab.get_set_ne _ _ hj⟩

end

/-- Settles O29: by whether a command runs and whether the data spell a legal profile, from what each command leaves. -/
theorem normProfilesWrittenWholeOrRefused : Obligations.NormProfilesWrittenWholeOrRefused := by
  refine fun s hbus => ⟨fun hdone hbad => ?_, fun hdone hgood => ?_, fun hdone => ?_, exec_sfeProfile_running hbus⟩
  · exact ⟨_, (exec_sfeProfileWrite_taken hbus hdone).trans (congrArg _ (if_pos hbad)), rfl, State.sfeProfFinish_shows _ (by decide)⟩
  · obtain ⟨hsel, hothers⟩ := s.profiles_sfeProfStored
    obtain ⟨hstatus, hend⟩ := s.sfeProfStarted.sfeProfStored.sfeProfFinish_shows (c := 0) (by decide)
    exact ⟨_, (exec_sfeProfileWrite_taken hbus hdone).trans (congrArg _ (if_neg (Bool.eq_false_iff.1 hgood))), hsel, hothers, hstatus, hend, rfl⟩
  · obtain ⟨h0, h1, h2, h3, h4, hgen⟩ := s.sfeProfStarted.sfeProfShown_reads (s.sfe.profiles.get (s.fld Reg.SFE_PROF_SEL_profile))
    have hdata {u : State} {i : Nat} {w : Word} (hi : i < 5) (h : u.sfeData i = w) : (u.sfeProfFinish 0).sfeData i = w :=
      (State.sfeData_sfeProfFinish 0 hi).trans h
    refine ⟨_, exec_sfeProfileRead_taken hbus hdone, rfl, hdata (by decide) h0, hdata (by decide) h1, hdata (by decide) h2, hdata (by decide) h3,
      hdata (by decide) h4, ?_, (State.sfeProfFinish_shows _ (by decide)).1⟩
    exact (State.fld_setFld_ne _ _ _ _ (by decide)).trans ((State.fld_setFld_ne _ _ _ _ (by decide)).trans hgen)

end Sys2Proof.Machine
end

section
/-! The header of the front-end region and the segment reorder rule (R135, R145): what a region reads back after a segment's header, and when the
rule accepts. -/

namespace Sys2Proof.Machine

/-! ### Little-endian fields of a byte list -/

theorem leNat_toLe (n v : Nat) : leNat (toLe n v) = v % 256 ^ n := by
  induction n generalizing v with
  | zero => simp [toLe, leNat, Nat.mod_one]
  | succ n ih =>
    have hstep : leNat (toLe (n + 1) v) = v % 256 + 256 * leNat (toLe n (v / 256)) := by simp [toLe, leNat, Nat.shiftRight_eq_div_pow]
    rw [hstep, ih, pow_succ', Nat.mod_mul]

/-- A little-endian field reads back the number written there. -/
theorem le_toLe_append (a b : List Byte) (n v : Nat) : le (a ++ (toLe n v ++ b)) a.length n = v % 256 ^ n := by
  have hslice : slice (a ++ (toLe n v ++ b)) a.length n = toLe n v := by simp [slice, length_toLe]
  rw [le, hslice, leNat_toLe]

theorem length_fit (l : List Byte) (n : Nat) : (fit l n).length = n := by
  simp [fit, slice]

/-! ### The header of a region (R135) -/

/-- The second word of a region's header. -/
def Region.word1 (r : Region) : Nat := r.lastSeq.toNat ||| b2n r.valid <<< 16 ||| b2n r.ended <<< 17 ||| (r.prof % 4096) <<< 18

theorem testBit_b2n (b : Bool) (i : Nat) : (b2n b).testBit i = (b && decide (i = 0)) := by
  cases b <;> cases i <;> simp [b2n, Nat.testBit_succ]

theorem Region.lastSeq_word1 (r : Region) {i : Nat} (hi : i < 16) : r.word1.testBit i = r.lastSeq.getLsbD i := by
  have hvalid : ¬ 16 ≤ i := by omega
  have hended : ¬ 17 ≤ i := by omega
  have hprof : ¬ 18 ≤ i := by omega
  simp [Region.word1, hvalid, hended, hprof, BitVec.getLsbD]

theorem Region.ended_word1 (r : Region) : r.word1.testBit 17 = r.ended := by
  simp only [Region.word1, Nat.testBit_or, Nat.testBit_shiftLeft, testBit_b2n, BitVec.testBit_toNat]
  simp

/-- What a region's bytes spell after its header was written. -/
theorem Region.ofBytes_header (p : SfeProfile) (r : Region) (b : List Byte) : (Region.ofBytes p (r.header ++ b)).lastSeq = r.lastSeq ∧
    (Region.ofBytes p (r.header ++ b)).streamId = r.streamId ∧ (Region.ofBytes p (r.header ++ b)).ended = r.ended := by
  have hid : le (r.header ++ b) 0 4 = r.streamId.toNat % 2 ^ 32 := by
    simp only [Region.header, List.append_assoc]
    exact le_toLe_append [] _ 4 _
  have hword : le (r.header ++ b) 4 4 = r.word1 % 2 ^ 32 := by
    simp only [Region.header, List.append_assoc]
    exact le_toLe_append (toLe 4 _) _ 4 _
  refine ⟨?_, ?_, ?_⟩
  · refine BitVec.eq_of_getLsbD_eq fun i hi => ?_
    show (BitVec.ofNat 16 (bits (le (r.header ++ b) 4 4) 15 0)).getLsbD i = _
    have hi' : i < 32 := by omega
    rw [hword, BitVec.getLsbD_ofNat, testBit_bits, Nat.zero_add, Nat.testBit_mod_two_pow, r.lastSeq_word1 hi]
    simp [hi, hi']
  · show BitVec.ofNat 32 (le (r.header ++ b) 0 4) = _
    rw [hid, Nat.mod_eq_of_lt r.streamId.isLt, BitVec.ofNat_toNat, BitVec.setWidth_eq]
  · show (le (r.header ++ b) 4 4).testBit 17 = _
    rw [hword, Nat.testBit_mod_two_pow, r.ended_word1]
    rfl

theorem Region.length_header (r : Region) : r.header.length = 16 := by
  simp only [Region.header, List.length_append, length_toLe]

/-- A slot whose front-end region has taken a header reads it back (R135). -/
theorem Region.ofBytes_patchAt_header (x : Slot) (p : SfeProfile) (r : Region) :
    (Region.ofBytes p (x.patchAt 0 r.header).state).lastSeq = r.lastSeq ∧ (Region.ofBytes p (x.patchAt 0 r.header).state).streamId = r.streamId ∧
    (Region.ofBytes p (x.patchAt 0 r.header).state).ended = r.ended := by
  have hpatch : (x.patchAt 0 r.header).state = r.header ++ (fit x.state 4096).drop r.header.length :=
    patch_zero (by rw [Region.length_header, length_fit]; decide)
  rw [hpatch]
  exact Region.ofBytes_header p r _

/-! ### The segment reorder rule (R145) -/

/-- The rule accepts only the next segments of the same stream under the same profile, within its gap limit. -/
theorem reorder_accepts {h : Region} {id : Word} {q : BitVec 16} {b : Bool} {prof : Nat} {gen : BitVec 12} {gap m : Nat}
    (ho : reorder h id q b prof gen gap = .accept m) : b = false ∧ h.valid = true ∧ h.ended = false ∧ h.streamId = id ∧ h.prof = prof ∧
    h.gen = gen ∧ q = h.lastSeq + BitVec.ofNat 16 (m + 1) ∧ m + 1 ≤ gap ∧ m + 1 < 0x8000 := by
  unfold reorder at ho
  split at ho
  next => cases ho
  next hsame =>
    simp only [Bool.or_eq_true, Bool.not_eq_true', decide_eq_true_eq, not_or, Bool.not_eq_true, Bool.not_eq_false, not_not] at hsame
    obtain ⟨⟨⟨⟨⟨hb, hvalid⟩, hended⟩, hid⟩, hprof⟩, hgen⟩ := hsame
    dsimp only at ho
    split_ifs at ho with hdup hlate hgap
    have hm : m + 1 = (q - h.lastSeq).toNat := by
      have hm' := Order.accept.inj ho
      omega
    refine ⟨hb, hvalid, hended, hid, hprof, hgen, ?_, by omega, by omega⟩
    rw [hm, BitVec.ofNat_toNat, BitVec.setWidth_eq, BitVec.add_comm, BitVec.sub_add_cancel]

end Sys2Proof.Machine
end

section
/-! SEGMENT_ADMISSION (R142 to R145, R147): how a segment leaves the checks, what the reorder rule makes of one that passes them, and O27. -/

namespace Sys2Proof.Machine

section
variable {s : State} {i : Nat} {l : List Nat}

/-! ### The end of a segment at a check -/

/-- The head of the queue is taken and counted (R142). -/
def State.segTaken (s : State) (l : List Nat) : State := (s.updSfe fun e => { e with queue := l }).bump Reg.SFE_SEGS

/-- A segment that has not been admitted has left classification and admission. -/
def State.segJudged (s : State) (i : Nat) : State := if (s.seg i).st = .alloc then s else s.segClassified i

theorem State.segJudged_of_alloc (h : (s.seg i).st = .alloc) : s.segJudged i = s := if_pos h

/-- A segment that has ended and has left admission: what that leaves of the front end, of the results and of the registers. -/
theorem State.segJudged_of_done (h : (s.seg i).st = .done) : (s.segJudged i).sfe = s.sfe ∧ (s.segJudged i).erp = s.erp ∧
    (s.segJudged i).regs = s.regs := by
  have hmac : (s.segJudged i).sansMac = s.sansMac := by
    rw [State.segJudged, if_neg (by rw [h]; decide)]
    exact s.sansMac_segClassified i
  exact ⟨(congrArg State.sfe hmac :), (congrArg State.erp hmac :), (congrArg State.regs hmac :)⟩

/-- A segment has ended at a check: it is done, the queue is what followed it, and it is counted there and in SFE_SEGS. -/
def State.endsAt (s t : State) (i : Nat) (l : List Nat) (a : Nat) : Prop :=
  t.sfe.queue = l ∧ t.reg Reg.SFE_SEGS = s.reg Reg.SFE_SEGS + 1 ∧ (t.seg i).st = .done ∧ t.reg a = s.reg a + 1

theorem State.reg_segTaken_self (s : State) (l : List Nat) : (s.segTaken l).reg Reg.SFE_SEGS = s.reg Reg.SFE_SEGS + 1 := State.reg_bump_self _ _

theorem State.reg_segTaken_ne (s : State) (l : List Nat) {a : Nat} (ha : a ≠ Reg.SFE_SEGS) : (s.segTaken l).reg a = s.reg a :=
  State.reg_bump_ne _ ha

theorem State.sfe_segDiscard (s : State) (i r : Nat) : (s.segDiscard i r).sfe = (s.updSeg i fun g => { g with st := .done }).sfe :=
  State.sfe_of_sansHost_eq (s.sansHost_segDiscard i r)

theorem State.seg_segDiscard (s : State) (i r : Nat) : (s.segDiscard i r).seg i = { s.seg i with st := .done } :=
  (congrArg (fun x : SfeSt => x.segs.get i) (s.sfe_segDiscard i r)).trans (s.seg_updSeg_self i _)

theorem State.reg_segDiscard (s : State) (i r a : Nat) : (s.segDiscard i r).reg a = s.reg a :=
  State.reg_of_sansHost_eq (s.sansHost_segDiscard i r) a

/-- A segment that is discarded at a check. -/
theorem State.endsAt_segDiscard (s : State) (i : Nat) (l : List Nat) {a : Nat} (ha : a ≠ Reg.SFE_SEGS) (r : Nat) :
    s.endsAt ((((s.segTaken l).bump a).segDiscard i r).segJudged i) i l a := by
  have hseg := ((s.segTaken l).bump a).seg_segDiscard i r
  obtain ⟨hsfe, -, hregs⟩ := State.segJudged_of_done (s := ((s.segTaken l).bump a).segDiscard i r) (i := i) (by rw [hseg])
  have hreg (b : Nat) : ((((s.segTaken l).bump a).segDiscard i r).segJudged i).reg b = ((s.segTaken l).bump a).reg b :=
    (congrArg (Regs.get · b) hregs).trans (State.reg_segDiscard _ i r b)
  refine ⟨?_, ?_, ?_, ?_⟩
  · rw [hsfe, State.sfe_segDiscard]
    rfl
  · rw [hreg, State.reg_bump_ne _ ha.symm, State.reg_segTaken_self]
  · rw [State.seg, hsfe]
    exact congrArg Seg.st hseg
  · rw [hreg, State.reg_bump_self, State.reg_segTaken_ne _ _ ha]

/-! ### A stale segment (R143, R144) -/

/-- A segment that is not fresh at the parse check is counted and answered STALE (R144). -/
def State.staleAnswered (s : State) (i : Nat) (x : Age) : State :=
  (((s.bumpIf (decide (x = .skew)) Reg.SFE_CLOCK_SKEW).bump Reg.SFE_STALE_PARSE)).sendResult i 1 0 false

theorem State.staleAnswered_ends (s : State) (i : Nat) (l : List Nat) (x : Age) :
    let t := ((s.segTaken l).staleAnswered i x).segJudged i
    t.sfe.queue = l ∧ t.reg Reg.SFE_SEGS = s.reg Reg.SFE_SEGS + 1 ∧
    ((t.seg i).st = .done ∧ t.reg Reg.SFE_STALE_PARSE = s.reg Reg.SFE_STALE_PARSE + 1) ∧
    ∃ y, t.erp.results = s.erp.results ++ [y] ∧ y.rstat = 1 ∧ y.seg = i := by
  dsimp only
  have hst : (((s.segTaken l).staleAnswered i x).seg i).st = .done := congrArg Seg.st (State.seg_updSeg_self _ i _)
  obtain ⟨hsfe, herp, hregs⟩ := State.segJudged_of_done hst
  have hreg (a : Nat) : (((s.segTaken l).staleAnswered i x).segJudged i).reg a =
      (((s.segTaken l).bumpIf (decide (x = .skew)) Reg.SFE_CLOCK_SKEW).bump Reg.SFE_STALE_PARSE).reg a := congrArg (Regs.get · a) hregs
  refine ⟨?_, ?_, ⟨?_, ?_⟩, ?_⟩
  · rw [hsfe]
    cases x <;> rfl
  · rw [hreg, State.reg_bump_ne _ (by decide), State.reg_bumpIf_ne _ _ (by decide), State.reg_segTaken_self]
  · rw [State.seg, hsfe]
    exact hst
  · rw [hreg, State.reg_bump_self, State.reg_bumpIf_ne _ _ (by decide), State.reg_segTaken_ne _ _ (by decide)]
  · rw [herp]
    cases x <;> exact ⟨_, rfl, rfl, rfl⟩

theorem State.age_of_reg_eq {t : State} {cls : Nat} (hcls : cls < 64) (h : ∀ a, a ≠ Reg.SFE_SEGS → t.reg a = s.reg a) (x y : DWord) :
    t.age cls x y = s.age cls x y := by
  have hen : t.reg (Reg.SFE_STALE_EN (cls / 32)) = s.reg (Reg.SFE_STALE_EN (cls / 32)) :=
    h _ (by simp only [Reg.SFE_STALE_EN, Reg.SFE_SEGS]; omega)
  have hlim : t.fld (Reg.SFE_STALE_LIM_limit_ns cls) = s.fld (Reg.SFE_STALE_LIM_limit_ns cls) :=
    State.fld_of_reg_eq (h _ (by simp only [Reg.SFE_STALE_LIM_limit_ns, Reg.SFE_STALE_LIM, Reg.SFE_SEGS]; omega))
  rw [State.age, hen, hlim]
  rfl

theorem StreamEntry.staleClass_lt (e : StreamEntry) : e.staleClass < 64 := Nat.mod_lt _ (by decide)

/-! ### A segment that passes (R145, R225) -/

/-- What the reorder rule counts of a segment that it admits (R145). -/
def State.orderCounted (s : State) (o : Order) : State :=
  match o with
  | .restart => s.bump Reg.SFE_RESTART
  | .accept m => s.addCnt Reg.SFE_SEQ_GAP m
  | _ => s

theorem State.reg_orderCounted_ne (s : State) (o : Order) {a : Nat} (hrestart : a ≠ Reg.SFE_RESTART) (hgap : a ≠ Reg.SFE_SEQ_GAP) :
    (s.orderCounted o).reg a = s.reg a := by
  cases o with
  | restart => exact s.reg_bump_ne hrestart
  | accept m => exact s.reg_addCnt_ne m hgap
  | dup => rfl
  | late => rfl

/-- How a segment stands against its stream's sequence (R145). -/
def State.orderOf (s : State) (i : Nat) : Order :=
  reorder (s.region (s.seg i).slot (s.seg i).prof) (s.seg i).streamId (s.seg i).seq (s.seg i).start (s.seg i).entry.norm (s.seg i).prof.gen
    (s.seg i).prof.gapMax

theorem State.admitOrder_segTaken (s : State) (i : Nat) (l : List Nat) : (s.segTaken l).admitOrder i =
    if s.orderOf i = .dup then ((s.segTaken l).bump Reg.SFE_DUP).segDiscard i 7
    else if s.orderOf i = .late then ((s.segTaken l).bump Reg.SFE_LATE_SEQ).segDiscard i 8
    else ((s.segTaken l).orderCounted (s.orderOf i)).admitHeader i (decide (s.orderOf i = .restart)) := by
  have hmatch : (s.segTaken l).admitOrder i = match s.orderOf i with
      | .dup => ((s.segTaken l).bump Reg.SFE_DUP).segDiscard i 7
      | .late => ((s.segTaken l).bump Reg.SFE_LATE_SEQ).segDiscard i 8
      | .restart => ((s.segTaken l).bump Reg.SFE_RESTART).admitHeader i true
      | .accept m => ((s.segTaken l).addCnt Reg.SFE_SEQ_GAP m).admitHeader i false := rfl
  rw [hmatch]
  cases s.orderOf i <;> rfl

theorem State.admitHeader_admits (s : State) (i : Nat) (b : Bool) :
    (s.admitHeader i b).seg i = { s.seg i with restart := b, lease := (s.slotOf (s.seg i).slot).epoch, st := .alloc } :=
  State.seg_updSeg_self _ i _

theorem State.slotOf_updSlot_self (s : State) (k : Nat) (f : Slot → Slot) : (s.updSlot k f).slotOf k = f (s.slotOf k) :=
  Tab.get_upd_self _ k f

theorem State.region_admitHeader (s : State) (i : Nat) (b : Bool) :
    ((s.admitHeader i b).region (s.seg i).slot (s.seg i).prof).lastSeq = (s.seg i).seq ∧
    ((s.admitHeader i b).region (s.seg i).slot (s.seg i).prof).streamId = (s.seg i).streamId ∧
    ((s.admitHeader i b).region (s.seg i).slot (s.seg i).prof).ended = (s.seg i).isEnd := by
  have hslot : (s.admitHeader i b).slotOf (s.seg i).slot = (s.slotOf (s.seg i).slot).patchAt 0
      ((s.region (s.seg i).slot (s.seg i).prof).admitted (s.seg i)).header := State.slotOf_updSlot_self s _ _
  have hheader := Region.ofBytes_patchAt_header (s.slotOf (s.seg i).slot) (s.seg i).prof ((s.region (s.seg i).slot (s.seg i).prof).admitted (s.seg i))
  rw [← hslot] at hheader
  exact hheader

/-- A segment that the rule admits waits for its line, under its slot's lease, and the region holds its header (R142, R145, R225). -/
theorem State.orderCounted_admits (s : State) (i : Nat) (l : List Nat) (o : Order) :
    let t := (((s.segTaken l).orderCounted o).admitHeader i (decide (o = .restart))).segJudged i
    t.sfe.queue = l ∧ t.reg Reg.SFE_SEGS = s.reg Reg.SFE_SEGS + 1 ∧ (t.seg i).st = .alloc ∧
    (t.seg i).lease = (s.slotOf (s.seg i).slot).epoch ∧ (t.region (s.seg i).slot (s.seg i).prof).lastSeq = (s.seg i).seq ∧
    (t.region (s.seg i).slot (s.seg i).prof).streamId = (s.seg i).streamId ∧
    (t.region (s.seg i).slot (s.seg i).prof).ended = (s.seg i).isEnd ∧ (t.seg i).restart = decide (o = .restart) ∧
    (o = .restart → t.reg Reg.SFE_RESTART = s.reg Reg.SFE_RESTART + 1) ∧
    ∀ m, o = .accept m → t.reg Reg.SFE_SEQ_GAP = s.reg Reg.SFE_SEQ_GAP + BitVec.ofNat 64 m := by
  dsimp only
  rw [State.segJudged_of_alloc (congrArg Seg.st (State.admitHeader_admits _ i _))]
  have hregs (a : Nat) : (((s.segTaken l).orderCounted o).admitHeader i (decide (o = .restart))).reg a =
    ((s.segTaken l).orderCounted o).reg a := rfl
  have hsfe : ((s.segTaken l).orderCounted o).sfe = { s.sfe with queue := l } := by cases o <;> rfl
  have hbay : ((s.segTaken l).orderCounted o).bay = s.bay := by cases o <;> rfl
  have hseg : ((s.segTaken l).orderCounted o).seg i = s.seg i := (congrArg (fun x : SfeSt => x.segs.get i) hsfe :)
  have hslot (k : Nat) : ((s.segTaken l).orderCounted o).slotOf k = s.slotOf k := congrArg (fun x : BaySt => x.slots.get k) hbay
  have hadmits := ((s.segTaken l).orderCounted o).admitHeader_admits i (decide (o = .restart))
  have hregion := ((s.segTaken l).orderCounted o).region_admitHeader i (decide (o = .restart))
  rw [hseg] at hadmits hregion
  rw [hslot] at hadmits
  obtain ⟨hseq, hstream, hend⟩ := hregion
  refine ⟨congrArg SfeSt.queue hsfe, ?_, by rw [hadmits], by rw [hadmits], hseq, hstream, hend, by rw [hadmits], fun ho => ?_, fun m ho => ?_⟩
  · rw [hregs, State.reg_orderCounted_ne _ _ (by decide) (by decide), s.reg_segTaken_self l]
  · rw [hregs, ho, State.orderCounted, State.reg_bump_self, s.reg_segTaken_ne l (by decide)]
  · rw [hregs, ho, State.orderCounted, State.reg_addCnt_self, s.reg_segTaken_ne l (by decide)]

/-! ### The checks in order (R142) -/

section
variable (hruns : s.runs (some 2) = true) (hfree : s.sfe.segs.cells.any (fun c => decide (c.2.st = .alloc)) = false) (hrows : s.rowStarved = false)
  (hqueue : s.sfe.queue = i :: l)
include hruns hfree hrows hqueue

theorem exec_segmentAdmission_of_head :
    exec .segmentAdmission s = .next (((s.updSfe fun e => { e with queue := l }).admitSeg i).segJudged i) := by
  show execSegmentAdmission s = _
  rw [execSegmentAdmission, State.whenRuns_of_runs hruns, if_neg (by rw [hfree, hrows]; decide), hqueue]
  rfl

end

/-- A block's work that changes nothing changes nothing, whether or not the block works. -/
theorem State.whenRuns_of_stays {blk : Option Nat} {k : State → State} (h : k s = s) : s.whenRuns blk k = s := by
  rw [State.whenRuns, h, ite_self]

theorem exec_segmentAdmission_of_waiting (h : (s.sfe.segs.cells.any (fun c => decide (c.2.st = .alloc)) || s.rowStarved) = true) :
    exec .segmentAdmission s = .next s := by
  show execSegmentAdmission s = _
  exact congrArg Host.Outcome.next (State.whenRuns_of_stays (if_pos h))

/-- The checks of a segment that is not withdrawn, not empty and not left to the host, in their order (R142). -/
theorem State.admitSeg_checks (hin : (s.seg i).withdrawn = false) (hlen : (s.seg i).len ≠ 0) (hhost : isHostCodec (s.seg i).codec = false) :
    (s.updSfe fun e => { e with queue := l }).admitSeg i =
      if s.flag Reg.SFE_CTRL_enable = false ∨ bit (s.seg i).prof.d0.toNat 0 = false then ((s.segTaken l).bump Reg.SFE_BAD_PROFILE).segDiscard i 2
      else if (s.seg i).prof.codecOk (s.seg i).codec = false then ((s.segTaken l).bump Reg.SFE_BAD_CODEC).segDiscard i 3
      else if (s.seg i).prof.rateOk (s.seg i).codec (s.seg i).rate = false then ((s.segTaken l).bump Reg.SFE_BAD_RATE).segDiscard i 4
      else if (s.seg i).prof.lenOk (s.seg i).codec (s.seg i).len = false then ((s.segTaken l).bump Reg.SFE_BAD_LEN).segDiscard i 5
      else if (s.seg i).prof.maxSeg < (s.seg i).len then ((s.segTaken l).bump Reg.SFE_TOO_LONG).segDiscard i 6
      else if s.age (s.seg i).entry.staleClass (s.seg i).stamp (s.seg i).capture ≠ .fresh then
        (s.segTaken l).staleAnswered i (s.age (s.seg i).entry.staleClass (s.seg i).stamp (s.seg i).capture)
      else (s.segTaken l).admitOrder i := by
  have hon : (s.segTaken l).flag Reg.SFE_CTRL_enable = s.flag Reg.SFE_CTRL_enable := State.flag_of_reg_eq (s.reg_segTaken_ne l (by decide))
  have hage := State.age_of_reg_eq (s := s) (t := s.segTaken l) (s.seg i).entry.staleClass_lt (fun a ha => s.reg_segTaken_ne l ha)
    (s.seg i).stamp (s.seg i).capture
  rw [← hon, ← hage]
  refine (if_neg (ne_of_eq_of_ne hin Bool.false_ne_true)).trans ?_
  refine ite_congr rfl (fun _ => rfl) fun _ => ?_
  refine (if_neg (ne_of_eq_of_ne hhost Bool.false_ne_true)).trans ?_
  refine ite_congr rfl (fun _ => rfl) fun _ => ?_
  refine ite_congr rfl (fun _ => rfl) fun _ => ?_
  refine (if_neg hlen).trans ?_
  refine ite_congr rfl (fun _ => rfl) fun _ => ?_
  refine ite_congr rfl (fun _ => rfl) fun _ => ?_
  have hmatch : ∀ a : Age, (match a with
      | .skew => (((s.segTaken l).bump Reg.SFE_CLOCK_SKEW).bump Reg.SFE_STALE_PARSE).sendResult i 1 0 false
      | .stale => ((s.segTaken l).bump Reg.SFE_STALE_PARSE).sendResult i 1 0 false
      | .fresh => (s.segTaken l).admitOrder i) =
      if a ≠ .fresh then (s.segTaken l).staleAnswered i a else (s.segTaken l).admitOrder i := fun a => by
    cases a <;> rfl
  exact hmatch _

end

/-- Settles O27: the queue waits or its head is taken; then each check in its order, from what the segment's end there or its admission leaves. -/
theorem admissionChecksInOrder : Obligations.AdmissionChecksInOrder := by
  refine ⟨fun s c hc hst => exec_segmentAdmission_of_waiting ?_, fun s hrows => exec_segmentAdmission_of_waiting ?_,
    fun s i l hruns hfree hrows hqueue hin hlen hhost => ?_, fun h id q b prof gen gap m => reorder_accepts⟩
  · rw [Bool.or_eq_true, List.any_eq_true]
    exact .inl ⟨c, hc, decide_eq_true hst⟩
  · rw [hrows, Bool.or_true]
  · have hchecks := State.admitSeg_checks (l := l) hin hlen hhost
    rw [State.admitOrder_segTaken] at hchecks
    refine ⟨_, exec_segmentAdmission_of_head hruns hfree hrows hqueue, ?_⟩
    dsimp only
    rw [← State.orderOf]
    generalize (s.updSfe fun e => { e with queue := l }).admitSeg i = t, s.orderOf i = o at hchecks ⊢
    split_ifs at hchecks ⊢ <;> subst hchecks
    · exact s.endsAt_segDiscard i l (by decide : Reg.SFE_BAD_PROFILE ≠ _) 2
    · exact s.endsAt_segDiscard i l (by decide : Reg.SFE_BAD_CODEC ≠ _) 3
    · exact s.endsAt_segDiscard i l (by decide : Reg.SFE_BAD_RATE ≠ _) 4
    · exact s.endsAt_segDiscard i l (by decide : Reg.SFE_BAD_LEN ≠ _) 5
    · exact s.endsAt_segDiscard i l (by decide : Reg.SFE_TOO_LONG ≠ _) 6
    · exact s.staleAnswered_ends i l _
    · exact s.endsAt_segDiscard i l (by decide : Reg.SFE_DUP ≠ _) 7
    · exact s.endsAt_segDiscard i l (by decide : Reg.SFE_LATE_SEQ ≠ _) 8
    · exact s.orderCounted_admits i l o

end Sys2Proof.Machine
end

section
/-! Allocation and the state cache (R136, R142): what a segment takes at SEGMENT_ALLOCATE, and what the load of its lines lets go on. -/

namespace Sys2Proof.Machine

/-! ### The line and the row space of a segment (R142) -/

section
variable {s : State} {i : Nat}

/-- The order of segments and the state cache of the front end. -/
def State.cacheSide (s : State) : List Nat × List (Nat × Nat) × List Nat := (s.sfe.order, s.sfe.cache, s.sfe.loading)

/-- The row space of a segment is no matter of order, of the cache or of registers. -/
theorem State.holdRows_keeps (s : State) (i : Nat) : (s.holdRows i).cacheSide = s.cacheSide ∧ (s.holdRows i).regs = s.regs := by
  unfold State.holdRows
  dsimp only
  split
  · split <;> exact ⟨rfl, rfl⟩
  · exact ⟨rfl, rfl⟩

/-- A segment has its row space and its place in order, and its slot is listed in the cache; its lines may be on their way (R136). -/
def State.lineTaken (s : State) (i : Nat) : State :=
  ((s.holdRows i).updSfe fun e => { e with
    order := e.order ++ [i]
    cache := e.cache.filter (fun c => c.1 != (s.seg i).slot) ++ [((s.seg i).slot, max (s.seg i).prof.lines ((s.holdRows i).linesOf (s.seg i).slot))]
    loading := if s.sfe.cache.any (fun c => c.1 == (s.seg i).slot) then e.loading else e.loading ++ [(s.seg i).slot] }).segClassified i

theorem State.takeLine_eq (s : State) (i : Nat) : s.takeLine i =
    if (s.lineTaken i).cached (s.seg i).slot then (s.lineTaken i).updSeg i fun g => { g with st := .features }
    else ((s.lineTaken i).updSeg i fun g => { g with st := .line }).bumpIf (!s.sfe.cache.any fun c => c.1 == (s.seg i).slot) Reg.SFE_STATE_MISS := rfl

theorem State.linesOf_of_cache_eq {t : State} (h : t.sfe.cache = s.sfe.cache) (k : Nat) : t.linesOf k = s.linesOf k := by
  rw [State.linesOf, h]
  rfl

theorem State.lineTaken_takes (s : State) (i : Nat) : (s.lineTaken i).sfe.order = s.sfe.order ++ [i] ∧
    (s.lineTaken i).sfe.cache = s.sfe.cache.filter (fun c => c.1 != (s.seg i).slot) ++
      [((s.seg i).slot, max (s.seg i).prof.lines (s.linesOf (s.seg i).slot))] ∧
    (s.lineTaken i).sfe.loading =
      (if s.sfe.cache.any (fun c => c.1 == (s.seg i).slot) then s.sfe.loading else s.sfe.loading ++ [(s.seg i).slot]) ∧
    (s.lineTaken i).regs = s.regs := by
  obtain ⟨hside, hregs⟩ := s.holdRows_keeps i
  simp only [State.cacheSide, Prod.mk.injEq] at hside
  obtain ⟨horder, hcache, hloading⟩ := hside
  have hmac (u : State) : (u.segClassified i).sansMac = u.sansMac := u.sansMac_segClassified i
  refine ⟨(congrArg (fun u : State => u.sfe.order) (hmac _) :).trans ?_, (congrArg (fun u : State => u.sfe.cache) (hmac _) :).trans ?_,
    (congrArg (fun u : State => u.sfe.loading) (hmac _) :).trans ?_, (congrArg State.regs (hmac _) :).trans hregs⟩
  · exact congrArg (· ++ [i]) horder
  · show (s.holdRows i).sfe.cache.filter _ ++ [(_, max _ ((s.holdRows i).linesOf _))] = _
    rw [State.linesOf_of_cache_eq hcache, hcache]
  · show (if _ then (s.holdRows i).sfe.loading else (s.holdRows i).sfe.loading ++ _) = _
    rw [hloading]

theorem State.takeLine_of_cached (h : s.cached (s.seg i).slot = true) :
    s.takeLine i = (s.lineTaken i).updSeg i fun g => { g with st := .features } := by
  obtain ⟨-, hcache, hloading, -⟩ := s.lineTaken_takes i
  obtain ⟨hlisted, hloaded⟩ := Bool.and_eq_true_iff.1 h
  have hcached : (s.lineTaken i).cached (s.seg i).slot = true := by
    rw [State.cached, hcache, hloading, if_pos hlisted, hloaded, List.any_append]
    simp
  rw [State.takeLine_eq, if_pos hcached]

theorem State.takeLine_of_uncached (h : s.sfe.cache.any (fun c => c.1 == (s.seg i).slot) = false) :
    s.takeLine i = ((s.lineTaken i).updSeg i fun g => { g with st := .line }).bump Reg.SFE_STATE_MISS := by
  obtain ⟨-, -, hloading, -⟩ := s.lineTaken_takes i
  have hloads : (s.lineTaken i).cached (s.seg i).slot = false := by
    rw [State.cached, hloading, h, if_neg Bool.false_ne_true]
    simp
  rw [State.takeLine_eq, hloads, h]
  rfl

/-- A slot that has no line takes all that its region needs (R136). -/
theorem State.lineTaken_of_uncached (h : s.sfe.cache.any (fun c => c.1 == (s.seg i).slot) = false) :
    s.lineNeed i = (s.seg i).prof.lines ∧ (s.lineTaken i).cacheUsed = s.cacheUsed + (s.seg i).prof.lines ∧
    (s.lineTaken i).sfe.loading = s.sfe.loading ++ [(s.seg i).slot] := by
  obtain ⟨-, hcache, hloading, -⟩ := s.lineTaken_takes i
  have hother : ∀ c ∈ s.sfe.cache, ¬ (c.1 == (s.seg i).slot) = true := List.any_eq_false.1 h
  have hnone : s.linesOf (s.seg i).slot = 0 := by
    rw [State.linesOf, List.find?_eq_none.2 hother]
    rfl
  have hkept : s.sfe.cache.filter (fun c => c.1 != (s.seg i).slot) = s.sfe.cache :=
    List.filter_eq_self.2 fun c hc => by simpa [bne] using hother c hc
  refine ⟨by rw [State.lineNeed, hnone, Nat.sub_zero], ?_, by rw [hloading, h, if_neg Bool.false_ne_true]⟩
  rw [State.cacheUsed, hcache, hkept, hnone, Nat.max_zero, List.foldl_append]
  rfl

theorem State.lineRoom_of_none_needed (h : s.lineNeed i = 0) : s.lineRoom i = (s, true) := if_pos h

theorem State.makeRoom_of_room {keep need : Nat} (h : s.cacheUsed + need ≤ s.cacheLines) (n : Nat) : s.makeRoom keep need n = s := by
  cases n with
  | zero => rfl
  | succ n => exact if_pos h

theorem State.lineRoom_of_room (h : s.cacheUsed + s.lineNeed i ≤ s.cacheLines) : s.lineRoom i = (s, true) := by
  unfold State.lineRoom
  dsimp only
  rw [State.makeRoom_of_room h, decide_eq_true h, ite_self]

/-! ### SEGMENT_ALLOCATE (R142) -/

section
variable (hruns : s.runs (some 2) = true) (hwait : s.waitingSeg = some i)
include hruns hwait

theorem exec_segmentAllocate_off (hoff : s.flag Reg.SFE_CTRL_enable = false) :
    exec .segmentAllocate s = .next (((s.bump Reg.SFE_BAD_PROFILE).segDiscard i 2).segClassified i) := by
  show execSegmentAllocate s = _
  rw [execSegmentAllocate, State.whenRuns_of_runs hruns, hwait]
  exact congrArg Host.Outcome.next (if_pos hoff)

theorem exec_segmentAllocate_on (hon : s.flag Reg.SFE_CTRL_enable = true) : exec .segmentAllocate s =
    .next (if s.spaceThere i then (if (s.lineRoom i).2 then (s.lineRoom i).1.takeLine i else (s.lineRoom i).1) else s) := by
  show execSegmentAllocate s = _
  rw [execSegmentAllocate, State.whenRuns_of_runs hruns, hwait]
  exact congrArg Host.Outcome.next (if_neg (ne_of_eq_of_ne hon (Bool.false_ne_true.symm)))

variable (hon : s.flag Reg.SFE_CTRL_enable = true)
include hon

theorem exec_segmentAllocate_waits (hspace : s.spaceThere i = false) : exec .segmentAllocate s = .next s :=
  (exec_segmentAllocate_on hruns hwait hon).trans (congrArg _ (if_neg (ne_of_eq_of_ne hspace Bool.false_ne_true)))

variable (hspace : s.spaceThere i = true)
include hspace

theorem exec_segmentAllocate_takes (hroom : s.lineRoom i = (s, true)) : exec .segmentAllocate s = .next (s.takeLine i) := by
  rw [exec_segmentAllocate_on hruns hwait hon, if_pos hspace, hroom, if_pos rfl]

theorem exec_segmentAllocate_cached (hcached : s.cached (s.seg i).slot = true) (hneed : s.lineNeed i = 0) :
    ∃ t, exec .segmentAllocate s = .next t ∧ (t.seg i).st = .features ∧ t.sfe.order = s.sfe.order ++ [i] ∧ t.regs = s.regs := by
  have hexec := exec_segmentAllocate_takes hruns hwait hon hspace (State.lineRoom_of_none_needed hneed)
  rw [State.takeLine_of_cached hcached] at hexec
  obtain ⟨horder, -, -, hregs⟩ := s.lineTaken_takes i
  exact ⟨_, hexec, congrArg Seg.st (State.seg_updSeg_self _ i _), horder, hregs⟩

theorem exec_segmentAllocate_loads (hnew : s.sfe.cache.any (fun c => c.1 == (s.seg i).slot) = false)
    (hroom : s.cacheUsed + s.lineNeed i ≤ s.cacheLines) : ∃ t, exec .segmentAllocate s = .next t ∧ (t.seg i).st = .line ∧
    t.sfe.order = s.sfe.order ++ [i] ∧ t.sfe.loading = s.sfe.loading ++ [(s.seg i).slot] ∧ t.cacheUsed = s.cacheUsed + (s.seg i).prof.lines ∧
    t.reg Reg.SFE_STATE_MISS = s.reg Reg.SFE_STATE_MISS + 1 ∧ regsBut s t [Reg.SFE_STATE_MISS] := by
  have hexec := exec_segmentAllocate_takes hruns hwait hon hspace (State.lineRoom_of_room hroom)
  rw [State.takeLine_of_uncached hnew] at hexec
  obtain ⟨horder, -, -, hregs⟩ := s.lineTaken_takes i
  obtain ⟨-, hused, hloading⟩ := State.lineTaken_of_uncached hnew
  have hreg (a : Nat) : ((s.lineTaken i).updSeg i fun g => { g with st := .line }).reg a = s.reg a := congrArg (Regs.get · a) hregs
  refine ⟨_, hexec, congrArg Seg.st (State.seg_updSeg_self (s.lineTaken i) i _), horder, hloading, hused, ?_, fun a ha => ?_⟩
  · rw [State.reg_bump_self, hreg]
  · rw [State.reg_bump_ne _ (List.ne_of_not_mem_cons ha), hreg]

end

end

/-! ### STATE_LINE_LOAD (R136) -/

/-- A segment that waits for the lines of a slot goes on once they have come (R136). -/
def Seg.lineCame (g : Seg) (k : Nat) : Seg := if g.slot = k ∧ g.st = .line then { g with st := .features } else g

theorem Seg.lineCame_of_waiting {g : Seg} {k : Nat} (hslot : g.slot = k) (hst : g.st = .line) : g.lineCame k = { g with st := .features } :=
  if_pos ⟨hslot, hst⟩

theorem Seg.lineCame_of_other {g : Seg} {k : Nat} (hslot : g.slot ≠ k) : g.lineCame k = g := if_neg fun h => hslot h.1

theorem Seg.lineCame_lineCame (g : Seg) (k : Nat) : (g.lineCame k).lineCame k = g.lineCame k := by
  by_cases h : g.slot = k ∧ g.st = .line
  · rw [Seg.lineCame_of_waiting h.1 h.2]
    exact if_neg fun h' => nomatch h'.2
  · have hstay : g.lineCame k = g := if_neg h
    rw [hstay, hstay]

/-- What the lines of a slot do to the segment at one place of the order. -/
def State.lineCame (s : State) (k j : Nat) : State :=
  if (s.seg j).slot = k ∧ (s.seg j).st = .line then s.updSeg j fun g => { g with st := .features } else s

theorem State.seg_lineCame (s : State) (k j i : Nat) : (s.lineCame k j).seg i = if i = j then (s.seg i).lineCame k else s.seg i := by
  unfold State.lineCame Seg.lineCame
  split
  next hline =>
    by_cases hij : i = j
    · subst hij
      rw [State.seg_updSeg_self, if_pos rfl, if_pos hline]
    · rw [State.seg_updSeg_ne _ _ _ hij, if_neg hij]
  next hline =>
    by_cases hij : i = j
    · subst hij
      rw [if_pos rfl, if_neg hline]
    · rw [if_neg hij]

theorem State.seg_foldl_lineCame (k i : Nat) (l : List Nat) (s : State) : (l.foldl (fun u j => u.lineCame k j) s).seg i =
    if i ∈ l then (s.seg i).lineCame k else s.seg i := by
  induction l generalizing s with
  | nil => rfl
  | cons j r ih =>
    rw [List.foldl_cons, ih, State.seg_lineCame]
    by_cases hij : i = j
    · rw [if_pos hij, if_pos (List.mem_cons.2 (.inl hij)), Seg.lineCame_lineCame, ite_self]
    · rw [if_neg hij]
      simp only [List.mem_cons, hij, false_or]

theorem State.cacheSide_lineCame (s : State) (k j : Nat) : (s.lineCame k j).cacheSide = s.cacheSide := by
  unfold State.lineCame
  split <;> rfl

/-- The lines of a slot are in the cache. -/
def State.linesCame (s : State) (k : Nat) : State := s.updSfe fun e => { e with loading := e.loading.filter fun j => j != k }

section
variable {s : State} {k : Fin 1048576} {i : Nat}

theorem exec_stateLineLoad (hruns : s.runs (some 2) = true) (hload : s.sfe.loading.contains k.val = true) :
    exec (.stateLineLoad k) s = .next (s.sfe.order.foldl (fun u j => u.lineCame k.val j) (s.linesCame k.val)) :=
  congrArg Host.Outcome.next ((State.whenRuns_of_runs hruns _).trans (if_pos hload))

theorem State.cached_of_cacheSide_eq {t : State} (h : t.cacheSide = s.cacheSide) (j : Nat) : t.cached j = s.cached j := by
  simp only [State.cacheSide, Prod.mk.injEq] at h
  obtain ⟨-, hcache, hloading⟩ := h
  rw [State.cached, State.cached, hcache, hloading]

theorem State.cached_linesCame (h : s.sfe.cache.any (fun c => c.1 == k.val) = true) : (s.linesCame k.val).cached k.val = true := by
  have hcame : (s.linesCame k.val).sfe.loading.contains k.val = false := by simp [State.linesCame, State.updSfe]
  exact Bool.and_eq_true_iff.2 ⟨h, by rw [hcame]; rfl⟩

theorem exec_stateLineLoad_goesOn (hruns : s.runs (some 2) = true) (hload : s.sfe.loading.contains k.val = true) (hin : i ∈ s.sfe.order)
    (hslot : (s.seg i).slot = k.val) (hst : (s.seg i).st = .line) : ∃ t, exec (.stateLineLoad k) s = .next t ∧
    (s.sfe.cache.any (fun c => c.1 == k.val) = true → t.cached k.val = true) ∧ (t.seg i).st = .features ∧ t.sfe.order = s.sfe.order ∧
    ∀ j, (s.seg j).slot ≠ k.val → t.seg j = s.seg j := by
  have hside := foldl_keeps State.cacheSide (fun u j => u.cacheSide_lineCame k.val j) s.sfe.order (s.linesCame k.val)
  have hseg (j : Nat) : (s.sfe.order.foldl (fun u j => u.lineCame k.val j) (s.linesCame k.val)).seg j =
      if j ∈ s.sfe.order then (s.seg j).lineCame k.val else s.seg j := State.seg_foldl_lineCame k.val j s.sfe.order _
  refine ⟨_, exec_stateLineLoad hruns hload, fun hlisted => ?_, ?_, congrArg Prod.fst hside, fun j hj => ?_⟩
  · rw [State.cached_of_cacheSide_eq hside]
    exact State.cached_linesCame hlisted
  · rw [hseg, if_pos hin, Seg.lineCame_of_waiting hslot hst]
  · rw [hseg, Seg.lineCame_of_other hj, ite_self]

end

end Sys2Proof.Machine
end

section
/-! Feature frames (R133, R148): what making a frame leaves of the count of a segment's frames. -/

namespace Sys2Proof.Machine

/-- How many frames of a segment have been made. -/
def State.hasMade (s : State) (i n : Nat) : Prop := (s.seg i).made = n

namespace State.hasMade

variable {s : State} {i n : Nat}

theorem ite {c : Prop} [Decidable c] {a b : State} (ha : a.hasMade i n) (hb : b.hasMade i n) : (if c then a else b).hasMade i n := by
  split <;> assumption

theorem of_not {c : Prop} [Decidable c] {a b : State} (hc : ¬ c) (hb : b.hasMade i n) : (if c then a else b).hasMade i n := by
  rwa [if_neg hc]

theorem foldl {α : Type} {f : State → α → State} (hf : ∀ u x, u.hasMade i n → (f u x).hasMade i n) (l : List α) (h : s.hasMade i n) :
    (l.foldl f s).hasMade i n :=
  List.foldlRecOn (motive := fun u : State => u.hasMade i n) l f h fun u hu x _ => hf u x hu

/-- A segment record changes in other fields. -/
theorem updSeg {j : Nat} {f : Seg → Seg} (hf : ∀ g, (f g).made = g.made) (h : s.hasMade i n) : (s.updSeg j f).hasMade i n := by
  by_cases hij : i = j
  · subst hij
    rw [State.hasMade, State.seg_updSeg_self, hf]
    exact h
  · rw [State.hasMade, State.seg_updSeg_ne _ _ _ hij]
    exact h

theorem of_segs_eq {t : State} (hsegs : t.sfe.segs = s.sfe.segs) (h : s.hasMade i n) : t.hasMade i n := by
  rw [State.hasMade, State.seg, hsegs]
  exact h

theorem sendResult {j rstat : Nat} {result : DWord} {widened : Bool} (h : s.hasMade i n) : (s.sendResult j rstat result widened).hasMade i n :=
  .of_segs_eq rfl (h.updSeg (j := j) (f := fun g => { g with st := .done }) fun _ => rfl)

theorem segDiscard {j r : Nat} (h : s.hasMade i n) : (s.segDiscard j r).hasMade i n :=
  .of_segs_eq (congrArg SfeSt.segs (State.sfe_of_sansHost_eq (s.sansHost_segDiscard j r)))
    (h.updSeg (j := j) (f := fun g => { g with st := .done }) fun _ => rfl)

theorem updRow {r : Nat} {f : Row → Row} (h : s.hasMade i n) : (s.updRow r f).hasMade i n := .of_segs_eq rfl h

theorem bump {a : Nat} (h : s.hasMade i n) : (s.bump a).hasMade i n := .of_segs_eq rfl h

theorem spanFails {sp : Span} {rstat : Nat} (h : s.hasMade i n) : (s.spanFails sp rstat).hasMade i n :=
  .ite h (.ite (h.updSeg fun _ => rfl) h.sendResult)

theorem abortRow {r : Nat} (h : s.hasMade i n) : (s.abortRow r).hasMade i n :=
  .updRow (.ite h (h.foldl (fun _ _ h => h.spanFails) _))

theorem startPage {k : Nat} (h : s.hasMade i n) : (s.startPage k).hasMade i n := .ite h.bump (.of_segs_eq rfl h)

theorem queueRow {k cls r : Nat} (h : s.hasMade i n) : (s.queueRow k cls r).hasMade i n := by
  have hq : (s.updModel k fun m => { m with q := m.q.upd cls fun l => l ++ [r] }).hasMade i n := .of_segs_eq rfl h
  exact .ite h.abortRow (.ite hq (.ite hq.startPage (.startPage (.of_segs_eq rfl hq))))

theorem offerRow {r : Nat} (h : s.hasMade i n) : (s.offerRow r).hasMade i n := by
  unfold State.offerRow
  dsimp only
  split
  · exact .ite h.abortRow.bump (.ite h.abortRow.bump h.queueRow)
  · exact h.queueRow

theorem closeIfFull {r : Nat} (h : s.hasMade i n) : (s.closeIfFull r).hasMade i n := .ite h.updRow h

theorem newRow {j : Nat} (h : s.hasMade i n) : (s.newRow j).2.hasMade i n := by
  have hid : s.freshId.2.hasMade i n := h
  exact .bump (.updSeg (fun _ => rfl) hid.updRow)

theorem placeSpan {j left a1 a2 : Nat} (h : s.hasMade i n) : (s.placeSpan j left a1 a2).hasMade i n := by
  have hrow : (match s.openRow j with
      | some r => (r, false, s)
      | none => match s.newRow j with
        | (r, t) => (r, true, t)).2.2.hasMade i n := by
    split
    · exact h
    · exact h.newRow
  have hplaced {u : State} {r : Nat} {f : Row → Row} (hu : u.hasMade i n) :
      (((u.updRow r f).updSeg j fun g => { g with parts := g.parts + 1, rowIn := none }).bump Reg.SFE_SPANS).hasMade i n :=
    .bump (.updSeg (fun _ => rfl) hu.updRow)
  unfold State.placeSpan
  exact .ite (hplaced hrow).closeIfFull.offerRow (hplaced hrow).closeIfFull

theorem fillSpan {j : Nat} {f : List Int} {f1 f2 : Option (List Int)} (h : s.hasMade i n) : (s.fillSpan j f f1 f2).hasMade i n := by
  unfold State.fillSpan
  split
  · exact h
  · exact h.updRow

theorem putRegion {j : Nat} {r : Region} (h : s.hasMade i n) : (s.putRegion j r).hasMade i n := .ite (.of_segs_eq rfl h) (h.updSeg fun _ => rfl)

theorem touch {j : Nat} (h : s.hasMade i n) : (s.touch j).hasMade i n := .of_segs_eq rfl h

theorem leaveSfe {j : Nat} {r : Region} (h : s.hasMade i n) : (s.leaveSfe j r).hasMade i n := by
  have hout {u : State} (hu : u.hasMade i n) : (((u.updSfe fun e => { e with order := e.order.filter (· != j) }).updSeg j fun g =>
      { g with rowIn := none, rowHold := 0 })).hasMade i n := .updSeg (fun _ => rfl) (.of_segs_eq rfl hu)
  exact .ite (.segDiscard (.ite (hout h.putRegion) (hout h.putRegion).touch))
    (.updSeg (fun _ => rfl) (.ite (hout h.putRegion) (hout h.putRegion).touch))

/-- A frame that is made is one more. -/
theorem updSeg_made (h : s.hasMade i n) : (s.updSeg i fun g => { g with made := g.made + 1 }).hasMade i (n + 1) :=
  (congrArg Seg.made (s.seg_updSeg_self i _)).trans (congrArg (· + 1) h)

theorem makeFrame (h : s.hasMade i n) (hleft : n < s.frameTotal i) (hthere : s.frameThere i = true)
    (hroom : s.placedFrames i ≤ n → s.rowReady i = true) : (s.makeFrame i).hasMade i (n + 1) := by
  have hmore : ¬ s.frameTotal i = 0 := by omega
  have hthere' : ¬ s.frameThere i = false := by rw [hthere]; decide
  have hrow : ¬ (s.placedFrames i ≤ (s.seg i).made ∧ s.rowReady i = false) := fun hw => by
    rw [hroom (h ▸ hw.1)] at hw
    exact absurd hw.2 (by decide)
  exact .of_not hmore (.of_not hthere' (.of_not hrow (.ite (.leaveSfe (.updSeg_made (.touch (.putRegion (.fillSpan (.ite h.placeSpan h))))))
    (.updSeg_made (.touch (.putRegion (.fillSpan (.ite h.placeSpan h))))))))

end State.hasMade

/-! ### FEATURE_FRAME and PACK_WAIT_END (R136, R149) -/

section
variable {s : State} {i : Nat}

theorem exec_featureFrame_of_turn (hruns : s.runs (some 2) = true) (hturn : s.slotTurn i = true) (hin : (s.seg i).withdrawn = false) :
    exec (.featureFrame i) s = .next (s.makeFrame i) := by
  show execFeatureFrame i s = _
  rw [execFeatureFrame, State.whenRuns_of_runs hruns]
  refine congrArg Host.Outcome.next ((if_neg (ne_of_eq_of_ne hturn (Bool.false_ne_true.symm))).trans (if_neg ?_))
  rw [hin]
  exact Bool.false_ne_true

theorem exec_featureFrame_of_other {j : Nat} (hne : j ≠ i)
    (hfirst : s.sfe.order.find? (fun j => decide ((s.seg j).slot = (s.seg i).slot)) = some j) : exec (.featureFrame i) s = .next s := by
  have hturn : s.slotTurn i = false := by
    rw [State.slotTurn, hfirst, decide_eq_false fun h => hne (Option.some.inj h), Bool.and_false]
  exact congrArg Host.Outcome.next (State.whenRuns_of_stays (if_pos hturn))

theorem State.rowTakable_of_opened {r : Nat} (hst : (s.row r).st = .opened) (hfull : (s.row r).full = false) : s.rowTakable r =
    decide (s.fld (Reg.SFE_PACK_WAIT_wait_ns (s.row r).cls) + (s.row r).openAt ≤ s.now) := by
  rw [State.rowTakable, hst, hfull, State.passed, Nat.add_comm]
  rfl

theorem exec_packWaitEnd_due {r : Nat} (hruns : s.runs (some 2) = true) (hst : (s.row r).st = .opened) (hfull : (s.row r).full = false)
    (hdue : s.fld (Reg.SFE_PACK_WAIT_wait_ns (s.row r).cls) + (s.row r).openAt ≤ s.now) :
    exec (.packWaitEnd r) s = .next (s.updRow r fun x => { x with st := .closed }) :=
  congrArg Host.Outcome.next ((State.whenRuns_of_runs hruns _).trans
    (if_pos ⟨hst, (State.rowTakable_of_opened hst hfull).trans (decide_eq_true hdue)⟩))

theorem exec_packWaitEnd_early {r : Nat} (hst : (s.row r).st = .opened) (hfull : (s.row r).full = false)
    (hearly : s.now < s.fld (Reg.SFE_PACK_WAIT_wait_ns (s.row r).cls) + (s.row r).openAt) : exec (.packWaitEnd r) s = .next s := by
  have hstays : s.rowTakable r = false := (State.rowTakable_of_opened hst hfull).trans (decide_eq_false (Nat.not_le.2 hearly))
  refine congrArg Host.Outcome.next (State.whenRuns_of_stays (if_neg fun h => ?_))
  rw [hstays] at h
  exact Bool.false_ne_true h.2

end

/-- Settles O28: each clause from the fact about the allocation, the load, the frame or the pack wait it names. -/
theorem linesLoadAndFramesFollowOrder : Obligations.LinesLoadAndFramesFollowOrder := by
  refine ⟨fun s i hruns hwait hoff => exec_segmentAllocate_off hruns hwait hoff, fun s i hruns hwait hon =>
    ⟨exec_segmentAllocate_waits hruns hwait hon, fun hspace hcached hneed => exec_segmentAllocate_cached hruns hwait hon hspace hcached hneed,
      fun hspace hnew hroom => exec_segmentAllocate_loads hruns hwait hon hspace hnew hroom⟩,
    fun k s i hruns hload hin hslot hst => exec_stateLineLoad_goesOn hruns hload hin hslot hst, ?_,
    fun s i j hne _ hfirst => exec_featureFrame_of_other hne hfirst,
    fun s r hruns hst hfull => ⟨exec_packWaitEnd_due hruns hst hfull, exec_packWaitEnd_early hst hfull⟩⟩
  intro s i g hruns hturn hin hleft hthere hroom
  exact ⟨_, exec_featureFrame_of_turn hruns hturn hin, State.hasMade.makeFrame rfl hleft hthere hroom⟩

end Sys2Proof.Machine
end

section
/-! How a microinstruction fires (R162, R168, R171, R172): what a tile's command does to the state, what it takes of its sources, what it puts on a
channel, and O30. -/

namespace Sys2Proof.Machine

/-! ### Tables and lists -/

theorem getElem?_modifyAt {α : Type} (l : List α) (i : Nat) (f : α → α) (j : Nat) :
    (modifyAt l i f)[j]? = if j = i then l[j]?.map f else l[j]? := by
  induction l generalizing i j with
  | nil => cases i <;> simp [modifyAt]
  | cons a r ih => cases i <;> cases j <;> simp [modifyAt, ih]

/-! ### The fabric: what each update of a tile leaves alone -/

section
variable {s u : State} {t : Nat}

theorem State.fab_updTile (s : State) (t : Nat) (f : Tile → Tile) : (s.updTile t f).fab = { s.fab with tiles := s.fab.tiles.upd t f } := rfl

theorem State.tile_of_tiles_eq (h : u.fab.tiles = s.fab.tiles) (j : Nat) : u.tile j = s.tile j := congrArg (fun b : Tab Tile => b.get j) h

theorem tilesBut_updTile (s : State) (t : Nat) (f : Tile → Tile) : tilesBut s (s.updTile t f) t := fun _ hj => State.tile_updTile_ne _ _ _ hj

theorem tilesBut.trans {v : State} (h : tilesBut s u t) (h' : tilesBut u v t) : tilesBut s v t := fun j hj => (h' j hj).trans (h j hj)

/-- The program counter and the loop counters are all that an instruction's end changes in its tile (R171). -/
@[simp] theorem Tile.advance_rest (x : Tile) (i : Nat) :
    (x.advance i).plot = x.plot ∧ (x.advance i).ctx = x.ctx ∧ (x.advance i).regs = x.regs ∧ (x.advance i).store = x.store ∧
    (x.advance i).acc = x.acc ∧ (x.advance i).west = x.west ∧ (x.advance i).wblock = x.wblock ∧ (x.advance i).wshift = x.wshift ∧
    (x.advance i).book = x.book ∧ (x.advance i).codebook = x.codebook ∧ (x.advance i).queues = x.queues ∧ (x.advance i).spent = x.spent ∧
    (x.advance i).groups = x.groups ∧ (x.advance i).stat = x.stat := by
  unfold Tile.advance
  dsimp only
  split <;> exact ⟨rfl, rfl, rfl, rfl, rfl, rfl, rfl, rfl, rfl, rfl, rfl, rfl, rfl, rfl⟩

theorem Tile.advance_of_plain {x : Tile} {i : Nat} (h : miCop i = 0) :
    x.advance i = { x with pc := if miOp i = 0x0A then miTarget i else x.pc + 1 } := by
  rw [Tile.advance, h]
  rfl

theorem Tile.advance_of_loop {x : Tile} {i rl cur : Nat} (hcop : miCop i = 1) (hop : miOp i ≠ 0x0A) (hctr : x.ctrs[miCtr i]? = some (rl, cur))
    (hpos : 0 < cur) (hlt : cur < 65536) : (x.advance i).ctrs[miCtr i]? = some (rl, cur - 1) ∧
      (x.advance i).pc = if cur = 1 then x.pc + 1 else miTarget i := by
  have hcur : (cur + 65535) % 65536 = cur - 1 := by omega
  rw [Tile.advance, hcop, hctr]
  refine ⟨?_, ?_⟩
  · simp [getElem?_modifyAt, hctr, hcur]
  · simp only [Option.getD_some, hcur, if_neg hop]
    by_cases h1 : cur = 1
    · rw [if_pos h1, if_neg (not_not.2 (by omega))]
    · rw [if_neg h1, if_pos (by omega)]

/-! ### The command of an opcode (R168) -/

theorem exec_tileRow {t : Fin 4096} {e : Nat × Instr} (he : e ∈ tileRows t) (s : State) : exec e.2 s = .next (s.fireOp t.val e.1) := by
  simp only [tileRows, List.mem_cons, List.not_mem_nil, or_false] at he
  rcases he with rfl | rfl | rfl | rfl | rfl | rfl | rfl | rfl | rfl | rfl | rfl | rfl <;> rfl

/-- A SEQ program goes on after an instruction that has had its effect: the counters move, and the tokens it took count (R171, R188). -/
def State.goesOn (u : State) (t i n : Nat) : State := (u.updTile t fun q => q.advance i).countTokens t n

section
variable {op i : Nat} (h : s.atTile t op i)
include h

theorem State.miOp_of_atTile : miOp i = op := h.2.2.2.2.1

theorem State.fireOp_of_fire (hf : s.fire t (s.tile t).pc i none = some u) : s.fireOp t op = u.goesOn t i ((s.tile t).cost i) := by
  obtain ⟨hrun, hseq, hpc, rfl, hop, hready⟩ := h
  rw [State.fireOp, if_neg (not_not.2 hrun), hseq, if_neg Bool.false_ne_true, if_pos ⟨hpc, hop, hready⟩, hf]
  rfl

theorem State.fireOp_of_no_fire (hf : s.fire t (s.tile t).pc i none = none) : s.fireOp t op = s := by
  obtain ⟨hrun, hseq, hpc, rfl, hop, hready⟩ := h
  rw [State.fireOp, if_neg (not_not.2 hrun), hseq, if_neg Bool.false_ne_true, if_pos ⟨hpc, hop, hready⟩, hf]

end

theorem State.fireOp_of_not_running {op : Nat} (h : (s.tile t).phase ≠ .running) : s.fireOp t op = s := by
  rw [State.fireOp, if_pos h]

theorem State.fireOp_of_other {op : Nat} (hrun : (s.tile t).phase = .running) (hseq : (s.tile t).ctx.tag = false)
    (h : miOp ((s.tile t).ctx.instr (s.tile t).pc) ≠ op ∨ (s.tile t).sourcesReady ((s.tile t).ctx.instr (s.tile t).pc) none = false) :
    s.fireOp t op = s := by
  rw [State.fireOp, if_neg (not_not.2 hrun), hseq, if_neg Bool.false_ne_true, if_neg]
  rintro ⟨-, hop, hready⟩
  rcases h with h | h
  · exact h hop
  · exact Bool.false_ne_true (h.symm.trans hready)

theorem State.fireOp_of_tag {op k g : Nat} (hrun : (s.tile t).phase = .running) (htag : (s.tile t).ctx.tag = true)
    (hready : (s.tile t).readyInstr = some (k, [g])) (hop : miOp ((s.tile t).ctx.instr k) = op)
    (hf : s.fire t k ((s.tile t).ctx.instr k) (some g) = some u) :
    s.fireOp t op = u.countTokens t ((s.tile t).cost ((s.tile t).ctx.instr k)) := by
  have hone : (if [g].length = 1 then ((0 : DWord), s) else s.free) = (0, s) := if_pos rfl
  have hzero : ([g][(0 : DWord).toNat % [g].length]?).getD 0 = g := rfl
  rw [State.fireOp, if_neg (not_not.2 hrun), if_pos htag, hready]
  dsimp only
  rw [if_neg (not_not.2 hop), hone]
  dsimp only
  rw [hzero, hf]

/-! ### What counting and going on leave alone -/

theorem State.fab_countTokens (u : State) (t n : Nat) : (u.countTokens t n).fab = (u.handshake t).fab := by
  unfold State.countTokens
  dsimp only
  split <;> rfl

theorem State.fab_goesOn (u : State) (t i n : Nat) :
    (u.goesOn t i n).fab = { u.fab with tiles := (u.fab.tiles.upd t fun q => q.advance i).upd t fun q => { q with readyNs := 0 } } :=
  State.fab_countTokens _ t n

theorem State.tile_goesOn (u : State) (t i n : Nat) : (u.goesOn t i n).tile t = { (u.tile t).advance i with readyNs := 0 } := by
  rw [State.tile, State.fab_goesOn]
  simp [State.tile]

theorem tilesBut_goesOn (u : State) (t i n : Nat) : tilesBut u (u.goesOn t i n) t := fun j hj => by
  rw [State.tile, State.fab_goesOn]
  simp [State.tile, Tab.get_upd_ne _ _ hj]

/-- A tile's tokens count in registers of the stall block alone (R188). -/
theorem State.reg_goesOn (u : State) {t : Nat} (ht : t < 4096) (i n : Nat) {a : Nat} (ha : 0x1001000 ≤ a) :
    (u.goesOn t i n).reg a = u.reg a := by
  have hfield : fieldOf (tileX t) (tileY t) < 4 := by unfold fieldOf tileX tileY; omega
  have hfld : a ≠ Reg.FAB_FLD_TOKENS (fieldOf (tileX t) (tileY t)) := by unfold Reg.FAB_FLD_TOKENS; omega
  have hsel : a ≠ Reg.FAB_SEL_TOKENS := by unfold Reg.FAB_SEL_TOKENS; omega
  unfold State.goesOn State.countTokens
  dsimp only
  split
  · rw [State.reg_addCnt_ne _ _ hsel, State.reg_addCnt_ne _ _ hfld]; rfl
  · rw [State.reg_addCnt_ne _ _ hfld]; rfl

end

/-! ### What an instruction takes of its sources (R162, R168) -/

section
variable {s u : State} {t q i : Nat} {ks : List Tok}

theorem State.takeSources_of_none (h : inNeeds (s.tile t) i = []) (tag : Option Nat) : s.takeSources t i tag = s := by
  rw [State.takeSources, h, List.foldl_nil]

theorem State.takeSources_of_one {n : Nat} (h : inNeeds (s.tile t) i = [(q, n)]) (ha : (s.tile t).avail q none n = some ks) :
    s.takeSources t i none = s.dequeue t q ks := by
  rw [State.takeSources, h, List.foldl_cons, List.foldl_nil, ha, Option.getD_some]

theorem State.avail_of_atTile {op n : Nat} (hat : s.atTile t op i) (h : inNeeds (s.tile t) i = [(q, n)]) :
    ∃ ks, (s.tile t).avail q none n = some ks := by
  obtain ⟨-, -, -, -, -, hready⟩ := hat
  rw [Tile.sourcesReady, h] at hready
  exact Option.isSome_iff_exists.1 (by simpa using hready)

theorem Tile.mem_of_avail {x : Tile} {n : Nat} (h : x.avail q none n = some ks) : ∀ k ∈ ks, k ∈ x.queues.get q := by
  intro k hk
  simp only [Tile.avail] at h
  split at h
  · split at h
    · cases h
      obtain ⟨j, -, hj⟩ := List.mem_filterMap.1 hk
      exact List.mem_of_find?_eq_some hj
    · cases h
  · split at h
    · cases h
      exact List.mem_of_mem_take hk
    · cases h

theorem Tile.avail_congr {x y : Tile} (hq : y.queues = x.queues) (hc : y.ctx = x.ctx) (hn : y.nextTag = x.nextTag) (q n : Nat) :
    y.avail q none n = x.avail q none n := by
  simp only [Tile.avail, hq, hc, hn]

/-- The need of a MACW is its IN sources' alone; only a MAC's depends on the tile. -/
theorem inNeeds_of_macw (h : miOp i = 1) (x y : Tile) : inNeeds y i = inNeeds x i := by
  unfold inNeeds
  rw [h]
  rfl

/-- The producer of a flit is a tile of this chip, or the flit has none. -/
def Tok.isLocal (k : Tok) : Prop := ∀ c, k.src = some c → c.chip < 0x8000

theorem State.returnCredit_of_local {k : Tok} (h : k.isLocal) :
    s.returnCredit k = s.updFab fun b => { b with credits := b.credits ++ k.src.toList } := by
  unfold State.returnCredit
  split
  next hsrc => simp [hsrc, State.updFab]
  next c hsrc => simp [hsrc, h c hsrc]

theorem State.foldl_returnCredit (s : State) (ks : List Tok) (h : ∀ k ∈ ks, k.isLocal) :
    ks.foldl (fun s k => if k.matched then s else s.returnCredit k) s =
      s.updFab fun b => { b with credits := b.credits ++ (ks.filter fun k => !k.matched).filterMap (·.src) } := by
  induction ks generalizing s with
  | nil => simp [State.updFab]
  | cons k r ih =>
    have hr : ∀ k ∈ r, k.isLocal := fun j hj => h j (List.mem_cons_of_mem _ hj)
    cases hm : k.matched with
    | true => rw [List.foldl_cons, ih _ hr, List.filter_cons_of_neg (by simp [hm]), hm, if_pos rfl]
    | false =>
      rw [List.foldl_cons, ih _ hr, List.filter_cons_of_pos (by simp [hm]), hm, if_neg Bool.false_ne_true,
        State.returnCredit_of_local (h k (List.mem_cons_self ..))]
      cases hsrc : k.src <;> simp [State.updFab, hsrc]

theorem State.matchMore_of_seq (h : (s.tile t).ctx.tag = false) (n : Nat) : s.matchMore t n = s := by
  cases n with
  | zero => rfl
  | succ n => exact if_pos (.inl h)

/-- `u` is `s` after flits have left queue `q` of a tile and their credits have set out: what no other queue and no other tile sees. -/
structure State.QueueTaken (s : State) (t q : Nat) (ks : List Tok) (u : State) : Prop where
  others : tilesBut s u t
  queue : (u.tile t).queues.get q = dropToks ((s.tile t).queues.get q) ks
  rest : ∀ j, j ≠ q → (u.tile t).queues.get j = (s.tile t).queues.get j
  credits : u.fab.credits = s.fab.credits ++ (ks.filter fun k => !k.matched).filterMap (·.src)

theorem State.QueueTaken.to {v : State} (h : s.QueueTaken t q ks u) (hother : tilesBut u v t) (hq : (v.tile t).queues = (u.tile t).queues)
    (hc : v.fab.credits = u.fab.credits) : s.QueueTaken t q ks v :=
  ⟨h.others.trans hother, by rw [hq, h.queue], fun j hj => by rw [hq, h.rest j hj], by rw [hc, h.credits]⟩

theorem State.QueueTaken.from {r : State} (h : s.QueueTaken t q ks u) (hother : tilesBut r s t) (hq : (s.tile t).queues = (r.tile t).queues)
    (hc : s.fab.credits = r.fab.credits) : r.QueueTaken t q ks u :=
  ⟨hother.trans h.others, by rw [← hq, h.queue], fun j hj => by rw [← hq, h.rest j hj], by rw [← hc, h.credits]⟩

theorem State.QueueTaken.updTile {f : Tile → Tile} (h : s.QueueTaken t q ks u) (hf : (f (u.tile t)).queues = (u.tile t).queues) :
    s.QueueTaken t q ks (u.updTile t f) :=
  h.to (tilesBut_updTile _ _ _) (by rw [State.tile_updTile_self, hf]) rfl

theorem State.QueueTaken.goesOn (h : s.QueueTaken t q ks u) (i n : Nat) : s.QueueTaken t q ks (u.goesOn t i n) :=
  h.to (tilesBut_goesOn _ _ _ _) (by rw [State.tile_goesOn]; simp) (by rw [State.fab_goesOn])

/-- The flits of an instruction have left their queue, and no credit has set out. -/
def State.popped (s : State) (t q : Nat) (ks : List Tok) : State :=
  s.updTile t fun x => { x with
    queues := x.queues.upd q (fun l => dropToks l ks)
    nextTag := if q < 16 && qOrdered (x.ctx.queue q) then x.nextTag.upd q (fun e => (e + ks.length) % 65536) else x.nextTag }

theorem State.dequeue_eq (s : State) (t q : Nat) (ks : List Tok) : s.dequeue t q ks =
    (ks.foldl (fun s k => if k.matched then s else s.returnCredit k) (s.popped t q ks)).matchMore t ks.length := rfl

theorem State.popped_takes (s : State) (t q : Nat) (ks : List Tok) : tilesBut s (s.popped t q ks) t ∧
    ((s.popped t q ks).tile t).ctx = (s.tile t).ctx ∧
    ((s.popped t q ks).tile t).queues = (s.tile t).queues.upd q fun l => dropToks l ks := by
  refine ⟨tilesBut_updTile _ _ _, ?_, ?_⟩ <;> rw [State.popped, State.tile_updTile_self]

theorem State.queueTaken_dequeue (hseq : (s.tile t).ctx.tag = false) (hlocal : ∀ k ∈ ks, k.isLocal) :
    s.QueueTaken t q ks (s.dequeue t q ks) := by
  obtain ⟨hother, hctx, hqueues⟩ := s.popped_takes t q ks
  have htile (u : State) (c : FabSt → List Src) (j : Nat) : (u.updFab fun b => { b with credits := c b }).tile j = u.tile j := rfl
  rw [State.dequeue_eq, State.foldl_returnCredit _ _ hlocal, State.matchMore_of_seq (by rw [htile, hctx, hseq])]
  exact ⟨hother, by rw [htile, hqueues, Tab.get_upd_self], fun j hj => by rw [htile, hqueues, Tab.get_upd_ne _ _ hj], rfl⟩

end

/-! ### What a tile sends (R162, R171) -/

section
variable {s : State} {t k : Nat}

/-- The packet a tile puts on a channel: it starts at its own router, and goes where the channel leads. -/
def State.flitOut (s : State) (t k : Nat) (kind : PktKind) (tag : Nat) (f : Flit) : Packet :=
  let x := s.tile t
  let c := k % 16
  let e := x.ctx.chan c
  let vc := if kind = .data then chVc e else 1
  { x := tileX t, y := tileY t, port := localPort s.fab.packets (tileX t) (tileY t) vc, vc := vc, kind := kind, dest := s.chanDest t c,
    tagged := chTagged e, tok := ⟨f, tag, if kind = .sectionEnd then none else some ⟨0x7FFF, t, c, x.inst⟩, false, 0⟩,
    plot := x.plot.getD 0, inst := x.inst, widened := (s.plot (x.plot.getD 0)).widenedAt x.ctx }

/-- A packet joins the router network. -/
def State.withPacket (s : State) (p : Packet) : State := s.updFab fun b => { b with packets := b.packets ++ [p] }

/-- A flit or a token spends a credit of its channel; a section-end token spends none (R178). -/
theorem State.sendFlit_eq (s : State) (t k : Nat) (kind : PktKind) (tag : Nat) (f : Flit) : s.sendFlit t k kind tag f =
    if kind = .sectionEnd then s.withPacket (s.flitOut t k kind tag f)
    else (s.withPacket (s.flitOut t k kind tag f)).updTile t fun x => { x with spent := x.spent.upd (k % 16) (· + 1) } := rfl

theorem State.packets_sendFlit (s : State) (t k : Nat) (kind : PktKind) (tag : Nat) (f : Flit) :
    (s.sendFlit t k kind tag f).fab.packets = s.fab.packets ++ [s.flitOut t k kind tag f] := by
  rw [State.sendFlit_eq]
  split <;> rfl

theorem State.tile_sendFlit {kind : PktKind} (h : kind ≠ .sectionEnd) (tag : Nat) (f : Flit) : (s.sendFlit t k kind tag f).tile t =
    { s.tile t with spent := (s.tile t).spent.upd (k % 16) (· + 1) } := by
  rw [State.sendFlit_eq, if_neg h, State.tile_updTile_self]
  rfl

theorem State.room_of_canSend {n : Nat} (h : s.canSend t k n = true) :
    (s.tile t).spent.get (k % 16) + n ≤ chCredits ((s.tile t).ctx.chan (k % 16)) := by
  simp only [State.canSend, Bool.and_eq_true, decide_eq_true_eq] at h
  exact h.1.2

end

/-! ### The effect of each opcode that has no arithmetic (R172) -/

section
variable {s : State} {t k i : Nat} {tag : Option Nat}

theorem State.fire_nop (h : miOp i = 0x00) : s.fire t k i tag = some (s.takeSources t i tag) := by simp only [State.fire, h]
theorem State.fire_macw (h : miOp i = 0x01) : s.fire t k i tag = some ((s.macw t i).takeSources t i tag) := by simp only [State.fire, h]
theorem State.fire_mac (h : miOp i = 0x02) : s.fire t k i tag = s.feedVec t i tag := by simp only [State.fire, h]
theorem State.fire_drain (h : miOp i = 0x03) : s.fire t k i tag = s.drain t k i tag := by simp only [State.fire, h]
theorem State.fire_vop (h : miOp i = 0x04) : s.fire t k i tag = s.vop t k i tag := by simp only [State.fire, h]
theorem State.fire_lut (h : miOp i = 0x05) : s.fire t k i tag = s.lut t i tag := by simp only [State.fire, h]
theorem State.fire_mov (h : miOp i = 0x06) : s.fire t k i tag = s.mov t i tag := by simp only [State.fire, h]
theorem State.fire_lds (h : miOp i = 0x07) : s.fire t k i tag = some (s.lds t i tag) := by simp only [State.fire, h]
theorem State.fire_sts (h : miOp i = 0x08) : s.fire t k i tag = some (s.sts t i tag) := by simp only [State.fire, h]
theorem State.fire_ctl (h : miOp i = 0x09) : s.fire t k i tag = if s.canSend t (miDst i) 1 then
    some ((s.takeSources t i tag).sendFlit t (miDst i) .control ((s.tile t).outTag i tag) (BitVec.ofNat 128 (miImm i % 2))) else none := by
  simp only [State.fire, h]
theorem State.fire_jmp (h : miOp i = 0x0A) : s.fire t k i tag = some (s.takeSources t i tag) := by simp only [State.fire, h]
theorem State.fire_cset (h : miOp i = 0x0B) : s.fire t k i tag = some ((s.takeSources t i tag).updTile t fun x =>
    { x with ctrs := modifyAt x.ctrs (miCtr i) fun _ => (miImm i, miImm i) }) := by simp only [State.fire, h]

end

/-! ### The multiplier block as MACW loads it (R195) -/

/-- Word `j` of the store from the generator that MACW names. -/
def Tile.blockWord (x : Tile) (i j : Nat) : Flit := x.store.get ((x.addr (miSa i) + j) % 2048)

/-- The tile with the block of a MACW: weights, shift flit and codebook. -/
def Tile.withBlock (x : Tile) (i : Nat) : Tile := { x with
  wblock := (List.range x.width).map (x.blockWord i), wshift := if x.ctx.fmt = 2 then 0 else x.blockWord i x.width
  codebook := decide (miFunc i = 1), book := if miFunc i = 1 then (List.range 32).map (fun j => x.blockWord i (x.width + 1 + j)) else [] }

theorem State.tile_macw (s : State) (t i : Nat) : (s.macw t i).tile t = (s.tile t).withBlock i := State.tile_updTile_self _ _ _

theorem State.tilesBut_macw (s : State) (t i : Nat) : tilesBut s (s.macw t i) t := tilesBut_updTile _ _ _

/-! ### The sources of an instruction that has no use for them (R168) -/

section
variable {s u : State} {t q i : Nat} {ks : List Tok}

theorem State.QueueTaken.sendReq (h : s.QueueTaken t q ks u) (i : Nat) (tag : Option Nat) (w : Option Flit) :
    s.QueueTaken t q ks (u.sendReq t i tag w) := h.to (fun _ _ => rfl) rfl rfl

/-- The opcodes that take nothing of a source of their own accord. -/
def idleSourceOps : List Nat := [0x00, 0x01, 0x07, 0x08, 0x0A, 0x0B]

theorem State.queueTaken_fire {op n : Nat} (hat : s.atTile t op i) (hop : op ∈ idleSourceOps) (hn : inNeeds (s.tile t) i = [(q, n)])
    (hav : (s.tile t).avail q none n = some ks) (hlocal : ∀ k ∈ ks, k.isLocal) :
    ∃ u, s.fire t (s.tile t).pc i none = some u ∧ s.QueueTaken t q ks u := by
  obtain ⟨-, hseq, -, -, rfl, -⟩ := hat
  have htake : s.QueueTaken t q ks (s.takeSources t i none) := by
    rw [State.takeSources_of_one hn hav]
    exact State.queueTaken_dequeue hseq hlocal
  simp only [idleSourceOps, List.mem_cons, List.not_mem_nil, or_false] at hop
  rcases hop with h | h | h | h | h | h
  · exact ⟨_, State.fire_nop h, htake⟩
  · refine ⟨_, State.fire_macw h, ?_⟩
    have htile := s.tile_macw t i
    rw [State.takeSources_of_one (ks := ks) (n := n) (q := q)]
    · exact (State.queueTaken_dequeue (by rw [htile]; exact hseq) hlocal).from (s.tilesBut_macw t i) (by rw [htile]; rfl) rfl
    · rw [inNeeds_of_macw h (s.tile t), hn]
    · rw [htile, ← hav]
      exact Tile.avail_congr rfl rfl rfl q n
  · exact ⟨_, State.fire_lds h, htake.sendReq i none none⟩
  · refine ⟨_, State.fire_sts h, ?_⟩
    unfold State.sts
    dsimp only
    split
    · exact htake.to (fun _ _ => rfl) rfl rfl
    · split
      · exact htake
      · exact htake.sendReq i none _
  · exact ⟨_, State.fire_jmp h, htake⟩
  · exact ⟨_, State.fire_cset h, htake.updTile rfl⟩

end

/-! ### The control microinstructions, and O30 -/

section
variable {t : Fin 4096} {s : State} {i : Nat}

theorem exec_tileRow_of_fire {e : Nat × Instr} {u : State} (he : e ∈ tileRows t) (hat : s.atTile t.val e.1 i)
    (hf : s.fire t.val (s.tile t.val).pc i none = some u) : exec e.2 s = .next (u.goesOn t.val i ((s.tile t.val).cost i)) := by
  rw [exec_tileRow he, State.fireOp_of_fire hat hf]

/-- An IN source that an opcode has no use for is taken all the same (R168; DEDUCED, log 191). -/
theorem exec_tileRow_takes {e : Nat × Instr} {q n : Nat} (he : e ∈ tileRows t) (hat : s.atTile t.val e.1 i) (hop : e.1 ∈ idleSourceOps)
    (hn : inNeeds (s.tile t.val) i = [(q, n)]) (hlocal : ∀ k ∈ (s.tile t.val).queues.get q, k.isLocal) :
    ∃ u ks, exec e.2 s = .next u ∧ (s.tile t.val).avail q none n = some ks ∧ s.QueueTaken t.val q ks u := by
  obtain ⟨ks, hav⟩ := State.avail_of_atTile hat hn
  obtain ⟨u, hf, htaken⟩ := State.queueTaken_fire hat hop hn hav fun k hk => hlocal k (Tile.mem_of_avail hav k hk)
  exact ⟨_, ks, exec_tileRow_of_fire he hat hf, hav, htaken.goesOn _ _⟩

theorem exec_tileNop (hat : s.atTile t.val 0x00 i) (hn : inNeeds (s.tile t.val) i = []) :
    exec (.tileNop t) s = .next (s.goesOn t.val i ((s.tile t.val).cost i)) :=
  exec_tileRow_of_fire (e := (0x00, .tileNop t)) (by simp [tileRows]) hat
    ((State.fire_nop (State.miOp_of_atTile hat)).trans (by rw [State.takeSources_of_none hn]))

theorem exec_tileJmp (hat : s.atTile t.val 0x0A i) (hn : inNeeds (s.tile t.val) i = []) :
    exec (.tileJmp t) s = .next (s.goesOn t.val i ((s.tile t.val).cost i)) :=
  exec_tileRow_of_fire (e := (0x0A, .tileJmp t)) (by simp [tileRows]) hat
    ((State.fire_jmp (State.miOp_of_atTile hat)).trans (by rw [State.takeSources_of_none hn]))

/-- The state with a loop counter of a tile loaded: reload and current value are the same (R171). -/
def State.counterSet (s : State) (t c v : Nat) : State := s.updTile t fun x => { x with ctrs := modifyAt x.ctrs c fun _ => (v, v) }

theorem exec_cset (hat : s.atTile t.val 0x0B i) (hn : inNeeds (s.tile t.val) i = []) :
    exec (.cset t) s = .next ((s.counterSet t.val (miCtr i) (miImm i)).goesOn t.val i ((s.tile t.val).cost i)) :=
  exec_tileRow_of_fire (e := (0x0B, .cset t)) (by simp [tileRows]) hat
    ((State.fire_cset (State.miOp_of_atTile hat)).trans (by rw [State.takeSources_of_none hn]; rfl))

theorem State.tile_counterSet_goesOn (s : State) (t n : Nat) {c v : Nat} (hcop : miCop i = 0) (hop : miOp i ≠ 0x0A) :
    (((s.counterSet t c v).goesOn t i n).tile t).ctrs = modifyAt (s.tile t).ctrs c (fun _ => (v, v)) ∧
    (((s.counterSet t c v).goesOn t i n).tile t).pc = (s.tile t).pc + 1 := by
  rw [State.tile_goesOn, Tile.advance_of_plain hcop, if_neg hop, State.counterSet, State.tile_updTile_self]
  exact ⟨rfl, rfl⟩

theorem Tile.iter_of_fresh {x : Tile} {c v : Nat} (h : x.ctrs[c]? = some (v, v)) : x.iter c = 0 := by
  simp [Tile.iter, h]

theorem exec_cset_loads (hat : s.atTile t.val 0x0B i) (hn : inNeeds (s.tile t.val) i = []) (hcop : miCop i = 0)
    (hc : miCtr i < (s.tile t.val).ctrs.length) : ∃ u, exec (.cset t) s = .next u ∧
      (u.tile t.val).ctrs[miCtr i]? = some (miImm i, miImm i) ∧ (u.tile t.val).iter (miCtr i) = 0 ∧
      (∀ c, c ≠ miCtr i → (u.tile t.val).ctrs[c]? = (s.tile t.val).ctrs[c]?) ∧ (u.tile t.val).pc = (s.tile t.val).pc + 1 ∧
      tilesBut s u t.val := by
  have hop : miOp i ≠ 0x0A := by rw [State.miOp_of_atTile hat]; decide
  have hloaded : (modifyAt (s.tile t.val).ctrs (miCtr i) fun _ => (miImm i, miImm i))[miCtr i]? = some (miImm i, miImm i) := by
    rw [getElem?_modifyAt, if_pos rfl, List.getElem?_eq_getElem hc, Option.map_some]
  obtain ⟨hctrs, hpc⟩ := s.tile_counterSet_goesOn t.val ((s.tile t.val).cost i) hcop hop
  rw [← hctrs] at hloaded
  refine ⟨_, exec_cset hat hn, hloaded, Tile.iter_of_fresh hloaded, fun c hne => ?_, hpc,
    (tilesBut_updTile _ _ _).trans (tilesBut_goesOn _ _ _ _)⟩
  rw [hctrs, getElem?_modifyAt, if_neg hne]

theorem exec_ctl (hat : s.atTile t.val 0x09 i) (hn : inNeeds (s.tile t.val) i = []) (hsend : s.canSend t.val (miDst i) 1 = true) :
    exec (.ctl t) s = .next ((s.sendFlit t.val (miDst i) .control ((s.tile t.val).outTag i none) (BitVec.ofNat 128 (miImm i % 2))).goesOn
      t.val i ((s.tile t.val).cost i)) :=
  exec_tileRow_of_fire (e := (0x09, .ctl t)) (by simp [tileRows]) hat
    ((State.fire_ctl (State.miOp_of_atTile hat)).trans (by rw [if_pos hsend, State.takeSources_of_none hn]))

theorem exec_ctl_sends (hat : s.atTile t.val 0x09 i) (hn : inNeeds (s.tile t.val) i = []) (hsend : s.canSend t.val (miDst i) 1 = true) :
    ∃ u p, exec (.ctl t) s = .next u ∧ u.fab.packets = s.fab.packets ++ [p] ∧ p.kind = .control ∧ p.vc = 1 ∧
      p.tok.flit = BitVec.ofNat 128 (miImm i % 2) ∧ p.dest = s.chanDest t.val (miDst i % 16) ∧
      (u.tile t.val).spent.get (miDst i % 16) = (s.tile t.val).spent.get (miDst i % 16) + 1 ∧
      (u.tile t.val).spent.get (miDst i % 16) ≤ chCredits ((s.tile t.val).ctx.chan (miDst i % 16)) := by
  have hspent (n : Nat) : (((s.sendFlit t.val (miDst i) .control n (BitVec.ofNat 128 (miImm i % 2))).goesOn t.val i
      ((s.tile t.val).cost i)).tile t.val).spent.get (miDst i % 16) = (s.tile t.val).spent.get (miDst i % 16) + 1 := by
    rw [State.tile_goesOn, State.tile_sendFlit (by decide)]
    simp
  refine ⟨_, s.flitOut t.val (miDst i) .control ((s.tile t.val).outTag i none) (BitVec.ofNat 128 (miImm i % 2)),
    exec_ctl hat hn hsend, ?_, rfl, rfl, rfl, rfl, hspent _, (hspent _).trans_le (State.room_of_canSend hsend)⟩
  rw [State.fab_goesOn]
  exact State.packets_sendFlit _ _ _ _ _ _

theorem exec_ctl_waits (hat : s.atTile t.val 0x09 i) (hfull : s.canSend t.val (miDst i) 1 = false) : exec (.ctl t) s = .next s :=
  congrArg Host.Outcome.next (State.fireOp_of_no_fire hat ((State.fire_ctl (State.miOp_of_atTile hat)).trans (if_neg (by rw [hfull]; decide))))

end

/-- Settles O30: the twelve rows fire as `fireOp` says of its four cases, and each control microinstruction has its own effect. -/
theorem tilesFireInProgramOrder : Obligations.TilesFireInProgramOrder := by
  intro t s i x
  refine ⟨fun e he => ⟨fun hrun => ?_, fun hrun hseq hno => ?_, fun hat hf => ?_, fun k g u hrun htag hready hop hf => ?_,
    fun q n hat hop hn hlocal => ?_⟩, fun hat hn => ?_, fun hat hn => ?_, fun hat hn hcop hc => exec_cset_loads hat hn hcop hc,
    fun hat hn hsend => exec_ctl_sends hat hn hsend, fun hat hfull => exec_ctl_waits hat hfull, fun hcop hop => ?_,
    fun rl cur hcop hop hctr hpos hlt => Tile.advance_of_loop hcop hop hctr hpos hlt⟩
  · rw [exec_tileRow he, State.fireOp_of_not_running hrun]
  · rw [exec_tileRow he, State.fireOp_of_other hrun hseq hno]
  · rw [exec_tileRow he, State.fireOp_of_no_fire hat hf]
  · rw [exec_tileRow he, State.fireOp_of_tag hrun htag hready hop hf]
  · obtain ⟨u, ks, hexec, hav, hother, hqueue, hrest, hcredits⟩ := exec_tileRow_takes he hat hop hn hlocal
    exact ⟨u, ks, hexec, hav, hother, hqueue, hrest, hcredits⟩
  · refine ⟨_, exec_tileNop hat hn, State.tile_goesOn _ _ _ _, tilesBut_goesOn _ _ _ _, ?_⟩
    rw [State.fab_goesOn]
    exact ⟨rfl, rfl, rfl⟩
  · refine ⟨_, exec_tileJmp hat hn, State.tile_goesOn _ _ _ _, tilesBut_goesOn _ _ _ _, fun hcop => ?_⟩
    rw [State.tile_goesOn, Tile.advance_of_plain hcop, if_pos (State.miOp_of_atTile hat)]
  · rw [Tile.advance_of_plain hcop, if_neg hop]

end Sys2Proof.Machine
end

section
/-! CONTEXT_LOADED where a tile of the plot belongs to another (R181, R183). Outside a pass the plot itself flips nothing, but a flip asks the plot
the tile belongs to (`State.canFlip`), and O35's clause of CONTEXT_LOADED has no premise that this is the plot whose contexts were loaded: its
clause of BLOCK_FLIP has one. -/

namespace Sys2Proof.Machine

/-- An image of one section, at byte 16, with trailing reconfiguration. -/
def trailingImage : List Byte := 1 :: (List.replicate 15 0 ++ [0, 2])

/-- Plot 0 of tile 0 is ready and runs no pass. The tile belongs to plot 1, whose pass waits for the tile's flip, and holds the context that
follows there. -/
def tileOfAnotherPlot : State :=
  (((State.reset.setFld Reg.FAB_CTRL_trail_en 1).updPlot 0 fun p => { p with used := true, ready := true, h := 1, w := 1 }).updPlot 1 fun p =>
    { p with pass := true, image := trailingImage }).updTile 0 fun x => { x with plot := some 1, nxt := some {} }

/-- The context that follows in the tile is the same empty record in both plots. -/
theorem tileOfAnotherPlot_satisfies :
    (tileOfAnotherPlot.plot 0).used = true ∧ (tileOfAnotherPlot.plot 0).ready = true ∧ (tileOfAnotherPlot.plot 0).fault = false ∧
      tileOfAnotherPlot.linesFenced (tileOfAnotherPlot.plot 0) = false ∧ (tileOfAnotherPlot.plot 0).pass = false ∧
      ∀ t ∈ (tileOfAnotherPlot.plot 0).tiles, (ctxOf (tileOfAnotherPlot.followOf 0 t).1 (tileOfAnotherPlot.followOf 0 t).2.1
        (tileX t - (tileOfAnotherPlot.plot 0).x0) (tileY t - (tileOfAnotherPlot.plot 0).y0) (tileOfAnotherPlot.followOf 0 t).2.2.1
        (tileOfAnotherPlot.followOf 0 t).2.2.2).crcOk = true := by
  decide +kernel

/-- CONTEXT_LOADED of plot 0 flips the tile, so that it no longer holds the context that follows. -/
theorem tileOfAnotherPlot_contextLoaded :
    ((tileOfAnotherPlot.loadContexts 0).tryFlips 0).contextsReady 0 = false ∧
      exec (.contextLoaded 0) tileOfAnotherPlot = .next ((tileOfAnotherPlot.loadContexts 0).tryFlips 0) := by
  refine ⟨by decide +kernel, ?_⟩
  have hready : ((tileOfAnotherPlot.plot 0).used && (tileOfAnotherPlot.plot 0).ready && !(tileOfAnotherPlot.plot 0).fault) = true := by
    decide +kernel
  have hlines : tileOfAnotherPlot.linesFenced (tileOfAnotherPlot.plot 0) = false := by decide +kernel
  have hfault : ((tileOfAnotherPlot.loadContexts 0).plot 0).fault = false := by decide +kernel
  show execContextLoaded 0 tileOfAnotherPlot = _
  rw [execContextLoaded, if_pos hready, if_neg (by rw [hlines]; decide), if_neg (by rw [hfault]; decide)]

/-- Refutes O35: a plot that is ready, between passes, over a tile that belongs to another plot. CONTEXT_LOADED loads the tile's context and the
tile flips into it at once for its own plot, so that not every context of the plot is loaded afterwards. -/
theorem not_sectionsEndAndFlip : ¬ Obligations.SectionsEndAndFlip := by
  intro h
  obtain ⟨-, -, hload, -⟩ := h
  obtain ⟨-, -, hready⟩ := hload 0 tileOfAnotherPlot
  obtain ⟨hused, hrdy, hfault, hlines, hpass, hcrc⟩ := tileOfAnotherPlot_satisfies
  obtain ⟨hflipped, hexec⟩ := tileOfAnotherPlot_contextLoaded
  obtain ⟨u, hu, hall, -⟩ := hready hused hrdy hfault hlines hpass hcrc
  rw [hexec] at hu
  rw [← Host.Outcome.next.inj hu, hflipped] at hall
  exact Bool.false_ne_true hall

end Sys2Proof.Machine
end

section
/-! A page-in, step by step (R220 to R233): what the search for a place, the lease of a plot and the loads of an image do to the state, and O42. -/

namespace Sys2Proof.Machine

/-! ### The search for a place (R222, R223, R307) -/

section
variable {s u : State} {hd f x y : Nat}

theorem State.powerFor_of_on (h : (s.powerFor f).1 = true) : (s.powerFor f).2 = s := by
  unfold State.powerFor at h ⊢
  split at h
  · exact absurd h Bool.false_ne_true
  · rw [if_neg ‹_›]

/-- A field that is on gives the place, and the state stays as it is. -/
theorem State.place_of_powerFor {g x' y' : Nat}
    (h : ((if (s.powerFor g).1 = true then Placed.place g x' y' else .freeing), (s.powerFor g).2) = (Placed.place f x y, u)) : u = s := by
  obtain ⟨hp, hu⟩ := Prod.mk.inj h
  split at hp
  · exact hu.symm.trans (State.powerFor_of_on ‹_›)
  · cases hp

theorem State.overLimit_ne_place (fields : List Nat) : s.overLimit hd fields ≠ (.place f x y, u) := by
  unfold State.overLimit
  split
  · exact fun h => by cases h
  · dsimp only
    split <;> exact fun h => by cases h

theorem State.placeSlice_place {p h w : Nat} (hp : s.placeSlice hd p h w = (.place f x y, u)) : u = s := by
  unfold State.placeSlice at hp
  dsimp only at hp
  split at hp
  · cases hp
  · split at hp
    · exact State.place_of_powerFor hp
    · split at hp
      · cases hp
      · split at hp <;> cases hp

theorem State.searchPlace_place {fields : List Nat} {h w : Nat} (hp : s.searchPlace hd fields h w = (.place f x y, u)) : u = s := by
  unfold State.searchPlace at hp
  split at hp
  · split at hp
    · exact absurd hp (State.overLimit_ne_place _)
    · exact State.place_of_powerFor hp
  · split at hp
    · cases hp
    · dsimp only at hp
      revert hp
      generalize (decide (h * w ≤ s.freeTiles (fields.headD 0)) && !fields.isEmpty) = frag
      cases frag
      · simp only [Bool.false_eq_true, if_false]
        split <;> exact fun hp => by cases hp
      · simp only [if_true]
        split
        · exact fun hp => by cases hp
        · split <;> exact fun hp => by cases hp

/-- A search that finds a place takes no victim and wakes no field. -/
theorem State.findPlace_place {hdr : List Byte} (hp : s.findPlace hd hdr = (.place f x y, u)) : u = s := by
  unfold State.findPlace at hp
  split at hp
  · exact State.placeSlice_place hp
  · split at hp
    · exact absurd hp (State.overLimit_ne_place _)
    · exact State.searchPlace_place hp

end

/-! ### The lease of a plot (R222, R225) -/

/-- The plot that a lease makes. -/
def State.newPlot (s : State) (hd f x y : Nat) (img hdr : List Byte) (gen : Nat) : PlotSt :=
  { used := true, handle := hd, gen := gen, field := f, index := s.plotIndex f, lease := (Config.freeValue s.freeIdx).setWidth 16
    x0 := 32 * (f % 2) + x, y0 := 32 * (f / 2) + y, h := hdrH hdr, w := hdrW hdr, image := img, prog := s.sliceOf hd
    lineLease := s.bay.guards.get (lineGuard hd gen), imgLease := s.bay.guards.get (imageGuard hd gen) }

/-- The tiles of a list at rest, on a plot. -/
def State.restTiles (s : State) (id : Nat) (l : List Nat) : State := l.foldl (fun u t => u.updTile t fun _ => { plot := some id }) s

section
variable (s : State) (id : Nat) (l : List Nat)

theorem State.tile_restTiles_of_mem {k : Nat} (h : k ∈ l) : (s.restTiles id l).tile k = { plot := some id } := by
  induction l generalizing s with
  | nil => cases h
  | cons t r ih =>
    by_cases hr : k ∈ r
    · exact ih (s.updTile t _) hr
    · rw [(List.mem_cons.mp h).resolve_right hr]
      refine (List.foldlRecOn r _ (motive := fun u : State => u.tile t = { plot := some id }) (State.tile_updTile_self _ _ _) fun u hu j _ => ?_)
      by_cases hj : t = j
      · rw [hj, State.tile_updTile_self]
      · rw [State.tile_updTile_ne _ _ _ hj, hu]

theorem State.tile_restTiles_of_not_mem {k : Nat} (h : k ∉ l) : (s.restTiles id l).tile k = s.tile k :=
  List.foldlRecOn l _ (motive := fun u : State => u.tile k = s.tile k) rfl fun u hu j hj => by
    rw [State.tile_updTile_ne _ _ _ fun hk => h (by rw [hk]; exact hj), hu]

theorem State.plot_restTiles (p : Nat) : (s.restTiles id l).plot p = s.plot p := 
  foldl_keeps (fun u : State => u.plot p) (fun u t => by rfl) l s

end

theorem State.leasePlot_eq (s : State) (hd f x y : Nat) (img hdr : List Byte) (gen : Nat) :
    s.leasePlot hd f x y img hdr gen = (s.nextId, State.restTiles (State.updPlot { s with nextId := s.nextId + 1, freeIdx := s.freeIdx + 1 } s.nextId
      fun _ => s.newPlot hd f x y img hdr gen) s.nextId (s.newPlot hd f x y img hdr gen).tiles) := rfl

/-- A model whose page-in has its plot. -/
def Model.placedAt (m : Model) (id : Nat) : Model :=
  { m with plot := some id, page := if m.prev = .host then .copying else .loading, placeSince := none }

/-- A model leaves the line of page-ins. -/
def State.leaveLine (s : State) (h : Nat) : State := s.updBay fun b => { b with queue := b.queue.filter (· != h) }

/-- The state with a plot leased to a model. -/
def State.leasedTo (s : State) (h f x y : Nat) : State := (s.leasePlot h f x y (s.model h).image (s.model h).hdr (s.model h).gen).2

/-- A plot is leased to a model, which leaves the line. -/
def State.placedOn (s : State) (h f x y : Nat) : State := ((s.leasedTo h f x y).updModel h (·.placedAt s.nextId)).leaveLine h

section
variable (s : State) (h f x y : Nat)

theorem State.model_leaveLine : (s.leaveLine h).model = s.model := rfl

theorem State.fab_leaveLine : (s.leaveLine h).fab = s.fab := rfl

theorem State.not_mem_queue_leaveLine : h ∉ (s.leaveLine h).bay.queue := by
  intro hmem
  have hne := (List.mem_filter.mp hmem).2
  simp at hne

theorem State.model_leasedTo (j : Nat) : (s.leasedTo h f x y).model j = s.model j := by
  rw [State.leasedTo, State.leasePlot_eq]
  exact foldl_keeps (fun u : State => u.model j) (fun u t => by rfl) _ _

theorem State.model_placedOn : (s.placedOn h f x y).model h = (s.model h).placedAt s.nextId := by
  rw [State.placedOn, State.model_leaveLine, State.model_updModel_self, State.model_leasedTo]

theorem State.fab_updModel (g : Model → Model) : (s.updModel h g).fab = s.fab := rfl

theorem State.fab_placedOn : (s.placedOn h f x y).fab = (s.leasedTo h f x y).fab := by
  rw [State.placedOn, State.fab_leaveLine, State.fab_updModel]

theorem State.plot_placedOn : (s.placedOn h f x y).plot s.nextId = s.newPlot h f x y (s.model h).image (s.model h).hdr (s.model h).gen := by
  rw [State.plot, State.fab_placedOn, ← State.plot, State.leasedTo, State.leasePlot_eq, State.plot_restTiles, State.plot_updPlot_self]

theorem State.tile_placedOn_of_mem {k : Nat} (hk : k ∈ ((s.placedOn h f x y).plot s.nextId).tiles) :
    (s.placedOn h f x y).tile k = { plot := some s.nextId } := by
  rw [State.plot_placedOn] at hk
  rw [State.tile, State.fab_placedOn, ← State.tile, State.leasedTo, State.leasePlot_eq, State.tile_restTiles_of_mem _ _ _ hk]

theorem State.tile_placedOn_of_not_mem {k : Nat} (hk : k ∉ ((s.placedOn h f x y).plot s.nextId).tiles) :
    (s.placedOn h f x y).tile k = s.tile k := by
  rw [State.plot_placedOn] at hk
  rw [State.tile, State.fab_placedOn, ← State.tile, State.leasedTo, State.leasePlot_eq, State.tile_restTiles_of_not_mem _ _ _ hk]
  rfl

end

section
variable {s : State} {h : Nat}

theorem State.attemptPlace_of_place {f x y : Nat} (hprev : (s.model h).prev ≠ .host) (hp : s.findPlace h (s.model h).hdr = (.place f x y, s)) :
    s.attemptPlace h = s.placedOn h f x y := by
  rw [State.attemptPlace, hp]
  exact if_neg hprev

theorem State.attemptPlace_of_blocked {u : State} (hp : s.findPlace h (s.model h).hdr = (.blocked, u)) :
    s.attemptPlace h = u.updModel h fun m => { m with page := .queued, placeSince := some u.now } := by
  rw [State.attemptPlace, hp]

/-- A STAGED model has its image space and its lines (R230). -/
theorem State.beginPage_of_staged (hprev : (s.model h).prev = .staged) : s.beginPage h = s.attemptPlace h := by
  rw [State.beginPage, if_neg (by rw [hprev]; decide)]
  dsimp only
  rw [if_pos hprev]
  rfl

theorem exec_pageInStart_of_off (hen : s.flag Reg.BAY_CTRL_enable = false) : exec (.pageInStart h) s = .next s :=
  congrArg Host.Outcome.next (State.whenRuns_of_stays (if_pos hen))

theorem exec_pageInStart_of_staged (hruns : s.runs none = true) (hen : s.flag Reg.BAY_CTRL_enable = true) (hnext : s.nextPage = some h)
    (hmax : s.pagesRunning < s.fld Reg.BAY_PAGE_MAX_n) (hrep : (s.model h).replacing = none) (hprev : (s.model h).prev = .staged) :
    exec (.pageInStart h) s = .next (s.attemptPlace h) := by
  show execPageInStart h s = _
  rw [execPageInStart, State.whenRuns_of_runs hruns, if_neg (by rw [hen]; decide), if_pos ⟨hnext, hmax⟩, hrep, ← State.beginPage_of_staged hprev]

end

/-! ### The image's copy and its digest (R220, R230) -/

section
variable {s : State} {h : Nat}

theorem exec_imageCopyDone_of_read {img : List Byte} (hruns : s.runs none = true) (hst : (s.model h).st = .paging)
    (hpage : (s.model h).page = .copying) (hwin : (s.domRights (s.model h).domain).inWindow (s.model h).addr (s.model h).len false = true)
    (hlen : (s.model h).len ≤ img.length) : exec (.imageCopyDone h (some img)) s =
      .next (s.updModel h fun m => { m with copied := img.take m.len, page := .copied }) := by
  show execImageCopyDone h (some img) s = _
  rw [execImageCopyDone, State.whenRuns_of_runs hruns, if_pos ⟨hst, hpage⟩]
  exact congrArg Host.Outcome.next (if_pos (by rw [hwin, decide_eq_true hlen]; rfl))

/-- The copy for an adaptation job of an image held only by the host. -/
theorem exec_imageCopyDone_of_failed (hruns : s.runs none = true) (hst : (s.model h).st = .host) (hpage : (s.model h).page = .copying) :
    exec (.imageCopyDone h none) s = .next ((s.bumpFld Reg.BAY_PAGE_FAIL_count).updModel h fun m => { m with page := .none }) := by
  show execImageCopyDone h none s = _
  rw [execImageCopyDone, State.whenRuns_of_runs hruns, if_neg (fun hc => absurd (hst.symm.trans hc.1) (by decide)), if_pos ⟨hst, hpage⟩]
  exact congrArg Host.Outcome.next (if_neg (by simp))

theorem exec_imageCopyDone_of_other (hpage : (s.model h).page ≠ .copying) (img : HostData) : exec (.imageCopyDone h img) s = .next s :=
  congrArg Host.Outcome.next (State.whenRuns_of_stays ((if_neg fun hc => hpage hc.2).trans (if_neg fun hc => hpage hc.2)))

theorem exec_digestVerdict_of_other (hpage : (s.model h).page ≠ .copied) : exec (.digestVerdict h) s = .next s :=
  congrArg Host.Outcome.next (State.whenRuns_of_stays ((if_neg fun hc => hpage hc.2).trans (if_neg fun hc => hpage hc.2)))

/-- A model whose image has the registered digest. -/
def Model.verified (m : Model) : Model := { m with image := m.copied, copied := [], page := .loading }

/-- The plot of a model, where it has one, takes the image. -/
def State.imageToPlot (s : State) (h : Nat) : State :=
  match (s.model h).plot with
  | some p => s.updPlot p fun q => { q with image := (s.model h).copied }
  | none => s

theorem State.imageToPlot_rest : (s.imageToPlot h).bay = s.bay ∧ (s.imageToPlot h).regs = s.regs := by
  unfold State.imageToPlot
  split <;> exact ⟨rfl, rfl⟩

theorem State.plot_imageToPlot {p : Nat} (hp : (s.model h).plot = some p) : ((s.imageToPlot h).plot p).image = (s.model h).copied := by
  rw [State.imageToPlot, hp]
  exact congrArg PlotSt.image (State.plot_updPlot_self _ _ _)

section
variable (hruns : s.runs none = true) (hst : (s.model h).st = .paging) (hpage : (s.model h).page = .copied)
include hruns hst hpage

theorem exec_digestVerdict_of_right (hdig : sha384 (s.model h).copied = (s.model h).digest) : exec (.digestVerdict h) s =
    .next ((s.imageToPlot h).updModel h (·.verified)) := by
  show execDigestVerdict h s = _
  rw [execDigestVerdict, State.whenRuns_of_runs hruns, if_pos ⟨hst, hpage⟩, if_pos hdig]
  rfl

theorem exec_digestVerdict_of_wrong (hdig : sha384 (s.model h).copied ≠ (s.model h).digest) :
    exec (.digestVerdict h) s = .next ((s.bump Reg.BAY_DIGEST_FAIL).faultModel h 5) := by
  show execDigestVerdict h s = _
  rw [execDigestVerdict, State.whenRuns_of_runs hruns, if_pos ⟨hst, hpage⟩, if_neg hdig]

end

theorem exec_digestVerdict_for_job (hruns : s.runs none = true) (hst : (s.model h).st = .host) (hpage : (s.model h).page = .copied)
    (hdig : sha384 (s.model h).copied = (s.model h).digest) : exec (.digestVerdict h) s =
      .next (s.updModel h fun m => { m with image := m.copied, copied := [], page := .none, st := .hbm }) := by
  show execDigestVerdict h s = _
  rw [execDigestVerdict, State.whenRuns_of_runs hruns, if_neg (fun hc => absurd (hst.symm.trans hc.1) (by decide)), if_pos ⟨hst, hpage⟩, if_pos hdig]

end

/-! ### The loads of a plot (R176, R230) -/

/-- The registers, Bay and the fields: what the loads of a plot leave alone. -/
def State.besidePlots (s : State) : Regs × BaySt × Tab FieldSt := (s.regs, s.bay, s.fab.fields)

section
variable (s : State)

theorem State.besidePlots_writeWeights (x0 y0 : Nat) (img : List Byte) (n off stop : Nat) :
    (s.writeWeights x0 y0 img n off stop).besidePlots = s.besidePlots := by
  induction n generalizing s off with
  | zero => rfl
  | succ n ih =>
    unfold State.writeWeights
    split
    · rfl
    · exact ih _ _

theorem State.besidePlots_writeCal (p : Nat) (img b : List Byte) (bank : Nat) : (s.writeCal p img b bank).besidePlots = s.besidePlots :=
  foldl_keeps State.besidePlots (fun u e => by rfl) _ _

theorem State.besidePlots_writeBanks (p h : Nat) (img : List Byte) : (s.writeBanks p h img).besidePlots = s.besidePlots :=
  foldl_keeps State.besidePlots (fun u bank => by dsimp only; rw [State.besidePlots_writeCal, State.besidePlots_writeCal]) _ _

theorem State.besidePlots_loads (p h : Nat) (img : List Byte) :
    (((s.loadWeights p img).leaseRegions p img).writeBanks p h img).besidePlots = s.besidePlots := by
  rw [State.besidePlots_writeBanks]
  exact s.besidePlots_writeWeights _ _ _ _ _ _

theorem State.besidePlots_rest {t u : State} (h : t.besidePlots = u.besidePlots) :
    t.regs = u.regs ∧ (∀ j, t.model j = u.model j) ∧ ∀ f, t.field f = u.field f := by
  obtain ⟨hregs, hrest⟩ := Prod.mk.inj h
  obtain ⟨hbay, hfields⟩ := Prod.mk.inj hrest
  exact ⟨hregs, fun j => by rw [State.model, hbay]; rfl, fun f => by rw [State.field, hfields]; rfl⟩

end

section
variable {s : State} {h p : Nat}

theorem State.issue_rest (f : Nat) (c : Change) : (s.issue f c).regs = s.regs ∧ (s.issue f c).model = s.model ∧
    ((s.issue f c).field f).waiting = (s.field f).waiting ++ [c] :=
  ⟨rfl, rfl, congrArg FieldSt.waiting (Tab.get_upd_self _ _ _)⟩

/-- The loads end with the plot's ADD in line at its field. -/
theorem State.finishLoads_rest (img : List Byte) : (s.finishLoads p h img).regs = s.regs ∧ (∀ j, (s.finishLoads p h img).model j = s.model j) ∧
    ((s.finishLoads p h img).field (s.plot p).field).waiting = (s.field (s.plot p).field).waiting ++ [.add p] := by
  obtain ⟨hregs, hmodel, hfield⟩ := State.besidePlots_rest (s.besidePlots_loads p h img)
  obtain ⟨hregs', hmodel', hwaiting⟩ := State.issue_rest (s := ((s.loadWeights p img).leaseRegions p img).writeBanks p h img)
    (s.plot p).field (.add p)
  rw [State.finishLoads]
  exact ⟨hregs'.trans hregs, fun j => (congrFun hmodel' j).trans (hmodel j), by rw [hwaiting, hfield]⟩

section
variable (hruns : s.runs none = true) (hst : (s.model h).st = .paging) (hpage : (s.model h).page = .loading) (hp : (s.model h).plot = some p)
include hruns hst hpage hp

theorem exec_pageInLoadsDone_of_fenced (hf : s.imageFenced p = true) : exec (.pageInLoadsDone h) s = .next (s.pageFenced h p) := by
  show execPageInLoadsDone h s = _
  rw [execPageInLoadsDone, State.whenRuns_of_runs hruns]
  simp only [hst, hpage, hp]
  exact congrArg Host.Outcome.next (if_pos hf)

theorem exec_pageInLoadsDone (hf : s.imageFenced p = false) : exec (.pageInLoadsDone h) s = .next
    (match (if (s.model h).prev = .staged then none else loadCheck (s.model h).image (s.sliceBox h)) with
      | some e => (((s.loadRefused h e).bumpFld Reg.BAY_LOAD_FAIL_count)).faultModel h 10
      | none => (s.finishLoads p h (s.model h).image).updModel h fun m => { m with page := .adding }) := by
  show execPageInLoadsDone h s = _
  rw [execPageInLoadsDone, State.whenRuns_of_runs hruns]
  simp only [hst, hpage, hp]
  exact congrArg Host.Outcome.next (if_neg (by rw [hf]; decide))

end

end

/-! ### O42 -/

/-- Settles O42: each step as its own command does it. -/
theorem pageInsRunStepByStep : Obligations.PageInsRunStepByStep := by
  intro h s m
  refine ⟨exec_pageInStart_of_off, fun hruns hen hnext hmax hrep hprev => ⟨fun f x y u hplace => ?_, fun u hblocked => ?_⟩,
    fun hruns hst hpage img hwin hlen => exec_imageCopyDone_of_read hruns hst hpage hwin hlen, exec_imageCopyDone_of_failed,
    exec_imageCopyDone_of_other, exec_digestVerdict_of_other, fun hruns hst hpage hdig => ?_, exec_digestVerdict_of_wrong,
    exec_digestVerdict_for_job, fun p => exec_pageInLoadsDone_of_fenced, fun p hruns hst hpage hp hf => ?_⟩
  · have hu := State.findPlace_place hplace
    subst hu
    refine ⟨u.placedOn h f x y, ?_, ?_, ?_, State.not_mem_queue_leaveLine _ _, ?_, ?_, ?_, ?_, ?_,
      fun k => State.tile_placedOn_of_mem u h f x y, fun k => State.tile_placedOn_of_not_mem u h f x y⟩
    · rw [exec_pageInStart_of_staged hruns hen hnext hmax hrep hprev,
        State.attemptPlace_of_place (fun hc => absurd (hprev.symm.trans hc) (by decide)) hplace]
    · rw [State.model_placedOn]
      rfl
    · rw [State.model_placedOn]
      exact if_neg fun hc => absurd (hprev.symm.trans hc) (by decide)
    all_goals rw [State.plot_placedOn]; rfl
  · refine ⟨_, exec_pageInStart_of_staged hruns hen hnext hmax hrep hprev, ?_⟩
    rw [State.attemptPlace_of_blocked hblocked, State.model_updModel_self]
    exact ⟨rfl, rfl⟩
  · refine ⟨_, exec_digestVerdict_of_right hruns hst hpage hdig, ?_⟩
    obtain ⟨hbay, hregs⟩ := State.imageToPlot_rest (s := s) (h := h)
    have hmodel (j : Nat) : (s.imageToPlot h).model j = s.model j := by rw [State.model, hbay, ← State.model]
    have hself : ((s.imageToPlot h).updModel h (·.verified)).model h = m.verified := by rw [State.model_updModel_self, hmodel]
    refine ⟨congrArg Model.image hself, congrArg Model.page hself, (congrArg Model.st hself).trans hst,
      fun j hj => (State.model_updModel_ne _ _ _ hj).trans (hmodel j), hregs, fun p => State.plot_imageToPlot⟩
  · intro check
    have hexec := exec_pageInLoadsDone hruns hst hpage hp hf
    refine ⟨fun hnone => ?_, fun code row hsome => ?_⟩
    · refine ⟨(s.finishLoads p h m.image).updModel h fun x => { x with page := .adding }, ?_, ?_⟩
      · rw [hexec, show (if (s.model h).prev = .staged then none else loadCheck (s.model h).image (s.sliceBox h)) = none from hnone]
      · obtain ⟨hregs, hmodel, hwaiting⟩ := State.finishLoads_rest (s := s) (h := h) (p := p) m.image
        generalize s.finishLoads p h m.image = u at hregs hmodel hwaiting ⊢
        rw [State.model_updModel_self, hmodel]
        exact ⟨rfl, hst, hwaiting, hregs⟩
    · rw [hexec, show (if (s.model h).prev = .staged then none else loadCheck (s.model h).image (s.sliceBox h)) = some (code, row) from hsome]
      rfl

end Sys2Proof.Machine
end

section
/-! Configuration commits of a field (R184 to R186): what Bay hands to the sequencer, how a change is ordered and when a commit is complete, and
O36. -/

namespace Sys2Proof.Machine

/-! ### A commit that Bay hands on (R186) -/

section
variable {s : State} {f : Fin 4}

@[simp] theorem State.field_updField_self (s : State) (n : Nat) (g : FieldSt → FieldSt) : (s.updField n g).field n = g (s.field n) :=
  Tab.get_upd_self _ _ _

theorem State.vacateStep_of_staying {n : Nat} (h : (s.field n).leaving = none) : s.vacateStep n = s := by
  unfold State.vacateStep
  exact if_pos (by rw [h]; rfl)

/-- The waiting changes of a field as a commit, with the boundary counts of every plot. -/
def State.waitingCommit (s : State) (n : Nat) : Commit :=
  { changes := ((s.field n).waiting.take 16).map fun c => (c, false)
    snap := s.plotIds.map fun p => (p, (s.plot p).secCount, (s.plot p).passCount) }

section
variable (hruns : s.runs none = true) (hstay : (s.field f.val).leaving = none)
include hruns hstay

theorem exec_configCommit_of_none (hw : (s.field f.val).waiting = []) : exec (.configCommit f) s = .next s := by
  show execConfigCommit f s = _
  rw [execConfigCommit, State.whenRuns_of_runs hruns, State.vacateStep_of_staying hstay]
  exact congrArg Host.Outcome.next (if_pos (by rw [hw]; rfl))

section
variable (hw : (s.field f.val).waiting ≠ [])
include hw

theorem exec_configCommit_of_taken (hen : s.flag Reg.FAB_CTRL_enable = true)
    (hroom : ¬(((s.field f.val).running.isSome = true ∨ (s.field f.val).accepted.isSome = true) ∧ (s.field f.val).pending.isSome = true)) : exec (.configCommit f) s = .next (s.updField f.val fun x =>
      if x.running.isNone = true ∧ x.accepted.isNone = true then { x with waiting := x.waiting.drop 16, accepted := some (s.waitingCommit f.val) }
      else { x with waiting := x.waiting.drop 16, pending := some (s.waitingCommit f.val) }) := by
  show execConfigCommit f s = _
  rw [execConfigCommit, State.whenRuns_of_runs hruns, State.vacateStep_of_staying hstay]
  dsimp only
  rw [if_neg (by simpa using hw), if_neg (by rw [hen]; simpa using hroom)]
  rfl

theorem exec_configCommit_of_busy (hbusy : (s.field f.val).running.isSome = true ∨ (s.field f.val).accepted.isSome = true)
    (hpend : (s.field f.val).pending.isSome = true) :
    exec (.configCommit f) s = .next ((s.stick (Reg.FAB_COMMIT_STAT_busy f.val)).bump Reg.FAB_COMMIT_BUSY) := by
  show execConfigCommit f s = _
  rw [execConfigCommit, State.whenRuns_of_runs hruns, State.vacateStep_of_staying hstay]
  dsimp only
  rw [if_neg (by simpa using hw), if_pos (Or.inr ⟨hbusy, hpend⟩)]

end

end

end

/-! ### How a change is ordered and a commit completes (R184, R185) -/

section
variable {s : State} {n : Nat} {k : Commit}

theorem exec_commitOrdered_of_waits {f : Fin 4} (h : (s.field f.val).running.isSome = true ∨ (s.field f.val).accepted = none ∨
    (s.nextReport f.val).isSome = true ∨ (s.fieldPow f.val).st ≠ 0) : exec (.commitOrdered f) s = .next s := by
  show execCommitOrdered f s = _
  rw [execCommitOrdered]
  split
  · rfl
  next hc =>
    obtain hr | ha | hn | hp := h
    · exact absurd (Or.inl hr) hc
    · rw [State.orderCommit, ha]
    · exact absurd (Or.inr (Or.inl hn)) hc
    · exact absurd (Or.inr (Or.inr hp)) hc

/-- The field with its accepted commit running. -/
def State.startCommit (s : State) (n : Nat) (k : Commit) : State := s.updField n fun x => { x with accepted := none, running := some k }

theorem State.field_startCommit : (s.startCommit n k).field n = { s.field n with accepted := none, running := some k } :=
  State.field_updField_self _ _ _

theorem exec_commitOrdered {f : Fin 4} {c : Change} (hpow : (s.fieldPow f.val).st = 0) (hrun : (s.field f.val).running = none)
    (hnext : s.nextReport f.val = none) (hacc : (s.field f.val).accepted = some k) (hk : k.changes = [(c, false)]) :
    exec (.commitOrdered f) s = .next (((s.startCommit f.val k).orderChange f.val c).commitProgress f.val) := by
  show execCommitOrdered f s = _
  rw [execCommitOrdered, if_neg (by rw [hrun, hnext, show (s.pow.fields.get f.val).st = 0 from hpow]; decide), State.orderCommit, hacc]
  dsimp only
  rw [hk]
  rfl

/-- No role change is left to apply. -/
theorem State.applyRole_of_no_role (hrun : (s.field n).running = some k) (hno : ∀ a, (Change.role a, false) ∉ k.changes) : s.applyRole n = s := by
  unfold State.applyRole
  rw [hrun]
  dsimp only
  split
  next a b hfind =>
    have hb : b = false := by simpa using List.find?_some hfind
    exact absurd (hb ▸ List.mem_of_find?_eq_some hfind) (hno a)
  · rfl

/-- The field when its commit is complete. -/
def State.commitDone (s : State) (n : Nat) (k : Commit) : State :=
  (s.updField n fun x => { x with running := none, accepted := x.pending, pending := none, seq := x.seq + 1, applied := k.applied }).bump
    Reg.FAB_COMMITS

theorem State.commitProgress_of_applied (hrun : (s.field n).running = some k) (hall : ∀ e ∈ k.changes, e.2 = true) :
    s.commitProgress n = s.commitDone n k := by
  have hno : s.applyRole n = s := State.applyRole_of_no_role hrun fun a hm => Bool.false_ne_true (hall _ hm)
  rw [State.commitProgress, hno, hno, hrun]
  exact if_pos (List.all_eq_true.mpr hall)

theorem State.commitProgress_of_waiting {c : Change} (hrun : (s.field n).running = some k) (hk : k.changes = [(c, false)])
    (hc : ∀ a, c ≠ .role a) : s.commitProgress n = s := by
  have hno : s.applyRole n = s := State.applyRole_of_no_role hrun fun a hm => hc a (by rw [hk] at hm; simpa using (List.mem_singleton.mp hm).symm)
  rw [State.commitProgress, hno, hno, hrun]
  exact if_neg (by rw [hk]; exact Bool.false_ne_true)

/-- The commit of one change, once that has applied. -/
def Commit.appliedOne (k : Commit) (c : Change) : Commit := { k with changes := [(c, true)] }

theorem State.field_markApplied {c : Change} (hrun : (s.field n).running = some k) (hk : k.changes = [(c, false)]) :
    (s.markApplied n c none).field n = { s.field n with running := some (k.appliedOne c) } := by
  rw [State.markApplied, State.field_updField_self, hrun]
  simp [hk, Commit.appliedOne]

/-- A commit of one change is complete when that has applied. -/
theorem State.commitProgress_markApplied {c : Change} (hrun : (s.field n).running = some k) (hk : k.changes = [(c, false)]) :
    (s.markApplied n c none).commitProgress n = (s.markApplied n c none).commitDone n (k.appliedOne c) :=
  State.commitProgress_of_applied (by rw [State.field_markApplied hrun hk]) fun e he => by rw [List.mem_singleton.mp he]

/-- What a complete commit of one change leaves of its field. -/
theorem State.field_commitDone_markApplied {c : Change} (hrun : (s.field n).running = some k) (hk : k.changes = [(c, false)]) :
    ((s.markApplied n c none).commitDone n (k.appliedOne c)).field n = { s.field n with
      running := none, accepted := (s.field n).pending, pending := none, seq := (s.field n).seq + 1, applied := k.applied } := by
  show ((s.markApplied n c none).updField n _).field n = _
  rw [State.field_updField_self, State.field_markApplied hrun hk]
  rfl

theorem State.plots_commitDone_markApplied (c : Change) (j : Commit) : ((s.markApplied n c none).commitDone n j).fab.plots = s.fab.plots := rfl

/-- The field keeps a plot that the commit does not remove. -/
theorem State.removesAll_of_plots (hrun : (s.field n).running = some k) (hk : k.changes = [(.role true, false)]) (hp : s.fieldPlots n ≠ []) :
    s.removesAll n = false := by
  obtain ⟨p, l, hl⟩ := List.exists_cons_of_ne_nil hp
  rw [State.removesAll, hl, hrun, List.all_cons]
  simp [hk]

/-- An adaptation plot on a tile that a remap took is revoked (R367). -/
theorem State.remapRemove_of_job {p : Nat} (hjob : (s.plot p).job.isSome = true) :
    (s.remapRemove p).fab = s.fab ∧ (s.remapRemove p).reg Reg.FAB_COMMITS = s.reg Reg.FAB_COMMITS := by
  have hrevoke : ((s.revokePlot p).bump Reg.REP_REMAP_REMOVE).fab = s.fab ∧
      ((s.revokePlot p).bump Reg.REP_REMAP_REMOVE).reg Reg.FAB_COMMITS = s.reg Reg.FAB_COMMITS := by
    unfold State.revokePlot
    split
    · exact ⟨rfl, State.reg_bump_ne _ (by decide)⟩
    · exact ⟨rfl, (State.reg_bump_ne _ (by decide)).trans (State.reg_bump_ne _ (by decide))⟩
  unfold State.remapRemove
  dsimp only
  rw [if_pos hjob]
  split
  · exact hrevoke
  · exact ⟨rfl, rfl⟩

/-- A plot that is ready. -/
def State.readyPlot (s : State) (p : Nat) : State := s.updPlot p fun q => { q with ready := true }

theorem State.plot_readyPlot (p : Nat) : (s.readyPlot p).plot p = { s.plot p with ready := true } := State.plot_updPlot_self _ _ _

theorem State.addApplied_of_job {p : Nat} (hjob : (s.plot p).job.isSome = true) :
    (s.addApplied p).fab = (s.readyPlot p).fab ∧ (s.addApplied p).reg Reg.FAB_COMMITS = s.reg Reg.FAB_COMMITS := by
  have hadd : s.addApplied p = (s.readyPlot p).remapRemove p := if_pos hjob
  rw [hadd]
  exact State.remapRemove_of_job (by rw [State.plot_readyPlot]; exact hjob)

/-- A plot that is to be removed at the boundary of its pass. -/
def State.removingPlot (s : State) (p : Nat) : State := s.updPlot p fun q => { q with removing := true }

theorem State.plot_removingPlot (p : Nat) : (s.removingPlot p).plot p = { s.plot p with removing := true } := State.plot_updPlot_self _ _ _

theorem State.field_removingPlot (p : Nat) : (s.removingPlot p).field = s.field := rfl

theorem State.orderChange_remove {p : Nat} (hused : (s.plot p).used = true) (hpass : (s.plot p).pass = true) :
    s.orderChange n (.remove p) = s.removingPlot p :=
  (if_neg (by rw [hused]; decide)).trans (if_pos hpass)

theorem State.orderChange_add {p : Nat} (hused : (s.plot p).used = true) : s.orderChange n (.add p) = (s.addApplied p).markApplied n (.add p) none :=
  if_pos hused

theorem State.orderChange_role (h : s.removesAll n = false) :
    s.orderChange n (.role true) = (s.updField n fun x => { x with roleSent := false }).markApplied n (.role true) none := by
  unfold State.orderChange
  exact if_neg (by rw [h]; exact Bool.false_ne_true)

end

/-! ### O36 -/

/-- Settles O36: Bay's side of a commit, then one change of each kind. -/
theorem commitsRunOneAtATime : Obligations.CommitsRunOneAtATime := by
  refine ⟨fun f s hruns hstay => ?_, fun f s => ?_⟩
  · intro x
    refine ⟨exec_configCommit_of_none hruns hstay, fun hw hen => ⟨fun hr ha => ?_, fun hra hp => ?_, fun hra hp => ?_⟩⟩
    · refine ⟨_, s.waitingCommit f.val, exec_configCommit_of_taken hruns hstay hw hen ?_, ?_, rfl, rfl⟩
      · rintro ⟨h, -⟩
        exact h.elim (by rw [hr]; exact Bool.false_ne_true) (by rw [ha]; exact Bool.false_ne_true)
      · rw [State.field_updField_self, hr, ha]
        exact if_pos ⟨rfl, rfl⟩
    · refine ⟨_, s.waitingCommit f.val, exec_configCommit_of_taken hruns hstay hw hen ?_, ?_, rfl, rfl⟩
      · rintro ⟨-, h⟩
        exact absurd h (by rw [hp]; exact Bool.false_ne_true)
      · rw [State.field_updField_self]
        refine if_neg ?_
        rintro ⟨hrun, hacc⟩
        rw [Option.isNone_iff_eq_none] at hrun hacc
        exact hra.elim (by rw [hrun]; exact Bool.false_ne_true) (by rw [hacc]; exact Bool.false_ne_true)
    · refine ⟨_, exec_configCommit_of_busy hruns hstay hw hra hp, rfl, ?_, ?_⟩
      · have hne : Reg.FAB_COMMIT_STAT f.val ≠ Reg.FAB_COMMIT_BUSY := by
          unfold Reg.FAB_COMMIT_STAT Reg.FAB_COMMIT_BUSY
          omega
        rw [State.flag_of_reg_eq (State.reg_bump_ne _ hne), State.flag_stick_self _ _ rfl (show 20 < 64 by decide)]
      · have hne : Reg.FAB_COMMIT_BUSY ≠ Reg.FAB_COMMIT_STAT f.val := by
          unfold Reg.FAB_COMMIT_STAT Reg.FAB_COMMIT_BUSY
          omega
        rw [State.reg_bump_self, State.reg_stick_ne _ _ hne]
  · intro x
    refine ⟨exec_commitOrdered_of_waits, fun k hpow hrun hnext hacc hk hplots => ?_, fun k p hpow hrun hnext hacc hk hused hpass => ?_,
      fun k p hpow hrun hnext hacc hk hused hjob => ?_⟩
    · have hstart : ((s.startCommit f.val k).field f.val).running = some k := by rw [State.field_startCommit]
      have hrefused : (((s.startCommit f.val k).updField f.val fun x => { x with roleSent := false }).field f.val) =
          { s.field f.val with accepted := none, running := some k, roleSent := false } := by
        rw [State.field_updField_self, State.field_startCommit]
      have hdone := State.field_commitDone_markApplied (congrArg FieldSt.running hrefused) hk
      refine ⟨_, (exec_commitOrdered hpow hrun hnext hacc hk).trans (congrArg Host.Outcome.next (congrArg (State.commitProgress · f.val)
        (State.orderChange_role (State.removesAll_of_plots hstart hk hplots)))), ?_⟩
      rw [State.commitProgress_markApplied (congrArg FieldSt.running hrefused) hk, hdone, hrefused]
      exact ⟨rfl, rfl, rfl, rfl, rfl, rfl⟩
    · have hremove : (s.startCommit f.val k).orderChange f.val (.remove p) = (s.startCommit f.val k).removingPlot p :=
        State.orderChange_remove hused hpass
      have hprog : ((s.startCommit f.val k).removingPlot p).commitProgress f.val = (s.startCommit f.val k).removingPlot p :=
        State.commitProgress_of_waiting (by rw [State.field_removingPlot, State.field_startCommit]) hk fun a h => by cases h
      refine ⟨_, exec_commitOrdered hpow hrun hnext hacc hk, ?_⟩
      rw [hremove, hprog, State.plot_removingPlot, State.field_removingPlot, State.field_startCommit]
      exact ⟨rfl, hused, rfl, rfl, rfl, rfl⟩
    · obtain ⟨hfab, hreg⟩ := State.addApplied_of_job (s := s.startCommit f.val k) hjob
      have hfield : (((s.startCommit f.val k).addApplied p).field f.val) = { s.field f.val with accepted := none, running := some k } := by
        rw [State.field, hfab]
        exact State.field_startCommit
      have hdone := State.field_commitDone_markApplied (congrArg FieldSt.running hfield) hk
      refine ⟨_, (exec_commitOrdered hpow hrun hnext hacc hk).trans (congrArg Host.Outcome.next (congrArg (State.commitProgress · f.val)
        (State.orderChange_add hused))), ?_⟩
      rw [State.commitProgress_markApplied (congrArg FieldSt.running hfield) hk, hdone, hfield]
      refine ⟨?_, rfl, rfl, rfl, rfl, ?_⟩
      · rw [State.plot, State.plots_commitDone_markApplied, hfab, ← State.plot, State.plot_readyPlot]
      · rw [State.commitDone, State.reg_bump_self]
        exact congrArg (· + 1) hreg

end Sys2Proof.Machine
end

section
/-! Moves and the section store (R158, R172, R174, R179, R180, R207): registers, destinations, accesses and their order at a bank, and O31. -/

namespace Sys2Proof.Machine

/-! ### Register pairs and the store (R158, R174) -/

section
variable (x : Tile) (f : Flit)

theorem Tile.addr_lt (k : Nat) : x.addr k < 2048 := by
  unfold Tile.addr
  dsimp only
  omega

/-- The two halves of a flit make it up again. -/
theorem flit_halves : BitVec.ofNat 128 ((f.setWidth 64).toNat + ((f >>> 64).setWidth 64).toNat <<< 64) = f := by
  apply BitVec.eq_of_toNat_eq
  have hf := f.isLt
  simp only [BitVec.toNat_ofNat, BitVec.toNat_setWidth, BitVec.toNat_ushiftRight, Nat.shiftRight_eq_div_pow, Nat.shiftLeft_eq]
  omega

theorem Tile.pair_setPair_same {r q : Nat} (h : q % 64 / 2 = r % 64 / 2) : (x.setPair r f).pair q = f := by
  have hk : r % 64 / 2 * 2 ≠ r % 64 / 2 * 2 + 1 := by omega
  unfold Tile.pair Tile.setPair
  dsimp only
  rw [h, Tab.get_set_ne _ _ hk, Tab.get_set_self, Tab.get_set_self, flit_halves]

theorem Tile.pair_setPair_ne {r q : Nat} (h : q % 64 / 2 ≠ r % 64 / 2) : (x.setPair r f).pair q = x.pair q := by
  unfold Tile.pair Tile.setPair
  dsimp only
  rw [Tab.get_set_ne _ _ (by omega), Tab.get_set_ne _ _ (by omega), Tab.get_set_ne _ _ (by omega), Tab.get_set_ne _ _ (by omega)]

theorem Tile.pair_of_regs {x y : Tile} (h : y.regs = x.regs) (r : Nat) : y.pair r = x.pair r := by
  unfold Tile.pair
  rw [h]

theorem Tile.setPair_store (r : Nat) : (x.setPair r f).store = x.store := rfl

end

/-! ### Destinations (R171) -/

section
variable {s : State} {t i : Nat} {f : Flit}

theorem State.writeDst_reg (h : miDk i = 0) (tag : Option Nat) : s.writeDst t i tag false [f] = s.updTile t fun x => x.setPair (miDst i) f :=
  if_pos h

theorem State.writeDst_chan (h : miDk i = 1) (tag : Option Nat) (quad : Bool) :
    s.writeDst t i tag quad [f] = s.sendFlit t (miDst i) .data ((s.tile t).outTag i tag) f :=
  (if_neg (by rw [h]; decide)).trans (if_pos h)

/-- The tile with one word of its store written. -/
def Tile.withWord (x : Tile) (a : Nat) (f : Flit) : Tile := { x with store := x.store.set a f }

theorem State.writeDst_store (h : miDk i = 2) (tag : Option Nat) (quad : Bool) :
    s.writeDst t i tag quad [f] = s.updTile t fun x => x.withWord ((s.tile t).addr (miDst i)) f := by
  have hmod : ((s.tile t).addr (miDst i) + 0) % 2048 = (s.tile t).addr (miDst i) := Nat.mod_eq_of_lt (Tile.addr_lt _ _)
  have hw : s.writeDst t i tag quad [f] = s.updTile t fun x => x.withWord (((s.tile t).addr (miDst i) + 0) % 2048) f :=
    (if_neg (by rw [h]; decide)).trans ((if_neg (by rw [h]; decide)).trans (if_pos h))
  rw [hw, hmod]

end

/-! ### MOV (R172) -/

/-- The flit a MOV without an IN source moves. -/
def Tile.movSource (x : Tile) (i : Nat) : Flit :=
  if miAk i = 0 then x.pair (miSa i) else if miAk i = 2 then x.store.get (x.addr (miSa i)) else BitVec.ofNat 128 (miImm i)

section
variable {s : State} {t : Fin 4096} {i : Nat}

theorem inNeeds_of_no_in {x : Tile} (ha : miAk i ≠ 1) (hb : miBk i ≠ 1) : inNeeds x i = [] := by
  unfold inNeeds
  simp only [if_neg ha, if_neg hb, List.append_nil]
  exact match miOp i with
    | 0 | 1 | 2 | 3 | 4 | 5 | _ + 6 => rfl

/-- An instruction that takes one flit of a source needs it where the source is an IN source. -/
theorem miAk_of_inNeeds {x : Tile} (hop : miOp i = 0x06) (hn : inNeeds x i = []) : miAk i ≠ 1 := by
  intro ha
  unfold inNeeds at hn
  rw [hop] at hn
  by_cases hb : miBk i = 1
  · simp only [ha, hb, if_pos, List.singleton_append] at hn
    split at hn <;> cases hn
  · simp [ha, hb] at hn

theorem Tile.movSource_eq {x : Tile} (ha : miAk i ≠ 1) :
    (if miAk i = 3 then BitVec.ofNat 128 (miImm i) else (x.read (miAk i) (miSa i) 1 (miImm i) none 0).headD 0) = x.movSource i := by
  have hlt : miAk i < 4 := Nat.mod_lt _ (by decide)
  unfold Tile.movSource
  obtain h | h | h : miAk i = 0 ∨ miAk i = 2 ∨ miAk i = 3 := by omega
  · simp [h, Tile.read]
  · simp [h, Tile.read, Nat.mod_eq_of_lt (x.addr_lt (miSa i))]
  · simp [h]

theorem exec_tileMov (hat : s.atTile t.val 0x06 i) (hn : inNeeds (s.tile t.val) i = []) (hdst : s.dstReady t.val i 1 = true) :
    exec (.tileMov t) s = .next ((s.writeDst t.val i none false [(s.tile t.val).movSource i]).goesOn t.val i ((s.tile t.val).cost i)) := by
  have hop := State.miOp_of_atTile hat
  refine congrArg Host.Outcome.next (State.fireOp_of_fire hat ((State.fire_mov hop).trans ?_))
  rw [State.mov, if_pos hdst, State.takeSources_of_none hn, Tile.movSource_eq (miAk_of_inNeeds hop hn)]

theorem State.dstReady_of_not_chan (h : miDk i ≠ 1) (n : Nat) : s.dstReady t.val i n = true := by
  simp [State.dstReady, h]

theorem exec_tileMov_reg (hat : s.atTile t.val 0x06 i) (hn : inNeeds (s.tile t.val) i = []) (hdk : miDk i = 0) :
    ∃ u, exec (.tileMov t) s = .next u ∧ tilesBut s u t.val ∧ (u.tile t.val).pair (miDst i) = (s.tile t.val).movSource i ∧
      (u.tile t.val).store = (s.tile t.val).store ∧
      ∀ r, r % 64 / 2 ≠ miDst i % 64 / 2 → (u.tile t.val).pair r = (s.tile t.val).pair r := by
  have hpair (x : Tile) (r : Nat) : Tile.pair { x.advance i with readyNs := 0 } r = x.pair r := Tile.pair_of_regs (by simp) r
  refine ⟨_, exec_tileMov hat hn (State.dstReady_of_not_chan (by rw [hdk]; decide) 1), ?_⟩
  rw [State.writeDst_reg hdk, State.tile_goesOn, State.tile_updTile_self, hpair, Tile.pair_setPair_same _ _ rfl]
  exact ⟨(tilesBut_updTile _ _ _).trans (tilesBut_goesOn _ _ _ _), rfl, by simp [Tile.setPair_store],
    fun r hr => by rw [hpair, Tile.pair_setPair_ne _ _ hr]⟩

theorem exec_tileMov_store (hat : s.atTile t.val 0x06 i) (hn : inNeeds (s.tile t.val) i = []) (hdk : miDk i = 2) :
    ∃ u, exec (.tileMov t) s = .next u ∧ tilesBut s u t.val ∧
      (u.tile t.val).store.get ((s.tile t.val).addr (miDst i)) = (s.tile t.val).movSource i ∧ (u.tile t.val).regs = (s.tile t.val).regs ∧
      ∀ a, a ≠ (s.tile t.val).addr (miDst i) → (u.tile t.val).store.get a = (s.tile t.val).store.get a := by
  refine ⟨_, exec_tileMov hat hn (State.dstReady_of_not_chan (by rw [hdk]; decide) 1), ?_⟩
  rw [State.writeDst_store hdk, State.tile_goesOn, State.tile_updTile_self]
  refine ⟨(tilesBut_updTile _ _ _).trans (tilesBut_goesOn _ _ _ _), ?_, ?_, fun a ha => ?_⟩
  · simp [Tile.withWord]
  · simp [Tile.withWord]
  · simp [Tile.withWord, Tab.get_set_ne _ _ ha]

theorem exec_tileMov_chan (hat : s.atTile t.val 0x06 i) (hn : inNeeds (s.tile t.val) i = []) (hdk : miDk i = 1)
    (hsend : s.canSend t.val (miDst i) 1 = true) : ∃ u p, exec (.tileMov t) s = .next u ∧ u.fab.packets = s.fab.packets ++ [p] ∧
      p.kind = .data ∧ p.tok.flit = (s.tile t.val).movSource i ∧ p.tok.tag = (s.tile t.val).iter (miTagAdd i % 8) := by
  refine ⟨_, s.flitOut t.val (miDst i) .data ((s.tile t.val).outTag i none) ((s.tile t.val).movSource i),
    exec_tileMov hat hn (by rw [State.dstReady, hsend, Bool.or_true]), ?_, rfl, rfl, rfl⟩
  rw [State.fab_goesOn, State.writeDst_chan hdk]
  exact State.packets_sendFlit _ _ _ _ _ _

end

/-! ### Accesses to the section store (R179, R207) -/

/-- The access that an LDS or STS of a tile sends: it carries the lease epoch of the plot. -/
def State.reqOut (s : State) (t i : Nat) (tag : Option Nat) (write : Option Flit) : SecReq :=
  { tile := t, queue := miDst i % 16, plot := (s.tile t).plot.getD 0, slot := miImm i % 16, off := ((s.tile t).regs.get (miSb i % 64)).toNat
    lease := (s.plot ((s.tile t).plot.getD 0)).lease, tag := (s.tile t).outTag i tag, write := write, inst := (s.tile t).inst }

/-- The packet that carries an access out of its tile. -/
def State.reqPacket (s : State) (t : Nat) (r : SecReq) : Packet :=
  { x := tileX t, y := tileY t, port := localPort s.fab.packets (tileX t) (tileY t) 0, vc := 0, kind := .data, dest := .store r, tagged := false
    tok := {}, plot := r.plot, inst := r.inst }

theorem State.sendReq_eq (s : State) (t i : Nat) (tag : Option Nat) (w : Option Flit) :
    s.sendReq t i tag w = s.withPacket (s.reqPacket t (s.reqOut t i tag w)) := rfl

section
variable {s : State} {t : Fin 4096} {i : Nat}

theorem exec_lds (hat : s.atTile t.val 0x07 i) (hn : inNeeds (s.tile t.val) i = []) : exec (.lds t) s =
    .next ((s.withPacket (s.reqPacket t.val (s.reqOut t.val i none none))).goesOn t.val i ((s.tile t.val).cost i)) := by
  refine congrArg Host.Outcome.next (State.fireOp_of_fire hat ((State.fire_lds (State.miOp_of_atTile hat)).trans ?_))
  rw [State.lds, State.takeSources_of_none hn, State.sendReq_eq]

/-- Whether the section of a tile keeps a region slot from its plain runs, because it may be widened (R207). -/
def PlotSt.keepsSlot (p : PlotSt) (c : Ctx) (slot : Nat) : Bool :=
  widenEn p.image (descOff p.image c.sec false) && bit (retainMask p.image (descOff p.image c.sec false)) slot

section
variable (hat : s.atTile t.val 0x08 i) (ha : miAk i = 0) (hb : miBk i ≠ 1)
include hat ha hb

theorem exec_sts_of_kept (hk : (s.plot ((s.tile t.val).plot.getD 0)).keepsSlot (s.tile t.val).ctx (miImm i % 16) = true) :
    exec (.sts t) s = .next ((s.bump Reg.NUM_RETAIN_VIOL).goesOn t.val i ((s.tile t.val).cost i)) := by
  have hop := State.miOp_of_atTile hat
  have hn : inNeeds (s.tile t.val) i = [] := inNeeds_of_no_in (by rw [ha]; decide) hb
  refine congrArg Host.Outcome.next (State.fireOp_of_fire hat ((State.fire_sts hop).trans (congrArg some ?_)))
  unfold State.sts
  dsimp only
  rw [State.takeSources_of_none hn]
  exact if_pos hk

theorem exec_sts_of_sent (hk : (s.plot ((s.tile t.val).plot.getD 0)).keepsSlot (s.tile t.val).ctx (miImm i % 16) = false)
    (hoff : ((s.tile t.val).regs.get (miSb i % 64)).toNat < regionLines (s.plot ((s.tile t.val).plot.getD 0)).image
      ((s.plot ((s.tile t.val).plot.getD 0)).desc (s.tile t.val).ctx) (miImm i % 16) * 128) :
    exec (.sts t) s = .next ((s.withPacket (s.reqPacket t.val (s.reqOut t.val i none (some ((s.tile t.val).pair (miSa i)))))).goesOn t.val i
      ((s.tile t.val).cost i)) := by
  have hop := State.miOp_of_atTile hat
  have hn : inNeeds (s.tile t.val) i = [] := inNeeds_of_no_in (by rw [ha]; decide) hb
  have hread : ((s.tile t.val).read (miAk i) (miSa i) 1 (miImm i) none 0).headD 0 = (s.tile t.val).pair (miSa i) := by
    rw [ha]
    rfl
  refine congrArg Host.Outcome.next (State.fireOp_of_fire hat ((State.fire_sts hop).trans (congrArg some ?_)))
  unfold State.sts
  dsimp only
  rw [State.takeSources_of_none hn, hread, ← State.sendReq_eq]
  exact (if_neg (Bool.eq_false_iff.1 hk)).trans (if_neg (Nat.not_le.2 hoff))

end

end

section
variable {s : State} {t : Fin 4096} {i : Nat}

/-- An access of an LDS or STS has set out from its tile. -/
theorem State.goesOn_withPacket_rest (k : Packet) (n : Nat) : ((s.withPacket k).goesOn t.val i n).fab.packets = s.fab.packets ++ [k] ∧
    ((s.withPacket k).goesOn t.val i n).fab.reqs = s.fab.reqs ∧ ((s.withPacket k).goesOn t.val i n).fab.regions = s.fab.regions ∧
    ((s.withPacket k).goesOn t.val i n).tile t.val = { (s.tile t.val).advance i with readyNs := 0 } := by
  rw [State.fab_goesOn, State.tile_goesOn]
  exact ⟨rfl, rfl, rfl, rfl⟩

end

/-! ### At the section store (R179, R180) -/

section
variable {s : State} {r : SecReq}

/-- Where no write stands at a bank, none takes place. -/
theorem State.doWrites_of_no_writes (h : ∀ e ∈ s.fab.reqs, e.write = none) (n : Nat) : s.doWrites n = s := by
  cases n with
  | zero => rfl
  | succ n =>
    unfold State.doWrites
    split
    · rfl
    next i hfind =>
      have hi := List.find?_some hfind
      cases hr : s.fab.reqs[i]? with
      | none => rfl
      | some e =>
        simp only [hr, h e (List.mem_of_getElem? hr)] at hi
        exact absurd hi Bool.false_ne_true

/-- The store after an access has taken its place. -/
def State.reqGone (s : State) (which : Nat) : State := s.updFab fun b => { b with reqs := b.reqs.eraseIdx which }

theorem State.doWrites_reqGone (h : ∀ e ∈ s.fab.reqs, e.write = none) (which n : Nat) : (s.reqGone which).doWrites n = s.reqGone which :=
  State.doWrites_of_no_writes (fun e he => h e (List.mem_of_mem_eraseIdx he)) n

/-- The section of the tile that an access came from still runs. -/
def State.reqStands (s : State) (r : SecReq) : Prop :=
  (s.tile r.tile).plot = some r.plot ∧ (s.tile r.tile).inst = r.inst ∧ (s.tile r.tile).phase ≠ .off

theorem not_or_or_ne {a b c : Prop} [Decidable a] [Decidable b] (h : a ∧ b ∧ ¬c) : ¬(¬a ∨ ¬b ∨ c) := by
  obtain ⟨ha, hb, hc⟩ := h
  rintro (h | h | h)
  · exact h ha
  · exact h hb
  · exact hc h

section
variable {which : Nat} (hr : s.fab.reqs[which]? = some r) (hno : ∀ e ∈ s.fab.reqs, e.write = none)
include hr hno

theorem exec_sectionStoreResponse_of_waits (hturn : s.bankTurn which r = false) : exec (.sectionStoreResponse which) s = .next s := by
  show execSectionStoreResponse which s = _
  rw [execSectionStoreResponse, hr]
  dsimp only
  rw [if_pos (Or.inr hturn), State.doWrites_of_no_writes hno]

section
variable (hw : r.write = none) (hturn : s.bankTurn which r = true)
include hw hturn

theorem exec_sectionStoreResponse_of_turn : exec (.sectionStoreResponse which) s = .next
    (if (s.tile r.tile).plot ≠ some r.plot ∨ (s.tile r.tile).inst ≠ r.inst ∨ (s.tile r.tile).phase = .off then s.reqGone which
    else if s.rowFenced r = true then s.abandonPass r.plot
    else match (s.reqGone which).secRead r with
      | (none, _) => s
      | (some f, t) => (t.putQueue r.tile r.queue { flit := f, tag := r.tag }).doWrites s.fab.reqs.length) := by
  show execSectionStoreResponse which s = _
  rw [execSectionStoreResponse, hr]
  dsimp only
  rw [if_neg (by rw [hw, hturn]; decide)]
  exact congrArg Host.Outcome.next (if_congr Iff.rfl (State.doWrites_reqGone hno which _) rfl)

theorem exec_sectionStoreResponse_of_gone
    (h : (s.tile r.tile).plot ≠ some r.plot ∨ (s.tile r.tile).inst ≠ r.inst ∨ (s.tile r.tile).phase = .off) :
    exec (.sectionStoreResponse which) s = .next (s.reqGone which) := by
  rw [exec_sectionStoreResponse_of_turn hr hno hw hturn, if_pos h]

theorem exec_sectionStoreResponse_of_fenced (h : s.reqStands r) (hf : s.rowFenced r = true) :
    exec (.sectionStoreResponse which) s = .next (s.abandonPass r.plot) := by
  rw [exec_sectionStoreResponse_of_turn hr hno hw hturn, if_neg (not_or_or_ne h), if_pos hf]

/-- A flit at the end of an input queue. -/
def State.queued (s : State) (t q : Nat) (k : Tok) : State :=
  s.updTile t fun x => { x with queues := x.queues.upd q fun l => l ++ [{ k with since := s.now }] }

omit hr hno hw hturn in
theorem State.putQueue_of_seq {t q : Nat} {k : Tok} (hbad : (s.tile t).tagBad q k.tag = false) (hseq : (s.tile t).ctx.tag = false) :
    s.putQueue t q k = s.queued t q k := by
  unfold State.putQueue
  dsimp only
  rw [if_neg (Bool.eq_false_iff.1 hbad), if_neg (Bool.eq_false_iff.1 hseq)]
  rfl

omit hr hno hw hturn in
theorem State.queues_queued (t q : Nat) (k : Tok) : ((s.queued t q k).tile t).queues.get q = (s.tile t).queues.get q ++ [{ k with since := s.now }] := by
  rw [State.queued, State.tile_updTile_self, Tab.get_upd_self]

/-- What a read that is answered does: the access is gone, and its word stands at the end of its queue. -/
theorem exec_sectionStoreResponse_of_read {u : State} {f : Flit} (h : s.reqStands r) (hf : s.rowFenced r = false)
    (hread : (s.reqGone which).secRead r = (some f, u)) (hfab : u.fab = (s.reqGone which).fab) (hnow : u.now = s.now)
    (hseq : (s.tile r.tile).ctx.tag = false) (hbad : (s.tile r.tile).tagBad r.queue r.tag = false) :
    ∃ v, exec (.sectionStoreResponse which) s = .next v ∧ v.fab.reqs = s.fab.reqs.eraseIdx which ∧ v.fab.regions = s.fab.regions ∧
      (v.tile r.tile).queues.get r.queue = (s.tile r.tile).queues.get r.queue ++ [{ flit := f, tag := r.tag, since := s.now }] := by
  have htile (j : Nat) : u.tile j = s.tile j := State.tile_of_tiles_eq (by rw [hfab]; rfl) j
  have hput : u.putQueue r.tile r.queue { flit := f, tag := r.tag } = u.queued r.tile r.queue { flit := f, tag := r.tag } :=
    State.putQueue_of_seq (by rw [htile]; exact hbad) (by rw [htile]; exact hseq)
  have hreqs : (u.queued r.tile r.queue { flit := f, tag := r.tag }).fab.reqs = s.fab.reqs.eraseIdx which := by
    rw [State.queued, State.fab_updTile, hfab]
    rfl
  refine ⟨u.queued r.tile r.queue { flit := f, tag := r.tag }, ?_, hreqs, ?_, ?_⟩
  · rw [exec_sectionStoreResponse_of_turn hr hno hw hturn, if_neg (not_or_or_ne h), if_neg (Bool.eq_false_iff.1 hf), hread]
    dsimp only
    rw [hput, State.doWrites_of_no_writes (fun e he => hno e (List.mem_of_mem_eraseIdx (by rw [hreqs] at he; exact he)))]
  · rw [State.queued, State.fab_updTile, hfab]
    rfl
  · rw [State.queues_queued, htile, hnow]

end

end

/-! ### What a read returns and a write does (R179, R180, R225) -/

theorem State.fab_spillCount (plot slot off : Nat) : (s.spillCount plot slot off).fab = s.fab := by
  unfold State.spillCount
  split <;> rfl

theorem State.now_spillCount (plot slot off : Nat) : (s.spillCount plot slot off).now = s.now := by
  unfold State.spillCount
  split <;> rfl

theorem State.secRead_of_fenced (h : (s.plot r.plot).lease ≠ r.lease) : s.secRead r = (some 0, s) := if_pos h

theorem State.secRead_of_region (hlease : (s.plot r.plot).lease = r.lease)
    (hrow : r.slot ≠ hdrRowSlot ((s.plot r.plot).image.take 64) ∨ (s.plot r.plot).row = none)
    (hoff : r.off < slotLines (s.plot r.plot).image r.slot * 128) :
    s.secRead r = (some (s.fab.regions.get (regionKey r.plot r.slot r.off)), s.spillCount r.plot r.slot r.off) := by
  have hnot : s.readsRow r = false := by
    unfold State.readsRow
    obtain h | h := hrow
    · simp [h]
    · simp [h]
  rw [State.secRead]
  dsimp only
  rw [if_neg (not_not.2 hlease), if_neg (Bool.eq_false_iff.1 hnot), if_neg (Nat.not_le.2 hoff)]

/-- A write that reaches the section store with none before it takes place at once. -/
theorem State.reachStore_of_first {f : Flit} (h : s.fab.reqs = []) (hw : r.write = some f) :
    s.reachStore r = (s.updFab fun b => { b with reqs := [] }).storeWrite r f := by
  simp [State.reachStore, hw, State.updFab, h, State.doWrites, State.bankTurn]

theorem State.storeWrite_of_lease {f : Flit} (h : (s.plot r.plot).lease = r.lease) : s.storeWrite r f =
    (s.spillCount r.plot r.slot r.off).updFab fun b => { b with regions := b.regions.set (regionKey r.plot r.slot r.off) f } :=
  if_neg (not_not.2 h)

end

/-! ### O31 -/

/-- Settles O31: the three instructions at their tile, then the access at the section store. -/
theorem movesAndSectionStore : Obligations.MovesAndSectionStore := by
  refine ⟨fun t s i => ?_, fun which s r hr => ?_, fun s r f h hw hl => ?_, fun s r f h hw hl => ?_⟩
  · intro x src
    refine ⟨fun hat hn => ⟨exec_tileMov_reg hat hn, exec_tileMov_store hat hn, exec_tileMov_chan hat hn⟩, fun hat hn => ?_,
      fun hat ha hb => ⟨fun hk => ⟨_, exec_sts_of_kept hat ha hb hk, ?_, ?_⟩, fun hk hoff => ?_⟩⟩
    · obtain ⟨hpackets, hreqs, hregions, htile⟩ := State.goesOn_withPacket_rest (s := s) (t := t) (i := i)
        (s.reqPacket t.val (s.reqOut t.val i none none)) (x.cost i)
      exact ⟨_, _, _, exec_lds hat hn, hpackets, rfl, rfl, rfl, rfl, rfl, hreqs, hregions, rfl, rfl, rfl, rfl, rfl, rfl, rfl, htile⟩
    · rw [State.fab_goesOn]
      rfl
    · rw [State.reg_goesOn _ t.isLt _ _ (by decide), State.reg_bump_self]
    · obtain ⟨hpackets, hreqs, hregions, htile⟩ := State.goesOn_withPacket_rest (s := s) (t := t) (i := i)
        (s.reqPacket t.val (s.reqOut t.val i none (some (x.pair (miSa i))))) (x.cost i)
      exact ⟨_, _, _, exec_sts_of_sent hat ha hb hk hoff, hpackets, rfl, rfl, rfl, rfl, rfl, rfl, rfl, rfl, rfl, rfl, hregions, htile⟩
  · intro x p
    refine ⟨fun _ hturn hno => exec_sectionStoreResponse_of_waits hr hno hturn,
      fun hw hturn hno => exec_sectionStoreResponse_of_gone hr hno hw hturn,
      fun hw hturn hno hplot hinst hphase => exec_sectionStoreResponse_of_fenced hr hno hw hturn ⟨hplot, hinst, hphase⟩,
      fun hw hturn hno hf hplot hinst hphase hseq hbad => ⟨fun hl => ?_, fun hl hrow hoff => ?_⟩⟩
    · obtain ⟨v, hv, hreqs, -, hqueue⟩ := exec_sectionStoreResponse_of_read hr hno hw hturn ⟨hplot, hinst, hphase⟩ hf
        (State.secRead_of_fenced (s := s.reqGone which) hl) rfl rfl hseq hbad
      exact ⟨v, hv, hreqs, hqueue⟩
    · exact exec_sectionStoreResponse_of_read hr hno hw hturn ⟨hplot, hinst, hphase⟩ hf
        (State.secRead_of_region (s := s.reqGone which) hl hrow hoff) (State.fab_spillCount _ _ _) (State.now_spillCount _ _ _) hseq hbad
  · intro u
    have hu : u = _ := (State.reachStore_of_first h hw).trans (State.storeWrite_of_lease (s := s.updFab fun b => { b with reqs := [] }) hl)
    have hfab : u.fab = { s.fab with reqs := [], regions := s.fab.regions.set (regionKey r.plot r.slot r.off) f } := by
      rw [hu]
      show ({ (State.spillCount _ r.plot r.slot r.off).fab with regions := _ } : FabSt) = _
      rw [State.fab_spillCount]
      rfl
    rw [hfab]
    exact ⟨rfl, Tab.get_set_self _ _ _, fun k hk => Tab.get_set_ne _ _ hk, rfl⟩
  · have hu : s.reachStore r = s.updFab fun b => { b with reqs := [] } := (State.reachStore_of_first h hw).trans (if_pos hl)
    rw [hu, State.updFab, ← h]
    exact ⟨rfl, rfl⟩

end Sys2Proof.Machine
end

section
/-! What the return of credits leaves alone (R162, R304, R305): a flit's credit may leave for another chip, and all that Oslink does with it is beside
the tiles, the plots and the packets. -/

namespace Sys2Proof.Machine

/-! ### Beside the links (R293 to R305) -/

/-- The fabric but for its credits, Bay, the programs and the chip's address. -/
def State.besideLinks (s : State) : FabSt × BaySt × Tab ProgSt × DWord :=
  ({ s.fab with credits := [] }, s.bay, s.osl.progs, s.reg Reg.OSL_CHIP_ADDR)

section
variable (s : State)

theorem State.besideLinks_updLink (l : Nat) (g : LinkSt → LinkSt) : (s.updLink l g).besideLinks = s.besideLinks := rfl

theorem State.besideLinks_addCnt {a : Nat} (h : Reg.OSL_CHIP_ADDR ≠ a) (n : Nat) : (s.addCnt a n).besideLinks = s.besideLinks := by
  rw [State.besideLinks, State.reg_addCnt_ne _ _ h]
  rfl

theorem State.besideLinks_bump {a : Nat} (h : Reg.OSL_CHIP_ADDR ≠ a) : (s.bump a).besideLinks = s.besideLinks := s.besideLinks_addCnt h 1

theorem State.besideLinks_sendFrame (l : Nat) (recs : List OslRec) : (s.sendFrame l recs).besideLinks = s.besideLinks :=
  (State.besideLinks_bump _ (by unfold Reg.OSL_CHIP_ADDR Reg.OSL_FRAMES_TX; omega)).trans rfl

theorem State.besideLinks_leavePool (c : Carried) : (s.leavePool c).besideLinks = s.besideLinks := by
  unfold State.leavePool
  split
  · rfl
  · split <;> rfl

theorem State.besideLinks_drainLink (l : Nat) : (s.drainLink l).besideLinks = s.besideLinks := by
  unfold State.drainLink
  dsimp only
  refine (State.besideLinks_updLink _ l _).trans (foldl_keeps (fun a : State × List Carried => a.1.besideLinks) (fun a c => ?_) _ _)
  split
  · rw [State.besideLinks_leavePool, State.besideLinks_sendFrame, State.besideLinks_updLink]
  · rfl

theorem State.besideLinks_sendDir (dim : Nat) (minus : Bool) (c : Carried) : (s.sendDir dim minus c).besideLinks = s.besideLinks := by
  unfold State.sendDir
  dsimp only
  split
  · rfl
  · exact State.besideLinks_drainLink _ _

theorem State.besideLinks_switchDir (dim : Nat) (minus : Bool) : (s.switchDir dim minus).besideLinks = s.besideLinks :=
  foldl_keeps State.besideLinks (fun u c => u.besideLinks_sendDir dim minus c) _ (s.takeSet dim minus).2

theorem State.besideLinks_toDir (dim : Nat) (minus : Bool) (c : Carried) : (s.toDir dim minus c).besideLinks = s.besideLinks := by
  unfold State.toDir
  dsimp only
  split
  · exact s.besideLinks_sendDir dim minus c
  · split
    · rw [State.besideLinks_sendDir, State.besideLinks_switchDir]
    · rfl

/-- A record that is no FLIT brings no packet. -/
theorem State.besideLinks_deliverRec {r : OslRec} (h : r.type ≠ 1) : (s.deliverRec r).besideLinks = s.besideLinks := by
  unfold State.deliverRec
  split
  · exact s.besideLinks_bump (by decide)
  · split
    · exact Eq.trans rfl (State.besideLinks_addCnt _ (by decide) _)
    · rfl

/-- A record that goes along a dimension, or cannot, is not at its chip. -/
theorem route_ne_localChip {p q : Prop} [Decidable p] [Decidable q] {k : Nat} {m m' : Bool} (x y z w : OslRec × Bool) :
    (if p then (Route.dir k m, x) else if q then (.undeliverable, y) else (.dir k m', z)) ≠ (.localChip, w) := by
  split
  · exact fun h => by cases h
  · split <;> exact fun h => by cases h

/-- The routing rule changes no record that has arrived. -/
theorem State.route_localChip {d : Option Nat} {r r' : OslRec} {b : Bool} (h : s.route d r = (.localChip, r', b)) : r' = r := by
  unfold State.route at h
  split at h
  · exact (Prod.mk.inj (Prod.mk.inj h).2).1.symm
  · exact absurd h (route_ne_localChip _ _ _ _)

theorem State.besideLinks_oslSubmit (d : Option Nat) {r : OslRec} (h : r.type ≠ 1) : (s.oslSubmit d r).besideLinks = s.besideLinks := by
  unfold State.oslSubmit State.oslCarry
  split
  next r' _ hroute =>
    rw [State.route_localChip _ hroute, State.besideLinks_deliverRec _ h, State.besideLinks_leavePool]
  next det _ =>
    rw [State.besideLinks_toDir]
    cases det
    · rfl
    · exact s.besideLinks_bump (by decide)
  · refine (foldl_keeps State.besideLinks (fun u p => by rfl) _ _).trans ?_
    rw [State.besideLinks_bump _ (by decide), State.besideLinks_leavePool]

/-- A CREDIT record is no FLIT record, whatever its program index. -/
theorem type_creditRec_ne (chip gx gy ch count prog gen : Nat) : (creditRec chip gx gy ch count prog gen).type ≠ 1 := by
  have hbit : (creditRec chip gx gy ch count prog gen).type.testBit 1 = true := by
    rw [OslRec.type, testBit_bits, creditRec]
    simp only [BitVec.toNat_ofNat, Nat.testBit_mod_two_pow, Nat.testBit_lor]
    have h2 : (2 <<< 61 : Nat).testBit (61 + 1) = true := by decide
    rw [h2]
    simp
  intro h
  rw [h] at hbit
  exact absurd hbit (by decide)

theorem State.besideLinks_returnCredit (k : Tok) : (s.returnCredit k).besideLinks = s.besideLinks := by
  unfold State.returnCredit
  split
  · rfl
  · split
    · rfl
    · exact State.besideLinks_oslSubmit _ none (type_creditRec_ne _ _ _ _ _ _ _)

end

/-! ### Beside the queues (R162, R168, R170) -/

/-- A tile but for its input queues. -/
def Tile.sansQueues (x : Tile) : Tile := { x with queues := ⟨[], []⟩, nextTag := ⟨0, []⟩ }

/-- The tiles but for their queues, the fabric but for its tiles and credits, Bay, the programs and the chip's address. -/
def State.besideQueues (s : State) : (Nat → Tile) × FabSt × BaySt × Tab ProgSt × DWord :=
  (fun j => (s.tile j).sansQueues, { s.fab with credits := [], tiles := ⟨{}, []⟩ }, s.bay, s.osl.progs, s.reg Reg.OSL_CHIP_ADDR)

section
variable {s u : State}

theorem State.besideQueues_of_besideLinks (h : u.besideLinks = s.besideLinks) : u.besideQueues = s.besideQueues :=
  congrArg (fun a : FabSt × BaySt × Tab ProgSt × DWord =>
    ((fun j => (a.1.tiles.get j).sansQueues : Nat → Tile), ({ a.1 with tiles := ⟨{}, []⟩ } : FabSt), a.2)) h

/-- An update of the queues of a tile alone. -/
theorem State.besideQueues_updTile (t : Nat) (g : Tile → Tile) (h : (g (s.tile t)).sansQueues = (s.tile t).sansQueues) :
    (s.updTile t g).besideQueues = s.besideQueues := by
  have htiles : (fun j => ((s.updTile t g).tile j).sansQueues) = fun j => (s.tile j).sansQueues := by
    funext j
    by_cases hj : j = t
    · rw [hj, State.tile_updTile_self, h]
    · rw [State.tile_updTile_ne _ _ _ hj]
  rw [State.besideQueues, htiles]
  rfl

theorem State.besideQueues_matchMore (t n : Nat) : (s.matchMore t n).besideQueues = s.besideQueues := by
  induction n generalizing s with
  | zero => rfl
  | succ n ih =>
    unfold State.matchMore
    dsimp only
    split
    · rfl
    · split
      · rfl
      · split
        · rfl
        · rw [ih, State.besideQueues_of_besideLinks (State.besideLinks_returnCredit _ _)]
          exact State.besideQueues_updTile _ _ rfl

theorem State.besideQueues_dequeue (t q : Nat) (ks : List Tok) : (s.dequeue t q ks).besideQueues = s.besideQueues := by
  have hcredits (v : State) : (ks.foldl (fun s k => if k.matched then s else s.returnCredit k) v).besideQueues = v.besideQueues :=
    foldl_keeps State.besideQueues (fun v k => by
      split
      · rfl
      · exact State.besideQueues_of_besideLinks (State.besideLinks_returnCredit _ _)) _ _
  rw [State.dequeue_eq, State.besideQueues_matchMore, hcredits]
  exact State.besideQueues_updTile _ _ rfl

theorem Tile.tagBad_of_plain {x : Tile} {q : Nat} (h : qOrdered (x.ctx.queue q) = false) (tag : Nat) : x.tagBad q tag = false := by
  simp [Tile.tagBad, h]

theorem State.besideQueues_putQueue {t q : Nat} (h : qOrdered ((s.tile t).ctx.queue q) = false) (k : Tok) :
    (s.putQueue t q k).besideQueues = s.besideQueues := by
  have hput (v : State) (hv : v.besideQueues = s.besideQueues) : (v.matchMore t 1).besideQueues = s.besideQueues :=
    (State.besideQueues_matchMore t 1).trans hv
  have hqueue : (s.queued t q k).besideQueues = s.besideQueues := State.besideQueues_updTile _ _ rfl
  unfold State.putQueue
  dsimp only
  rw [if_neg (by rw [Tile.tagBad_of_plain h]; exact Bool.false_ne_true)]
  split
  · exact hput _ hqueue
  · exact hqueue

section
variable (h : u.besideQueues = s.besideQueues)
include h

theorem State.sansQueues_of_besideQueues (j : Nat) : (u.tile j).sansQueues = (s.tile j).sansQueues := congrFun (Prod.mk.inj h).1 j

theorem State.ctx_of_besideQueues (j : Nat) : (u.tile j).ctx = (s.tile j).ctx :=
  (congrArg Tile.ctx (State.sansQueues_of_besideQueues h j) :)

theorem State.fab_of_besideQueues : u.fab.plots = s.fab.plots ∧ u.fab.packets = s.fab.packets := by
  obtain ⟨-, hrest⟩ := Prod.mk.inj h
  obtain ⟨hfab, -⟩ := Prod.mk.inj hrest
  exact ⟨(congrArg FabSt.plots hfab :), (congrArg FabSt.packets hfab :)⟩

theorem State.bay_of_besideQueues : u.bay = s.bay := (congrArg (fun a => a.2.2.1) h :)

theorem State.prog_of_besideQueues (p : Nat) : u.prog p = s.prog p :=
  congrArg (fun a : (Nat → Tile) × FabSt × BaySt × Tab ProgSt × DWord => a.2.2.2.1.get p) h

theorem State.me_of_besideQueues : u.me = s.me :=
  State.fld_of_reg_eq (f := Reg.OSL_CHIP_ADDR_addr) (congrArg (fun a : (Nat → Tile) × FabSt × BaySt × Tab ProgSt × DWord => a.2.2.2.2) h :)

end

end

end Sys2Proof.Machine
end

section
/-! Recurrent state and queue depths (R187, R189, R207, R225, R229): a span's state on its way from and to its slot, the sampling of queues, and
O37. -/

namespace Sys2Proof.Machine

/-! ### A span's state is loaded (R187, R229) -/

section
variable {s : State} {pi r k : Nat} {sp : Span}

/-- The state once a span's state has been read from its slot, its access fenced where the slot's lease is another's. -/
def State.spanRead (s : State) (pi r k : Nat) (sp : Span) : State :=
  if (s.spanState pi sp).2.1 then (s.spanState pi sp).2.2.fenceSpan r k else (s.spanState pi sp).2.2

/-- The read of a slot counts and marks, and writes no slot. -/
theorem State.spanRead_rest : (s.spanRead pi r k sp).fab = s.fab ∧ (s.spanRead pi r k sp).bay = s.bay := by
  have hstate : (s.spanState pi sp).2.2.fab = s.fab ∧ (s.spanState pi sp).2.2.bay = s.bay := by
    unfold State.spanState
    dsimp only
    split
    · exact ⟨rfl, rfl⟩
    · split
      · exact ⟨rfl, rfl⟩
      · split <;> exact ⟨rfl, rfl⟩
  unfold State.spanRead
  split
  · exact hstate
  · exact hstate

/-- The write-back that a span awaits, under the lease epoch it was loaded with. -/
def State.awaited (s : State) (pi r k : Nat) (sp : Span) : Back :=
  { row := r, span := k, slot := sp.slot, epoch := sp.slotEpoch, off := (s.seg sp.seg).prof.feBytes, order := (s.plot pi).order
    lanes := secStates (s.plot pi).image (descOff (s.plot pi).image (s.plot pi).sec (s.plot pi).wide) }

/-- The flits of a span's state. -/
def State.spanFlits (s : State) (pi : Nat) (sp : Span) : List Flit := flitsOf (s.spanState pi sp).1 0 ((s.spanState pi sp).1.length / 16)

/-- A plot that has passed a span on to its tiles. -/
def PlotSt.passed (q : PlotSt) (k : Nat) (b : Back) (keeps : Bool) (fs : List Flit) : PlotSt :=
  { q with spanLoad := k + 1, backs := q.backs ++ [b], kept := if keeps then q.kept ++ [(k, fs)] else q.kept }

theorem exec_stateLoad_of_none (h : s.nextSpan pi = none) : exec (.stateLoad pi) s = .next s := by
  show execStateLoad pi s = _
  rw [execStateLoad, h]

section
variable (hnext : s.nextSpan pi = some (r, k, sp))
include hnext

theorem exec_stateLoad_of_not_ready (h : (s.plot pi).pass = false ∨ (s.plot pi).deciding = true ∨
    secStates (s.plot pi).image (descOff (s.plot pi).image (s.plot pi).sec (s.plot pi).wide) = 0 ∨
    s.injectReady pi (descOff (s.plot pi).image (s.plot pi).sec (s.plot pi).wide) = false) : exec (.stateLoad pi) s = .next s := by
  show execStateLoad pi s = _
  rw [execStateLoad, hnext]
  exact congrArg Host.Outcome.next (if_pos h)

section
variable (hwide : (s.plot pi).wide = false) (hready : ¬((s.plot pi).pass = false ∨ (s.plot pi).deciding = true ∨
    secStates (s.plot pi).image (descOff (s.plot pi).image (s.plot pi).sec (s.plot pi).wide) = 0 ∨
    s.injectReady pi (descOff (s.plot pi).image (s.plot pi).sec (s.plot pi).wide) = false))
include hwide hready

/-- In a run that is not wide, the state comes from the slot once no earlier write-back to it is to come. -/
theorem exec_stateLoad_of_ready : exec (.stateLoad pi) s = .next (if s.slotWaits pi sp.slot = true then s else
    ((s.spanRead pi r k sp).updPlot pi fun q => q.passed k (s.awaited pi r k sp)
      (widenEn (s.plot pi).image (secOff (s.plot pi).image (s.plot pi).sec)) (s.spanFlits pi sp)).inject pi
        (descOff (s.plot pi).image (s.plot pi).sec (s.plot pi).wide) (s.spanFlits pi sp)) := by
  have hkept : (s.plot pi).kept.find? (fun e => (s.plot pi).wide && decide (e.1 = k)) = none :=
    List.find?_eq_none.2 fun e _ => by rw [hwide]; exact Bool.false_ne_true
  show execStateLoad pi s = _
  rw [execStateLoad, hnext]
  dsimp only
  rw [if_neg hready, hkept]
  rfl

end

end

/-- State flits for queues without an order are beside the plots and Bay. -/
theorem State.besideQueues_inject (h : ∀ j q, qOrdered ((s.tile j).ctx.queue q) = false) (o : Nat) (fs : List Flit) :
    (s.inject pi o fs).besideQueues = s.besideQueues := by
  refine List.foldlRecOn _ _ (motive := fun u : State => u.besideQueues = s.besideQueues) rfl fun u hu i _ => ?_
  dsimp only
  have hplain (j q : Nat) : qOrdered ((u.tile j).ctx.queue q) = false := by rw [State.ctx_of_besideQueues hu, h]
  split
  · exact (State.besideQueues_putQueue (s := u.free.2) (hplain _ _) _).trans hu
  · exact (State.besideQueues_putQueue (hplain _ _) _).trans hu

/-- A load leaves of its plot what it notes, and of Bay everything. -/
theorem State.inject_spanRead_rest (h : ∀ j q, qOrdered ((s.tile j).ctx.queue q) = false) (b : Back) (keeps : Bool) (fs : List Flit) (o : Nat) :
    ((((s.spanRead pi r k sp).updPlot pi fun q => q.passed k b keeps fs).inject pi o fs).plot pi) = (s.plot pi).passed k b keeps fs ∧
      (((s.spanRead pi r k sp).updPlot pi fun q => q.passed k b keeps fs).inject pi o fs).bay = s.bay := by
  obtain ⟨hfab, hbay⟩ := State.spanRead_rest (s := s) (pi := pi) (r := r) (k := k) (sp := sp)
  generalize s.spanRead pi r k sp = v at hfab hbay
  have htile (j : Nat) : (v.updPlot pi fun q => q.passed k b keeps fs).tile j = s.tile j := State.tile_of_tiles_eq (congrArg FabSt.tiles hfab) j
  have hkeep : ((v.updPlot pi fun q => q.passed k b keeps fs).inject pi o fs).besideQueues = _ :=
    State.besideQueues_inject (fun j q => by rw [htile, h]) o fs
  obtain ⟨hplots, -⟩ := State.fab_of_besideQueues hkeep
  refine ⟨?_, (State.bay_of_besideQueues hkeep).trans hbay⟩
  rw [State.plot, hplots, ← State.plot, State.plot_updPlot_self, State.plot, hfab, ← State.plot]

end

/-! ### A span's state goes back to its slot (R187, R207, R225, R229) -/

section
variable {s : State} {pi : Nat} {b : Back} {rest : List Back} {fs : List (Nat × Flit)} {left : List (Nat × Nat × Flit)}

/-- A plot out of whose flits a span's state has been taken. -/
def PlotSt.collectedFor (q : PlotSt) (b : Back) (rest : List Back) (left : List (Nat × Nat × Flit)) (inst : Nat) : PlotSt :=
  { q with backs := rest, collected := left, backs0 := if inst < q.inst then q.backs0.erase b else q.backs0 }

/-- A plot that holds a span's state for its section's decision. -/
def PlotSt.holding (q : PlotSt) (b : Back) (fs : List Flit) : PlotSt := { q with held := q.held ++ [.state b fs] }

/-- The run of a section that a collected state ended. -/
def endInstOf (fs : List (Nat × Flit)) : Nat := (fs.map (·.1)).foldl max 0

/-- Whether a collected state waits for the decision on the section that runs. -/
def PlotSt.holdsState (p : PlotSt) (fs : List (Nat × Flit)) : Bool :=
  p.pass && decide (endInstOf fs = p.inst) && widenEn p.image (secOff p.image p.sec)

theorem exec_stateWriteback_of_none (h : (s.plot pi).backs = []) : exec (.stateWriteback pi) s = .next s := by
  show execStateWriteback pi s = _
  rw [execStateWriteback]
  dsimp only
  rw [h]

section
variable (hb : (s.plot pi).backs = b :: rest)
include hb

theorem exec_stateWriteback_of_missing (h : takeState b.lanes (hdrStateBytes ((s.plot pi).image.take 64) / 16)
    (hdrStateBytes ((s.plot pi).image.take 64) / 16) (s.plot pi).collected = none) : exec (.stateWriteback pi) s = .next s := by
  show execStateWriteback pi s = _
  rw [execStateWriteback]
  dsimp only
  rw [hb]
  dsimp only
  rw [h]

theorem exec_stateWriteback_of_collected (h : takeState b.lanes (hdrStateBytes ((s.plot pi).image.take 64) / 16)
    (hdrStateBytes ((s.plot pi).image.take 64) / 16) (s.plot pi).collected = some (fs, left)) : exec (.stateWriteback pi) s = .next
      (if (s.plot pi).holdsState fs = true then
        (s.updPlot pi fun q => q.collectedFor b rest left (endInstOf fs)).updPlot pi fun q => q.holding b (fs.map (·.2))
      else (s.updPlot pi fun q => q.collectedFor b rest left (endInstOf fs)).writeSlot pi b (fs.map (·.2))) := by
  show execStateWriteback pi s = _
  rw [execStateWriteback]
  dsimp only
  rw [hb]
  dsimp only
  rw [h]
  rfl

end

/-- A slot that takes a span's state, under the tag of its model. -/
def Slot.written (x : Slot) (p : PlotSt) (b : Back) (fs : List Flit) : Slot :=
  { x.patchAt b.off (fs.flatMap flitBytes) with tag := p.handle, tagGen := p.gen }

/-- A write under the slot's own lease epoch. -/
theorem State.writeSlot_of_lease {fl : List Flit} (h : (s.bay.slots.get b.slot).epoch = b.epoch) :
    (s.writeSlot pi b fl).bay = { s.bay with slots := s.bay.slots.upd b.slot fun x => x.written (s.plot pi) b fl } ∧
      (s.writeSlot pi b fl).fab = s.fab := by
  unfold State.writeSlot
  dsimp only
  rw [if_neg (not_not.2 h)]
  split
  · split <;> exact ⟨rfl, rfl⟩
  · exact ⟨rfl, rfl⟩

theorem State.writeSlot_of_revoked {fl : List Flit} (h : (s.bay.slots.get b.slot).epoch ≠ b.epoch) : (s.writeSlot pi b fl).bay = s.bay := by
  unfold State.writeSlot
  rw [if_pos h]
  rfl

end

/-! ### Queues are sampled (R189) -/

/-- The length of the queue that a selection names. -/
def State.selDepth (s : State) (q : Nat) : Nat :=
  ((s.tile (tileIx (s.fld (Reg.FAB_QD_SEL_x q)) (s.fld (Reg.FAB_QD_SEL_y q)))).queues.get (s.fld (Reg.FAB_QD_SEL_queue q))).length

/-- One selection is sampled. -/
def State.sampleQueue (s : State) (q : Nat) : State :=
  if s.flag (Reg.FAB_QD_SEL_valid q) = false then s
  else
    let u := s.setFld (Reg.FAB_QD_LAST_last q) (s.selDepth q)
    ((u.setFld (Reg.FAB_QD_MAX_max q) (max (s.selDepth q) (u.fld (Reg.FAB_QD_MAX_max q)))).addCnt (Reg.FAB_QD_SUM q) (s.selDepth q)).bump
      (Reg.FAB_QD_CNT q)

theorem execQdSample_eq (s : State) : exec .qdSample s = .next
    (if s.fld Reg.FAB_QD_PERIOD_period_ns = 0 ∨ s.thyme.toNat % s.fld Reg.FAB_QD_PERIOD_period_ns ≠ 0 then s
    else (List.range 16).foldl State.sampleQueue s) := rfl

section
variable {s : State} {q : Nat}

theorem State.fab_sampleQueue (s : State) (q : Nat) : (s.sampleQueue q).fab = s.fab := by
  unfold State.sampleQueue
  split <;> rfl

/-- A sample writes the four registers of its selection. -/
theorem State.reg_sampleQueue_ne {a : Nat} (h : a ≠ Reg.FAB_QD_LAST q ∧ a ≠ Reg.FAB_QD_MAX q ∧ a ≠ Reg.FAB_QD_SUM q ∧ a ≠ Reg.FAB_QD_CNT q) :
    (s.sampleQueue q).reg a = s.reg a := by
  obtain ⟨hlast, hmax, hsum, hcnt⟩ := h
  unfold State.sampleQueue
  split
  · rfl
  · rw [State.reg_bump_ne _ hcnt, State.reg_addCnt_ne _ _ hsum, State.reg_setFld_ne _ _ _ hmax, State.reg_setFld_ne _ _ _ hlast]

theorem State.reg_sampleQueue_self (s : State) (q : Nat) :
    (s.sampleQueue q).reg (Reg.FAB_QD_CNT q) =
      (if s.flag (Reg.FAB_QD_SEL_valid q) then s.reg (Reg.FAB_QD_CNT q) + 1 else s.reg (Reg.FAB_QD_CNT q)) ∧
    (s.sampleQueue q).reg (Reg.FAB_QD_SUM q) = (if s.flag (Reg.FAB_QD_SEL_valid q) then
      s.reg (Reg.FAB_QD_SUM q) + BitVec.ofNat 64 (s.selDepth q) else s.reg (Reg.FAB_QD_SUM q)) := by
  have hlast : Reg.FAB_QD_CNT q ≠ Reg.FAB_QD_LAST q := by unfold Reg.FAB_QD_CNT Reg.FAB_QD_LAST; omega
  have hmax : Reg.FAB_QD_CNT q ≠ Reg.FAB_QD_MAX q := by unfold Reg.FAB_QD_CNT Reg.FAB_QD_MAX; omega
  have hsum : Reg.FAB_QD_CNT q ≠ Reg.FAB_QD_SUM q := by unfold Reg.FAB_QD_CNT Reg.FAB_QD_SUM; omega
  have hlast' : Reg.FAB_QD_SUM q ≠ Reg.FAB_QD_LAST q := by unfold Reg.FAB_QD_SUM Reg.FAB_QD_LAST; omega
  have hmax' : Reg.FAB_QD_SUM q ≠ Reg.FAB_QD_MAX q := by unfold Reg.FAB_QD_SUM Reg.FAB_QD_MAX; omega
  unfold State.sampleQueue
  split
  next h => simp [h]
  next h =>
    rw [State.reg_bump_self, State.reg_addCnt_ne _ _ hsum, State.reg_setFld_ne _ _ _ hmax, State.reg_setFld_ne _ _ _ hlast,
      State.reg_bump_ne _ hsum.symm, State.reg_addCnt_self, State.reg_setFld_ne _ _ _ hmax', State.reg_setFld_ne _ _ _ hlast']
    simp [Bool.eq_true_of_not_eq_false h]

/-- The registers of a selection other than those a sample of another one writes. -/
theorem qdRegs_ne {q j : Nat} (hq : q < 16) (hj : j ≠ q) {a : Nat} (ha : a = Reg.FAB_QD_SEL q ∨ a = Reg.FAB_QD_SUM q ∨ a = Reg.FAB_QD_CNT q) :
    a ≠ Reg.FAB_QD_LAST j ∧ a ≠ Reg.FAB_QD_MAX j ∧ a ≠ Reg.FAB_QD_SUM j ∧ a ≠ Reg.FAB_QD_CNT j := by
  unfold Reg.FAB_QD_SEL Reg.FAB_QD_SUM Reg.FAB_QD_CNT at ha
  unfold Reg.FAB_QD_LAST Reg.FAB_QD_MAX Reg.FAB_QD_SUM Reg.FAB_QD_CNT
  omega

/-- Samples of other selections leave the fabric and a selection's registers alone. -/
theorem State.foldl_sampleQueue_rest (hq : q < 16) {l : List Nat} (hl : q ∉ l) : (l.foldl State.sampleQueue s).fab = s.fab ∧
    ∀ a, a = Reg.FAB_QD_SEL q ∨ a = Reg.FAB_QD_SUM q ∨ a = Reg.FAB_QD_CNT q → (l.foldl State.sampleQueue s).reg a = s.reg a :=
  List.foldlRecOn l _ (motive := fun u : State => u.fab = s.fab ∧
      ∀ a, a = Reg.FAB_QD_SEL q ∨ a = Reg.FAB_QD_SUM q ∨ a = Reg.FAB_QD_CNT q → u.reg a = s.reg a) ⟨rfl, fun _ _ => rfl⟩
    fun u ⟨hfab, hreg⟩ j hj => ⟨(u.fab_sampleQueue j).trans hfab, fun a ha =>
      (State.reg_sampleQueue_ne (qdRegs_ne hq (fun h => hl (h ▸ hj)) ha)).trans (hreg a ha)⟩

/-- Each selection is sampled once. -/
theorem State.foldl_sampleQueue_self (hq : q < 16) :
    ((List.range 16).foldl State.sampleQueue s).reg (Reg.FAB_QD_CNT q) = (s.sampleQueue q).reg (Reg.FAB_QD_CNT q) ∧
      ((List.range 16).foldl State.sampleQueue s).reg (Reg.FAB_QD_SUM q) = (s.sampleQueue q).reg (Reg.FAB_QD_SUM q) := by
  obtain ⟨l, r, hlr⟩ := List.append_of_mem (List.mem_range.2 hq)
  have hnodup : (l ++ q :: r).Nodup := hlr ▸ List.nodup_range
  obtain ⟨hl, hr⟩ : q ∉ l ∧ q ∉ r := by
    rw [List.nodup_middle, List.nodup_cons, List.mem_append, not_or] at hnodup
    exact hnodup.1
  obtain ⟨hfab, hreg⟩ := State.foldl_sampleQueue_rest (s := s) hq hl
  obtain ⟨-, hafter⟩ := State.foldl_sampleQueue_rest (s := (l.foldl State.sampleQueue s).sampleQueue q) hq hr
  have hflag : (l.foldl State.sampleQueue s).flag (Reg.FAB_QD_SEL_valid q) = s.flag (Reg.FAB_QD_SEL_valid q) :=
    State.flag_of_reg_eq (hreg _ (.inl rfl))
  have hdepth : (l.foldl State.sampleQueue s).selDepth q = s.selDepth q := by
    have hfld (f : Fld) (hf : f.addr = Reg.FAB_QD_SEL q) : (l.foldl State.sampleQueue s).fld f = s.fld f :=
      State.fld_of_reg_eq (hreg _ (.inl hf))
    unfold State.selDepth State.tile
    rw [hfab, hfld _ rfl, hfld _ rfl, hfld _ rfl]
  obtain ⟨hcnt, hsum⟩ := State.reg_sampleQueue_self (l.foldl State.sampleQueue s) q
  obtain ⟨hcnt', hsum'⟩ := State.reg_sampleQueue_self s q
  rw [hlr, List.foldl_append, List.foldl_cons, hafter _ (.inr (.inr rfl)), hafter _ (.inr (.inl rfl)), hcnt, hsum, hcnt', hsum', hflag, hdepth,
    hreg _ (.inr (.inr rfl)), hreg _ (.inr (.inl rfl))]
  exact ⟨rfl, rfl⟩

end

/-! ### O37 -/

/-- Settles O37: the load, the write-back and the sampling, each as its command does it. -/
theorem recurrentStateFollowsItsSlot : Obligations.RecurrentStateFollowsItsSlot := by
  refine ⟨fun pi s => ?_, fun pi s => ?_, fun s => ?_⟩
  · intro p o
    refine ⟨fun h => ?_, fun r k sp hnext hwide hpass hdec hstates hinj => ?_⟩
    · cases hnext : s.nextSpan pi with
      | none => exact exec_stateLoad_of_none hnext
      | some e =>
        obtain ⟨r, k, sp⟩ := e
        exact exec_stateLoad_of_not_ready hnext (h.resolve_left (by rw [hnext]; exact fun hc => by cases hc))
    · have hready : ¬(p.pass = false ∨ p.deciding = true ∨ secStates p.image o = 0 ∨ s.injectReady pi o = false) := by
        rw [hpass, hdec, hinj]
        simpa using hstates
      have hexec := exec_stateLoad_of_ready hnext hwide hready
      refine ⟨fun hw => by rw [hexec, if_pos hw], fun hw hplain => ?_⟩
      rw [if_neg (Bool.eq_false_iff.1 hw)] at hexec
      obtain ⟨hplot, hbay'⟩ := State.inject_spanRead_rest (r := r) (k := k) (sp := sp) hplain (s.awaited pi r k sp)
        (widenEn p.image (secOff p.image p.sec)) (s.spanFlits pi sp) o
      refine ⟨_, s.awaited pi r k sp, hexec, ?_, ?_, rfl, rfl, rfl, rfl, hbay'⟩
      · rw [hplot]
        rfl
      · rw [hplot]
        rfl
  · intro p
    refine ⟨exec_stateWriteback_of_none, fun b rest hb => ?_⟩
    intro n sl
    refine ⟨exec_stateWriteback_of_missing hb, fun fs left h => ?_⟩
    intro now
    have hexec := exec_stateWriteback_of_collected hb h
    refine ⟨fun hnow => ?_, fun hnow hl => ?_, fun hnow hl => ?_⟩
    · rw [if_pos (show p.holdsState fs = true from hnow)] at hexec
      refine ⟨_, hexec, rfl, ?_, ?_⟩
      · rw [State.plot_updPlot_self, State.plot_updPlot_self]
        rfl
      · rw [State.plot_updPlot_self, State.plot_updPlot_self]
        rfl
    · rw [if_neg (show ¬p.holdsState fs = true from Bool.eq_false_iff.1 hnow)] at hexec
      obtain ⟨hbay, hfab⟩ := State.writeSlot_of_lease (s := s.updPlot pi fun q => q.collectedFor b rest left (endInstOf fs)) (pi := pi)
        (fl := fs.map (·.2)) hl
      refine ⟨_, hexec, ?_, ?_, fun j hj => ?_⟩
      · rw [State.plot, hfab, ← State.plot, State.plot_updPlot_self]
        rfl
      · rw [hbay, State.plot_updPlot_self]
        exact Tab.get_upd_self _ _ _
      · rw [hbay]
        exact Tab.get_upd_ne _ _ hj
    · rw [if_neg (show ¬p.holdsState fs = true from Bool.eq_false_iff.1 hnow)] at hexec
      exact ⟨_, hexec, congrArg BaySt.slots (State.writeSlot_of_revoked hl)⟩
  · intro period
    rw [execQdSample_eq]
    refine ⟨fun h => by rw [if_pos h], fun hp hz => ⟨_, congrArg Host.Outcome.next (if_neg ?_), ?_, fun q hq => ?_⟩⟩
    · rintro (h | h)
      · exact hp h
      · exact h hz
    · exact foldl_keeps State.fab State.fab_sampleQueue _ s
    · obtain ⟨hcnt, hsum⟩ := State.foldl_sampleQueue_self (s := s) hq
      obtain ⟨hcnt', hsum'⟩ := State.reg_sampleQueue_self s q
      exact ⟨hcnt.trans hcnt', hsum.trans hsum'⟩

end Sys2Proof.Machine
end

section
/-! Routers, credits and flow units (R160 to R162, R166, R207, R365): a packet's hop and its landing, the return of a credit, the tokens of flow
units, and O34. -/

namespace Sys2Proof.Machine

/-! ### The way of a packet (R161) -/

theorem hopTo_eq_none (x y gx gy : Nat) : hopTo x y gx gy = none ↔ x = gx ∧ y = gy := by
  unfold hopTo
  split
  · simp; omega
  · split
    · simp; omega
    · split
      · simp; omega
      · split
        · simp; omega
        · simp; omega

theorem hopTo_nearer {x y gx gy a b p : Nat} (h : hopTo x y gx gy = some (a, b, p)) :
    ((a : Int) - gx).natAbs + ((b : Int) - gy).natAbs + 1 = ((x : Int) - gx).natAbs + ((y : Int) - gy).natAbs ∧ (x ≠ gx → b = y) := by
  unfold hopTo at h
  split at h
  · cases h; omega
  · split at h
    · cases h; omega
    · split at h
      · cases h; omega
      · split at h
        · cases h; omega
        · cases h

section
variable {s : State} {which : Nat} {k : Packet}

/-- A packet has left its buffer, with a handshake at its router. -/
def State.hopGone (s : State) (which : Nat) (k : Packet) : State :=
  (s.updFab fun b => { b with packets := refillLocal [] (b.packets.eraseIdx which) }).handshake (tileIx k.x k.y)

/-- A packet has moved on to another router. -/
def State.hopped (s : State) (which : Nat) (k : Packet) (a b p : Nat) : State :=
  ((s.hopGone which k).updFab fun f => { f with packets := f.packets ++ [{ k with x := a, y := b, port := p }] }).handshake (tileIx a b)

theorem State.tile_hopGone_self : (s.hopGone which k).tile (tileIx k.x k.y) = { s.tile (tileIx k.x k.y) with readyNs := 0 } := by
  rw [State.hopGone, State.handshake, State.tile_updTile_self]
  rfl

section
variable (hk : s.fab.packets[which]? = some k)
include hk

theorem exec_routerHop_of_stuck (h : s.mayHop which k = false) : exec (.routerHop which) s = .next s := by
  show execRouterHop which s = _
  rw [execRouterHop, hk]
  exact congrArg Host.Outcome.next (if_pos h)

theorem exec_routerHop_of_waits (h : isHead s.fab.packets which k = false ∨ k.port = 5) : exec (.routerHop which) s = .next s := by
  refine exec_routerHop_of_stuck hk ?_
  unfold State.mayHop
  obtain h | h := h <;> simp [h]

section
variable (hhead : isHead s.fab.packets which k = true) (hport : k.port ≠ 5)
include hhead hport

theorem exec_routerHop_of_sunk (hsunk : s.sunk k.x k.y = true) : exec (.routerHop which) s = .next (s.hopGone which k) := by
  have hmay : s.mayHop which k = true := by
    unfold State.mayHop
    simp [hhead, hport, hsunk]
  show execRouterHop which s = _
  rw [execRouterHop, hk]
  exact congrArg Host.Outcome.next ((if_neg (by rw [hmay]; decide)).trans (if_pos hsunk))

variable (hsunk : s.sunk k.x k.y = false)
include hsunk

theorem exec_routerHop_of_room {a b p : Nat} (hnext : hopTo k.x k.y k.goal.1 k.goal.2 = some (a, b, p))
    (hroom : s.sunk a b = true ∨ bufferLoad s.fab.packets a b p k.vc < 4) : exec (.routerHop which) s = .next
      (if s.sunk a b = true then (s.hopGone which k).handshake (tileIx a b) else s.hopped which k a b p) := by
  have hmay : s.mayHop which k = true := by
    unfold State.mayHop Packet.next
    rw [hnext]
    simp [hhead, hport, hroom]
  show execRouterHop which s = _
  rw [execRouterHop, hk]
  dsimp only
  rw [if_neg (by rw [hmay]; decide), if_neg (by rw [hsunk]; decide), Packet.next, hnext]
  rfl

omit hhead hport in
theorem exec_routerHop_of_full {a b p : Nat} (hnext : hopTo k.x k.y k.goal.1 k.goal.2 = some (a, b, p)) (hs : s.sunk a b = false)
    (hfull : 4 ≤ bufferLoad s.fab.packets a b p k.vc) : exec (.routerHop which) s = .next s := by
  refine exec_routerHop_of_stuck hk ?_
  unfold State.mayHop Packet.next
  rw [hnext]
  simp [hsunk, hs, Nat.not_lt.2 hfull]

theorem exec_routerHop_of_goal (hgoal : k.x = k.goal.1 ∧ k.y = k.goal.2) :
    exec (.routerHop which) s = .next ((s.hopGone which k).land k) := by
  have hnext : k.next = none := (hopTo_eq_none _ _ _ _).2 hgoal
  have hmay : s.mayHop which k = true := by
    unfold State.mayHop
    rw [hnext]
    simp [hhead, hport]
  show execRouterHop which s = _
  rw [execRouterHop, hk]
  dsimp only
  rw [if_neg (by rw [hmay]; decide), if_neg (by rw [hsunk]; decide), hnext]
  rfl

end

end

/-! ### Landing (R139, R160, R207) -/

/-- A flit of the running section lands at its tile. -/
theorem State.land_of_tile {gx gy q : Nat} (hdest : k.dest = .tile gx gy q) (hplot : (s.tile (tileIx gx gy)).plot = some k.plot)
    (hinst : (s.tile (tileIx gx gy)).inst = k.inst) (hphase : (s.tile (tileIx gx gy)).phase ≠ .off) (hkind : k.kind ≠ .sectionEnd) :
    s.land k = s.putQueue (tileIx gx gy) q k.tok := by
  unfold State.land
  rw [hdest]
  dsimp only
  rw [if_neg (not_not.2 hplot), if_neg hkind, if_neg (not_or.2 ⟨not_not.2 hinst, hphase⟩)]

/-- A plot that holds a result for its section's decision. -/
def State.resultHeld (s : State) (k : Packet) (r n : Nat) (rest : List (Nat × Nat)) : State :=
  (s.updPlot k.plot fun q => { q with expect := rest, expect0 := if k.inst < q.inst then q.expect0.drop 1 else q.expect0 }).updPlot k.plot
    fun q => { q with held := q.held ++ [.record r n (resultHalf ((s.plot k.plot).image.take 64) k.tok.flit) k.widened] }

/-- A result of a section that may be widened lands at the early reply unit. -/
theorem State.land_of_reply {r n : Nat} {rest : List (Nat × Nat)} (hdest : k.dest = .reply) (hkind : k.kind ≠ .sectionEnd)
    (hsrc : k.tok.src = none) (hjob : (s.plot k.plot).job = none) (hprog : (s.plot k.plot).prog = none)
    (hexp : (s.plot k.plot).expect = (r, n) :: rest) (hpass : (s.plot k.plot).pass = true) (hinst : k.inst = (s.plot k.plot).inst)
    (hwiden : widenEn (s.plot k.plot).image (secOff (s.plot k.plot).image (s.plot k.plot).sec) = true) :
    s.land k = s.resultHeld k r n rest := by
  have hcredit : s.returnCredit k.tok = s := by rw [State.returnCredit, hsrc]
  unfold State.land
  rw [hdest]
  dsimp only
  rw [if_neg hkind]
  unfold State.deliverReply
  dsimp only
  rw [hcredit, hjob, hprog, hexp]
  dsimp only
  rw [if_neg (by decide), if_pos (by rw [hpass, hwiden, decide_eq_true hinst]; rfl)]
  rfl

theorem State.plot_resultHeld {r n : Nat} {rest : List (Nat × Nat)} : ((s.resultHeld k r n rest).plot k.plot).expect = rest ∧
    ((s.resultHeld k r n rest).plot k.plot).held = (s.plot k.plot).held ++
      [.record r n (resultHalf ((s.plot k.plot).image.take 64) k.tok.flit) k.widened] := by
  rw [State.resultHeld, State.plot_updPlot_self, State.plot_updPlot_self]
  exact ⟨rfl, rfl⟩

end

/-! ### Credits (R162, R182) -/

section
variable {s : State} {which : Nat} {c : Src}

theorem exec_creditReturn_of_some (hc : s.fab.credits[which]? = some c) : exec (.creditReturn which) s = .next
    (let u := s.updFab fun b => { b with credits := b.credits.eraseIdx which }
     if (s.tile c.tile).inst = c.inst then u.updTile c.tile fun x => { x with spent := x.spent.upd c.ch (· - 1) } else u) := by
  show execCreditReturn which s = _
  rw [execCreditReturn, hc]
  rfl

theorem exec_creditReturn_gives (hc : s.fab.credits[which]? = some c) : ∃ u, exec (.creditReturn which) s = .next u ∧
    u.fab.credits = s.fab.credits.eraseIdx which ∧ tilesBut s u c.tile ∧
    (u.tile c.tile).spent.get c.ch = (s.tile c.tile).spent.get c.ch - (if (s.tile c.tile).inst = c.inst then 1 else 0) := by
  refine ⟨_, exec_creditReturn_of_some hc, ?_⟩
  dsimp only
  split
  · refine ⟨rfl, tilesBut_updTile _ _ _, ?_⟩
    rw [State.tile_updTile_self]
    exact Tab.get_upd_self _ _ _
  · exact ⟨rfl, fun _ _ => rfl, rfl⟩

end

/-! ### Flow units (R166) -/

section
variable {s u : State} {t : Nat}

/-- Where a channel leads does not depend on the queues. -/
theorem State.chanDest_of_besideQueues (h : u.besideQueues = s.besideQueues) (k : Nat) : u.chanDest t k = s.chanDest t k := by
  have hctx := State.ctx_of_besideQueues h t
  have hplot : (u.tile t).plot = (s.tile t).plot := (congrArg Tile.plot (State.sansQueues_of_besideQueues h t) :)
  obtain ⟨hplots, -⟩ := State.fab_of_besideQueues h
  have hp (p : Nat) : u.plot p = s.plot p := by rw [State.plot, hplots, ← State.plot]
  unfold State.chanDest
  dsimp only
  rw [hctx, hplot, hp, State.me_of_besideQueues h]
  simp only [State.prog_of_besideQueues h]

end

section
variable {s : State} {t : Fin 4096} {unit : Fin 4} {d k : Tok}

theorem exec_flowUnitToken_of_off (h : bits ((s.tile t.val).ctx.unit unit.val) 3 0 = 0) : exec (.flowUnitToken t unit) s = .next s := by
  show execFlowUnitToken t unit s = _
  unfold execFlowUnitToken
  dsimp only
  rw [h]
  split <;> rfl

section
variable (hphase : (s.tile t.val).phase ≠ .off)
include hphase

theorem exec_flowUnitToken_of_steer (hf : bits ((s.tile t.val).ctx.unit unit.val) 3 0 = 1)
    (hd : (s.tile t.val).front (bits ((s.tile t.val).ctx.unit unit.val) 16 12) = some d)
    (hk : (s.tile t.val).front (bits ((s.tile t.val).ctx.unit unit.val) 21 17) = some k) {o : Nat}
    (ho : o = if k.ctl = true then bits ((s.tile t.val).ctx.unit unit.val) 31 27 else bits ((s.tile t.val).ctx.unit unit.val) 26 22)
    (hlt : o < 16) (hsend : s.canSend t.val o 1 = true) : exec (.flowUnitToken t unit) s = .next
      (((s.dequeue t.val (bits ((s.tile t.val).ctx.unit unit.val) 21 17) [k]).dequeue t.val
        (bits ((s.tile t.val).ctx.unit unit.val) 16 12) [d]).sendFlit t.val o .data d.tag d.flit) := by
  show execFlowUnitToken t unit s = _
  unfold execFlowUnitToken
  dsimp only
  simp only [if_neg hphase, hf, hd, hk, ← ho]
  rw [if_pos (by rw [State.outReady, hsend, Bool.or_true])]
  exact congrArg Host.Outcome.next (if_neg (Nat.not_le.2 hlt))

theorem exec_flowUnitToken_of_gate (hf : bits ((s.tile t.val).ctx.unit unit.val) 3 0 = 4)
    (hd : (s.tile t.val).front (bits ((s.tile t.val).ctx.unit unit.val) 16 12) = some d)
    (hk : (s.tile t.val).front (bits ((s.tile t.val).ctx.unit unit.val) 21 17) = some k) (hctl : k.ctl = false) :
    exec (.flowUnitToken t unit) s = .next ((s.dequeue t.val (bits ((s.tile t.val).ctx.unit unit.val) 21 17) [k]).dequeue t.val
      (bits ((s.tile t.val).ctx.unit unit.val) 16 12) [d]) := by
  show execFlowUnitToken t unit s = _
  unfold execFlowUnitToken
  dsimp only
  simp only [if_neg hphase, hf, hd, hk]
  exact congrArg Host.Outcome.next (if_neg (by rw [hctl]; decide))

/-- The count of a flow unit. -/
def State.unitCount (s : State) (t u n : Nat) : State := s.updTile t fun x => { x with units := x.units.set u n }

theorem exec_flowUnitToken_of_dropped (hf : bits ((s.tile t.val).ctx.unit unit.val) 3 0 = 6)
    (hd : (s.tile t.val).front (bits ((s.tile t.val).ctx.unit unit.val) 16 12) = some d) (hn : (s.tile t.val).units.get unit.val ≠ 0) :
    exec (.flowUnitToken t unit) s = .next ((s.unitCount t.val unit.val
      (((s.tile t.val).units.get unit.val + 1) % (bits ((s.tile t.val).ctx.unit unit.val) 11 4 + 1))).dequeue t.val
        (bits ((s.tile t.val).ctx.unit unit.val) 16 12) [d]) := by
  show execFlowUnitToken t unit s = _
  unfold execFlowUnitToken
  dsimp only
  simp only [if_neg hphase, hf, hd]
  exact congrArg Host.Outcome.next ((if_neg (fun h => hn h.1)).trans (if_neg hn))

end

/-- Flits that leave their queues send no packet. -/
theorem State.packets_dequeue (s : State) (t q : Nat) (ks : List Tok) : (s.dequeue t q ks).fab.packets = s.fab.packets :=
  (State.fab_of_besideQueues (s.besideQueues_dequeue t q ks)).2

theorem State.units_dequeue (s : State) (t q : Nat) (ks : List Tok) (j : Nat) : ((s.dequeue t q ks).tile j).units = (s.tile j).units :=
  (congrArg Tile.units (State.sansQueues_of_besideQueues (s.besideQueues_dequeue t q ks) j) :)

end

/-! ### O34 -/

/-- Settles O34: the way of a packet and its landing, the credit, and one flow unit of each of four functions. -/
theorem routersCreditsAndFlowUnits : Obligations.RoutersCreditsAndFlowUnits := by
  refine ⟨fun x y gx gy => ⟨hopTo_eq_none x y gx gy, fun a b p => hopTo_nearer⟩, fun which s k hk => ?_,
    fun which s c hc => exec_creditReturn_gives hc, fun t unit s => ?_⟩
  · intro gone
    refine ⟨exec_routerHop_of_waits hk, fun hhead hport hsunk => ⟨_, exec_routerHop_of_sunk hk hhead hport hsunk, rfl, rfl⟩,
      fun hhead hport hsunk => ⟨fun a b p hnext => ⟨fun hs hroom => ?_, exec_routerHop_of_full hk hsunk hnext, fun hs => ?_⟩,
        fun gx gy q hdest hx hy => ?_, fun r n rest hdest hx hkind hsrc => ?_⟩⟩
    · refine ⟨s.hopped which k a b p, ?_, rfl, rfl⟩
      rw [exec_routerHop_of_room hk hhead hport hsunk hnext (.inr hroom), if_neg (by rw [hs]; decide)]
    · refine ⟨(s.hopGone which k).handshake (tileIx a b), ?_, rfl, rfl⟩
      rw [exec_routerHop_of_room hk hhead hport hsunk hnext (.inl hs), if_pos hs]
    · subst hx hy
      intro d hplot hinst hphase hseq hbad hkind
      have hgoal : k.x = k.goal.1 ∧ k.y = k.goal.2 := by rw [Packet.goal, hdest]; exact ⟨rfl, rfl⟩
      have htile : (s.hopGone which k).tile (tileIx k.x k.y) = { d with readyNs := 0 } := State.tile_hopGone_self
      have hland : (s.hopGone which k).land k = (s.hopGone which k).queued (tileIx k.x k.y) q k.tok :=
        (State.land_of_tile hdest (by rw [htile]; exact hplot) (by rw [htile]; exact hinst) (by rw [htile]; exact hphase) hkind).trans
          (State.putQueue_of_seq (by rw [htile]; exact hbad) (by rw [htile]; exact hseq))
      refine ⟨_, exec_routerHop_of_goal hk hhead hport hsunk hgoal, ?_, ?_⟩
      · rw [hland]
        rfl
      · rw [hland, State.queues_queued, htile]
        rfl
    · intro p hjob hprog hexp hpass hinst hwiden
      have hgoal : k.x = k.goal.1 ∧ k.y = k.goal.2 := by rw [Packet.goal, hdest]; exact ⟨hx, rfl⟩
      have hland : (s.hopGone which k).land k = (s.hopGone which k).resultHeld k r n rest :=
        State.land_of_reply hdest hkind hsrc hjob hprog hexp hpass hinst hwiden
      obtain ⟨hexpect, hheld⟩ := State.plot_resultHeld (s := s.hopGone which k) (k := k) (r := r) (n := n) (rest := rest)
      refine ⟨_, exec_routerHop_of_goal hk hhead hport hsunk hgoal, ?_, ?_, ?_⟩
      · rw [hland]
        rfl
      · rw [hland, hexpect]
      · rw [hland, hheld]
        rfl
  · intro x c dq cq
    refine ⟨exec_flowUnitToken_of_off, fun d k hphase hf hne hd hk => ?_, fun d k hphase hf hd hk hctl => ?_, fun d hphase hf hd hn => ?_⟩
    · intro o hlt hsend
      have hkeep : ((s.dequeue t.val cq [k]).dequeue t.val dq [d]).besideQueues = s.besideQueues :=
        (State.besideQueues_dequeue _ _ _).trans (State.besideQueues_dequeue _ _ _)
      refine ⟨_, State.flitOut ((s.dequeue t.val cq [k]).dequeue t.val dq [d]) t.val o .data d.tag d.flit,
        exec_flowUnitToken_of_steer hphase hf hd hk rfl hlt hsend, ?_, rfl, rfl, rfl, ?_⟩
      · rw [State.packets_sendFlit, (State.fab_of_besideQueues hkeep).2]
      · exact (congrArg _ (Nat.mod_eq_of_lt hlt)).trans (State.chanDest_of_besideQueues hkeep o)
    · refine ⟨_, exec_flowUnitToken_of_gate hphase hf hd hk hctl, ?_⟩
      rw [State.packets_dequeue, State.packets_dequeue]
    · refine ⟨_, exec_flowUnitToken_of_dropped hphase hf hd hn, (State.packets_dequeue _ _ _ _).trans rfl, ?_⟩
      rw [State.units_dequeue, State.unitCount, State.tile_updTile_self]
      exact Tab.get_set_self _ _ _

end Sys2Proof.Machine
end

section
/-! The vector ALU and the function table (R158, R159, R198): lanes in flits, quads in registers, what the functions answer, and O33. -/

namespace Sys2Proof.Machine

/-! ### Elements in a flit -/

/-- Elements of `b` bits, the first lowest. -/
def packNat (b : Nat) (l : List Nat) : Nat := l.foldr (fun e a => e % 2 ^ b + 2 ^ b * a) 0

theorem packNat_lt (b : Nat) (l : List Nat) : packNat b l < 2 ^ (b * l.length) := by
  induction l with
  | nil => exact Nat.one_pos
  | cons e r ih =>
    have he : e % 2 ^ b < 2 ^ b := Nat.mod_lt _ (Nat.two_pow_pos b)
    have hr : packNat b r + 1 ≤ 2 ^ (b * r.length) := ih
    calc e % 2 ^ b + 2 ^ b * packNat b r < 2 ^ b + 2 ^ b * packNat b r := Nat.add_lt_add_right he _
      _ = 2 ^ b * (packNat b r + 1) := by ring
      _ ≤ 2 ^ b * 2 ^ (b * r.length) := Nat.mul_le_mul_left _ hr
      _ = 2 ^ (b * (r.length + 1)) := by rw [← pow_add]; congr 1; ring

theorem packNat_digit (b : Nat) (l : List Nat) (k : Nat) : packNat b l / 2 ^ (b * k) % 2 ^ b = (l[k]?).getD 0 % 2 ^ b := by
  induction l generalizing k with
  | nil => simp [packNat]
  | cons e r ih =>
    have hcons : packNat b (e :: r) = e % 2 ^ b + 2 ^ b * packNat b r := rfl
    have he : e % 2 ^ b < 2 ^ b := Nat.mod_lt _ (Nat.two_pow_pos b)
    cases k with
    | zero => simp [hcons]
    | succ k =>
      have hpow : 2 ^ (b * (k + 1)) = 2 ^ b * 2 ^ (b * k) := by rw [← pow_add]; congr 1; ring
      rw [hpow, ← Nat.div_div_eq_div_mul, hcons, Nat.add_mul_div_left _ _ (Nat.two_pow_pos b), Nat.div_eq_of_lt he, Nat.zero_add, ih]
      rfl

theorem elemRaw_packFlit {b k : Nat} (l : List Nat) (hk : k < 128 / b) : elemRaw b k (packFlit b l) = (l[k]?).getD 0 % 2 ^ b := by
  have hlen : b * (l.take (128 / b)).length ≤ 128 :=
    (Nat.mul_le_mul_left b (List.length_take_le _ _)).trans (Nat.mul_div_le 128 b)
  have hlt : packNat b (l.take (128 / b)) < 2 ^ 128 := (packNat_lt b _).trans_le (Nat.pow_le_pow_right (by decide) hlen)
  have hpack : (packFlit b l).toNat = packNat b (l.take (128 / b)) := (BitVec.toNat_ofNat _ _).trans (Nat.mod_eq_of_lt hlt)
  rw [elemRaw, hpack, Nat.shiftRight_eq_div_pow, packNat_digit, List.getElem?_take_of_lt hk]

/-! ### Lanes -/

/-- A lane: a signed number of 16 bits. -/
def isLane (a : Int) : Prop := -32768 ≤ a ∧ a ≤ 32767

theorem signedOf_rawOf {a : Int} (h : isLane a) : signedOf 16 (rawOf 16 a) = a := by
  obtain ⟨hlo, hhi⟩ := h
  unfold signedOf rawOf
  split <;> omega

theorem isLane_signedOf {n : Nat} (h : n < 65536) : isLane (signedOf 16 n) := by
  unfold signedOf isLane
  split <;> omega

theorem isLane_sat16 (a : Int) : isLane (sat16 a) := by
  unfold sat16 clamp isLane
  split
  · omega
  · split <;> omega

theorem isLane_lutLane (entry : Nat → Nat) (a : Int) : isLane (lutLane entry a) := isLane_sat16 _

theorem shiftRight_eq_ediv (p : Int) (n : Nat) : p >>> n = p / 2 ^ n := by
  rw [Int.shiftRight_eq_div_pow]
  norm_num

theorem isLane_shiftRight {a : Int} (h : isLane a) (n : Nat) : isLane (a >>> n) := by
  obtain ⟨hlo, hhi⟩ := h
  have hpos : (0 : Int) < 2 ^ n := by positivity
  rw [shiftRight_eq_ediv]
  exact ⟨Int.le_ediv_of_mul_le hpos (by nlinarith), Int.le_of_lt_add_one (Int.ediv_lt_of_lt_mul hpos (by nlinarith))⟩

theorem rawOf_lt (a : Int) : rawOf 16 a < 65536 := by
  unfold rawOf
  omega

theorem elemRaw_lt (k : Nat) (f : Flit) : elemRaw 16 k f < 65536 := Nat.mod_lt _ (by decide)

theorem lane_quad (f g : Flit) {k : Nat} (hk : k < 16) :
    (quadLanes [f, g])[k]? = some (signedOf 16 (if k < 8 then elemRaw 16 k f else elemRaw 16 (k - 8) g)) := by
  have happ : quadLanes [f, g] = lanesOf f ++ lanesOf g := by simp [quadLanes]
  have hlen : (lanesOf f).length = 8 := by simp [lanesOf]
  split
  next h =>
    rw [happ, List.getElem?_append_left (by omega)]
    simp [lanesOf, h]
  next h =>
    rw [happ, List.getElem?_append_right (by omega), hlen]
    simp [lanesOf, show k - 8 < 8 by omega]

/-- Lanes that go into two flits and come out of them. -/
theorem lane_laneFlits {l : List Int} (hl : l.length = 16) {k : Nat} (hk : k < 16) :
    (quadLanes (laneFlits l))[k]? = some (signedOf 16 (rawOf 16 ((l[k]?).getD 0))) := by
  obtain ⟨v, hv⟩ : ∃ v, l[k]? = some v := ⟨l[k], List.getElem?_eq_getElem (by omega)⟩
  have hflits : laneFlits l = [packFlit 16 (l.map (rawOf 16)), packFlit 16 ((l.map (rawOf 16)).drop 8)] := rfl
  have hraw : rawOf 16 v % 2 ^ 16 = rawOf 16 v := Nat.mod_eq_of_lt (rawOf_lt v)
  rw [hflits, lane_quad _ _ hk, hv]
  split
  next h => rw [elemRaw_packFlit _ h, List.getElem?_map, hv, Option.map_some, Option.getD_some, Option.getD_some, hraw]
  next h =>
    rw [elemRaw_packFlit _ (show k - 8 < 128 / 16 by omega), List.getElem?_drop, Nat.add_sub_cancel' (Nat.not_lt.1 h), List.getElem?_map, hv,
      Option.map_some, Option.getD_some, Option.getD_some, hraw]

/-- Every vector function of two lanes is a lane. -/
theorem vopLane_lane {func : Nat} (hf : func < 0x0C) (imm k : Nat) {a b : Int} (ha : isLane a) (hb : isLane b) :
    ∃ v, vopLane func imm k a b = some v ∧ isLane v := by
  have hA := rawOf_lt a
  have hB := rawOf_lt b
  interval_cases func
  · exact ⟨_, rfl, isLane_sat16 _⟩
  · exact ⟨_, rfl, isLane_sat16 _⟩
  · exact ⟨_, rfl, isLane_sat16 _⟩
  · exact ⟨_, rfl, by unfold isLane at *; omega⟩
  · exact ⟨_, rfl, by unfold isLane at *; omega⟩
  · exact ⟨_, rfl, isLane_signedOf (Nat.and_lt_two_pow _ (n := 16) hB)⟩
  · exact ⟨_, rfl, isLane_signedOf (Nat.or_lt_two_pow (n := 16) hA hB)⟩
  · exact ⟨_, rfl, isLane_signedOf (Nat.xor_lt_two_pow (n := 16) hA hB)⟩
  · exact ⟨_, rfl, isLane_sat16 _⟩
  · exact ⟨_, rfl, isLane_shiftRight ha _⟩
  · refine ⟨_, rfl, ?_⟩
    split
    · exact ⟨by decide, by decide⟩
    · exact ⟨by decide, by decide⟩
  · refine ⟨_, rfl, ?_⟩
    split
    · exact hb
    · exact ha

/-! ### Quads of registers (R158) -/

/-- A tile with a quad of its registers written. -/
def Tile.setQuad (x : Tile) (q : Nat) (f g : Flit) : Tile := (x.setPair (4 * (q % 16)) f).setPair (4 * (q % 16) + 2) g

section
variable (x : Tile) (f g : Flit)

theorem Tile.quad_setQuad_self (q : Nat) : (x.setQuad q f g).quad q = [f, g] := by
  have hlow : 4 * (q % 16) % 64 / 2 ≠ (4 * (q % 16) + 2) % 64 / 2 := by omega
  rw [Tile.quad, Tile.setQuad, Tile.pair_setPair_ne _ _ hlow, Tile.pair_setPair_same _ _ rfl, Tile.pair_setPair_same _ _ rfl]

theorem Tile.quad_setQuad_ne {q j : Nat} (h : j % 16 ≠ q % 16) : (x.setQuad q f g).quad j = x.quad j := by
  rw [Tile.quad, Tile.setQuad, Tile.pair_setPair_ne _ _ (by omega), Tile.pair_setPair_ne _ _ (by omega), Tile.pair_setPair_ne _ _ (by omega),
    Tile.pair_setPair_ne _ _ (by omega)]
  rfl

theorem Tile.quad_of_regs {x y : Tile} (h : y.regs = x.regs) (q : Nat) : y.quad q = x.quad q := by
  unfold Tile.quad
  rw [Tile.pair_of_regs h, Tile.pair_of_regs h]

/-- A lane of a quad. -/
def Tile.laneOf (x : Tile) (q k : Nat) : Option Int := (quadLanes (x.quad q))[k]?

theorem Tile.laneOf_lane {q k : Nat} (hk : k < 16) : ∃ a, x.laneOf q k = some a ∧ isLane a := by
  refine ⟨_, lane_quad _ _ hk, isLane_signedOf ?_⟩
  split
  · exact elemRaw_lt _ _
  · exact elemRaw_lt _ _

end

section
variable {s : State} {t i : Nat}

theorem State.writeDst_quad (h : miDk i = 0) (tag : Option Nat) (l : List Int) : s.writeDst t i tag true (laneFlits l) =
    s.updTile t fun x => x.setQuad (miDst i) (packFlit 16 (l.map (rawOf 16))) (packFlit 16 ((l.map (rawOf 16)).drop 8)) := if_pos h

/-- What an instruction that writes lanes to a quad leaves: the lanes there, and all else but the counters as it was. -/
theorem State.quad_written (h : miDk i = 0) {l : List Int} (hl : l.length = 16) (n : Nat) :
    let u := (s.writeDst t i none true (laneFlits l)).goesOn t i n
    tilesBut s u t ∧ (u.tile t).store = (s.tile t).store ∧ (u.tile t).groups = (s.tile t).groups ∧
      (∀ k, k < 16 → (u.tile t).laneOf (miDst i) k = some (signedOf 16 (rawOf 16 ((l[k]?).getD 0)))) ∧
      ∀ q, q % 16 ≠ miDst i % 16 → (u.tile t).quad q = (s.tile t).quad q := by
  intro u
  have htile : u.tile t = { ((s.tile t).setQuad (miDst i) (packFlit 16 (l.map (rawOf 16))) (packFlit 16 ((l.map (rawOf 16)).drop 8))).advance i
      with readyNs := 0 } := by
    rw [State.tile_goesOn, State.writeDst_quad h, State.tile_updTile_self]
  have hquad (q : Nat) : (u.tile t).quad q = ((s.tile t).setQuad (miDst i) (packFlit 16 (l.map (rawOf 16)))
      (packFlit 16 ((l.map (rawOf 16)).drop 8))).quad q := Tile.quad_of_regs (by rw [htile]; simp) q
  refine ⟨?_, ?_, ?_, fun k hk => ?_, fun q hq => ?_⟩
  · refine tilesBut.trans ?_ (tilesBut_goesOn _ _ _ _)
    rw [State.writeDst_quad h]
    exact tilesBut_updTile _ _ _
  · rw [htile]
    simp [Tile.setQuad, Tile.setPair]
  · rw [htile]
    simp [Tile.setQuad, Tile.setPair]
  · rw [Tile.laneOf, hquad, Tile.quad_setQuad_self]
    exact lane_laneFlits hl hk
  · rw [hquad, Tile.quad_setQuad_ne _ _ _ hq]

end

/-! ### VOP and LUT (R158, R159) -/

section
variable {s : State} {t instr i : Nat}

/-- Lanes of a quad: those an instruction enables by its function, the others as the destination has them. -/
def Tile.maskedLanes (x : Tile) (i : Nat) (v : Nat → Int) : List Int :=
  (List.range 16).map fun k => if bit (miLanes i) k then v k else (x.laneOf (miDst i) k).getD 0

theorem Tile.length_maskedLanes (x : Tile) (v : Nat → Int) : (x.maskedLanes i v).length = 16 := by
  simp [Tile.maskedLanes]

theorem Tile.getElem?_maskedLanes (x : Tile) (v : Nat → Int) {k : Nat} (hk : k < 16) :
    ((x.maskedLanes i v)[k]?).getD 0 = if bit (miLanes i) k then v k else (x.laneOf (miDst i) k).getD 0 := by
  simp [Tile.maskedLanes, hk]

/-- A lane that is masked off keeps its value. -/
theorem Tile.masked_keeps (x : Tile) {k : Nat} (hk : k < 16) :
    some (signedOf 16 (rawOf 16 ((x.laneOf (miDst i) k).getD 0))) = x.laneOf (miDst i) k := by
  obtain ⟨a, ha, hlane⟩ := x.laneOf_lane (q := miDst i) hk
  rw [ha, Option.getD_some, signedOf_rawOf hlane]

theorem State.oldLanes_of_reg (hdk : miDk i = 0) : s.oldLanes t i = (quadLanes ((s.tile t).quad (miDst i)), s) := if_pos hdk

variable (hdk : miDk i = 0) (hak : miAk i = 0)
include hdk hak

theorem State.vop_of_vector (hbk : miBk i = 0) (hf : miFunc i < 0x10) (tag : Option Nat) : s.vop t instr i tag =
    some (s.writeDst t i tag true (laneFlits ((s.tile t).maskedLanes i fun k =>
      (vopLane (miFunc i) (miImm i) k (((s.tile t).laneOf (miSa i) k).getD 0) (((s.tile t).laneOf (miSb i) k).getD 0)).getD 0))) := by
  have hdst : s.dstReady t i 2 = true := by simp [State.dstReady, hdk]
  have hn : inNeeds (s.tile t) i = [] := inNeeds_of_no_in (by rw [hak]; decide) (by rw [hbk]; decide)
  unfold State.vop
  dsimp only
  rw [if_pos hdst, State.oldLanes_of_reg hdk]
  dsimp only
  rw [if_neg (Nat.not_le.2 hf), State.takeSources_of_none hn, hak, hbk]
  rfl

/-- A requantisation writes its codes to the enabled lanes and counts one group of its instruction. -/
theorem State.vop_of_requant (hbk : miBk i ≠ 1) (hf : 0x10 ≤ miFunc i) (tag : Option Nat) : ∃ (u : State) (v : Nat → Int), s.vop t instr i tag =
    some (u.writeDst t i tag true (laneFlits ((s.tile t).maskedLanes i v))) ∧
    (u.tile t).groups = (s.tile t).groups.upd ((s.tile t).ctx.instrKey instr) (· + 1) := by
  have hdst : s.dstReady t i 2 = true := by simp [State.dstReady, hdk]
  have hn : inNeeds (s.tile t) i = [] := inNeeds_of_no_in (by rw [hak]; decide) hbk
  unfold State.vop
  dsimp only
  rw [if_pos hdst, State.oldLanes_of_reg hdk]
  dsimp only
  rw [if_pos hf, State.takeSources_of_none hn]
  refine ⟨_, _, rfl, ?_⟩
  rw [State.tile_updTile_self]
  split <;> rfl

theorem State.lut_of_reg (hbk : miBk i ≠ 1) (tag : Option Nat) : s.lut t i tag = some (s.writeDst t i tag true
    (laneFlits ((s.tile t).maskedLanes i fun k => lutLane (s.tile t).ctx.ftab (((s.tile t).laneOf (miSa i) k).getD 0)))) := by
  have hdst : s.dstReady t i 2 = true := by simp [State.dstReady, hdk]
  have hn : inNeeds (s.tile t) i = [] := inNeeds_of_no_in (by rw [hak]; decide) hbk
  unfold State.lut
  dsimp only
  rw [if_pos hdst, State.oldLanes_of_reg hdk]
  dsimp only
  rw [State.takeSources_of_none hn, hak]
  rfl

end

/-! ### O33 -/

/-- Settles O33: the quads of a vector function, of a requantisation and of the function table. -/
theorem vectorAluAndFunctionTable : Obligations.VectorAluAndFunctionTable := by
  intro t s i hdk hak x lane
  refine ⟨fun hat hbk hf => ?_, fun hat hf => ?_, fun hat hbk => ?_⟩
  · have hfire := State.fireOp_of_fire hat ((State.fire_vop (State.miOp_of_atTile hat)).trans
      (State.vop_of_vector hdk hak hbk (hf.trans (by decide)) none))
    obtain ⟨hothers, hstore, -, hlanes, hquads⟩ := State.quad_written (s := s) (t := t.val) hdk (Tile.length_maskedLanes x _) (x.cost i)
    refine ⟨_, congrArg Host.Outcome.next hfire, hothers, hstore, fun k a b hk ha hb => (hlanes k hk).trans ?_, hquads⟩
    have ha' : x.laneOf (miSa i) k = some a := ha
    have hb' : x.laneOf (miSb i) k = some b := hb
    rw [Tile.getElem?_maskedLanes _ _ hk]
    split
    · obtain ⟨a', ha2, hla⟩ := x.laneOf_lane (q := miSa i) hk
      obtain ⟨b', hb2, hlb⟩ := x.laneOf_lane (q := miSb i) hk
      rw [ha'] at ha2
      rw [hb'] at hb2
      cases ha2
      cases hb2
      obtain ⟨v, hv, hlane⟩ := vopLane_lane hf (miImm i) k hla hlb
      rw [ha', hb', Option.getD_some, Option.getD_some, hv, Option.getD_some, signedOf_rawOf hlane]
    · exact x.masked_keeps hk
  · refine ⟨_, rfl, fun hbk => ?_⟩
    obtain ⟨u, v, hvop, hgroups⟩ := State.vop_of_requant (s := s) (t := t.val) (instr := x.pc) hdk hak hbk hf none
    have hfire := State.fireOp_of_fire hat ((State.fire_vop (State.miOp_of_atTile hat)).trans hvop)
    obtain ⟨-, -, hgroups', hlanes, -⟩ := State.quad_written (s := u) (t := t.val) hdk (Tile.length_maskedLanes x v) (x.cost i)
    rw [hfire, hgroups', hgroups]
    refine ⟨Tab.get_upd_self _ _ _, fun k hk hbit => (hlanes k hk).trans ?_⟩
    rw [Tile.getElem?_maskedLanes _ _ hk, if_neg (by rw [hbit]; decide)]
    exact x.masked_keeps hk
  · have hfire := State.fireOp_of_fire hat ((State.fire_lut (State.miOp_of_atTile hat)).trans (State.lut_of_reg hdk hak hbk none))
    obtain ⟨hothers, hstore, -, hlanes, hquads⟩ := State.quad_written (s := s) (t := t.val) hdk (Tile.length_maskedLanes x _) (x.cost i)
    refine ⟨_, congrArg Host.Outcome.next hfire, hothers, hstore, fun k a hk ha => (hlanes k hk).trans ?_, hquads⟩
    have ha' : x.laneOf (miSa i) k = some a := ha
    rw [Tile.getElem?_maskedLanes _ _ hk]
    split
    · rw [ha', Option.getD_some, signedOf_rawOf (isLane_lutLane _ a)]
    · exact x.masked_keeps hk

end Sys2Proof.Machine
end

section
/-! The multiplier block and requantisation (R157, R194 to R200): accumulators, rounding, a group's exponent and escapes, the instructions MACW, MAC
and DRAIN, and O32. -/

namespace Sys2Proof.Machine

/-! ### Accumulators and rounding (R194, R200) -/

theorem clamp_of_mem {lo hi x : Int} (hlo : lo ≤ x) (hhi : x ≤ hi) : clamp lo hi x = x := by
  unfold clamp
  rw [if_neg (Int.not_lt.2 hlo), if_neg (Int.not_lt.2 hhi)]

theorem accAdd_exact {fmt : Nat} {a : Int × Bool} {x : Int} (hlo : -(2 ^ (accWidth fmt + 7) - 1) ≤ a.1 + x)
    (hhi : a.1 + x ≤ 2 ^ (accWidth fmt + 7) - 1) : accAdd fmt a x = (a.1 + x, a.2) := by
  unfold accAdd
  dsimp only
  rw [clamp_of_mem hlo hhi, decide_eq_false (Int.not_lt.2 hlo), decide_eq_false (Int.not_lt.2 hhi), Bool.or_false, Bool.or_false]

/-- Rounding to nearest even (R200). -/
theorem roundShift_nearest (p : Int) {n : Nat} (r : Nat) (hn : 0 < n) : 2 * |roundShift p n 0 r * 2 ^ n - p| ≤ 2 ^ n ∧
    (2 * |roundShift p n 0 r * 2 ^ n - p| = 2 ^ n → roundShift p n 0 r % 2 = 0) := by
  obtain ⟨m, rfl⟩ : ∃ m, n = m + 1 := ⟨n - 1, by omega⟩
  have hdiv := Int.mul_ediv_add_emod p (2 ^ (m + 1))
  have hlt := Int.emod_lt_of_pos p (show (0 : Int) < 2 ^ (m + 1) by positivity)
  have hnn := Int.emod_nonneg p (show (2 : Int) ^ (m + 1) ≠ 0 by positivity)
  have hhalf : (2 : Int) ^ (m + 1) = 2 * 2 ^ m := by ring
  unfold roundShift
  simp only [shiftRight_eq_ediv, Nat.add_sub_cancel]
  rw [if_neg (by omega), if_neg (by decide)]
  generalize p / 2 ^ (m + 1) = q at hdiv ⊢
  generalize p % 2 ^ (m + 1) = e at hdiv hlt hnn ⊢
  rw [hhalf] at hdiv hlt ⊢
  generalize (2 : Int) ^ m = k at hdiv hlt ⊢
  split
  next h =>
    have hdiff : (q + 1) * (2 * k) - p = 2 * k - e := by linarith
    rw [hdiff, abs_of_nonneg (by omega)]
    omega
  next h =>
    have hdiff : q * (2 * k) - p = -e := by linarith
    rw [hdiff, abs_neg, abs_of_nonneg hnn]
    omega

/-- Stochastic rounding gives one of the two neighbours (R200). -/
theorem roundShift_neighbour (p : Int) {n r : Nat} (hn : 8 ≤ n) (hr : r < 256) :
    roundShift p n 1 r = p / 2 ^ n ∨ roundShift p n 1 r = p / 2 ^ n + 1 := by
  obtain ⟨m, rfl⟩ : ∃ m, n = m + 8 := ⟨n - 8, by omega⟩
  have hlt := Int.emod_lt_of_pos p (show (0 : Int) < 2 ^ (m + 8) by positivity)
  have hnn := Int.emod_nonneg p (show (2 : Int) ^ (m + 8) ≠ 0 by positivity)
  have hu : ((r <<< m : Nat) : Int) < 2 ^ (m + 8) := by
    rw [Nat.shiftLeft_eq, pow_add]
    push_cast
    nlinarith [show (0 : Int) < 2 ^ m by positivity, show (r : Int) < 256 by exact_mod_cast hr]
  have hpos : (0 : Int) < 2 ^ (m + 8) := by positivity
  unfold roundShift
  simp only [shiftRight_eq_ediv, Nat.add_sub_cancel]
  rw [if_neg (by omega), if_pos trivial, if_pos hn]
  have hlo : 0 ≤ (p % 2 ^ (m + 8) + ((r <<< m : Nat) : Int)) / 2 ^ (m + 8) := Int.ediv_nonneg (by positivity) hpos.le
  have hhi : (p % 2 ^ (m + 8) + ((r <<< m : Nat) : Int)) / 2 ^ (m + 8) < 2 := Int.ediv_lt_of_lt_mul hpos (by linarith)
  omega

/-! ### Requantisation of a group (R198, R199) -/

section
variable (p : ReqPar) (l : List ReqIn)

/-- The exponent found is the least that leaves no more outside than may be, or the last one tried. -/
theorem ReqPar.findE_spec (n e : Nat) : p.findE l n e ≤ e + n ∧ (∀ j, e ≤ j → j < p.findE l n e → p.allow < p.outside j l) ∧
    (p.findE l n e < e + n → p.outside (p.findE l n e) l ≤ p.allow) := by
  induction n generalizing e with
  | zero => exact ⟨le_rfl, fun j h1 h2 => absurd h2 (Nat.not_lt.2 h1), fun h => absurd h (Nat.lt_irrefl _)⟩
  | succ n ih =>
    unfold ReqPar.findE
    split
    next h =>
      obtain ⟨hle, hleast, hfits⟩ := ih (e + 1)
      refine ⟨by omega, fun j hj hlt => ?_, fun hlt => hfits (by omega)⟩
      by_cases hje : j = e
      · rw [hje]
        exact h
      · exact hleast j (by omega) hlt
    next h => exact ⟨by omega, fun j h1 h2 => absurd h2 (Nat.not_lt.2 h1), fun _ => Nat.not_lt.1 h⟩

/-- The saturations a group has counted. -/
def ReqOut.sats (a : ReqOut) : Nat := a.satAcc + a.satOut + a.satExp + a.satEsc

/-- One output adds one code and at most one saturation, and takes one of three escapes. -/
theorem ReqPar.step_rest (e : Nat) (xOver : Bool) (k : Nat) (a : ReqOut) (o : ReqIn) : (p.step e xOver k a o).e = a.e ∧
    (p.step e xOver k a o).codes.length = a.codes.length + 1 ∧
    (a.entries.length ≤ 3 → (p.step e xOver k a o).entries.length ≤ 3) ∧ (p.step e xOver k a o).sats ≤ a.sats + 1 := by
  unfold ReqPar.step
  dsimp only
  split
  next h =>
    simp only [Bool.and_eq_true, decide_eq_true_eq] at h
    obtain ⟨-, hroom⟩ := h
    split
    · exact ⟨rfl, by simp, fun _ => by simpa using hroom, by simp only [ReqOut.sats]; omega⟩
    · split
      · exact ⟨rfl, by simp, fun _ => by simpa using hroom, by simp only [ReqOut.sats]; omega⟩
      · exact ⟨rfl, by simp, fun _ => by simpa using hroom, by simp only [ReqOut.sats]; omega⟩
  next h =>
    split
    · exact ⟨rfl, by simp, id, by simp only [ReqOut.sats]; omega⟩
    · split
      · exact ⟨rfl, by simp, id, by simp only [ReqOut.sats]; omega⟩
      · split
        · exact ⟨rfl, by simp, id, by simp only [ReqOut.sats]; omega⟩
        · exact ⟨rfl, by simp, id, by simp only [ReqOut.sats]; omega⟩

theorem ReqPar.run_rest (e : Nat) (xOver : Bool) (k : Nat) (a : ReqOut) : (p.run e xOver k a l).e = a.e ∧
    (p.run e xOver k a l).codes.length = a.codes.length + l.length ∧
    (a.entries.length ≤ 3 → (p.run e xOver k a l).entries.length ≤ 3) ∧ (p.run e xOver k a l).sats ≤ a.sats + l.length := by
  induction l generalizing k a with
  | nil => exact ⟨rfl, rfl, id, le_rfl⟩
  | cons o r ih =>
    obtain ⟨he, hcodes, hentries, hsats⟩ := p.step_rest e xOver k a o
    obtain ⟨he', hcodes', hentries', hsats'⟩ := ih (k + 1) (p.step e xOver k a o)
    unfold ReqPar.run
    rw [List.length_cons]
    exact ⟨he'.trans he, by omega, fun h => hentries' (hentries h), by omega⟩

theorem ReqPar.requant_rest : (p.requant l).e = (if p.dyn then p.findE l 7 0 else 0) ∧ (p.requant l).codes.length = l.length ∧
    (p.requant l).entries.length ≤ 3 ∧ (p.requant l).sats ≤ l.length := by
  obtain ⟨he, hcodes, hentries, hsats⟩ := p.run_rest l (if p.dyn then p.findE l 7 0 else 0)
    (p.dyn && decide ((if p.dyn then p.findE l 7 0 else 0) = 7) && decide (p.allow < p.outside 7 l)) 0
    { e := if p.dyn then p.findE l 7 0 else 0 }
  exact ⟨he, hcodes.trans (Nat.zero_add _), hentries (Nat.zero_le _), hsats.trans (Nat.zero_add _).le⟩

theorem ReqPar.requant_spec : (p.requant l).codes.length = l.length ∧ (p.requant l).entries.length ≤ 3 ∧ (p.requant l).e ≤ 7 ∧
    (p.dyn = false → (p.requant l).e = 0) ∧ (∀ e, p.dyn = true → e < (p.requant l).e → p.allow < p.outside e l) ∧
    (p.dyn = true → (p.requant l).e < 7 → p.outside (p.requant l).e l ≤ p.allow) ∧ (p.requant l).sats ≤ l.length := by
  obtain ⟨he, hcodes, hentries, hsats⟩ := p.requant_rest l
  obtain ⟨hle, hleast, hfits⟩ := p.findE_spec l 7 0
  rw [he]
  cases hdyn : p.dyn with
  | false => exact ⟨hcodes, hentries, Nat.zero_le _, fun _ => rfl, fun _ h => absurd h (by decide), fun h => absurd h (by decide), hsats⟩
  | true =>
    exact ⟨hcodes, hentries, hle.trans (by decide), fun h => absurd h (by decide), fun e _ => hleast e (Nat.zero_le _),
      fun _ h => hfits (h.trans_le (by decide)), hsats⟩

end

/-! ### MACW (R195) -/

section
variable {s : State} {t : Fin 4096} {i : Nat}

/-- Nibbles of 8 or more among the group shifts of a block (log 59); Q16 has none. -/
def Tile.badShifts (x : Tile) (i : Nat) : Nat :=
  if x.ctx.fmt = 2 then 0 else ((List.range x.width).filter fun k => decide (8 ≤ elemRaw 4 k (if x.ctx.fmt = 2 then 0 else x.blockWord i x.width))).length

theorem State.reg_macw (s : State) (t i : Nat) : (s.macw t i).reg Reg.NUM_BAD_SHIFT =
    s.reg Reg.NUM_BAD_SHIFT + BitVec.ofNat 64 ((s.tile t).badShifts i) := State.reg_addCnt_self _ _ _

/-- What a tile holds after its block is loaded. -/
theorem State.tile_macw_goesOn (n : Nat) : let x := s.tile t.val
    let y := ((s.macw t.val i).goesOn t.val i n).tile t.val
    y.wblock = (x.withBlock i).wblock ∧ y.wshift = (x.withBlock i).wshift ∧ y.codebook = (x.withBlock i).codebook ∧
      y.book = (x.withBlock i).book ∧ y.acc = x.acc ∧ y.store = x.store ∧ y.regs = x.regs := by
  intro x y
  have hy : y = { (x.withBlock i).advance i with readyNs := 0 } := by rw [← State.tile_macw, ← State.tile_goesOn]
  simp [hy, Tile.withBlock]

theorem exec_macw (hat : s.atTile t.val 0x01 i) (hn : inNeeds (s.tile t.val) i = []) :
    exec (.macw t) s = .next ((s.macw t.val i).goesOn t.val i ((s.tile t.val).cost i)) := by
  have hop := State.miOp_of_atTile hat
  refine congrArg Host.Outcome.next (State.fireOp_of_fire hat ((State.fire_macw hop).trans (congrArg some (State.takeSources_of_none ?_ none))))
  rw [inNeeds_of_macw hop (s.tile t.val), hn]

theorem Tile.badShifts_of_scaled {x : Tile} (h : x.ctx.fmt ≠ 2) : x.badShifts i =
    ((List.range x.width).filter fun k => decide (8 ≤ elemRaw 4 k (x.blockWord i x.width))).length := by
  rw [Tile.badShifts, if_neg h, if_neg h]

/-! ### MAC (R164, R165, R192, R196) -/

/-- The flits of a vector with its side flit. -/
def Tile.macFlits (x : Tile) (i : Nat) : List Flit :=
  x.read (miAk i) (miSa i) ((if x.codebook then 2 else 1) + b2n (bit (miImm i) 9)) (miImm i) none 0

/-- The vector that a MAC without an IN source feeds. -/
def Tile.macVector (x : Tile) (i : Nat) : List Int × Nat × Nat := x.vector i (x.macFlits i)

/-- The tile with a vector added to its accumulators. -/
def Tile.accumulated (x : Tile) (v : List Int) (e : Nat) : Tile := { x with acc := x.addVec v e x.acc }

/-- The tile with a vector waiting at its west edge. -/
def Tile.fedWest (x : Tile) (v : List Int) (e : Nat) : Tile := { x with west := x.west ++ [(v, e)] }

/-- The state with a vector in the accumulators of a tile. -/
def State.accAt (s : State) (t i : Nat) : State :=
  (s.addCnt Reg.NUM_ESC_ORPHAN ((s.tile t).macVector i).2.2).updTile t fun q => q.accumulated ((s.tile t).macVector i).1 ((s.tile t).macVector i).2.1

/-- The state with a vector at the west edge of a tile. -/
def State.fedAt (s : State) (t i : Nat) : State :=
  (s.addCnt Reg.NUM_ESC_ORPHAN ((s.tile t).macVector i).2.2).updTile t fun q => q.fedWest ((s.tile t).macVector i).1 ((s.tile t).macVector i).2.1

theorem State.tile_accAt_self (s : State) (t i : Nat) :
    (s.accAt t i).tile t = (s.tile t).accumulated ((s.tile t).macVector i).1 ((s.tile t).macVector i).2.1 := State.tile_updTile_self _ _ _

theorem State.tilesBut_accAt (s : State) (t i : Nat) : tilesBut s (s.accAt t i) t := tilesBut_updTile _ _ _

theorem State.reg_accAt (s : State) (t i : Nat) : (s.accAt t i).reg Reg.NUM_ESC_ORPHAN =
    s.reg Reg.NUM_ESC_ORPHAN + BitVec.ofNat 64 ((s.tile t).macVector i).2.2 := State.reg_addCnt_self _ _ _

theorem State.tile_fedAt_self (s : State) (t i : Nat) :
    (s.fedAt t i).tile t = (s.tile t).fedWest ((s.tile t).macVector i).1 ((s.tile t).macVector i).2.1 := State.tile_updTile_self _ _ _

theorem State.tilesBut_fedAt (s : State) (t i : Nat) : tilesBut s (s.fedAt t i) t := tilesBut_updTile _ _ _

theorem State.feedVec_of_unfused (hn : inNeeds (s.tile t.val) i = []) (hf : (s.tile t.val).ctx.fused = false) :
    s.feedVec t.val i none = some (s.accAt t.val i) := by
  unfold State.feedVec
  dsimp only
  rw [hf, State.takeSources_of_none hn]
  rfl

/-- At the west column of an array that forwards nothing. -/
theorem State.feedVec_of_west (hn : inNeeds (s.tile t.val) i = []) (hf : (s.tile t.val).ctx.fused = true) (hcol : (s.tile t.val).ctx.fCol = 0)
    (heast : s.eastTile t.val = none) : s.feedVec t.val i none =
      some ((s.fedAt t.val i).runSet t.val) := by
  unfold State.feedVec
  dsimp only
  rw [hf, hcol, heast, State.takeSources_of_none hn]
  rfl

theorem Tile.length_accumulated (x : Tile) (v : List Int) (e : Nat) : (x.accumulated v e).acc.length = x.width := by
  simp [Tile.accumulated, Tile.addVec]

theorem Tile.getElem?_accumulated (x : Tile) (v : List Int) (e : Nat) {k : Nat} (hk : k < x.width) : (x.accumulated v e).acc[k]? =
    some (accAdd x.ctx.fmt ((x.acc[k]?).getD (0, false)) (dot v ((List.range v.length).map (x.weight k)) * 2 ^ (x.gShift k + e))) := by
  simp [Tile.accumulated, Tile.addVec, hk]

/-- An array runs no set while a row of its west column has no vector. -/
theorem State.runSet_of_missing {j : Nat} (hj : j < (s.array t.val).2.2.1)
    (hw : (s.tile (tileIx (s.array t.val).1 ((s.array t.val).2.1 + j))).west = []) : s.runSet t.val = s := by
  unfold State.runSet
  dsimp only
  refine if_neg fun hall => ?_
  have hmem : tileIx (s.array t.val).1 ((s.array t.val).2.1 + j) ∈
      (List.range (s.array t.val).2.2.1).map (fun j => tileIx (s.array t.val).1 ((s.array t.val).2.1 + j)) :=
    List.mem_map.2 ⟨j, List.mem_range.2 hj, rfl⟩
  have hj := List.all_eq_true.1 hall _ hmem
  rw [hw] at hj
  exact Bool.false_ne_true hj

theorem State.array_congr {u : State} (h : ∀ j, (u.tile j).plot = (s.tile j).plot ∧ (u.tile j).ctx = (s.tile j).ctx) (t : Nat) :
    u.array t = s.array t := by
  have hplot (j : Nat) : (u.tile j).plot = (s.tile j).plot := (h j).1
  have hctx (j : Nat) : (u.tile j).ctx = (s.tile j).ctx := (h j).2
  unfold State.array
  simp only [hplot, hctx]

theorem State.array_fedAt (s : State) (t i : Nat) : (s.fedAt t i).array t = s.array t :=
  State.array_congr (fun j => by
    by_cases h : j = t
    · rw [h, State.tile_fedAt_self]
      exact ⟨rfl, rfl⟩
    · rw [s.tilesBut_fedAt _ _ _ h]
      exact ⟨rfl, rfl⟩) t

/-- In the west column, a tile of another row is another tile. -/
theorem tileIx_west_ne {t x y : Nat} (hx : x = tileX t) (hy : y ≠ tileY t) : tileIx x y ≠ t := by
  unfold tileIx
  unfold tileX at hx
  unfold tileY at hy
  omega

section
variable (hat : s.atTile t.val 0x02 i) (hn : inNeeds (s.tile t.val) i = [])
include hat hn

theorem exec_tileMac_of_unfused (hf : (s.tile t.val).ctx.fused = false) : exec (.tileMac t) s =
    .next ((s.accAt t.val i).goesOn t.val i ((s.tile t.val).cost i)) :=
  congrArg Host.Outcome.next (State.fireOp_of_fire hat ((State.fire_mac (State.miOp_of_atTile hat)).trans (State.feedVec_of_unfused hn hf)))

theorem exec_tileMac_waits (hf : (s.tile t.val).ctx.fused = true) (hcol : (s.tile t.val).ctx.fCol = 0) (heast : s.eastTile t.val = none) {j : Nat}
    (hj : j < (s.array t.val).2.2.1) (hy : (s.array t.val).2.1 + j ≠ tileY t.val)
    (hw : (s.tile (tileIx (s.array t.val).1 ((s.array t.val).2.1 + j))).west = []) :
    exec (.tileMac t) s = .next ((s.fedAt t.val i).goesOn t.val i ((s.tile t.val).cost i)) := by
  have hx : (s.array t.val).1 = tileX t.val := by
    show tileX t.val - (s.tile t.val).ctx.fCol = _
    rw [hcol, Nat.sub_zero]
  have hset : (s.fedAt t.val i).runSet t.val = s.fedAt t.val i := by
    refine State.runSet_of_missing (j := j) (by rw [State.array_fedAt]; exact hj) ?_
    rw [State.array_fedAt, s.tilesBut_fedAt _ _ _ (tileIx_west_ne hx hy), hw]
  refine congrArg Host.Outcome.next (State.fireOp_of_fire hat ((State.fire_mac (State.miOp_of_atTile hat)).trans ?_))
  rw [State.feedVec_of_west hn hf hcol heast, hset]

end

end

/-! ### DRAIN (R198, R199) -/

section
variable {s : State} {t instr i : Nat}

/-- Consecutive register pairs take the flits of a list. -/
def Tile.setPairs (x : Tile) (base : Nat) (fs : List Flit) : Tile :=
  (List.range fs.length).foldl (fun x j => x.setPair (base + 2 * j) (fs[j]?.getD 0)) x

theorem State.writeDst_regs (h : miDk i = 0) (tag : Option Nat) (fs : List Flit) :
    s.writeDst t i tag false fs = s.updTile t fun x => x.setPairs (miDst i) fs := if_pos h

/-- Of at most 32 flits, the first stands in the first pair. -/
theorem Tile.pair_setPairs (x : Tile) (base : Nat) (f : Flit) {fs : List Flit} (hlen : fs.length < 32) :
    (x.setPairs base (f :: fs)).pair base = f := by
  unfold Tile.setPairs
  rw [List.length_cons, List.range_succ_eq_map, List.foldl_cons]
  refine List.foldlRecOn _ _ (motive := fun y : Tile => y.pair base = f) (Tile.pair_setPair_same _ _ rfl) fun y hy j hj => ?_
  obtain ⟨k, hk, rfl⟩ := List.mem_map.1 hj
  have hlt := List.mem_range.1 hk
  rw [Tile.pair_setPair_ne _ _ (by omega), hy]

theorem Tile.setPairs_rest (x : Tile) (base : Nat) (fs : List Flit) : (x.setPairs base fs).acc = x.acc ∧ (x.setPairs base fs).stat = x.stat :=
  ⟨foldl_keeps Tile.acc (fun y j => by rfl) _ _, foldl_keeps Tile.stat (fun y j => by rfl) _ _⟩

/-- The parameters of a DRAIN. -/
def State.drainPar (s : State) (t i : Nat) : ReqPar :=
  { fmt := miFunc i % 4, rnd := (s.plot ((s.tile t).plot.getD 0)).rnd (miFunc i)
    zp := if bit (miImm i) 8 then signedOf 8 (bits (miImm i) 7 0) else bits (miImm i) 7 0
    signed := bit (miImm i) 8, relu := bit (miImm i) 9, dyn := bit (miImm i) 11, esc := bit (miImm i) 12 }

/-- Word `k` of a DRAIN's table: at AG + k in the bank of the pass (log 54). -/
def State.drainWord (s : State) (t i k : Nat) : Nat :=
  let x := s.tile t
  let p := s.plot (x.plot.getD 0)
  (x.store.get ((x.addr (miSb i) + p.bank * calStride p.image (p.desc x.ctx) + k) % 2048)).toNat

/-- The outputs of an unfused tile as a DRAIN requantises them. -/
def State.drainIns (s : State) (t instr i : Nat) : List ReqIn :=
  let x := s.tile t
  (List.range x.width).map fun k =>
    { acc := (accRead x.ctx.fmt ((x.acc[k]?).getD (0, false))).1, sat := (accRead x.ctx.fmt ((x.acc[k]?).getD (0, false))).2
      m := signedOf 16 (bits (s.drainWord t i k) 15 0), s := min 55 (bits (s.drainWord t i k) 21 16)
      r := (s.plot (x.plot.getD 0)).srByte x.ctx t instr none (x.groups.get (x.ctx.instrKey instr)) k }

/-- The group that a DRAIN of an unfused tile writes. -/
def State.drainOut (s : State) (t instr i : Nat) : ReqOut := (s.drainPar t i).requant (s.drainIns t instr i)

/-- A DRAIN to registers of a group that fills whole flits writes its codes and clears the accumulators. -/
theorem State.drain_of_regs (hdk : miDk i = 0) (hn : inNeeds (s.tile t) i = []) (hf : (s.tile t).ctx.fused = false)
    (hside : bit (miImm i) 10 = false) (hwide : 128 ≤ (s.tile t).width * fmtBits (miFunc i % 4)) :
    ∃ u : State, s.drain t instr i none = some (u.writeDst t i none false (drainFlits (miFunc i % 4) (s.drainOut t instr i) false)) ∧
      tilesBut s u t ∧ (u.tile t).acc = [] ∧ (u.tile t).stat.satOut = (s.tile t).stat.satOut + (s.drainOut t instr i).satOut ∧
      (u.tile t).stat.satAcc = (s.tile t).stat.satAcc + (s.drainOut t instr i).satAcc := by
  have hdst (n : Nat) : s.dstReady t i n = true := by simp [State.dstReady, hdk]
  unfold State.drain
  dsimp only
  rw [hdst, hf, hside, State.takeSources_of_none hn]
  simp only [Bool.false_and, Bool.not_false, Bool.and_true, if_true, Bool.false_eq_true, if_false, if_neg (Nat.not_lt.2 hwide)]
  refine ⟨_, rfl, tilesBut_updTile _ _ _, ?_⟩
  rw [State.tile_updTile_self]
  exact ⟨rfl, rfl, rfl⟩

theorem Tile.width_mem (x : Tile) : 0 < x.width ∧ x.width ≤ 32 := by
  unfold Tile.width fmtLen
  split
  · decide
  · split <;> decide

/-- A group without a side flit: its codes, as many to a flit as it holds. -/
theorem drainFlits_plain (fmt : Nat) (o : ReqOut) (hpos : 0 < o.codes.length) (hlen : o.codes.length ≤ 32) :
    ∃ r, drainFlits fmt o false = packFlit (fmtBits fmt) (o.codes.take (128 / fmtBits fmt)) :: r ∧ r.length < 32 := by
  have hn : 1 ≤ 128 / fmtBits fmt := by
    unfold fmtBits
    split
    · decide
    · split <;> decide
  unfold drainFlits
  simp only [Bool.false_eq_true, if_false]
  generalize 128 / fmtBits fmt = n at hn ⊢
  have hlt : (o.codes.length + n - 1) / n < 33 := (Nat.div_lt_iff_lt_mul hn).2 (by omega)
  have hge : 1 ≤ (o.codes.length + n - 1) / n := (Nat.one_le_div_iff hn).2 (by omega)
  obtain ⟨m, hm⟩ : ∃ m, (o.codes.length + n - 1) / n = m + 1 := ⟨(o.codes.length + n - 1) / n - 1, by omega⟩
  refine ⟨(List.range m).map fun j => packFlit (fmtBits fmt) ((o.codes.drop ((j + 1) * n)).take n), ?_, by rw [List.length_map, List.length_range]; omega⟩
  rw [hm, List.range_succ_eq_map]
  simp [List.flatMap_map, ← List.map_eq_flatMap]

/-- What the write of a group leaves: its first flit in the destination, and all but registers and counters as it was. -/
theorem State.drained_rest {u : State} (hdk : miDk i = 0) (f : Flit) {fs : List Flit} (hlen : fs.length < 32) (n : Nat) :
    let v := (u.writeDst t i none false (f :: fs)).goesOn t i n
    tilesBut u v t ∧ (v.tile t).acc = (u.tile t).acc ∧ (v.tile t).stat = (u.tile t).stat ∧ (v.tile t).pair (miDst i) = f := by
  intro v
  have hv : v.tile t = { ((u.tile t).setPairs (miDst i) (f :: fs)).advance i with readyNs := 0 } := by
    rw [State.tile_goesOn, State.writeDst_regs hdk, State.tile_updTile_self]
  obtain ⟨hacc, hstat⟩ := (u.tile t).setPairs_rest (miDst i) (f :: fs)
  refine ⟨tilesBut.trans ?_ (tilesBut_goesOn _ _ _ _), ?_, ?_, ?_⟩
  · rw [State.writeDst_regs hdk]
    exact tilesBut_updTile _ _ _
  · rw [hv, ← hacc]
    simp only [Tile.advance_rest]
  · rw [hv, ← hstat]
    simp only [Tile.advance_rest]
  · rw [Tile.pair_of_regs (x := (u.tile t).setPairs (miDst i) (f :: fs)) (by rw [hv]; simp only [Tile.advance_rest]), Tile.pair_setPairs _ _ _ hlen]

theorem exec_drain {t : Fin 4096} {u : State} (hat : s.atTile t.val 0x03 i) {fs : List Flit}
    (hd : s.drain t.val (s.tile t.val).pc i none = some (u.writeDst t.val i none false fs)) :
    exec (.drain t) s = .next ((u.writeDst t.val i none false fs).goesOn t.val i ((s.tile t.val).cost i)) :=
  congrArg Host.Outcome.next (State.fireOp_of_fire hat ((State.fire_drain (State.miOp_of_atTile hat)).trans hd))

end

/-! ### O32 -/

/-- Settles O32: the three instructions, then the arithmetic of an addition, of a group and of the two roundings. -/
theorem multiplierAndRequantisation : Obligations.MultiplierAndRequantisation := by
  refine ⟨fun t s i hat hn => ?_, fun t s i hat hn => ?_, fun t s i hat hn hf hdk hside => ?_, fun fmt a x => accAdd_exact, fun par l => ?_,
    fun p n r hn => roundShift_nearest p r hn, fun p n r hn hr => roundShift_neighbour p hn hr⟩
  · intro x w
    obtain ⟨hwblock, hwshift, hcodebook, hbook, hacc, hstore, hregs⟩ := State.tile_macw_goesOn (s := s) (t := t) (i := i) (x.cost i)
    refine ⟨_, exec_macw hat hn, (s.tilesBut_macw _ _).trans (tilesBut_goesOn _ _ _ _), hwblock, fun hfmt => hwshift.trans (if_neg hfmt),
      hcodebook, fun hfunc => hbook.trans (if_pos hfunc), hacc, hstore, hregs, fun hfmt => ?_⟩
    rw [State.reg_goesOn _ t.isLt _ _ (by decide), State.reg_macw, Tile.badShifts_of_scaled hfmt]
    rfl
  · intro x fs v
    refine ⟨fun hf => ⟨_, exec_tileMac_of_unfused hat hn hf, (s.tilesBut_accAt _ _).trans (tilesBut_goesOn _ _ _ _), ?_⟩,
      fun hf hcol heast hmiss => ?_⟩
    · have hacc : (((s.accAt t.val i).goesOn t.val i (x.cost i)).tile t.val).acc = (x.accumulated v.1 v.2.1).acc := by
        rw [State.tile_goesOn, State.tile_accAt_self]
        simp only [Tile.advance_rest]
        rfl
      rw [hacc, State.reg_goesOn _ t.isLt _ _ (by decide), State.reg_accAt]
      exact ⟨x.length_accumulated _ _, fun k hk => x.getElem?_accumulated _ _ hk, rfl⟩
    · obtain ⟨j, hj, hy, hw⟩ := hmiss
      refine ⟨_, exec_tileMac_waits hat hn hf hcol heast hj hy hw, (s.tilesBut_fedAt _ _).trans (tilesBut_goesOn _ _ _ _), ?_⟩
      rw [State.tile_goesOn, State.tile_fedAt_self]
      simp only [Tile.advance_rest]
      rfl
  · intro x p fmt imm hwide par word ins o
    have hout : s.drainOut t.val x.pc i = o := rfl
    have hlen : o.codes.length = x.width := ((par.requant_rest ins).2.1).trans (by simp [ins])
    obtain ⟨hpos, h32⟩ : 0 < o.codes.length ∧ o.codes.length ≤ 32 := by rw [hlen]; exact x.width_mem
    obtain ⟨u, hd, hothers, hacc, hsatOut, hsatAcc⟩ := State.drain_of_regs (s := s) (t := t.val) (instr := x.pc) hdk hn hf hside hwide
    obtain ⟨r, hflits, hr⟩ := drainFlits_plain fmt o hpos h32
    rw [hout] at hd hsatOut hsatAcc
    rw [hflits] at hd
    obtain ⟨hothers', hacc', hstat', hpair'⟩ := State.drained_rest (u := u) (t := t.val) hdk (packFlit (fmtBits fmt) (o.codes.take (128 / fmtBits fmt)))
      hr (x.cost i)
    refine ⟨_, exec_drain hat hd, hothers.trans hothers', hacc'.trans hacc, hpair', ?_, ?_⟩
    · rw [hstat', hsatOut]
    · rw [hstat', hsatAcc]
  · exact par.requant_spec l

end Sys2Proof.Machine
end
